-- ==== Sys2Proof/Word.lean ====
section
/-! DEFINITION. The word types of the Mladon model: bytes, 32-bit packet words and 16-bit ring indices (R10, R46, Table 2.8), and finite maps
keyed by a number, kept as lists in rising key order. -/

namespace Sys2Proof

/-- One byte of memory. -/
abbrev Byte := BitVec 8
/-- One 32-bit word of a packet, a reply or a register (R10). -/
abbrev Word := BitVec 32
/-- A free-running ring index, counted modulo 65,536 (Table 2.8). -/
abbrev Index := BitVec 16
/-- A 48-bit address, or a byte offset, held as a number (R11). -/
abbrev Addr := Nat
/-- A finite map keyed by a number, in strictly rising key order. -/
abbrev NMap (α : Type) := List (Nat × α)

end Sys2Proof
end

