-- ==== Sys2Proof/Machine/Maps.lean ====
section
/-! DEFINITION. Helpers every other file uses: bit fields of numbers, little-endian bytes (R10), and the operations on number-keyed maps and
on plain lists. Structural recursion only, so that the kernel evaluates them. -/

namespace Sys2Proof

/-- Bits [hi:lo] of a number (Table 0.2). -/
def bits (x hi lo : Nat) : Nat := (x >>> lo) % 2 ^ (hi + 1 - lo)

/-- Bit [n] of a number. -/
def bit (x n : Nat) : Bool := x.testBit n

/-- The value of `m` at `k`, if there is one. -/
def NMap.get? {α : Type} : NMap α → Nat → Option α
  | [], _ => none
  | (k', v) :: r, k => if k' = k then some v else NMap.get? r k

/-- The value of `m` at `k`, or `d`. -/
def NMap.getD {α : Type} (m : NMap α) (k : Nat) (d : α) : α := (NMap.get? m k).getD d

/-- Whether `m` has an entry at `k`. -/
def NMap.has {α : Type} (m : NMap α) (k : Nat) : Bool := (NMap.get? m k).isSome

/-- `m` with `v` at `k`, in key order. -/
def NMap.put {α : Type} : NMap α → Nat → α → NMap α
  | [], k, v => [(k, v)]
  | (k', v') :: r, k, v =>
    if k < k' then (k, v) :: (k', v') :: r
    else if k = k' then (k, v) :: r
    else (k', v') :: NMap.put r k v

/-- `m` without its entry at `k`. -/
def NMap.del {α : Type} (m : NMap α) (k : Nat) : NMap α := m.filter (fun x => x.1 ≠ k)

/-- `m` with the entry at `k` changed by `f`; nothing where there is none. -/
def NMap.upd {α : Type} (m : NMap α) (k : Nat) (f : α → α) : NMap α :=
  match NMap.get? m k with
  | some v => NMap.put m k (f v)
  | none => m

/-- `n` little-endian bytes of `x` (R10). -/
def leBytes : Nat → Nat → List Byte
  | 0, _ => []
  | n + 1, x => BitVec.ofNat 8 x :: leBytes n (x / 256)

/-- The number that little-endian bytes spell (R10). -/
def leNat : List Byte → Nat
  | [] => 0
  | b :: bs => b.toNat + 256 * leNat bs

/-- The number that big-endian bytes spell. -/
def beNat (bs : List Byte) : Nat := leNat bs.reverse

/-- The little-endian bytes of a list of 32-bit words. -/
def wordBytes (ws : List Nat) : List Byte := ws.flatMap (leBytes 4)

/-- The 32-bit words of a byte string, `n` of them. -/
def bytesWords : Nat → List Byte → List Nat
  | 0, _ => []
  | n + 1, bs => leNat (bs.take 4) :: bytesWords n (bs.drop 4)

/-- Replace element `i` of a list; nothing where it is out of range. -/
def setAt {α : Type} : List α → Nat → α → List α
  | [], _, _ => []
  | _ :: r, 0, v => v :: r
  | x :: r, i + 1, v => x :: setAt r i v

/-- Change element `i` of a list. -/
def updAt {α : Type} : List α → Nat → (α → α) → List α
  | [], _, _ => []
  | x :: r, 0, f => f x :: r
  | x :: r, i + 1, f => x :: updAt r i f

/-- The set bits of a mask below `n`, in rising order. -/
def maskList (n m : Nat) : List Nat := (List.range n).filter (fun i => m.testBit i)

/-- The number of bits set in `m` below `n`. -/
def popcount (n m : Nat) : Nat := (maskList n m).length

/-- The mask with the listed bits set. -/
def listMask (l : List Nat) : Nat := l.foldl (fun a i => a ||| 1 <<< i) 0

/-- Keep the last `n` of a list. -/
def lastN {α : Type} (n : Nat) (l : List α) : List α := l.drop (l.length - n)

/-- Saturating addition at a limit. -/
def satAdd (limit a b : Nat) : Nat := min limit (a + b)

/-- Two byte ranges share a byte. -/
def overlap (a la b lb : Nat) : Bool := a < b + lb && b < a + la

/-- The two's complement value of the low `w` bits of `x`. -/
def sext (w x : Nat) : Int :=
  let y := x % 2 ^ w
  if y.testBit (w - 1) then (y : Int) - 2 ^ w else y

/-- The low `w` bits of an integer, two's complement. -/
def trunc (w : Nat) (x : Int) : Nat := (x % (2 ^ w : Int)).toNat

/-- First index of an element that satisfies `f`. -/
def firstIx {α : Type} (f : α → Bool) : List α → Option Nat
  | [] => none
  | x :: r => if f x then some 0 else (firstIx f r).map (· + 1)

/-- Divide rounding up. -/
def ceilDiv (a b : Nat) : Nat := (a + b - 1) / b

end Sys2Proof
end

