-- ==== Sys2Proof/Machine/State/Queue.lean ====
section
/-! DEFINITION. State of chapter 2: packets, bobbins, replies, orders, the out-of-band path. Plain data. -/

namespace Sys2Proof

/-- A command packet of 64 bytes as its 32-bit words, word 0 first (R46, Table 2.11). A list shorter than 16 stands for one
whose later words are 0. -/
structure Packet where
  ws : List Nat
  deriving DecidableEq, Repr

/-- The carriers of the out-of-band path: VE0 and VE1 together, one CAN XL port each, the service mailbox (R70). -/
inductive Carrier where
  | ve | cx (n : Nat) | mbox
  deriving DecidableEq, Repr

/-- Where a packet comes from: a bobbin by number, or the out-of-band path (R36, R69). -/
inductive Src where
  | bobbin (n : Nat)
  | oob (c : Carrier) (port : Nat)
  deriving DecidableEq, Repr

/-- Who makes a register access (R39, R74): an application core in machine or supervisor mode, one in user mode with the bobbin
pages its tenant may map, Distaff, the service host through BAR0, or anything else. -/
inductive Accessor where
  | supervisor | user (tenant : Nat) | distaff | serviceHost | other
  deriving DecidableEq, Repr

namespace Machine

/-- BOBBIN_STATE.STATE (Table 2.9a). -/
inductive BobbinMode where
  | unused | running | stopped | error
  deriving DecidableEq, Repr

/-- A status reply of Table 2.13, without PHASE, which the slot decides (R50). -/
structure Reply where
  opcode : Nat
  status : Nat
  event : Bool := false
  level : Nat := 0
  tag : Nat := 0
  ctx : Nat := 0
  reqTag : Nat := 0
  time : Nat := 0
  d0 : Nat := 0
  d1 : Nat := 0
  d2 : Nat := 0
  d3 : Nat := 0
  irq : Bool := false
  deriving DecidableEq, Repr

/-- How a packet stands for the CHAIN of the next one of its bobbin (R57): its id, its CHAIN flag and, once it has ended, its status. -/
structure ChainLink where
  id : Nat
  chain : Bool
  status : Option Nat
  deriving DecidableEq, Repr

/-- One bobbin (Tables 2.7 to 2.9c, 2.17). -/
structure Bobbin where
  mode : BobbinMode := .unused
  control : Bool := false
  tenant : Nat := 0
  flyer : Nat := 0
  sizeLog2 : Nat := 0
  fixed : Bool := false
  /-- Last accepted DOORBELL value (Table 2.10). -/
  tail : Index := 0
  cmdHead : Index := 0
  cplDoorbell : Index := 0
  cplTail : Index := 0
  evtLostBit : Bool := false
  overrun : Bool := false
  fetchFault : Bool := false
  cplFault : Bool := false
  rejected : Bool := false
  holdoff : Nat := 0
  irqCount : Nat := 1
  irqEnable : Bool := false
  evtLost : Nat := 0
  cmdBase : Addr := 0
  cplBase : Addr := 0
  irqVector : Nat := 0
  /-- Replies held while the completion ring is full, oldest first, at most 32 (R52). -/
  held : List Reply := []
  /-- Completion indices of the interrupt-flagged replies that are pending, oldest first (R41). -/
  irqPending : List Index := []
  /-- The last packet fetched. -/
  last : Option ChainLink := none
  /-- Node a peer bobbin belongs to (Table 2.1). -/
  node : Nat := 0
  /-- For each accepted DOORBELL value that still covers unfetched slots: the value, the next packet id and the number of
  packets ended when it landed (R56, R61). -/
  bells : List (Index × Nat × Nat) := []
  deriving DecidableEq, Repr

/-- A packet that ended while a posted packet was still unfetched: what an ABORT posted before may count as already complete (R56). -/
structure Ended where
  seq : Nat
  id : Nat
  src : Src
  pkt : Packet
  control : Bool
  deriving DecidableEq, Repr

/-- What an order to stop work ends its targets with (R62, R107, R108, R197, R204). -/
inductive StopWhy where
  | abort | reset | evicted (tag level cause place : Nat) | unravel
  deriving DecidableEq, Repr

/-- A stop order on its way to one owning flyer (R61): the packet that gave it, its targets there. -/
structure StopOrder where
  by_ : Nat
  flyer : Nat
  why : StopWhy
  targets : List Nat
  /-- Bobbin to stop, for a forwarded BOBBIN_STOP. -/
  bobbin : Option Nat := none
  deriving DecidableEq, Repr

/-- One carrier's counters (R70): highest counter accepted, next counter to send, and the reservations stored in the boot flash. -/
structure OobCarrier where
  accepted : Nat := 0
  next : Nat := 1
  acceptedReserve : Nat := 0
  sendReserve : Nat := 0
  dropped : Nat := 0
  deriving DecidableEq, Repr

/-- The out-of-band path and the service mailbox (Tables 2.20, 2.25). -/
structure Oob where
  ve : OobCarrier := {}
  cx : List OobCarrier := [{}, {}, {}, {}]
  mbox : OobCarrier := {}
  mboxTx : List Byte := List.replicate 88 0
  mboxSend : Bool := false
  mboxRx : List Byte := List.replicate 56 0
  mboxRxValid : Bool := false
  mboxDropped : Nat := 0
  /-- Frames that Distaff holds while it runs no image (R533), in order. -/
  heldFrames : List (Carrier × Nat × List Byte) := []
  deriving DecidableEq, Repr

/-- Chapter 2's state but for the packets outstanding, which carry every engine's work. -/
structure Queues where
  bobbins : NMap Bobbin := []
  nextId : Nat := 0
  endSeq : Nat := 0
  ended : List Ended := []
  stops : List StopOrder := []
  adminCmdBase : Nat := 0
  adminCplBase : Nat := 0
  adminVector : Nat := 0
  adminSizeLog2 : Nat := 0
  adminEnable : Bool := false
  serviceUp : Bool := false
  /-- PE_MODE strap open: the service port is an endpoint (R541). -/
  endpoint : Bool := true
  deriving DecidableEq, Repr

end Machine
end Sys2Proof
end

