-- ==== Sys2Proof/Machine/State/Tenants.lean ====
section
/-! DEFINITION. State of chapters 3, 5, 6 and 7: tenants, contexts, the hot set, reservations, cores, memory, banks, regions, drafts. -/

namespace Sys2Proof.Machine

/-- A tenant (Table 3.2). Quota in units of 256 MiB. -/
structure Tenant where
  fixedOk : Bool
  hotSlots : Nat
  ctxBase : Nat
  ctxCount : Nat
  quota : Nat
  deriving DecidableEq, Repr

/-- Contents a context left on one core, saved off it (R82, R96). -/
structure SavedCore where
  core : Nat
  /-- Ranges saved. -/
  ranges : List (Nat × Nat)
  cells : List (Nat × Byte)
  deriving DecidableEq, Repr

/-- A context (Table 3.3, R84). -/
structure Context where
  tenant : Nat
  fixed : Bool
  shadowMib : Nat
  reservation : Nat
  coreMask : Nat
  maxCores : Nat
  fenced : Bool := false
  resetting : Bool := false
  destroying : Bool := false
  opener : Nat := 0
  /-- Core-memory banks and their owner port: 0 weight, 1 activation, 2 vector 0, 3 vector 1, 4 DMA (R168). -/
  coreBanks : NMap Nat := []
  saved : List SavedCore := []
  /-- Key-value page budget (Table 7.2). -/
  pageBudget : Nat := 64
  deriving DecidableEq, Repr

/-- A section of a model image (Table 3.14). -/
structure Section where
  kind : Nat
  sched : Nat
  offset : Nat
  bytes : List Byte
  deriving DecidableEq, Repr

/-- A binding of a schedule as Niddy states it: number, bytes, direction, the port that reaches it (R157). -/
structure Binding where
  index : Nat
  size : Nat
  output : Bool
  port : Nat
  deriving DecidableEq, Repr

/-- What a model's sections state of one schedule (Table 3.14): cores needed, whether they must lie on one die, bindings, result-stream marks as
stream and output binding (R446), ESC_LIMIT (R156). -/
structure SchedInfo where
  need : Nat := 1
  oneDie : Bool := false
  bindings : List Binding := []
  marks : List (Nat × Nat) := []
  escLimit : Nat := 0
  deriving DecidableEq, Repr

/-- A model in a hot-set slot (R86, Table 2.24). -/
structure HotModel where
  tenant : Nat
  imageId : Nat
  pinned : Bool
  invalid : Bool := false
  resident : Nat
  cores : Nat
  schedules : Nat
  sections : List Section
  /-- What the sections state of each schedule. -/
  scheds : List SchedInfo := []
  /-- Device time of the last SCHEDULE_RUN start, else of the load's completion (R86). -/
  recency : Nat
  /-- TS32 of the last SCHEDULE_RUN start (Table 2.24); 0 before one. -/
  lastStart : Nat := 0
  /-- Tells a replaced copy from its successor (R90). -/
  gen : Nat := 0
  /-- Fixed-lane contexts that have run it (R89). -/
  fixedBy : List Nat := []
  /-- Stack that holds the copy (R176). -/
  stack : Nat := 0
  /-- Packets fetched before this id looked the slot up before the swap that brought the model in (R90). -/
  since : Nat := 0
  deriving DecidableEq, Repr

/-- A model object of the UFS store (R91): blocks present with their bytes. -/
structure ModelObject where
  tenant : Nat
  imageId : Nat
  bytes : Nat
  blocks : NMap (List Byte) := []
  isSealed : Bool := false
  deriving DecidableEq, Repr

/-- A fixed-lane reservation (Table 3.6). `draining` until LANE_RESERVE has completed (R101). -/
structure Reservation where
  tenant : Nat
  coreMask : Nat
  planShare : Nat
  systems : Nat
  loops : Nat
  powerMw : Nat
  hbmBw : Nat
  draining : Bool := false
  deriving DecidableEq, Repr

/-- One descriptor register of a scalar core (Table 5.10): the 64 bytes last loaded, and the fields written since, by number. The manual
gives no layout of the fields. -/
structure DescReg where
  raw : List Byte := List.replicate 64 0
  fields : List (Nat × Nat) := []
  deriving DecidableEq, Repr

/-- One queued engine operation of a core (Table 5.11): queue, token. -/
structure CoreOp where
  queue : Nat
  token : Nat
  deriving DecidableEq, Repr

/-- Counts of one queue (R153, Table 4.9): NaN, saturation, escalation. -/
structure QueueStat where
  nan : Nat := 0
  sat : Nat := 0
  esc : Nat := 0
  deriving DecidableEq, Repr

/-- A logical spindle core. -/
structure Core where
  fenced : Bool := false
  /-- Packet executing on the core. -/
  busy : Option Nat := none
  /-- Contexts whose contents lie on the core. -/
  holders : List Nat := []
  lastCtx : Option Nat := none
  /-- Hot-set slot and generation whose resident set lies on the core; invalid after a poisoned line (Table 6.14). -/
  resident : Option (Nat × Nat) := none
  /-- Tensioner groups: array g, vector v0 and v1, each 0 to 8 (R158). -/
  g : Nat := 0
  v0 : Nat := 0
  v1 : Nat := 0
  /-- Tick of the tensioner's last step (R159). -/
  lastStep : Nat := 0
  /-- Current of that step in mA; 0 before the first. -/
  lastMa : Nat := 0
  /-- Clock in MHz (R25, R427). -/
  mhz : Nat := 1400
  /-- Queued operations, oldest first. -/
  ops : List CoreOp := []
  nextToken : Nat := 0
  stats : List QueueStat := List.replicate 7 {}
  /-- Descriptor registers of scalar cores S0 to S3, (Table 5.10): key scalar core × 65,536 + register. -/
  desc : NMap DescReg := []
  /-- Token that t.issue last returned, and counts that t.stat last returned, by scalar core. -/
  tokens : NMap Nat := []
  counts : NMap QueueStat := []
  deriving DecidableEq, Repr

/-- A mapped HBM region (Table 6.8). Base in bytes. -/
structure Region where
  ctx : Nat
  tenant : Nat
  base : Addr
  granules : Nat
  wide : Bool
  read : Bool
  write : Bool
  deriving DecidableEq, Repr

/-- Owner of a die-shared or hub-SRAM bank: context and port (4 DMA, 5 hub, 6 shadow, else as core memory) (R168, Table 6.5). -/
structure BankOwner where
  ctx : Nat
  port : Nat
  deriving DecidableEq, Repr

/-- One HBM stack (R174, R176). -/
structure Stack where
  withdrawn : Bool := false
  /-- Remapped pseudo-channel, and whether its copy is still running. -/
  remapped : Option Nat := none
  copying : Bool := false
  deriving DecidableEq, Repr

/-- One die link: modules fenced, redundant lanes used per module (R180). -/
structure LinkModule where
  fenced : Bool := false
  lanesUsed : Nat := 0
  retries : Nat := 0
  deriving DecidableEq, Repr

/-- A run-time handover of a bank inside a schedule (R167): the packet, the bank, its port meanwhile. -/
structure Handover where
  pkt : Nat
  memory : Nat
  bank : Nat
  port : Nat
  deriving DecidableEq, Repr

/-- Chapter 6's state beside the bytes. -/
structure MemState where
  regions : List Region := []
  /-- Runs of 2 MiB granules being cleared: base, granules (R184). -/
  clearing : List (Nat × Nat) := []
  /-- Banks of die-shared SD0 (0), SD1 (1) and hub SRAM (2): key memory × 64 + bank. -/
  banks : NMap BankOwner := []
  handovers : List Handover := []
  hbmStacks : List Stack := [{}, {}, {}, {}]
  /-- Link modules: 0 to 5 SD0 to hub, 6 to 11 SD1 to hub, 12 to 19 SD0 to SD1. -/
  links : NMap LinkModule := []
  /-- Poisoned 16-byte words of SRAM and 64-byte lines of HBM, by the address they start at (R182, Table 6.14). -/
  poison : List Nat := []
  /-- Age stamps of stored results: base, bytes, capture time in ns of the oldest input (R21). -/
  stamps : List (Addr × Nat × Nat) := []
  /-- Tenant that last held a die-shared or hub bank, by the same key (R98). -/
  bankTenant : NMap Nat := []
  deriving DecidableEq, Repr

/-- States of Table 7.5, Free being absence. -/
inductive DraftState where
  | opened | tainted (reqTag : Nat) | twisting (pkt : Nat) | unravelling
  deriving DecidableEq, Repr

/-- An append a draft made: pool, sequence, layer, first token it appended and the length in tokens that the draft sees (R196). -/
structure DraftAppend where
  pool : Nat
  seq : Nat
  layer : Nat
  first : Nat
  fill : Nat
  deriving DecidableEq, Repr

/-- A page a draft copied or took new: pool, sequence, layer, page number, its frame, and whether it is a copy (R196). -/
structure DraftPage where
  pool : Nat
  seq : Nat
  layer : Nat
  page : Nat
  frame : Nat
  copy : Bool
  deriving DecidableEq, Repr

/-- What besides its result writes an operation does at its commit point (R63). -/
inductive After where
  /-- A result of a stream with its age stamp and payload for the age watch and pair comparison (R446, R454). -/
  | age (stream : Nat) (stamp : Option Nat) (payload : List Byte)
  /-- MODEL_LOAD's swap: slot, model, slot evicted (R90). -/
  | swap (slot : Nat) (m : HotModel) (evicted : Option Nat)
  /-- Operation counts of COUNTER_READ group 0 (Table 22.9). -/
  | ops (entry work escRows nan sat : Nat)
  /-- The plan set that packet `pkt` made for planner configuration `cfg` commits (R347); `pkt` none: the draft's shadow plan set. -/
  | plan (cfg : Nat) (pkt : Option Nat)
  /-- The map that packet `pkt` built is swapped in (R337). -/
  | mapSwap (cfg pkt : Nat)
  /-- What packet `pkt` found for solve system `sys` commits (R365). -/
  | solve (sys pkt : Nat)
  /-- Age stamp of a range that was written (R21). -/
  | stamp (base : Addr) (bytes : Nat) (stamp : Option Nat)
  /-- Words and lines poisoned at the destination (Table 6.13). -/
  | poison (units : List Nat)
  /-- Reading poisoned data of the context alone tears it down with cause data loss (Table 3.7). -/
  | dataLoss
  deriving DecidableEq, Repr

/-- A draft, an escalation draft (level 0) or a peer record (`node`) (R187, R136, R209). -/
structure Draft where
  ctx : Nat
  tag : Nat
  level : Nat
  parent : Nat := 0
  st : DraftState := .opened
  opener : Nat := 0
  order : Nat := 0
  /-- Shadow lines: line number and its 64 bytes (R193). -/
  lines : NMap (List Byte) := []
  appends : List DraftAppend := []
  pages : List DraftPage := []
  /-- Shadow plan sets held, by number 0 to 3 of the context's planner configuration. -/
  plans : List Nat := []
  /-- Peers that hold writes of the draft. -/
  peers : List Nat := []
  /-- Node whose draft this record stands for, and the context there that owns the draft (R209); `ctx` is the granting context here. -/
  node : Option Nat := none
  ownerCtx : Nat := 0
  frozen : Bool := false
  /-- The READY vote of a peer record, and its twist's owning module lost (Table 7.12). -/
  ready : Bool := false
  ownerLost : Bool := false
  /-- Packet whose escalation draft this is (R136). -/
  esc : Option Nat := none
  /-- Hand-offs that wait for the commit point of the draft (Table 7.13). -/
  deferred : List After := []
  deriving DecidableEq, Repr

/-- A twist between start and commit (Table 7.11): votes awaited of peers and of local participants. -/
structure Twist where
  pkt : Nat
  ctx : Nat
  tag : Nat
  started : Bool := false
  keep : Option Nat := none
  waitFor : List Nat := []
  /-- Participants still to vote: 0 to 15 core directories, 16 and 17 dies, 18 pages, 19 planner, 64 + n node n. -/
  votes : List Nat := []
  applying : List Nat := []
  committed : Bool := false
  startTime : Nat := 0
  commitTime : Nat := 0
  lost : Nat := 0
  lines : Nat := 0
  pages : Nat := 0
  deriving DecidableEq, Repr

structure Drafts where
  drafts : List Draft := []
  nextOrder : Nat := 0
  twists : List Twist := []
  /-- Committed lines still served from shadow: context and line number (R206, R207). -/
  writeback : List (Nat × Nat) := []
  deriving DecidableEq, Repr

/-- A core's chapter-3 waiting packet: id and tick it began to wait (R95). -/
structure CoreWait where
  pkt : Nat
  since : Nat
  /-- Cores that the packet may use and how many it needs; after 5 ms a free one of them is held for it (R95). -/
  want : List Nat
  need : Nat
  /-- Whether it has waited 5 ms. -/
  limit : Bool := false
  deriving DecidableEq, Repr

structure Domains where
  tenants : NMap Tenant := []
  contexts : NMap Context := []
  hot : NMap HotModel := []
  nextGen : Nat := 1
  objects : List ModelObject := []
  reservations : NMap Reservation := []
  cores : List Core := []
  waits : List CoreWait := []
  deriving DecidableEq, Repr

end Sys2Proof.Machine
end

