-- ==== Sys2Proof/Machine/State/Time.lean ====
section
/-! DEFINITION. State of chapters 12, 19 and 22: device time and timed actions, the safety island, debug, trace and counters. -/

namespace Sys2Proof.Machine

/-- A host network queue (Table 12.5): key of the map is port × 16 + direction × 8 + queue. -/
structure HostQueue where
  ctx : Nat
  ring : Addr
  sizeLog2 : Nat
  launch : Bool
  late : Nat
  tail : Index := 0
  head : Index := 0
  malformed : Nat := 0
  deriving DecidableEq, Repr

/-- An entry of a timestamp queue (Table 12.7). -/
structure TsEntry where
  kind : Nat
  id : Nat
  ts : Nat
  deriving DecidableEq, Repr

/-- A timestamp queue with its status (Tables 12.7, 12.8). -/
structure TsQueue where
  entries : List TsEntry := []
  overflow : Bool := false
  lost : Nat := 0
  deriving DecidableEq, Repr

/-- A trigger (Table 12.9): output 0 to 23 A-PHY, 24 to 39 PWM. `next` is the next occurrence's number. -/
structure Trigger where
  ctx : Nat
  first : Nat
  period : Nat
  width : Nat
  count : Nat
  next : Nat := 0
  /-- When it was set. -/
  since : Nat := 0
  deriving DecidableEq, Repr

/-- Per-output trigger counts, TRIG_STAT (Table 12.10). -/
structure TrigStat where
  skipped : Nat := 0
  fired : Nat := 0
  /-- Times of the triggers that fired or are scheduled, newest last, at most 8 (Table 12.4). -/
  times : List Nat := []
  deriving DecidableEq, Repr

/-- A captured edge (Table 12.11). -/
structure CapEntry where
  rising : Bool
  seq : Nat
  ts : Nat
  deriving DecidableEq, Repr

/-- One edge input (R307). -/
structure Capture where
  ctx : Option Nat := none
  edge : Nat := 0
  seq : Nat := 0
  entries : List CapEntry := []
  overflow : Bool := false
  lost : Nat := 0
  deriving DecidableEq, Repr

/-- The time unit. `ns` is S × 10^9 + N, `frac` the fraction in units of 2^−32 ns, `inc` the rounded increment per 4 ns tick in
the same units (R290). `tick` counts 4 ns ticks since reset and is the model's own clock for intervals. -/
structure TimeState where
  tick : Nat := 0
  ns : Nat := 0
  frac : Nat := 0
  inc : Nat := 4 * 2 ^ 32
  rho : Int := 0
  stepUsed : Bool := false
  spareOsc : Bool := false
  woke : Bool := false
  sLo : Word := 0
  sHi : Word := 0
  ts32 : Word := 0
  tsq : NMap TsQueue := []
  queues : NMap HostQueue := []
  triggers : NMap Trigger := []
  trigStat : NMap TrigStat := []
  captures : List Capture := [{}, {}, {}, {}]
  deriving DecidableEq, Repr

/-- A registered result stream (Table 19.7): maximum age in µs and the age stamp of its latest result in ns, if it has one. -/
structure AgeStream where
  maxAgeUs : Nat
  latest : Option Nat := none
  valid : Bool := false
  deriving DecidableEq, Repr

/-- One compare record sent or received (R454): age stamp in ns, digest or values, time it was made. -/
structure CompareRec where
  stamp : Nat
  values : List Nat
  deriving DecidableEq, Repr

/-- A stream's comparison (Table 19.12). -/
structure PairCompare where
  mode : Nat
  partner : Nat
  tolAbs : Nat
  tolRel : Nat
  matchUs : Nat
  divN : Nat
  count : Nat
  first : Nat
  disagree : Nat := 0
  diverged : Bool := false
  agreeRun : Nat := 0
  misses : Nat := 0
  /-- CRC-32C of this module's configuration. -/
  crc : Nat := 0
  /-- The partner's configuration check differs (Table 19.13). -/
  mismatch : Bool := false
  own : List CompareRec := []
  peer : List CompareRec := []
  deriving DecidableEq, Repr

/-- Distaff and the age watch. -/
structure SafetyState where
  /-- Causes in force, bit n as Table 19.2. -/
  causes : Nat := 1
  daFailed : Bool := false
  dbFailed : Bool := false
  /-- Machine-at-rest in force: device time at which it lapses. -/
  atRest : Option Nat := none
  wdEnable : Bool := false
  wdTimeout : Nat := 100
  /-- Timeout of the interval running (Table 19.5). -/
  wdRunning : Option Nat := none
  veEn : Bool := false
  cxEn : Bool := false
  cxPort : Nat := 0
  periodMs : Nat := 10
  statusCxId : Nat := 0
  /-- What the last status frame showed, by carrier VE and CX (R444). -/
  veShown : List Nat := []
  cxShown : List Nat := []
  /-- Period of the interval running, per carrier VE and CX (R444). -/
  vePeriod : Nat := 10
  cxPeriod : Nat := 10
  oobMask : Nat := 0
  oobReplyId : Nat := 0
  oobCxId : Nat := 0
  ages : NMap AgeStream := []
  expired : Nat := 0
  /-- Results counted as invalid, and as unregistered (Table 19.8). -/
  badResults : Nat := 0
  unregistered : Nat := 0
  divStream : Nat := 0xFFFF
  compares : NMap PairCompare := []
  /-- CRC-32C of the partner's configuration of a stream, as it sent it (Table 19.13). -/
  peerCrc : NMap Nat := []
  /-- Fixed-lane packets already counted as overrun (R447). -/
  overruns : List Nat := []
  deriving DecidableEq, Repr

/-- A record of Mladon's log (R32): what it says, the numbers it carries and the device time. -/
inductive LogKind where
  | fence | mode | splice | doorbellUnused | managementAccess | peerReplyDiscarded | serviceReply | oobDropped | mboxDropped
  | powerDown | powerUp | configDiverged | configCopy | poisonFound | invalidResult | pairMismatch | droop | phase | sensorFault
  | debugLevel | update | boot | wake | sleep | inputBand | holdup | overrun | hostWd | reason
  | thermal | remap | tension | driveRing | plyPort | laneRepair | nodeConflict | peerLost | voted
  | refused | keyErase | dropped | event
  deriving DecidableEq, Repr

structure LogRec where
  kind : LogKind
  a : Nat
  b : Nat
  c : Nat
  time : Nat
  deriving DecidableEq, Repr

/-- Debug levels (Table 22.1). -/
inductive DebugLevel where
  | locked | host | full
  deriving DecidableEq, Repr

/-- What TAP instruction is selected (R488). -/
inductive TapInstr where
  | idcode | bypass | sample | extest | intest | dbgNonce | dbgToken | transport
  deriving DecidableEq, Repr

structure DebugState where
  level : DebugLevel := .locked
  tap : TapInstr := .idcode
  haltedAc : Nat := 0
  haltedFl : Nat := 0
  /-- Breakpoints: key core × 4 + slot, flyers from core 16; the address. -/
  breaks : NMap Nat := []
  /-- Acknowledgements and orders queued at halted flyers, oldest first: a commit (packet) or a stop order (R493). -/
  queuedAcks : List (Nat × Option StopOrder) := []
  /-- Halts held while the update state is Activating, in order: core and whole-scope (Table 25.4). -/
  heldHalts : List (Nat × Bool) := []
  traceOn : Bool := false
  traceStop : Bool := false
  stopFull : Bool := false
  sizeMib : Nat := 1
  typeMask : Nat := 0
  tenants : Nat := 0
  ctxOnly : Option Nat := none
  traceBase : Addr := 0x001790000000
  traceHead : Nat := 0
  traceWraps : Nat := 0
  traceLost : Nat := 0
  /-- Counters (Table 22.9): key from `ctrKey`. -/
  counters : NMap Nat := []
  wakes : Nat := 0
  deriving DecidableEq, Repr

end Sys2Proof.Machine
end

