-- ==== Sys2Proof/Machine/State/Work.lean ====
section
/-! DEFINITION. State of chapter 8 (key-value pools), and the packets outstanding with the work each one is doing. -/

namespace Sys2Proof.Machine

/-- A page-table entry (Table 8.3) without SHARED, which REFCOUNT gives. -/
structure KvEntry where
  valid : Bool
  dropped : Bool := false
  pinned : Bool := false
  fill : Nat
  frame : Nat
  deriving DecidableEq, Repr

/-- An open sequence (R217): owner, the bobbin that opened it, its length per layer, its entries by layer × 256 + page. -/
structure KvSeq where
  owner : Nat
  opener : Nat
  lens : List Nat
  pages : NMap KvEntry := []
  deriving DecidableEq, Repr

/-- A frame in use: REFCOUNT and USE (Table 8.2). -/
structure KvFrame where
  ref : Nat
  use : Nat := 0
  deriving DecidableEq, Repr

/-- A bound pool (Table 8.1). The map of pools is keyed tenant × 16 + POOL. -/
structure KvPool where
  ctx : Nat
  regions : List Addr
  granules : Nat
  fmt : Nat
  heads : Nat
  dim : Nat
  maxSeq : Nat
  layers : Nat
  maxPages : Nat
  seqs : NMap KvSeq := []
  frames : NMap KvFrame := []
  /-- Regions lost with a withdrawn stack (Table 8.10). -/
  lostRegions : List Nat := []
  useCtr : Nat := 0
  active : Bool := false
  deriving DecidableEq, Repr

/-- A write of result bytes at an address, landing whole at the commit point (R60, R63). -/
structure ResWrite where
  addr : Addr
  bytes : List Byte
  deriving DecidableEq, Repr

/-- The work of an operation between start and commit point. -/
structure Work where
  writes : List ResWrite := []
  /-- Address ranges read and written while it runs (preconditions 15, 16). -/
  reads : List (Addr × Nat) := []
  cores : List Nat := []
  /-- Frames referenced: pool key and frame (R216, R232). -/
  frames : List (Nat × Nat) := []
  /-- Sequences read: pool key and sequence (R219). -/
  seqs : List (Nat × Nat) := []
  /-- Hot-set slot and generation whose copy it uses (R90). -/
  slot : Option (Nat × Nat) := none
  /-- Copy descriptors whose remote source rows are still arriving, with the remote bytes received so far (R178, R410). -/
  dma : List (List Nat) := []
  staged : List (Nat × Byte) := []
  /-- Vault slots whose key copies it holds (Table 23.4). -/
  keys : List Nat := []
  /-- Its remote writes have been sent. -/
  sent : Bool := false
  /-- Writes under an escalation draft (R136). -/
  esc : Bool := false
  /-- Age stamp of what it writes: the oldest of its inputs' stamps (R21). -/
  stamp : Option Nat := none
  status : Nat := 0
  details : List Nat := []
  after : List After := []
  deriving DecidableEq, Repr

/-- What a started packet that makes no result writes is waiting for. -/
inductive Wait where
  | quiesce
  /-- Items it touches are frozen by a twist, or a store is full of drafts in Twisting: it is tried again (R197, R206, Table 8.10). -/
  | retry
  | region
  | abort (aborted already : Nat) (reason : Nat)
  | reset (ctx : Nat)
  | stopBobbin (b : Nat)
  | twist
  | destroyCtx
  | lane (handle : Nat)
  | channel (ch : Nat)
  | streamRelease (stream : Nat)
  | join (ports : List Nat)
  | leave (now : Bool)
  | collective (coll : Nat)
  | revoke (node window : Nat)
  | budget
  | bist (unit : Nat)
  | activate
  /-- IMAGE_VERIFY past its signature check: the manifest, and the vault slots it uses. -/
  | verify (manifest : List Byte) (keys : List Nat)
  | loopStop (loop : Nat)
  deriving DecidableEq, Repr

/-- How far an outstanding packet has come. -/
inductive Job where
  /-- Fetched and held back by BARRIER or CHAIN (R57). -/
  | held
  /-- Checked, and waiting for cores to be free (R94, R155, R228). -/
  | cores
  | work (w : Work)
  | waits (w : Wait)
  deriving DecidableEq, Repr

/-- A packet fetched and not yet ended (Table 2.9a OUTSTANDING). -/
structure OutPkt where
  id : Nat
  src : Src
  pkt : Packet
  /-- Owning flyer (R38). -/
  flyer : Nat
  control : Bool
  job : Job
  /-- Next packet id and packets ended when its doorbell landed (R56). -/
  bell : Nat × Nat
  start : Nat
  /-- Command-ring index that PACKET_FETCH read it from. -/
  ix : Option Index := none
  /-- The packet before it on its bobbin and how that one stands (R57); none where PACKET_FETCH did not bring it. -/
  pred : Option ChainLink := none
  /-- Ranges that the operation will read and write, while it waits for cores. -/
  touches : List (Addr × Nat) := []
  deriving DecidableEq, Repr

end Sys2Proof.Machine
end

