-- ==== Sys2Proof/Machine/State/Ply.lean ====
section
/-! DEFINITION. State of chapter 17, the ply fabric, and the messages its frames carry. The manual gives the header of a frame (Table 17.2)
and what each type carries (Table 17.3), but no layout of the payloads of HELLO, LSR, CONTROL, SAFETY and COLLECTIVE, so a message is held
as the fields it carries. -/

namespace Sys2Proof.Machine

/-- One port in a link-state record: port, state up, neighbour's node and port (R393). -/
structure LsrPort where
  port : Nat
  up : Bool
  node : Nat
  nbrPort : Nat
  deriving DecidableEq, Repr

/-- A link-state record (R393). -/
structure Lsr where
  node : Nat
  serial : Nat
  seq : Nat
  leaving : Bool
  ports : List LsrPort
  deriving DecidableEq, Repr

/-- Identity of a draft across the fabric: the owning node, its context, tag and level. -/
structure DraftKey where
  node : Nat
  ctx : Nat
  tag : Nat
  level : Nat
  deriving DecidableEq, Repr

/-- What a collective carries for matching (R413, Table 17.10). -/
structure CollKey where
  tenant : Nat
  id : Nat
  kind : Nat
  op : Nat
  dtype : Nat
  root : Nat
  nodes : Nat
  count : Nat
  deriving DecidableEq, Repr

/-- A health record of a paired group (R327): its PAIR_KEY and window, masks of members missing and damaged over 25 %, per member the members it is
compared with and disagrees with, the voted-out mask, the CRC of header and member entries. -/
structure Health where
  key : Nat
  k : Nat
  missing : Nat
  bad : Nat
  compared : List Nat
  disagree : List Nat
  voted : Nat
  crc : Nat
  deriving DecidableEq, Repr

/-- What a ply frame carries (Table 17.3). -/
inductive PlyMsg where
  | idle
  | hello (node serial port epoch : Nat)
  | lsr (r : Lsr)
  | write (offset tag tenant ctx dtag dlevel : Nat) (data : List Byte)
  | readReq (offset tag tenant ctx bytes : Nat)
  | readRsp (tag : Nat) (data : List Byte)
  | writeAck (tag : Nat)
  /-- A drafted write that the peer could not take (R190). -/
  | writeRefused (tag : Nat)
  /-- A store to the control page (Table 17.8). -/
  | ctlStore (offset : Nat) (data : List Byte)
  | prepare (k : DraftKey) (keep : Option Nat)
  | vote (k : DraftKey) (ready : Bool)
  /-- COMMIT, with the parent's tag where the draft twists into a parent. -/
  | commit (k : DraftKey) (parent : Nat)
  | unravelDraft (k : DraftKey)
  /-- The TWIST was aborted: frozen items are released and the record stays (Table 7.12). -/
  | releaseDraft (k : DraftKey)
  | windowTable (seg : Nat) (granted : Bool) (tenant offset granules : Nat) (read write : Bool)
  /-- The peer has swapped in its copy of the window table (R409). -/
  | windowAck (seg : Nat) (granted : Bool)
  | health (r : Health)
  | compareCfg (stream crc : Nat)
  | compareRec (stream stamp : Nat) (values : List Nat)
  | report (floor want power : Nat)
  | grant (share : Nat)
  | machineBudget (mw : Nat)
  | budgetRequest (mw : Nat)
  | budgetDenied (floors : Nat)
  | overBudget (now : Bool)
  | coll (k : CollKey) (data : List Byte)
  | collAbort (tenant id node : Nat)
  | ethernet (data : List Byte)
  deriving DecidableEq, Repr

/-- The header of a received ply frame (Table 17.2). `crcOk` says whether HCRC matches, `formOk` whether START, VERSION, LEN64 and VC match (R391). -/
structure PlyHead where
  dst : Nat
  src : Nat
  hops : Nat
  seq : Nat
  ack : Nat
  credits : Nat
  crcOk : Bool
  formOk : Bool
  deriving DecidableEq, Repr

/-- A frame kept for re-sending (R390). -/
structure RetryFrame where
  seq : Nat
  dst : Nat
  msg : PlyMsg
  deriving DecidableEq, Repr

/-- PLY_PORT_STAT.STATE (Table 17.1). -/
inductive PlyPortMode where
  | down | training | up | fenced
  deriving DecidableEq, Repr

/-- One ply port (Table 17.1). -/
structure PlyPort where
  mode : PlyPortMode := .down
  /-- Its lanes have completed training; the link comes up after three HELLOs. -/
  trained : Bool := false
  spareIn : Bool := false
  nbrNode : Nat := 0
  nbrPort : Nat := 0
  /-- Consistent HELLOs received, and what the last one said: node, serial, port, epoch (R393). -/
  hellos : Nat := 0
  hello : Option (Nat × Nat × Nat × Nat) := none
  retries : Nat := 0
  txSeq : Nat := 0
  rxSeq : Nat := 0
  buffer : List RetryFrame := []
  /-- Credits per VC in units of 512 bytes. -/
  credits : List Nat := [0, 0, 0, 0]
  discarded : Nat := 0
  dropped : Nat := 0
  resent : Nat := 0
  deriving DecidableEq, Repr

/-- A destination of the routing table (R397). -/
structure Route where
  hops : Nat
  ports : List Nat
  deriving DecidableEq, Repr

/-- A window segment (Table 17.9), granted to `node` by this module, or by `node` to this module. -/
structure Segment where
  node : Nat
  seg : Nat
  ctx : Nat
  tenant : Nat
  offset : Nat
  base : Addr
  granules : Nat
  read : Bool
  write : Bool
  /-- Packet whose grant is not confirmed yet. -/
  pending : Option Nat := none
  deriving DecidableEq, Repr

/-- A collective on this node waiting for its matches (R413): contributions by node. -/
structure CollWait where
  pkt : Nat
  key : CollKey
  got : NMap (List Byte) := []
  keys : List (Nat × CollKey) := []
  deriving DecidableEq, Repr

/-- A remote read or write in flight: tag, its packet (none for an application core's load), the node, where read data go. -/
structure RemoteOp where
  tag : Nat
  pkt : Option Nat
  node : Nat
  isRead : Bool
  dst : Addr
  bytes : Nat
  deriving DecidableEq, Repr

/-- What a ply link refused or lost. -/
structure PlyState where
  ports : List PlyPort := List.replicate 6 {}
  db : NMap Lsr := []
  ownSeq : Nat := 0
  leaving : Bool := false
  table : NMap Route := []
  version : Nat := 0
  /-- PLY_JOIN in progress: packet, node ID, ports, past its training row (Table 17.6). -/
  joining : Option (Nat × Nat × List Nat) := none
  /-- Accepts frames for itself: the first table swap is done (R404). -/
  joined : Bool := false
  epoch : Nat := 0
  /-- Ports that take part (Table 17.5). -/
  named : List Nat := []
  /-- Revocations to confirm once this module's accesses to the segment have ended: node, segment, offset, bytes (R409). -/
  revoking : List (Nat × Nat × Nat × Nat) := []
  granted : List Segment := []
  held : List Segment := []
  nextTag : Nat := 0
  remote : List RemoteOp := []
  colls : List CollWait := []
  /-- Collective messages received before the local packet was fetched, by node. -/
  collEarly : List (Nat × CollKey × List Byte) := []
  /-- Load results that returned to application cores: address bytes read. -/
  loads : List (Nat × List Byte) := []
  discarded : Nat := 0
  deriving DecidableEq, Repr

end Sys2Proof.Machine
end

