-- ==== Sys2Proof/Machine/State/Device.lean ====
section
/-! DEFINITION. State of the device as a whole: fuses, roles and states of MGMT_MODE, outputs towards the surroundings. -/

namespace Sys2Proof.Machine

/-- What the module sends or does at a pin, in order. -/
inductive Out where
  /-- An interrupt of a vector (R41). -/
  | irq (vector : Nat)
  /-- A reply frame of the out-of-band path, on the port of arrival (Table 2.20). -/
  | oobReply (c : Carrier) (port : Nat) (bytes : List Byte)
  /-- A status frame on a carrier: status block, counter, tag (R444). -/
  | status (c : Carrier) (bytes : List Byte)
  /-- An Ethernet frame on a T1 or ply port (port code of R296), without FCS. -/
  | eth (port : Nat) (bytes : List Byte)
  /-- Command bytes on an SPI port (R276). -/
  | spi (port : Nat) (bytes : List Byte)
  /-- A CAN XL frame: port, identifier, bytes. -/
  | can (port id : Nat) (bytes : List Byte)
  /-- A CAN FD frame: WAKE_FAIL (R471). -/
  | canFd (port id : Nat) (bytes : List Byte)
  /-- A ply frame on a port towards a node (0x3F: link-local) (Table 17.3). -/
  | ply (port dst : Nat) (msg : PlyMsg)
  /-- A ply frame of another node that is passed on: port, source, destination, hops remaining (R397). -/
  | plyForward (port src dst hops : Nat) (msg : PlyMsg)
  deriving DecidableEq, Repr

/-- Fabric roles (Table 2.4). -/
inductive Role where
  | solo | member | coordinator
  deriving DecidableEq, Repr

/-- Power states as MGMT_MODE shows them, and Sleep with the stages between (R460). -/
inductive Power where
  | run | trim | doze
  deriving DecidableEq, Repr

/-- Update states (Table 2.4). -/
inductive UpdateState where
  | idle | staging | pending | activating
  deriving DecidableEq, Repr

structure Device where
  part : Nat := 0x4800
  stepping : Nat := 1
  /-- 0 A, 1 I, 2 E (Table 2.3). -/
  grade : Nat := 0
  serial : Nat := 0
  node : Nat := 0
  role : Role := .solo
  cfgDiv : Bool := false
  /-- CONFIG_DIVERGED to report to bobbin 0 once ADMIN_CFG.ENABLE is set: its DETAIL0 (R456). -/
  cfgDivReport : Option Nat := none
  update : UpdateState := .idle
  /-- Field-life counters (R558): hours run, hours asleep, module resets, wakes. -/
  hoursRun : Nat := 0
  /-- Ticks since the last full hour, running and asleep. -/
  runTicks : Nat := 0
  sleepTicks : Nat := 0
  hoursSleep : Nat := 0
  resets : Nat := 0
  wakes : Nat := 0
  /-- Flyers out of service, and the flyer whose role each spare took (Table 2.21, R491). -/
  flyersFenced : List Nat := []
  flyerRole : NMap Nat := []
  deriving DecidableEq, Repr

end Sys2Proof.Machine
end

