-- ==== Sys2Proof/Machine/State/Board.lean ====
section
/-! DEFINITION. State of chapters 20, 21, 23, 24 and 26: sleep and wake, splices, the vault, firmware update, the module's supplies. -/

namespace Sys2Proof.Machine

/-! ### Keys and boot (chapter 23) -/

/-- A key slot (Table 23.8). The key itself is held here and nothing reads it but the vault's own users (Table 23.4). `oneCell`: one of its
two cells has failed and no spare cell was left (R511). -/
structure KeySlot where
  gen : Nat := 0
  type : Nat := 0
  use : Nat := 0
  revoking : Bool := false
  key : List Byte := []
  oneCell : Bool := false
  deriving DecidableEq, Repr

/-- One boot-flash copy of a layer's image (R503). `factory`: as installed at manufacture. -/
structure BootCopy where
  present : Bool := true
  factory : Bool := true
  manifest : List Byte := []
  image : List Byte := []
  sv : Nat := 0
  imageId : Nat := 0
  deriving DecidableEq, Repr

/-- The two copies of a layer, and which is active. -/
structure BootLayer where
  copies : List BootCopy := [{}, {}]
  active : Nat := 0
  deriving DecidableEq, Repr

/-- A bank of the anti-rollback counter: blown steps, and steps lost when it was ended (R512). -/
structure FuseBank where
  blown : Nat := 0
  lost : Nat := 0
  deriving DecidableEq, Repr

structure Vault where
  slots : List KeySlot := List.replicate 32 {}
  spareCells : Nat := 8
  /-- The nonce last read, and when; spent or never read: none (R506). -/
  nonce : Option (Nat × Nat) := none
  /-- Result of the last DBG_TOKEN (R507). -/
  tokenResult : Nat := 0
  /-- Revoke fuses of the firmware keys. -/
  revoked : List Nat := []
  banks : List FuseBank := [{}, {}, {}, {}]
  layer1 : BootLayer := {}
  layer2 : BootLayer := {}
  deriving DecidableEq, Repr

/-! ### Update (chapter 24) -/

/-- A stored copy of the configuration record (R524, R528): its manifest and bytes; `good` once read back and checked; `installed`: as installed at
manufacture. -/
structure ConfigCopy where
  good : Bool := true
  installed : Bool := true
  seq : Nat := 1
  manifest : List Byte := []
  record : List Byte := []
  deriving DecidableEq, Repr

/-- Stages of an activation (R521, Table 24.8). -/
inductive ActStage where
  | drain | paused | held | imageRunning
  deriving DecidableEq, Repr

/-- An activation that pauses compute (R521, R526): its packet (none: scheduled), its kind and security version, its stage, the time its pause began. -/
structure Activation where
  pkt : Option Nat
  kind : Nat
  sv : Nat
  stage : ActStage := .drain
  pauseStart : Nat := 0
  deriving DecidableEq, Repr

/-- The update page and what it stands for (Tables 24.6, 24.7). The state itself is `Device.update`. -/
structure Update where
  kind : Nat := 0
  imageId : Nat := 0
  blocks : Nat := 0
  staged : NMap (List Byte) := []
  last : Nat := 0
  /-- Scheduled time in ns, and OR_LATER. -/
  sched : Option (Nat × Bool) := none
  manifest : List Byte := []
  sv : Nat := 0
  act : Option Activation := none
  configs : List ConfigCopy := [{}, {}, {}]
  /-- The factory record's entries. -/
  factory : List Byte := []
  deriving DecidableEq, Repr

/-! ### Sleep, wake and supplies (chapters 20 and 26) -/

/-- A wake or power-up under way: row of Table 20.9 awaited (1 to 5 the sources of Table 20.10, 6 clearing, 7 firmware), attempts made on
the row's source, whether the source pauses, which rail or PLL is missing, whether it is a module reset. -/
structure Waking where
  row : Nat := 1
  attempts : Nat := 1
  paused : Bool := false
  unit : Nat := 0
  reset : Bool := false
  deriving DecidableEq, Repr

/-- Where the module is between Off and running (R465, R469, R550, R551). -/
inductive Phase where
  | up
  /-- Sleep entry: rows of Table 20.7 done. -/
  | entering (stage : Nat)
  | asleep
  | waking (w : Waking)
  /-- Input lost; running on the hold-up store (Table 26.10). -/
  | lost
  | off
  /-- A hardware trip has removed all 64 rails (R435). -/
  | tripped
  /-- Recovery (R503). -/
  | recovery
  deriving DecidableEq, Repr

structure PowerUnit where
  phase : Phase := .up
  dozeEn : Bool := false
  idleUs : Nat := 0x64
  /-- Domains of Table 20.1 stopped in Doze. -/
  stopped : List Nat := []
  entry : Nat := 0
  refuse : Nat := 0
  lastWake : Nat := 8
  spareRef : Bool := false
  sparePhase : Bool := false
  sparePll : Bool := false
  retries : Nat := 0
  /-- WAKE_CFG as written (Table 20.5). -/
  wakeCfg : Word := 0x80000000
  wakeTimeN : Word := 0
  wakeTimeSLo : Word := 0
  wakeTimeSHi : Word := 0
  /-- Sources qualified during Sleep entry (Table 20.11). -/
  qualified : Nat := 0
  /-- Device time and tick at which Sleep was reached (R292). -/
  slept : Nat × Nat := (0, 0)
  /-- Tick at which the wake under way started (R468). -/
  wakeAt : Nat := 0
  /-- Sources of Table 20.10 that failed with their spares, tried first on their spares (Table 20.11). -/
  failed : List Nat := []
  /-- Sources of Table 20.10 whose spares are in use (R470). -/
  spares : List Nat := []
  /-- The next wake is a module reset: a power-up ended in WAKE_FAIL (R550). -/
  needReset : Bool := false
  /-- Sends of WAKE_FAIL still due, with its DETAIL0 and DETAIL1 (R471). -/
  failLeft : Nat := 0
  failWords : Nat × Nat := (0, 0)
  /-- The hold-up store holds 3.5 J, or 600 ms have passed (R549). -/
  holdupGate : Bool := false
  /-- VIN_48 between 32 V and 36 V (Table 26.8). -/
  lowBand : Bool := false
  discharge : Bool := false
  /-- Inlet temperature in tenths of a degree; none: failed sensor (R557). -/
  inlet : Option Int := some 250
  /-- IMU supplies on, and folded back (R555). -/
  imuOn : List Bool := List.replicate 4 false
  imuFolded : List Bool := List.replicate 4 false
  deriving DecidableEq, Repr

/-! ### Splices (chapter 21) -/

/-- A record of the splice log (Table 21.6). -/
structure SpliceRec where
  event : Nat
  cls : Nat
  from_ : Nat
  to_ : Nat := 0xFFFF
  logical : Nat := 0xFFFF
  trigger : Nat
  host : Nat := 0xFFFF
  pauseNs : Nat := 0
  durUs : Nat := 0
  sig : Nat := 0
  addr : Nat := 0
  seq : Nat := 0
  time : Nat := 0
  deriving DecidableEq, Repr

/-- A core splice under way (R478): the logical core, why, and whether the core taken out is then tested or retired. -/
structure CoreSplice where
  logical : Nat
  trigger : Nat
  immediate : Bool := false
  retire : Bool := false
  deriving DecidableEq, Repr

/-- A self-test running on a die's engine (0, 1 the dies, 2 the hub): unit, kind, the packet that asked, none for rotation. -/
structure Test where
  engine : Nat
  cls : Nat
  unit : Nat
  kind : Nat
  pkt : Option Nat
  /-- Retire the core whatever the result (Table 21.2). -/
  retire : Bool := false
  deriving DecidableEq, Repr

structure SpliceUnit where
  rotEn : Bool := true
  period : Nat := 8
  /-- Physical core of each logical core (R164). -/
  map : List Nat := [0, 1, 2, 3, 4, 5, 6, 7, 9, 10, 11, 12, 13, 14, 15, 16]
  /-- The die's spare core that has passed self-test. -/
  spare : List (Option Nat) := [some 8, some 17]
  retired : List Nat := []
  /-- Physical core last rotated on each die. -/
  lastRot : List Nat := [8, 17]
  splices : List CoreSplice := []
  tests : List Test := []
  /-- Spare columns in use by physical core (R473). -/
  cols : List Nat := List.replicate 18 0
  /-- Spare rows and banks in use, by the bank key of COUNTER_READ group 4 (Table 22.9). -/
  rows : NMap Nat := []
  banks : NMap Nat := []
  /-- Spare PLLs unused: SD0, SD1, hub. -/
  plls : List Nat := [1, 1, 2]
  /-- Units retired or fenced of Table 21.7's other classes: class × 65536 + unit. -/
  out : List Nat := []
  outRetired : List Nat := []
  log : List SpliceRec := []
  seq : Nat := 0
  /-- Highest clock of each application-core cluster in MHz (R475). -/
  acMhz : List Nat := [2800, 2800]
  deriving DecidableEq, Repr

end Sys2Proof.Machine
end

