-- ==== Sys2Proof/Machine/State/Tension.lean ====
section
/-! DEFINITION. State of chapter 18: hints, rails, the governor, the tension manager, thermal throttles. -/

namespace Sys2Proof.Machine

/-- Stages of a phase hint (Table 18.4). -/
inductive HintStage where
  | armed | opened | closed
  deriving DecidableEq, Repr

/-- A phase hint (Table 18.3): times in ns. -/
structure Hint where
  ctx : Nat
  cores : Nat
  powerMw : Nat
  durUs : Nat
  start : Nat
  stage : HintStage := .armed
  openAt : Nat := 0
  deriving DecidableEq, Repr

/-- A core rail, in Table 18.1 order. `factor` is the calibration factor, an FP32 word. -/
structure Rail where
  spareUsed : Bool := false
  derated : Nat := 0
  factor : Nat := 0x3F800000
  faulty : Bool := false
  droops : Nat := 0
  peakMa : Nat := 0
  phaseFaults : Nat := 0
  /-- Below −5 % and not yet back above −3 % (R421). -/
  stretched : Bool := false
  deriving DecidableEq, Repr

/-- A report of a node: floor, want, 1 ms power in mW (R429). -/
structure TensReport where
  floor : Nat
  want : Nat
  power : Nat
  deriving DecidableEq, Repr

structure TensionUnit where
  hints : List Hint := []
  rails : List Rail := List.replicate 64 {}
  /-- Share granted, want, machine budget, in mW. -/
  share : Nat := 480000
  want : Nat := 480000
  budget : Nat := 480000
  /-- Whether a machine budget has been learned since module reset (R433). -/
  learned : Bool := false
  overBudget : Bool := false
  /-- Peak reserve in µJ (1.2 J when full). -/
  reserve : Nat := 1200000
  /-- Compute draw of the last 1 ms, mW. -/
  draw : Nat := 0
  /-- Governor step taken, and how far steps 1 and 2 have gone: clocks of the application-core clusters and of the logical cores, MHz. -/
  gov : Nat := 0
  acMhz : List Nat := [2800, 2800]
  coreCap : List Nat := List.replicate 16 1400
  /-- Logical cores whose groups are capped at 4. -/
  groupCap : List Nat := []
  /-- Device time since which the 1 ms power has stayed at or below 95 % of the limit. -/
  calmSince : Option Nat := none
  /-- Throttled sensors: 0 to 15 logical cores, 16 hub, 17 to 20 stacks, 21 regulators; with the time since which each has been below its
  release temperature. -/
  throttled : NMap (Option Nat) := []
  /-- Sensors at or above a Safe-hold threshold that have not yet been below their release temperature since (Table 19.2, cause 5). -/
  hot : List Nat := []
  /-- Hottest readings in °C: cores, hub, HBM. -/
  hotCore : Int := 0
  hotHub : Int := 0
  hotHbm : Int := 0
  /-- HBM above 85 °C: the refresh rate is doubled. -/
  refresh2 : Bool := false
  /-- Clock caps of throttled cores and of throttled application-core clusters, MHz. -/
  thermCap : NMap Nat := []
  acThrottled : Bool := false
  sensorFault : Bool := false
  droops : Nat := 0
  /-- The manager: reports by node, grants in force, raised grants waiting, when lowered grants were sent, collecting. -/
  reports : NMap TensReport := []
  grants : NMap Nat := []
  raised : NMap Nat := []
  loweredAt : Nat := 0
  lowered : List Nat := []
  collecting : Bool := false
  deriving DecidableEq, Repr

end Sys2Proof.Machine
end

