-- ==== Sys2Proof/Machine/State/Sensors.lean ====
section
/-! DEFINITION. State of chapters 11 and 13: streams and their frames, coax and lamp channels, PWM outputs and strobes, fusion groups. -/

namespace Sys2Proof.Machine

/-- A CSI-2 packet of a virtual channel (R274). A long packet's `ok` says whether its header and CRC check after retransmission, `recovered`
whether A-PHY retransmission repaired it. -/
inductive CsiPacket where
  | frameStart | frameEnd | lineStart | lineEnd
  | long (dt : Nat) (bytes : List Byte) (ok recovered : Bool)
  deriving DecidableEq, Repr

/-- A frame, batch or sample that is landing (Table 11.3): its slot, arrival of its first packet, capture time so far, next line number. -/
structure OpenFrame where
  slot : Nat
  start : Nat
  capture : Nat
  /-- A sensor timestamp has been taken from the payload. -/
  stamped : Bool := false
  next : Nat := 0
  rx : Nat := 0
  damaged : List Nat := []
  recovered : Nat := 0
  bytes : Nat := 0
  truncated : Bool := false
  /-- Lines of embedded data. -/
  embedded : List Nat := []
  /-- Bytes of each packet of a batch. -/
  pkts : List Nat := []
  deriving DecidableEq, Repr

/-- A configured sensor stream (Table 11.1). -/
structure Stream where
  ctx : Nat
  opener : Nat
  kind : Nat
  port : Nat
  vc : Nat
  timeSrc : Nat
  dt : Nat
  lines : Nat
  timeOff : Nat
  land : Addr
  slots : Nat
  slotBytes : Nat
  lineBytes : Nat
  ether : Nat
  matchUdp : Bool
  vlan : Nat
  udp : Nat
  batchUs : Nat
  spiMode : Bool
  sclk : Nat
  cmd : List Byte
  readLen : Nat
  rateHz : Nat
  seq : Nat := 0
  nextSlot : Nat := 0
  frame : Option OpenFrame := none
  /-- The STREAM_CONFIG release that waits for the frame boundary. -/
  releasing : Option Nat := none
  untriggered : Nat := 0
  misses : Nat := 0
  deriving DecidableEq, Repr

/-- A frame handed to carding. -/
structure FrameRef where
  stream : Nat
  seq : Nat
  slot : Nat
  capture : Nat
  lines : Nat
  damaged : List Nat
  embedded : List Nat
  pkts : List Nat
  bytes : Nat
  deriving DecidableEq, Repr

/-- An inrush attempt of a channel (R282, R284): retries used, and whether it runs or waits for its retry. -/
structure Inrush where
  retries : Nat := 0
  paused : Bool := false
  /-- Start of the attempt. -/
  start : Nat := 0
  deriving DecidableEq, Repr

/-- A coax (0 to 23) or lamp (24 to 31) channel (R281). -/
structure Channel where
  on : Bool := false
  limitMa : Nat := 550
  inrush : Option Inrush := none
  fenced : Bool := false
  /-- Retries used by the last inrush, and its time in µs. -/
  used : Nat := 0
  us : Nat := 0
  deriving DecidableEq, Repr

/-- A PWM output (0 to 15) or lamp strobe (16 to 23) (Tables 11.10 to 11.13). `lo` and `hi` are the words of NEXT; `armed` the armed values
not yet loaded with the tick that armed each, newest last; `wait` holds a MODE 0b00 output at SAFE_LVL until its next reload after Safe-hold (R451). -/
structure Pwm where
  cfg : Word := 0
  lo : Word := 0
  hi : Word := 0
  armed : List (Nat × Nat) := []
  active : Nat := 0
  cur : Nat := 0
  loadSeq : Nat := 0
  wait : Bool := false
  deriving DecidableEq, Repr

/-- A ready member frame of a window, with the level-1 output of an image member: averaged components as FP32 words, damaged rows (R319). -/
structure MemberFrame where
  member : Nat
  frame : FrameRef
  skew : Nat
  image : Option (List Nat × List Bool) := none
  deriving DecidableEq, Repr

/-- An open window of a group (R314, R315). -/
structure Window where
  k : Nat
  frames : List MemberFrame := []
  complete : List Nat := []
  deriving DecidableEq, Repr

/-- What a released window keeps for its vote decision (R324): members missing, members with more than 25 % of their lines damaged, members with
fewer, check grids of derived members as cell codes, age stamp. -/
structure Past where
  k : Nat
  missing : List Nat
  bad : List Nat
  damaged : List Nat
  grids : NMap (List Nat)
  stamp : Option Nat
  /-- The health record has been sent. -/
  sent : Bool := false
  deriving DecidableEq, Repr

/-- A track (Table 13.9): the words of its entry. -/
structure Track where
  id : Nat
  cls : Nat
  x : Nat
  y : Nat
  vx : Nat
  vy : Nat
  yaw : Nat
  score : Nat
  len : Nat
  wid : Nat
  misses : Nat
  deriving DecidableEq, Repr

/-- A fusion group (Table 13.1): its copy of the record and of the calibration blocks, and how it stands. -/
structure Group where
  ctx : Nat
  opener : Nat
  record : List Byte
  calib : NMap (List Byte) := []
  started : Bool := false
  fenced : Bool := false
  n : Nat := 3
  m : Nat := 20
  thresh : Nat := 32
  minCells : Nat := 64
  /-- Lowest window not yet released. -/
  next : Nat := 0
  windows : List Window := []
  past : List Past := []
  voted : List Nat := []
  /-- Disagree and consistent counts by member. -/
  dis : NMap Nat := []
  con : NMap Nat := []
  /-- Capture time of the latest sample of a samples member. -/
  lastSample : NMap Nat := []
  outNext : Nat := 0
  /-- Output slots posted: slot, ring index of its packet. -/
  posted : List (Nat × Index) := []
  trackNext : Nat := 0
  trackPosted : List (Nat × Index) := []
  tracks : List Track := []
  /-- Partner's records waiting for their decisions, and whether the last decision ran without one. -/
  health : List Health := []
  unpaired : Bool := false
  mismatch : Bool := false
  overruns : Nat := 0
  misses : Nat := 0
  dropped : Nat := 0
  pairMisses : Nat := 0
  deriving DecidableEq, Repr

/-- The sensor ports, power outputs and carding. -/
structure Sensors where
  streams : NMap Stream := []
  /-- A-PHY links: gear, 0 down. -/
  gears : List Nat := List.replicate 24 0
  /-- T1 ports up: port codes 0 to 11 of R296. -/
  t1Up : List Bool := List.replicate 12 true
  t1Losses : List Nat := List.replicate 12 0
  /-- Packets of an A-PHY port that no stream names. -/
  unmatched : List Nat := List.replicate 24 0
  channels : List Channel := List.replicate 32 {}
  pwm : List Pwm := List.replicate 24 {}
  /-- PWM outputs and strobes are high-impedance: input lost, or Sleep. -/
  highZ : Bool := false
  groups : NMap Group := []
  deriving DecidableEq, Repr

end Sys2Proof.Machine
end

