-- ==== Sys2Proof/Syntax.lean ====
section
/-! DEFINITION. The commands of the module: one constructor for each row of spec/opcode_table.json. A packet row carries where its packet
comes from and its sixteen words; a register row the value written; an event row what the event brings from outside the block. -/

namespace Sys2Proof

open Machine

/-- The commands. -/
inductive Instr where
  -- 0x01, and the registers of chapters 1 and 2
  /-- REGISTER_WRITE (R13). -/
  | registerWrite (who : Accessor) (addr : Nat) (v : Word) (hi : Option Word)
  /-- ADMIN_CFG_ENABLE (R40). -/
  | adminCfgEnable (v : Word)
  /-- ADMIN_CFG_DISABLE (R40). -/
  | adminCfgDisable (v : Word)
  /-- DOORBELL_WRITE (R44). -/
  | doorbellWrite (n : Nat) (v : Word)
  /-- CPL_DOORBELL_WRITE (R52). -/
  | cplDoorbellWrite (n : Nat) (v : Word)
  /-- IRQ_HOLDOFF_EXPIRY (R41). -/
  | irqHoldoffExpiry (n : Nat)
  /-- PACKET_FETCH (R47). -/
  | packetFetch (bobbin : Nat)
  /-- PACKET_HOLD_END (R57). -/
  | packetHoldEnd (id : Nat)
  /-- COMMIT_POINT (R62). -/
  | commitPoint (id : Nat)
  /-- STOP_ORDER_ARRIVAL (R62). -/
  | stopOrderArrival (flyer : Nat)
  /-- NOP (R55). -/
  | nop (src : Src) (p : Packet)
  /-- BOBBIN_CREATE (R563). -/
  | bobbinCreate (src : Src) (p : Packet)
  /-- BOBBIN_DESTROY (R563). -/
  | bobbinDestroy (src : Src) (p : Packet)
  /-- BOBBIN_STOP (R563). -/
  | bobbinStop (src : Src) (p : Packet)
  /-- BOBBIN_RESUME (R45). -/
  | bobbinResume (src : Src) (p : Packet)
  /-- ABORT (R56). -/
  | abort (src : Src) (p : Packet)
  /-- QUIESCE (R55). -/
  | quiesce (src : Src) (p : Packet)
  /-- TENANT_CREATE (R79). -/
  | tenantCreate (src : Src) (p : Packet)
  /-- TENANT_DESTROY (R80). -/
  | tenantDestroy (src : Src) (p : Packet)
  /-- QUERY (R73). -/
  | query (src : Src) (p : Packet)
  -- 0x02
  /-- DMA_COPY (R178). -/
  | dmaCopy (src : Src) (p : Packet)
  /-- DMA_FILL (R179). -/
  | dmaFill (src : Src) (p : Packet)
  /-- BANK_ASSIGN (R169). -/
  | bankAssign (src : Src) (p : Packet)
  /-- REGION_MAP (R172). -/
  | regionMap (src : Src) (p : Packet)
  /-- REGION_UNMAP (R173). -/
  | regionUnmap (src : Src) (p : Packet)
  /-- KV_SCATTER_BIND (R213). -/
  | kvScatterBind (src : Src) (p : Packet)
  /-- KV_SCATTER_OPEN (R218). -/
  | kvScatterOpen (src : Src) (p : Packet)
  /-- KV_SCATTER_CLOSE (R219). -/
  | kvScatterClose (src : Src) (p : Packet)
  /-- KV_SCATTER_APPEND (R221). -/
  | kvScatterAppend (src : Src) (p : Packet)
  /-- PAGE_PIN (R227). -/
  | pagePin (src : Src) (p : Packet)
  -- 0x03, and cores
  /-- MATMUL (R141). -/
  | matmul (src : Src) (p : Packet)
  /-- CONV (R253). -/
  | conv (src : Src) (p : Packet)
  /-- ATTENTION (R229). -/
  | attention (src : Src) (p : Packet)
  /-- RECUR (R241). -/
  | recur (src : Src) (p : Packet)
  /-- VECTOR_OP (R150). -/
  | vectorOp (src : Src) (p : Packet)
  /-- SORT (R265). -/
  | sort (src : Src) (p : Packet)
  /-- SCHEDULE_RUN (R157). -/
  | scheduleRun (src : Src) (p : Packet)
  /-- CORE_PLACEMENT (R93). -/
  | corePlacement (id : Nat)
  /-- CORE_WAIT_LIMIT (R95). -/
  | coreWaitLimit (id : Nat)
  -- 0x04
  /-- DRAFT_OPEN (R200). -/
  | draftOpen (src : Src) (p : Packet)
  /-- TWIST (R201). -/
  | twist (src : Src) (p : Packet)
  /-- TWIST_START (R202). -/
  | twistStart (id : Nat)
  /-- TWIST_PREPARE (R205). -/
  | twistPrepare (id part : Nat)
  /-- TWIST_VOTE (R205). -/
  | twistVote (id part : Nat) (ready : Bool)
  /-- TWIST_COMMIT (R206). -/
  | twistCommit (id part : Nat)
  /-- TWIST_VOTE_TIMEOUT (R210). -/
  | twistVoteTimeout (id node : Nat)
  /-- TWIST_OWNER_LOST_TIMEOUT (R210). -/
  | twistOwnerLostTimeout (record : Nat) (commit : Bool) (parent : Nat)
  /-- UNRAVEL (R204). -/
  | unravel (src : Src) (p : Packet)
  /-- DRAFT_QUERY (R188). -/
  | draftQuery (src : Src) (p : Packet)
  /-- WRITEBACK_COMPLETE (R207). -/
  | writebackComplete (ctx line : Nat)
  -- 0x05
  /-- CONTEXT_CREATE (R81). -/
  | contextCreate (src : Src) (p : Packet)
  /-- CONTEXT_DESTROY (R85). -/
  | contextDestroy (src : Src) (p : Packet)
  /-- CONTEXT_RESET (R108). -/
  | contextReset (src : Src) (p : Packet)
  /-- MODEL_LOAD (R86). -/
  | modelLoad (src : Src) (p : Packet)
  /-- MODEL_PIN (R88). -/
  | modelPin (src : Src) (p : Packet)
  /-- MODEL_EVICT (R89). -/
  | modelEvict (src : Src) (p : Packet)
  /-- MODEL_STORE_OPEN (R91). -/
  | modelStoreOpen (src : Src) (p : Packet)
  /-- MODEL_STORE_WRITE (R91). -/
  | modelStoreWrite (src : Src) (p : Packet)
  /-- MODEL_STORE_SEAL (R91). -/
  | modelStoreSeal (src : Src) (p : Packet)
  /-- MODEL_STORE_DELETE (R91). -/
  | modelStoreDelete (src : Src) (p : Packet)
  /-- LANE_RESERVE (R101). -/
  | laneReserve (src : Src) (p : Packet)
  /-- LANE_RELEASE (R102). -/
  | laneRelease (src : Src) (p : Packet)
  -- scalar cores
  /-- TDESC_LD (R153). -/
  | tdescLd (core sc td addr : Nat)
  /-- TDESC_SET (R153). -/
  | tdescSet (core sc td field value : Nat)
  /-- T_ISSUE (R153). -/
  | tIssue (core sc q : Nat)
  /-- T_WAIT (R153). -/
  | tWait (core token : Nat)
  /-- T_WAITQ (R153). -/
  | tWaitq (core q : Nat)
  /-- T_STAT (R153). -/
  | tStat (core sc q : Nat)
  /-- SCALAR_TRAP (R151). -/
  | scalarTrap (core sc : Nat)
  /-- TENSIONER_STEP (R159). -/
  | tensionerStep (core engine : Nat)
  -- memory events
  /-- BANK_CONFLICT_WINDOW_END (R165). -/
  | bankConflictWindowEnd (c a port : Nat)
  /-- BANK_HANDOVER (R167). -/
  | bankHandover (pkt memory bank port : Nat)
  /-- PSEUDO_CHANNEL_FLAGGED (R174). -/
  | pseudoChannelFlagged (stack pc : Nat)
  /-- REMAP_COPY_END (R174). -/
  | remapCopyEnd (stack : Nat)
  /-- FLIT_CRC_FAIL (R180). -/
  | flitCrcFail (module : Nat)
  /-- DIE_LINK_RETRY_THRESHOLD (R180). -/
  | dieLinkRetryThreshold (module : Nat) (laneLeft : Bool)
  /-- PATROL_SCRUB (R182). -/
  | patrolScrub (addr : Nat) (bad trig : Bool) (slot flyer : Option Nat)
  /-- HBM_CLEAR_DONE (R184). -/
  | hbmClearDone
  -- out-of-band path, mailbox
  /-- MBOX_SEND (R74). -/
  | mboxSend
  /-- MBOX_RELEASE (R74). -/
  | mboxRelease
  /-- OOB_FRAME (R69). -/
  | oobFrame (c : Carrier) (port id : Nat) (bytes : List Byte)
  /-- FLYER_REPORT_TIMEOUT (R71). -/
  | flyerReportTimeout (flyer : Nat)
  /-- SERVICE_LINK_UP (R74). -/
  | serviceLinkUp
  /-- SERVICE_LINK_DOWN (R74). -/
  | serviceLinkDown
  -- 0x06, sensors and power outputs
  /-- STREAM_CONFIG_CONFIGURE (R272). -/
  | streamConfigConfigure (src : Src) (p : Packet)
  /-- STREAM_CONFIG_RELEASE (R272). -/
  | streamConfigRelease (src : Src) (p : Packet)
  /-- CSI2_PACKET (R274). -/
  | csi2Packet (port vc : Nat) (pkt : CsiPacket)
  /-- FRAME_CLOSE_TIMEOUT (R278). -/
  | frameCloseTimeout (stream : Nat)
  /-- RETRANSMISSION_TIMEOUT (R273). -/
  | retransmissionTimeout (port vc : Nat)
  /-- APHY_LINK_UP (R273). -/
  | aphyLinkUp (port gear : Nat)
  /-- APHY_LINK_DROP (R278). -/
  | aphyLinkDrop (port : Nat)
  /-- T1_FRAME (R275). -/
  | t1Frame (port : Nat) (frame : List Byte)
  /-- BATCH_CLOSE (R275). -/
  | batchClose (stream : Nat)
  /-- SPI_DATA_READY (R276). -/
  | spiDataReady (port : Nat) (sample : List Byte)
  /-- SPI_RATE_TICK (R276). -/
  | spiRateTick (port : Nat) (sample : List Byte)
  /-- SPI_DRDY_MISS (R276). -/
  | spiDrdyMiss (port : Nat)
  /-- CHANNEL_ENABLE_ON (R281). -/
  | channelEnableOn (src : Src) (p : Packet)
  /-- CHANNEL_ENABLE_OFF (R281). -/
  | channelEnableOff (src : Src) (p : Packet)
  /-- INRUSH_COMPLETE (R282). -/
  | inrushComplete (channel : Nat)
  /-- INRUSH_WINDOW_END (R284). -/
  | inrushWindowEnd (channel : Nat) (droop : Bool)
  /-- INRUSH_RETRY (R284). -/
  | inrushRetry (channel : Nat)
  /-- SHORT_TRIP (R283). -/
  | shortTrip (channel : Nat)
  /-- IMU_SUPPLY_LIMIT (R555). -/
  | imuSupplyLimit (port : Nat) (folded : Bool)
  /-- PW_NEXT_ARM (R287). -/
  | pwNextArm (who : Accessor) (n : Nat) (lo : Option Word) (hi : Word)
  /-- PWM_RELOAD (R288). -/
  | pwmReload (n : Nat)
  /-- PW_CFG_WRITE (R288). -/
  | pwCfgWrite (who : Accessor) (n : Nat) (v : Word)
  -- 0x08, device time
  /-- TIME_STEP_SET (R293). -/
  | timeStepSet (src : Src) (p : Packet)
  /-- TIME_STEP_ADD (R293). -/
  | timeStepAdd (src : Src) (p : Packet)
  /-- TIME_RATE (R294). -/
  | timeRate (src : Src) (p : Packet)
  /-- TIME_N_READ (R290). -/
  | timeNRead (who : Accessor)
  /-- LAUNCH_CONFIG_CONFIGURE (R303). -/
  | launchConfigConfigure (src : Src) (p : Packet)
  /-- LAUNCH_CONFIG_RELEASE (R303). -/
  | launchConfigRelease (src : Src) (p : Packet)
  /-- HOST_QUEUE_DOORBELL (R304). -/
  | hostQueueDoorbell (who : Accessor) (port dir queue : Nat) (v : Word)
  /-- LAUNCH_TIME (R304). -/
  | launchTime (port queue : Nat)
  /-- HOST_FRAME_RECEIVE (R275). -/
  | hostFrameReceive (port : Nat) (frame : List Byte)
  /-- TSQ_POP (R305). -/
  | tsqPop (who : Accessor) (port : Nat)
  /-- TRIGGER_SET (R306). -/
  | triggerSet (src : Src) (p : Packet)
  /-- TRIGGER_CANCEL (R306). -/
  | triggerCancel (src : Src) (p : Packet)
  /-- TRIGGER_OCCURRENCE (R306). -/
  | triggerOccurrence (output : Nat)
  /-- CAPTURE_ARM (R307). -/
  | captureArm (src : Src) (p : Packet)
  /-- CAPTURE_DISARM (R307). -/
  | captureDisarm (src : Src) (p : Packet)
  /-- EDGE_CAPTURE (R307). -/
  | edgeCapture (input : Nat) (rising : Bool)
  /-- CAP_POP (R307). -/
  | capPop (who : Accessor) (input : Nat)
  -- 0x06, carding
  /-- GROUP_CONFIG_CREATE (R312). -/
  | groupConfigCreate (src : Src) (p : Packet)
  /-- GROUP_CONFIG_RECONFIGURE (R312). -/
  | groupConfigReconfigure (src : Src) (p : Packet)
  /-- GROUP_CONFIG_DELETE (R312). -/
  | groupConfigDelete (src : Src) (p : Packet)
  /-- GROUP_START (R318). -/
  | groupStart (src : Src) (p : Packet)
  /-- GROUP_STOP (R318). -/
  | groupStop (src : Src) (p : Packet)
  /-- VOTE_CONFIG (R326). -/
  | voteConfig (src : Src) (p : Packet)
  /-- WINDOW_DEADLINE (R315). -/
  | windowDeadline (group : Nat)
  /-- SUPPLY_DEADLINE (R324). -/
  | supplyDeadline (group : Nat)
  /-- HEALTH_RECORD_DUE (R327). -/
  | healthRecordDue (group : Nat)
  -- 0x07, planner
  /-- PLAN_CONFIG_CREATE (R333). -/
  | planConfigCreate (src : Src) (p : Packet)
  /-- PLAN_CONFIG_RECONFIGURE (R333). -/
  | planConfigReconfigure (src : Src) (p : Packet)
  /-- PLAN_CONFIG_DELETE (R333). -/
  | planConfigDelete (src : Src) (p : Packet)
  /-- PLAN_CYCLE_PLAN (R341). -/
  | planCyclePlan (src : Src) (p : Packet)
  /-- PLAN_CYCLE_CHECK (R349). -/
  | planCycleCheck (src : Src) (p : Packet)
  /-- MAP_UPDATE_REPLACE (R337). -/
  | mapUpdateReplace (src : Src) (p : Packet)
  /-- MAP_UPDATE_PATCH (R337). -/
  | mapUpdatePatch (src : Src) (p : Packet)
  /-- PLANNER_SLICE_FAULT (R351). -/
  | plannerSliceFault (slice : Nat) (pkt : Option Nat)
  -- 0x07, solve engine
  /-- SOLVE_CONFIG_CREATE (R355). -/
  | solveConfigCreate (src : Src) (p : Packet)
  /-- SOLVE_CONFIG_RECONFIGURE (R355). -/
  | solveConfigReconfigure (src : Src) (p : Packet)
  /-- SOLVE_CONFIG_DELETE (R355). -/
  | solveConfigDelete (src : Src) (p : Packet)
  /-- SOLVE (R365). -/
  | solve (src : Src) (p : Packet)
  /-- SOLVE_PIPE_FAULT (R367). -/
  | solvePipeFault (pipe cause : Nat)
  -- 0x07, loops
  /-- LOOP_CONFIG_CREATE (R371). -/
  | loopConfigCreate (src : Src) (p : Packet)
  /-- LOOP_CONFIG_RECONFIGURE (R371). -/
  | loopConfigReconfigure (src : Src) (p : Packet)
  /-- LOOP_CONFIG_DELETE (R371). -/
  | loopConfigDelete (src : Src) (p : Packet)
  /-- LOOP_CONFIG_RING (R371). -/
  | loopConfigRing (src : Src) (p : Packet)
  /-- LOOP_START (R384). -/
  | loopStart (src : Src) (p : Packet)
  /-- LOOP_STOP_STOP (R385). -/
  | loopStopStop (src : Src) (p : Packet)
  /-- LOOP_STOP_HOLD (R385). -/
  | loopStopHold (src : Src) (p : Packet)
  /-- LOOP_TICK (R370). -/
  | loopTick
  /-- LOOP_FEEDBACK_FRAME (R377). -/
  | loopFeedbackFrame (can : Bool) (port id : Nat) (payload : List Byte)
  -- 0x09, ply fabric
  /-- PLY_LINK_TRAINED (R388). -/
  | plyLinkTrained (port : Nat)
  /-- PLY_LANE_ERROR (R389). -/
  | plyLaneError (port : Nat)
  /-- PLY_CRC_FAIL (R390). -/
  | plyCrcFail (port seq : Nat)
  /-- PLY_LINK_TIMEOUT (R390). -/
  | plyLinkTimeout (port : Nat)
  /-- PLY_IDLE_EMIT (R390). -/
  | plyIdleEmit (port : Nat)
  /-- IDLE (R390). -/
  | idle (port : Nat) (h : PlyHead)
  /-- HELLO (R393). -/
  | hello (port : Nat) (h : PlyHead) (node serial peer epoch : Nat)
  /-- LSR (R393). -/
  | lsr (port : Nat) (h : PlyHead) (r : Lsr)
  /-- LSR_REFRESH (R393). -/
  | lsrRefresh
  /-- LSR_EXPIRY (R393). -/
  | lsrExpiry (node : Nat)
  /-- ROUTING_TABLE_SWAP (R394). -/
  | routingTableSwap
  /-- WRITE (R410). -/
  | write (port : Nat) (h : PlyHead) (offset tag tenant ctx dtag dlevel : Nat) (data : List Byte)
  /-- READ_REQ (R410). -/
  | readReq (port : Nat) (h : PlyHead) (offset tag tenant ctx bytes : Nat)
  /-- READ_RSP (R410). -/
  | readRsp (port : Nat) (h : PlyHead) (tag : Nat) (data : List Byte)
  /-- WRITE_ACK (R410). -/
  | writeAck (port : Nat) (h : PlyHead) (tag : Nat)
  /-- CONTROL (R408). -/
  | control (port : Nat) (h : PlyHead) (m : PlyMsg)
  /-- SAFETY (R327). -/
  | safety (port : Nat) (h : PlyHead) (m : PlyMsg)
  /-- COLLECTIVE_FRAME (R414). -/
  | collectiveFrame (port : Nat) (h : PlyHead) (k : CollKey) (data : List Byte)
  /-- ETHERNET (R416). -/
  | ethernet (port : Nat) (h : PlyHead) (data : List Byte)
  /-- PLY_JOIN (R404). -/
  | plyJoin (src : Src) (p : Packet)
  /-- JOIN_TRAINING_TIMEOUT (R404). -/
  | joinTrainingTimeout
  /-- JOIN_DATABASE_SETTLED (R404). -/
  | joinDatabaseSettled
  /-- PLY_LEAVE_GRACEFUL (R405). -/
  | plyLeaveGraceful (src : Src) (p : Packet)
  /-- PLY_LEAVE_NOW (R405). -/
  | plyLeaveNow (src : Src) (p : Packet)
  /-- LEAVE_DRAIN_END (R405). -/
  | leaveDrainEnd
  /-- COLLECTIVE (R413). -/
  | collective (src : Src) (p : Packet)
  /-- COLLECTIVE_MATCH (R413). -/
  | collectiveMatch (id : Nat)
  /-- REMOTE_WINDOW_GRANT (R409). -/
  | remoteWindowGrant (src : Src) (p : Packet)
  /-- REMOTE_WINDOW_REVOKE (R409). -/
  | remoteWindowRevoke (src : Src) (p : Packet)
  /-- REMOTE_ACCESS (R408). -/
  | remoteAccess (who : Accessor) (addr : Nat) (data : Option (List Byte)) (bytes : Nat)
  -- 0x0A, tension
  /-- PHASE_HINT (R422). -/
  | phaseHint (src : Src) (p : Packet)
  /-- PHASE_HINT_CLEAR (R422). -/
  | phaseHintClear (src : Src) (p : Packet)
  /-- HINT_WINDOW_OPEN (R422). -/
  | hintWindowOpen (ctx : Nat)
  /-- HINT_WINDOW_CLOSE (R422). -/
  | hintWindowClose (ctx : Nat)
  /-- HINT_RAILS_DISARM (R422). -/
  | hintRailsDisarm (ctx : Nat)
  /-- BUDGET_REQUEST_WANT (R433). -/
  | budgetRequestWant (src : Src) (p : Packet)
  /-- BUDGET_REQUEST_BUDGET (R433). -/
  | budgetRequestBudget (src : Src) (p : Packet)
  /-- POWER_QUERY (R424). -/
  | powerQuery (src : Src) (p : Packet)
  /-- GOVERNOR_DECISION (R426). -/
  | governorDecision (est : Nat) (cores : List Nat)
  /-- POWER_CALIBRATION (R424). -/
  | powerCalibration (draw : Nat) (energy : List (Nat × Nat)) (bad : List Nat)
  /-- DROOP_DETECT (R421). -/
  | droopDetect (rail : Nat) (recovered : Bool)
  /-- REGULATOR_PHASE_FAULT (R418). -/
  | regulatorPhaseFault (rail : Nat) (carries : Bool)
  /-- TENSION_REPORT_DUE (R429). -/
  | tensionReportDue
  /-- TENSION_REPORT (R430). -/
  | tensionReport (node floor want power : Nat)
  /-- GRANT_RECEIVED (R431). -/
  | grantReceived (mw : Nat)
  /-- RAISED_GRANT_TIMEOUT (R431). -/
  | raisedGrantTimeout
  /-- COORDINATOR_COLLECT_END (R430). -/
  | coordinatorCollectEnd
  /-- THERMAL_SAMPLE (R434). -/
  | thermalSample (temps : List Int)
  /-- THERMAL_TRIP (R435). -/
  | thermalTrip
  -- 0x0B, safety
  /-- AGE_REGISTER (R445). -/
  | ageRegister (src : Src) (p : Packet)
  /-- AGE_DEREGISTER (R445). -/
  | ageDeregister (src : Src) (p : Packet)
  /-- AGE_CHECK (R446). -/
  | ageCheck
  /-- DEADLINE_OVERRUN (R447). -/
  | deadlineOverrun (id : Nat)
  /-- OVERRUN_CLEAR (R441). -/
  | overrunClear
  /-- DISTAFF_FAULT (R442). -/
  | distaffFault (pair : Nat)
  /-- STATUS_FRAME_PERIODIC (R444). -/
  | statusFramePeriodic (carrier : Carrier)
  /-- STATUS_FRAME_CHANGE (R444). -/
  | statusFrameChange (carrier : Carrier)
  /-- STATUS_CFG_WRITE (R444). -/
  | statusCfgWrite (who : Accessor) (v : Word)
  /-- HOST_WD_ENABLE (R441). -/
  | hostWdEnable (who : Accessor) (v : Word)
  /-- HOST_WD_KICK (R441). -/
  | hostWdKick (who : Accessor) (v : Word)
  /-- HOST_WD_EXPIRY (R441). -/
  | hostWdExpiry
  /-- SAFE_STATE_REQUEST_ENTER (R449). -/
  | safeStateRequestEnter (src : Src) (p : Packet)
  /-- SAFE_STATE_REQUEST_RELEASE (R451). -/
  | safeStateRequestRelease (src : Src) (p : Packet)
  /-- AT_REST_ASSERT (R450). -/
  | atRestAssert (src : Src) (p : Packet)
  /-- AT_REST_WITHDRAW (R450). -/
  | atRestWithdraw (src : Src) (p : Packet)
  /-- AT_REST_TIMEOUT (R450). -/
  | atRestTimeout
  /-- PAIR_COMPARE_CONFIGURE (R454). -/
  | pairCompareConfigure (src : Src) (p : Packet)
  /-- PAIR_COMPARE_REMOVE (R454). -/
  | pairCompareRemove (src : Src) (p : Packet)
  /-- PAIR_COMPARE_RECORD (R455). -/
  | pairCompareRecord (node stream stamp : Nat) (values : List Nat)
  /-- PAIR_MATCH_TIMEOUT (R454). -/
  | pairMatchTimeout (stream : Nat)
  -- sleep
  /-- ENTER_SLEEP (R464). -/
  | enterSleep (who : Accessor) (v : Word)
  /-- SLEEP_ENTRY_STAGE (R465). -/
  | sleepEntryStage
  /-- DOZE_EN_WRITE (R461). -/
  | dozeEnWrite (who : Accessor) (v : Word)
  /-- DOZE_IDLE_EXPIRY (R461). -/
  | dozeIdleExpiry (domain : Nat)
  /-- WAKE_IN (R468). -/
  | wakeIn
  /-- WAKE_FRAME (R468). -/
  | wakeFrame (port id : Nat)
  /-- WAKE_TIMER (R468). -/
  | wakeTimer
  /-- WAKE_READY (R469). -/
  | wakeReady
  /-- WAKE_READY_TIMEOUT (R470). -/
  | wakeReadyTimeout (unit : Nat) (island : Bool)
  /-- WAKE_RETRY_PAUSE_END (R470). -/
  | wakeRetryPauseEnd
  /-- WAKE_FAIL_REPEAT (R471). -/
  | wakeFailRepeat
  -- splices
  /-- PATH_DELAY_CHECK (R475). -/
  | pathDelayCheck (cls unit slack : Nat)
  /-- RING_OSC_CHECK (R475). -/
  | ringOscCheck (cls unit drop : Nat)
  /-- CORE_SPLICE (R478). -/
  | coreSplice (core : Nat)
  /-- CLOCK_FAILURE (R479). -/
  | clockFailure (what : Nat)
  /-- ROTATION_SELECT (R480). -/
  | rotationSelect (die : Nat)
  /-- BIST_RUN (R482). -/
  | bistRun (src : Src) (p : Packet)
  /-- SELF_TEST_DONE (R483). -/
  | selfTestDone (engine us : Nat) (pass : Bool) (sig failAddr : Nat) (cols : List Nat)
  -- 0x0C, debug
  /-- TRACE_CONFIG (R495). -/
  | traceConfig (src : Src) (p : Packet)
  /-- COUNTER_READ (R497). -/
  | counterRead (src : Src) (p : Packet)
  /-- BREAK_SET_SET (R492). -/
  | breakSetSet (src : Src) (p : Packet)
  /-- BREAK_SET_CLEAR (R492). -/
  | breakSetClear (src : Src) (p : Packet)
  /-- BREAK_SET_RESUME (R492). -/
  | breakSetResume (src : Src) (p : Packet)
  /-- BREAK_SET_HALT_NOW (R493). -/
  | breakSetHaltNow (src : Src) (p : Packet)
  /-- BREAKPOINT_HIT (R493). -/
  | breakpointHit (core slot : Nat)
  /-- DEBUG_TRANSPORT_ACCESS (R489). -/
  | debugTransportAccess (core op addr : Nat) (data : List Byte)
  /-- IDCODE (R488). -/
  | idcode
  /-- BYPASS (R488). -/
  | bypass
  /-- SAMPLE_PRELOAD (R488). -/
  | samplePreload
  /-- EXTEST (R490). -/
  | extest
  /-- INTEST (R490). -/
  | intest
  /-- DBG_NONCE (R507). -/
  | dbgNonce
  /-- DBG_TOKEN (R507). -/
  | dbgToken (token : List Byte)
  /-- DEBUG_NONCE_READ (R506). -/
  | debugNonceRead (who : Accessor)
  /-- DEBUG_UNLOCK (R507). -/
  | debugUnlock (src : Src) (p : Packet)
  -- 0x0D, keys
  /-- KEY_WRITE (R509). -/
  | keyWrite (src : Src) (p : Packet)
  /-- KEY_ERASE (R510). -/
  | keyErase (src : Src) (p : Packet)
  /-- KEY_CELL_FAIL (R511). -/
  | keyCellFail (slot : Nat) (both : Bool)
  /-- ATTEST (R513). -/
  | attest (src : Src) (p : Packet)
  -- update
  /-- IMAGE_BLOCK (R517). -/
  | imageBlock (src : Src) (p : Packet)
  /-- IMAGE_VERIFY (R519). -/
  | imageVerify (src : Src) (p : Packet)
  /-- ACTIVATE (R520). -/
  | activate (src : Src) (p : Packet)
  /-- ACTIVATE_AT_SCHEDULE (R525). -/
  | activateAtSchedule (src : Src) (p : Packet)
  /-- ACTIVATE_AT_CANCEL (R525). -/
  | activateAtCancel (src : Src) (p : Packet)
  /-- ACTIVATE_AT_DISCARD (R525). -/
  | activateAtDiscard (src : Src) (p : Packet)
  /-- ACTIVATION_DUE (R526). -/
  | activationDue
  /-- ACTIVATION_DRAIN_TIMEOUT (R521). -/
  | activationDrainTimeout
  /-- ACTIVATION_PAUSE_BEGIN (R521). -/
  | activationPauseBegin
  /-- ACTIVATION_HOLD_STAGE (R521). -/
  | activationHoldStage
  /-- DISTAFF_IMAGE_RUNNING (R533). -/
  | distaffImageRunning
  /-- ACTIVATION_PAUSE_END (R523). -/
  | activationPauseEnd
  -- input
  /-- POWER_UP (R550). -/
  | powerUp (endpoint : Bool)
  /-- HOLDUP_CHARGED (R549). -/
  | holdupCharged
  /-- HOLDUP_TIMEOUT (R549). -/
  | holdupTimeout
  /-- INPUT_LOSS (R551). -/
  | inputLoss
  /-- INPUT_RETURN (R552). -/
  | inputReturn (endpoint : Bool)
  /-- HOLDUP_DISCONNECT (R548). -/
  | holdupDisconnect
  /-- INPUT_LOW_BAND (R544). -/
  | inputLowBand
  /-- ACTIVE_DISCHARGE (R547). -/
  | activeDischarge (on : Bool)
  /-- COOLANT_SAMPLE (R557). -/
  | coolantSample (inlet : Option Int)
  /-- T1_LINK_LOSS (R453). -/
  | t1LinkLoss (port : Nat)
  /-- T1_LINK_RETURN (R453). -/
  | t1LinkReturn (port : Nat)
  /-- INPUT_FULL_FUNCTION_RETURN (R544). -/
  | inputFullFunctionReturn
  deriving DecidableEq, Repr

end Sys2Proof
end

