-- ==== Sys2Proof/Decode.lean ====
section
/-! DEFINITION. The commands that a word spells by the table's bits. The opcode table of this block gives no row any bits, so no word spells a
command. -/

namespace Sys2Proof

/-- No row of spec/opcode_table.json gives bits: `fields` is empty in every row. -/
def decodeTableWord (_nbits _w : Nat) : Option Instr := none

end Sys2Proof
end

