-- ==== Sys2Proof/Config.lean ====
section
/-! DEFINITION. What the manual leaves free or an implementation fixes: opaque constants with no body. No proof can see a value of them. -/

namespace Sys2Proof.Config

/-- A byte whose contents the manual calls unspecified (R60, R63, R191, R214); applied to the state's free-value counter. -/
opaque freeByte : Nat → BitVec 8
/-- A 32-bit value that the manual does not state; applied to the state's free-value counter. -/
opaque freeWord : Nat → BitVec 32
/-- A choice the manual leaves open, as a number; applied to the state's free-value counter. -/
opaque freeNat : Nat → Nat
/-- Whether a trace record finds the trace unit or its write queue full (R495): ticks since reset, TRACE_HEAD, TRACE_LOST. -/
opaque traceFull : Nat → Nat → Nat → Bool
/-- A Niddy-compiled schedule's contents (R26, R157, R191): applied to the bytes of its section and a question number. The manual says that
software neither writes nor reads these sections (R92), and gives no layout for kinds 0x01 to 0x06. -/
opaque niddy : List (BitVec 8) → Nat → Nat
/-- Bytes a schedule computes: its scalar-code section, the values it reads, the number of the output byte (R28). -/
opaque niddyByte : List (BitVec 8) → List (BitVec 8) → Nat → BitVec 8
/-- A gate-pipe or vector function whose error Table 5.6 bounds but whose bits it does not give: function code, FP32 operands, FP32 result (R146). -/
opaque gate : Nat → BitVec 32 → BitVec 32 → BitVec 32 → BitVec 32
/-- A function over a whole row of FP32 values whose accuracy the manual bounds but whose bits it does not give (SOFTMAX_ROW, SOFTMAX_FINISH,
LAYERNORM, RMSNORM of Table 5.8): function code, C0, X, Y, element number. -/
opaque rowGate : Nat → BitVec 32 → List (BitVec 32) → List (BitVec 32) → Nat → BitVec 32
/-- One output element of ATTENTION in FP32 before its conversion (R229): parameters of the head, the query's bytes, the key and value bytes
of each page in page order, the slots attended in each, the element number. -/
opaque attend : List Nat → List (BitVec 8) → List (List (BitVec 8)) → List (List Bool) → Nat → BitVec 32
/-- IoU of two rotated boxes in FP32 (R268): within 2^-16 of the exact value, computed in a fixed order that the manual does not give. -/
opaque rotatedIoU : List (BitVec 32) → List (BitVec 32) → BitVec 32
/-- r of stochastic rounding (R125): SEED, output row, output column. -/
opaque stochastic : Nat → Nat → Nat → BitVec 16
/-- AES-256-CMAC (Table 2.20) as a number: key bytes, message. -/
opaque cmac : List (BitVec 8) → List (BitVec 8) → Nat
/-- SHA-384 of a byte string, as a number. -/
opaque sha384 : List (BitVec 8) → Nat
/-- ECDSA P-384 verification (R505): signer (0 to 3 the fused keys, 4 the owner key of slot 30), that key's bytes, message, signature. -/
opaque ecdsaOk : Nat → List (BitVec 8) → List (BitVec 8) → List (BitVec 8) → Bool
/-- ML-DSA-65 verification (R505): signer (0 to 3 the fused keys, 4 the owner key of slot 31), that key's bytes, message, signature. -/
opaque mldsaOk : Nat → List (BitVec 8) → List (BitVec 8) → List (BitVec 8) → Bool
/-- AES-256-GCM: key bytes, nonce, additional data, ciphertext, tag; the plaintext where the tag verifies. -/
opaque gcmOpen : List (BitVec 8) → List (BitVec 8) → List (BitVec 8) → List (BitVec 8) → List (BitVec 8) → Option (List (BitVec 8))
/-- An HPKE message opened with the envelope key (R509): info, message; the key it carries where it opens. -/
opaque hpkeOpen : List (BitVec 8) → List (BitVec 8) → Option (List (BitVec 8))
/-- Byte `i` of HKDF-SHA-384 with an empty salt (R509): input key, info, byte number. -/
opaque hkdf : List (BitVec 8) → List (BitVec 8) → Nat → BitVec 8
/-- A signature byte that a device key produces (R513): layer, algorithm, measurements that its key follows from, message, byte number. -/
opaque signByte : Nat → Nat → List Nat → List (BitVec 8) → Nat → BitVec 8
/-- The claims block of evidence (R513): serial, nonce, device time, VALUE, M_1, M_2, debug level, MGMT_MODE. The manual gives no layout. -/
opaque claims : List Nat → List (BitVec 8) → List (BitVec 8)
/-- Whether a write to the boot flash fails its read-back (R519, R524); applied to the free-value counter. -/
opaque flashFails : Nat → Bool
/-- Bytes of the certificate chains that evidence carries (R513): measurements and security versions; the chains in DER. -/
opaque certChains : List Nat → List (BitVec 8)
/-- Whether fuse step `n` (bank × 128 + step) fails to read blown after three attempts (R512). -/
opaque fuseFails : Nat → Bool
/-- A component of a pixel of a CSI-2 line (R319): data type, the line's bytes, pixel, component. The packing of each data type is MIPI CSI-2's. -/
opaque csiPixel : Nat → List (BitVec 8) → Nat → Nat → Nat
/-- A point mapped by a matrix in FP32 (R319, R320): matrix words by row, point words, row. The manual does not order the sum. -/
opaque mapPoint : List Nat → List Nat → Nat → BitVec 32

/-- The module's own MAC address, byte by byte. -/
opaque ownMac : Nat → BitVec 8

/-! Geometry of the planner that the manual states without a formula (chapter 14). Arguments: the plan record, then what each says. Samples are
lists of six FP32 words: x, y, yaw, v, a, kappa. -/

/-- Generated candidate `i` (R341): record, state block, reference path, candidate. -/
opaque planGenerated : List (BitVec 8) → List (BitVec 8) → List (BitVec 8) → Nat → List (List Nat)
/-- A candidate-store entry shifted to start at the new state time (R341): record, state block, time of the plan's sample 0 in ns, entry. -/
opaque planShifted : List (BitVec 8) → List (BitVec 8) → Nat → List (List Nat) → List (List Nat)
/-- Progress of a candidate along the reference, an FP32 word (R342): reference path, samples. -/
opaque planProgress : List (BitVec 8) → List (List Nat) → Nat
/-- Lateral offset of a point from the reference path, an FP32 word: reference path, x, y. -/
opaque planLateral : List (BitVec 8) → Nat → Nat → Nat
/-- Jerk of a candidate at sample `i`, an FP32 word: record, samples, sample. -/
opaque planJerk : List (BitVec 8) → List (List Nat) → Nat → Nat
/-- Pose (x, y, yaw) at sub-step `q` after sample `i` (R335): record, samples, sample, sub-step. -/
opaque planPose : List (BitVec 8) → List (List Nat) → Nat → Nat → List Nat
/-- Voxel indices that the bounding box of a footprint box spans in the map frame (R339): record, pose, box, inflation (FP32 word); ix0, ix1, iy0, iy1, iz0, iz1. -/
opaque planBounds : List (BitVec 8) → List Nat → Nat → Nat → List Int
/-- Whether a footprint box meets a primitive in FP32 with outward rounding (R339): record, pose, box, inflation, primitive record, ns since its
block's age stamp (none: the block has none). -/
opaque planMeets : List (BitVec 8) → List Nat → Nat → Nat → Nat → Option Int → Bool
/-- Time scaling and resampling of a path (R344): record, state block, path; samples of seven words, jerk last. -/
opaque planScaled : List (BitVec 8) → List (BitVec 8) → List (List Nat) → List (List Nat)
/-- The stopping manoeuvre along a path (R345): record, state block, path (empty: the state's heading); samples of seven words. -/
opaque planStop : List (BitVec 8) → List (BitVec 8) → List (List Nat) → List (List Nat)
/-- Samples of a trajectory with detour offset `o` (FP32 word) over a window (R348): record, samples, first, last, o. -/
opaque planDetour : List (BitVec 8) → List (List Nat) → Nat → Nat → Nat → List (List Nat)

/-! Sums and inner iterations of the solve engine, whose order of operations the manual does not give (chapter 15). Values are FP32 or FP64 words. -/

/-- An FP64 sum of products of two lists of FP64 words. -/
opaque dot64 : List Nat → List Nat → Nat
/-- The FP64 word of a 2-norm. -/
opaque norm64 : List Nat → Nat
/-- Inner iterations of PCG or MINRES in FP32 (R360, R361): SOLVER, PRECOND, block size, INNER_TOL and INNER_MAX; row pointers and columns; values; right-hand
side. Iterations taken, breakdown, correction as FP64 words. -/
opaque innerLinear : List Nat → List Nat → List Nat → List Nat → Nat × Bool × List Nat
/-- Whether a block of block-Jacobi meets a Cholesky pivot that is not above 0 (R361): block size; row pointers and columns; values. -/
opaque pivotFails : Nat → List Nat → List Nat → Bool
/-- Inner PCG of an ADMM iteration (R362): PRECOND, INNER_TOL, INNER_MAX, RHO, SIGMA, then for each row 1 where l = u; structure of P and A; values of P, A and q; iterates x, z, y and the last
x-tilde. Iterations taken, breakdown, x-tilde. -/
opaque innerAdmm : List Nat → List Nat → List Nat → List Nat → Nat × Bool × List Nat

end Sys2Proof.Config
end

