-- ==== Sys2Proof/Machine/State/Engines.lean ====
section
/-! DEFINITION. State of chapters 14, 15 and 16: planner configurations, solve systems, loops. FP32 and FP64 values are held as their words. -/

namespace Sys2Proof.Machine

/-! ### The planner (chapter 14) -/

/-- A primitive of a map (Table 14.5): its put record as a number, and the age stamp of the block that put it (R337). -/
structure Prim where
  id : Nat
  record : Nat
  stamp : Option Nat
  deriving DecidableEq, Repr

/-- One copy of the map (R336): occupied voxels by index, primitives, age stamp (R338). -/
structure PlanMap where
  voxels : List Nat := []
  prims : List Prim := []
  stamp : Option Nat := none
  version : Nat := 0
  deriving DecidableEq, Repr

/-- A plan set (R334): the fields of Table 14.8's header but CYCLE, trajectory and stopping manoeuvre as seven FP32 words a sample, the candidate
store as six words a sample (x and y in FP32, the others in FP16), and how many candidates had finite cost. -/
structure PlanSet where
  stamp : Option Nat
  t0 : Nat
  /-- The state block and the reference path it was made from. -/
  state : List Byte
  ref : List Byte
  version : Nat
  chosen : Nat
  cost : Nat
  noneFree : Bool := false
  stopClear : Bool := false
  repaired : Bool := false
  stopActive : Bool := false
  traj : List (List Nat)
  stop : List (List Nat)
  store : List (List (List Nat)) := []
  finite : Nat := 0
  deriving DecidableEq, Repr

/-- A planner configuration (R333). -/
structure PlanConfig where
  ctx : Nat
  opener : Nat
  record : List Byte
  banks : Nat
  /-- A REPLACE has been applied (precondition 40). -/
  ready : Bool := false
  map : PlanMap := {}
  cycle : Nat := 0
  committed : Option PlanSet := none
  /-- Shadow plan sets by the order of their draft. -/
  shadow : NMap PlanSet := []
  /-- What packets in flight have made, by packet: a plan set, or a map in the inactive copy. -/
  made : NMap PlanSet := []
  maps : NMap PlanMap := []
  deriving DecidableEq, Repr

/-! ### The solve engine (chapter 15) -/

/-- Vectors of a solve: x, z, y as FP64 words. -/
structure Iterates where
  x : List Nat := []
  z : List Nat := []
  y : List Nat := []
  deriving DecidableEq, Repr

/-- What a SOLVE in flight has found: its outcome as KIND of INFEASIBLE, or OUTCOME; counts, residual, iterates, certificate vector, crossed row,
age stamp. -/
structure Solution where
  infeasible : Option Nat := none
  outcome : Nat := 0
  refines : Nat := 0
  inner : Nat := 0
  outer : Nat := 0
  residual : Nat := 0
  it : Iterates := {}
  cert : List Nat := []
  row : Nat := 0
  stamp : Option Nat := none
  deriving DecidableEq, Repr

/-- A solve system (R353, R355): its record with hand-off entries, its arrays, both parameter copies as one active copy with the plan's age
stamp, warm start. -/
structure SolveSys where
  ctx : Nat
  opener : Nat
  record : List Byte
  banks : Nat
  hbm : Option Addr
  pPtr : List Nat
  pIdx : List Nat
  aPtr : List Nat
  aIdx : List Nat
  terms : List Nat
  params : List Nat
  valid : Bool := true
  planned : Bool := false
  planStamp : Option Nat := none
  warm : Option Iterates := none
  seq : Nat := 0
  skipped : Nat := 0
  pipe : Nat
  /-- Cause, once its pipe has failed with no other free (Table 15.11). -/
  fenced : Option Nat := none
  found : NMap Solution := []
  deriving DecidableEq, Repr

/-! ### The loop engine (chapter 16) -/

inductive LoopMode where
  | stopped | running | held
  deriving DecidableEq, Repr

/-- A LOOP_STOP waiting for its tick (R385): its packet, hold or stop, the tick from which it acts. -/
structure LoopEnd where
  pkt : Option Nat
  hold : Bool
  due : Nat
  deriving DecidableEq, Repr

/-- A loop (Tables 16.2, 16.3). `e` and `v` are the histories, newest first; `v` in FP64 and long enough for D. -/
structure Loop where
  ctx : Nat
  opener : Nat
  record : List Byte
  mode : LoopMode := .stopped
  fenced : Bool := false
  start : Nat := 0
  tick : Nat := 0
  /-- Set-point handed off, the stream it was checked on, the 4 ns tick in which it completed (R374), and the one it replaced. -/
  sp : Option (Nat × Nat × Nat) := none
  spOld : Option (Nat × Nat × Nat) := none
  /-- Last valid set-point (R375), and the one in force at the entry of Safe-hold (Table 16.5). -/
  spValid : Option Nat := none
  spSafe : Option Nat := none
  e : List Nat := [0, 0, 0]
  v : List Nat := List.replicate 17 0
  f : Nat := 0
  model : Option Nat := none
  implausible : Nat := 0
  missing : Nat := 0
  out : Nat := 0
  outSafe : Bool := false
  /-- Safe-hold found it with SH_ACT 0: it outputs SAFE_VAL until LOOP_STOP and LOOP_START (R451). -/
  stuck : Bool := false
  ending : List LoopEnd := []
  deriving DecidableEq, Repr

/-- A feedback value received: arrival, capture time as TS32, value; by station or identifier and slot. -/
structure Feedback where
  arrival : Nat
  ts : Nat
  valid : Bool
  value : Nat
  deriving DecidableEq, Repr

/-- Feedback sources: drive-ring station, CAN XL port and identifier; with the slot. Key of `feedback`: station × 16 + slot below 512, else
512 + (port × 2048 + identifier) × 16 + slot. -/
structure Engines where
  plans : NMap PlanConfig := []
  solves : NMap SolveSys := []
  loops : NMap Loop := []
  /-- Ring record (R371): VLAN ID and station addresses. -/
  ring : Option (List Byte) := none
  ringSeq : NMap Nat := []
  /-- Latest SEQ taken by station, and copies discarded (R380). -/
  ringRx : NMap Nat := []
  copies : Nat := 0
  feedback : NMap (List Feedback) := []
  deriving DecidableEq, Repr

end Sys2Proof.Machine
end

