-- ==== Sys2Proof/Machine/State.lean ====
section
/-! DEFINITION. The state of the module, and the state right after reset. -/

namespace Sys2Proof.Machine

/-- Reasons a step stops with a fault. There is none: whatever the manual calls an error it gives an outcome (a status, an event, a cause, a log
record), so no command of this block faults. -/
inductive Fault where
  deriving DecidableEq, Repr

/-- Reasons a command is refused. -/
inductive Refusal where
  /-- A row of the opcode table without a meaning yet, by its mnemonic; only an arm of `exec` raises it, and no arm does now. Safe. -/
  | notModelled (mnemonic : String)
  deriving DecidableEq, Repr

/-- The whole module: every register, buffer, record and mode that the manual gives it, by chapter, and the queue of commands waiting. -/
structure State where
  dev : Device
  q : Queues
  oob : Oob
  pkts : List OutPkt
  dom : Domains
  ms : MemState
  /-- Memory bytes in canonical form: rising addresses, no byte 0 listed. -/
  mem : List Host.Cell
  dr : Drafts
  kv : NMap KvPool
  ply : PlyState
  time : TimeState
  saf : SafetyState
  dbg : DebugState
  vault : Vault
  upd : Update
  pwr : PowerUnit
  spl : SpliceUnit
  tens : TensionUnit
  sen : Sensors
  eng : Engines
  log : List LogRec
  out : List Out
  free : Nat
  pending : List Instr
  deriving DecidableEq, Repr

/-- The machine right after module reset. -/
def State.reset : State where
  dev := {}
  q := {}
  oob := {}
  pkts := []
  dom := { tenants := [(0, ⟨true, 4, 0, 64, 32⟩)], cores := List.replicate 16 {} }
  ms := {}
  mem := []
  dr := {}
  kv := []
  ply := {}
  time := {}
  saf := {}
  dbg := {}
  vault := {}
  upd := {}
  pwr := {}
  spl := {}
  tens := {}
  sen := {}
  eng := {}
  log := []
  out := []
  free := 0
  pending := []

end Sys2Proof.Machine
end

