-- ==== Sys2Proof/Machine/Operands.lean ====
section
/-! DEFINITION. Operand forms: the fields of a command packet (Table 2.11), parameter field maps as masks of defined bits, addresses in two
words, and the address map (Tables 6.1, 6.2). -/

namespace Sys2Proof

/-- Word `i` of a packet as a number below 2^32 (R46). -/
def Packet.word (p : Packet) (i : Nat) : Nat := p.ws.getD i 0 % 2 ^ 32
/-- Field [hi:lo] of word `i`. -/
def Packet.f (p : Packet) (i hi lo : Nat) : Nat := bits (p.word i) hi lo
/-- Bit `b` of word `i`. -/
def Packet.b (p : Packet) (i b : Nat) : Bool := bit (p.word i) b
/-- OPCODE (Table 2.11). -/
def Packet.opcode (p : Packet) : Nat := p.f 0 15 0
/-- REPLY. -/
def Packet.reply (p : Packet) : Bool := p.b 0 16
/-- IRQ. -/
def Packet.irq (p : Packet) : Bool := p.b 0 17
/-- BARRIER. -/
def Packet.barrier (p : Packet) : Bool := p.b 0 18
/-- CHAIN. -/
def Packet.chain (p : Packet) : Bool := p.b 0 19
/-- CTX. -/
def Packet.ctx (p : Packet) : Nat := p.f 1 11 0
/-- DRAFT_TAG. -/
def Packet.tag (p : Packet) : Nat := p.f 1 17 12
/-- DRAFT_LEVEL. -/
def Packet.level (p : Packet) : Nat := p.f 1 20 18
/-- REQUEST_TAG. -/
def Packet.reqTag (p : Packet) : Nat := p.word 2
/-- A 48-bit address in words `i` [31:0] and `i + 1` [15:0]. -/
def Packet.addr (p : Packet) (i : Nat) : Addr := p.word i + p.f (i + 1) 15 0 * 2 ^ 32
/-- The packet with its OPCODE set to `c`: a row of the opcode table runs as its own opcode. -/
def Packet.withOpcode (p : Packet) (c : Nat) : Packet :=
  { ws := setAt (p.ws ++ List.replicate (16 - p.ws.length) 0) 0 (p.word 0 - p.opcode + c) }
/-- The packet with field [hi:lo] of word `i` set to `v`. -/
def Packet.withField (p : Packet) (i hi lo v : Nat) : Packet :=
  { ws := setAt (p.ws ++ List.replicate (16 - p.ws.length) 0) i (p.word i - p.f i hi lo * 2 ^ lo + v * 2 ^ lo) }

/-- Bobbin that a source counts as: the out-of-band path counts as bobbin 0 (R69). -/
def Src.bob : Src → Nat
  | .bobbin n => n
  | .oob _ _ => 0

namespace Machine

/-- A packet word all of whose bits are defined. -/
def full : Nat := 0xFFFFFFFF

/-- The mask of the listed bit ranges [hi:lo]: the defined bits of a parameter word (R15, R46). -/
def fm (l : List (Nat × Nat)) : Nat := l.foldl (fun a r => a ||| (2 ^ (r.1 + 1) - 2 ^ r.2)) 0

/-- The masks of a 48-bit address in two words. -/
def addrMasks : List Nat := [full, fm [(15, 0)]]

/-- Lowest word of the packet with a reserved bit set, and those bits (R47): `flags` is the mask of the defined OPFLAGS in word 0,
`masks` gives words 3 onwards. -/
def reservedBits (p : Packet) (flags : Nat) (masks : List Nat) : Option (Nat × Nat) :=
  let ms := [fm [(19, 0)] ||| flags, fm [(20, 0)], full] ++ masks
  go 0 (List.range 16) ms
where
  go (_ : Nat) : List Nat → List Nat → Option (Nat × Nat)
    | [], _ => none
    | i :: r, ms =>
      let m := ms.headD 0
      let x := p.word i &&& (full ^^^ m)
      if x = 0 then go 0 r (ms.drop 1) else some (i, x)

/-- Where an address lies (Tables 6.1, 6.2). -/
inductive Place where
  | hbm (stack off : Nat)
  | coreMem (core off : Nat)
  | weightBuf (core off : Nat)
  | actBuf (core off : Nat)
  | accBuf (core off : Nat)
  | dieShared (die off : Nat)
  | hub (off : Nat)
  | mgmt (off : Nat)
  | remote (node off : Nat)
  | none_
  deriving DecidableEq, Repr

/-- The address map of Tables 6.1 and 6.2 (R163). -/
def place (a : Addr) : Place :=
  if a < 0x001800000000 then .hbm (a / 0x000600000000) (a % 0x000600000000)
  else if a < 0x010000000000 then .none_
  else if a < 0x010020000000 then
    let n := (a - 0x010000000000) / 0x2000000
    let o := (a - 0x010000000000) % 0x2000000
    if o < 0x1000000 then .coreMem n o
    else if o < 0x1100000 then .weightBuf n (o - 0x1000000)
    else if o < 0x11C0000 then .actBuf n (o - 0x1100000)
    else if o < 0x1200000 then .accBuf n (o - 0x11C0000)
    else .none_
  else if a < 0x011000000000 then .none_
  else if a < 0x011006000000 then .dieShared 0 (a - 0x011000000000)
  else if a < 0x011008000000 then .none_
  else if a < 0x01100E000000 then .dieShared 1 (a - 0x011008000000)
  else if a < 0x012000000000 then .none_
  else if a < 0x012002000000 then .hub (a - 0x012000000000)
  else if a < 0x020000000000 then .none_
  else if a < 0x020000210000 then .mgmt (a - 0x020000000000)
  else if a < 0x030000000000 then .none_
  else if a < 0x430000000000 then .remote ((a - 0x030000000000) / 2 ^ 40) ((a - 0x030000000000) % 2 ^ 40)
  else .none_

/-- Base address of the window of logical core `n` (Table 6.1). -/
def coreBase (n : Nat) : Addr := 0x010000000000 + n * 0x2000000
/-- Base address of the die shared memory of die `d`. -/
def dieBase (d : Nat) : Addr := 0x011000000000 + d * 0x8000000
/-- Base address of hub SRAM. -/
def hubBase : Addr := 0x012000000000

/-- Die of a logical core: SC00 to SC07 on SD0 (Table 5.20). -/
def dieOf (core : Nat) : Nat := core / 8

/-- MEMORY code of BANK_ASSIGN and the bank that an address falls in (Table 6.3). -/
def bankOf (a : Addr) : Option (Nat × Nat) :=
  match place a with
  | .coreMem _ o => some (0, o / 0x100000)
  | .dieShared d o => some (1 + d, o / 0x200000)
  | .hub o => some (3, o / 0x200000)
  | _ => none

/-- Bytes in one bank of a memory (Table 6.3). -/
def bankSize (memory : Nat) : Nat := if memory = 0 then 0x100000 else 0x200000

/-- Number of banks of a memory (Table 6.3). -/
def bankCount (memory : Nat) : Nat := if memory = 0 then 16 else if memory = 3 then 16 else 48

/-- Whether the whole range lies in one contiguous memory of the map. -/
def sameMemory (a n : Nat) : Bool :=
  let e := a + n - 1
  match place a, place e with
  | .hbm s _, .hbm s' _ => s = s'
  | .coreMem c _, .coreMem c' _ => c = c'
  | .weightBuf c _, .weightBuf c' _ => c = c'
  | .actBuf c _, .actBuf c' _ => c = c'
  | .accBuf c _, .accBuf c' _ => c = c'
  | .dieShared d _, .dieShared d' _ => d = d'
  | .hub _, .hub _ => true
  | .remote k _, .remote k' _ => k = k'
  | _, _ => false

/-- 64-byte lines that a range touches. -/
def linesOf (a n : Nat) : List Nat :=
  if n = 0 then [] else (List.range ((a + n - 1) / 64 + 1 - a / 64)).map (· + a / 64)

/-- Bytes that one error-correcting code covers at an address: a line of HBM, else a word of SRAM (Table 6.14). -/
def eccSize (a : Addr) : Nat := match place a with | .hbm _ _ => 64 | _ => 16

/-- The start of the line of HBM or word of SRAM that holds an address. -/
def eccUnit (a : Addr) : Addr := a / eccSize a * eccSize a

/-- The lines of HBM or words of SRAM that a range of one memory touches, by their first addresses. -/
def eccUnits (a n : Nat) : List Nat :=
  let z := eccSize a
  if n = 0 then [] else (List.range ((a + n - 1) / z + 1 - a / z)).map (fun i => (i + a / z) * z)

/-- A row of Table 2.16: the bobbin kinds A, T, P, S it is marked for, the mark C, whether it names a context, and the
OPFLAGS it defines in word 0. -/
structure OpRow where
  code : Nat
  a : Bool
  t : Bool
  p : Bool
  s : Bool
  c : Bool
  ctx : Bool
  flags : Nat
  deriving DecidableEq, Repr

/-- Table 2.16, families 0x01 to 0x06. -/
def opTableLow : List OpRow := [
  ⟨0x0100, true, true, true, true, true, false, 0⟩ /- NOP -/,
  ⟨0x0101, true, false, false, false, false, false, 0⟩ /- BOBBIN_CREATE -/,
  ⟨0x0102, true, false, false, false, false, false, 0⟩ /- BOBBIN_DESTROY -/,
  ⟨0x0103, true, true, false, false, true, false, 0⟩ /- BOBBIN_STOP -/,
  ⟨0x0104, true, true, false, false, true, false, 0⟩ /- BOBBIN_RESUME -/,
  ⟨0x0108, true, true, true, true, true, false, 0⟩ /- ABORT -/,
  ⟨0x0109, true, true, false, false, true, true, 0⟩ /- QUIESCE -/,
  ⟨0x0110, true, false, false, false, false, false, 0⟩ /- TENANT_CREATE -/,
  ⟨0x0111, true, false, false, false, false, false, 0⟩ /- TENANT_DESTROY -/,
  ⟨0x0118, true, true, true, true, true, false, 0⟩ /- QUERY -/,
  ⟨0x0200, true, true, true, false, false, true, 0⟩ /- DMA_COPY -/,
  ⟨0x0201, true, true, false, false, false, true, 0⟩ /- DMA_FILL -/,
  ⟨0x0202, true, true, false, false, false, true, 0⟩ /- BANK_ASSIGN -/,
  ⟨0x0203, true, true, false, false, false, true, 0⟩ /- REGION_MAP -/,
  ⟨0x0204, true, true, false, false, false, true, 0⟩ /- REGION_UNMAP -/,
  ⟨0x0210, true, true, true, false, false, true, 0⟩ /- KV_SCATTER -/,
  ⟨0x0211, true, true, false, false, false, true, 0⟩ /- PAGE_PIN -/,
  ⟨0x0300, true, true, true, false, false, true, 0⟩ /- MATMUL -/,
  ⟨0x0301, true, true, true, false, false, true, 0⟩ /- CONV -/,
  ⟨0x0302, true, true, true, false, false, true, 0⟩ /- ATTENTION -/,
  ⟨0x0303, true, true, true, false, false, true, 0⟩ /- RECUR -/,
  ⟨0x0304, true, true, true, false, false, true, 0⟩ /- VECTOR_OP -/,
  ⟨0x0305, true, true, true, false, false, true, 0⟩ /- SORT -/,
  ⟨0x0310, true, true, true, false, false, true, 0x01000000⟩ /- SCHEDULE_RUN -/,
  ⟨0x0400, true, true, true, false, false, true, 0⟩ /- DRAFT_OPEN -/,
  ⟨0x0401, true, true, true, false, false, true, 0⟩ /- TWIST -/,
  ⟨0x0402, true, true, true, false, true, true, 0⟩ /- UNRAVEL -/,
  ⟨0x0403, true, true, true, false, false, true, 0⟩ /- DRAFT_QUERY -/,
  ⟨0x0500, true, true, false, false, false, true, 0⟩ /- CONTEXT_CREATE -/,
  ⟨0x0501, true, true, false, false, false, true, 0⟩ /- CONTEXT_DESTROY -/,
  ⟨0x0502, true, true, false, true, true, true, 0⟩ /- CONTEXT_RESET -/,
  ⟨0x0503, true, true, false, false, false, true, 0⟩ /- MODEL_LOAD -/,
  ⟨0x0504, true, true, false, false, false, true, 0⟩ /- MODEL_PIN -/,
  ⟨0x0505, true, true, false, false, false, true, 0⟩ /- MODEL_EVICT -/,
  ⟨0x0506, true, true, false, true, false, false, 0⟩ /- MODEL_STORE -/,
  ⟨0x0508, true, false, false, false, false, false, 0⟩ /- LANE_RESERVE -/,
  ⟨0x0509, true, false, false, false, false, false, 0⟩ /- LANE_RELEASE -/,
  ⟨0x0600, true, true, false, false, false, true, 0⟩ /- STREAM_CONFIG -/,
  ⟨0x0601, true, true, false, false, false, true, 0⟩ /- GROUP_CONFIG -/,
  ⟨0x0602, true, true, false, false, false, true, 0⟩ /- GROUP_START -/,
  ⟨0x0603, true, true, false, false, true, true, 0⟩ /- GROUP_STOP -/,
  ⟨0x0604, true, true, false, false, false, true, 0⟩ /- VOTE_CONFIG -/,
  ⟨0x0605, true, false, false, false, false, false, 0⟩ /- CHANNEL_ENABLE -/]

/-- Table 2.16, families 0x07 to 0x0D. -/
def opTableHigh : List OpRow := [
  ⟨0x0700, true, true, false, false, false, true, 0⟩ /- PLAN_CONFIG -/,
  ⟨0x0701, true, true, true, false, false, true, 0⟩ /- PLAN_CYCLE -/,
  ⟨0x0702, true, true, false, false, false, true, 0⟩ /- MAP_UPDATE -/,
  ⟨0x0710, true, true, false, false, false, true, 0⟩ /- SOLVE_CONFIG -/,
  ⟨0x0711, true, true, true, false, false, true, 0⟩ /- SOLVE -/,
  ⟨0x0720, true, true, false, false, false, true, 0⟩ /- LOOP_CONFIG -/,
  ⟨0x0721, true, true, false, false, false, true, 0⟩ /- LOOP_START -/,
  ⟨0x0722, true, true, false, false, true, true, 0⟩ /- LOOP_STOP -/,
  ⟨0x0800, true, false, false, false, false, false, 0⟩ /- TIME_STEP -/,
  ⟨0x0801, true, false, false, false, false, false, 0⟩ /- TIME_RATE -/,
  ⟨0x0802, true, true, false, false, false, true, 0⟩ /- LAUNCH_CONFIG -/,
  ⟨0x0803, true, true, false, false, false, true, 0⟩ /- TRIGGER_SET -/,
  ⟨0x0804, true, true, false, false, false, true, 0⟩ /- CAPTURE_ARM -/,
  ⟨0x0900, true, false, false, false, false, false, 0⟩ /- PLY_JOIN -/,
  ⟨0x0901, true, false, false, false, true, false, 0⟩ /- PLY_LEAVE -/,
  ⟨0x0902, true, true, true, false, false, true, 0⟩ /- COLLECTIVE -/,
  ⟨0x0903, true, false, false, false, false, true, 0⟩ /- REMOTE_WINDOW -/,
  ⟨0x0A00, true, true, true, false, false, true, 0⟩ /- PHASE_HINT -/,
  ⟨0x0A01, true, false, false, false, false, false, 0⟩ /- BUDGET_REQUEST -/,
  ⟨0x0A02, true, true, false, true, false, false, 0⟩ /- POWER_QUERY -/,
  ⟨0x0B00, true, false, false, false, false, false, 0⟩ /- AGE_REGISTER -/,
  ⟨0x0B01, true, false, false, true, true, false, 0⟩ /- SAFE_STATE_REQUEST -/,
  ⟨0x0B02, true, false, false, false, false, false, 0⟩ /- PAIR_COMPARE_CONFIG -/,
  ⟨0x0B03, true, false, false, false, false, false, 0⟩ /- AT_REST_ASSERT -/,
  ⟨0x0C00, true, false, false, true, false, false, 0⟩ /- BIST_RUN -/,
  ⟨0x0C01, true, false, false, true, false, false, 0⟩ /- TRACE_CONFIG -/,
  ⟨0x0C02, true, true, false, true, false, false, 0⟩ /- COUNTER_READ -/,
  ⟨0x0C03, true, false, false, true, false, false, 0⟩ /- BREAK_SET -/,
  ⟨0x0D00, true, false, false, false, false, false, 0⟩ /- KEY_WRITE -/,
  ⟨0x0D01, true, false, false, false, true, false, 0x01000000⟩ /- KEY_ERASE -/,
  ⟨0x0D02, true, false, false, true, false, false, 0⟩ /- IMAGE_BLOCK -/,
  ⟨0x0D03, true, false, false, true, false, false, 0⟩ /- IMAGE_VERIFY -/,
  ⟨0x0D04, true, false, false, false, false, false, 0⟩ /- ACTIVATE -/,
  ⟨0x0D05, true, false, false, false, false, false, 0x01000000⟩ /- ACTIVATE_AT -/,
  ⟨0x0D06, true, true, false, true, false, false, 0⟩ /- ATTEST -/,
  ⟨0x0D07, true, false, false, true, false, false, 0⟩ /- DEBUG_UNLOCK -/]

/-- Table 2.16, the complete list of opcodes (R55). -/
def opTable : List OpRow := opTableLow ++ opTableHigh

/-- The row of an opcode. -/
def opRow (code : Nat) : Option OpRow := opTable.find? (fun r => r.code = code)

/-- Whether a packet's opcode names a context (Table 2.16). -/
def opHasCtx (code : Nat) : Bool := match opRow code with | some r => r.ctx | none => false

end Machine
end Sys2Proof
end

