-- ==== Sys2Proof/Machine/Flags.lean ====
section
/-! DEFINITION. Status bits and modes that follow from the state: the safety mode and its causes (R441, Table 19.2), the SAFE lines (R443),
MGMT_ID and MGMT_MODE (Tables 2.3, 2.4), the bobbin registers (Tables 2.9a, 2.9b). -/

namespace Sys2Proof.Machine

/-- Safety modes (R441). -/
inductive SafetyMode where
  | normal | degraded | safeHold
  deriving DecidableEq, Repr

/-- Causes of Table 19.2 whose mode is Safe-hold: 4, 5, 6, 11 and 13. -/
def safeHoldCauses : Nat := fm [(6, 4), (11, 11), (13, 13)]

/-- The mode that a set of causes gives (R441). -/
def modeOf (causes : Nat) : SafetyMode :=
  if causes &&& safeHoldCauses ≠ 0 then .safeHold else if causes ≠ 0 then .degraded else .normal

/-- The safety mode (R441). -/
def State.safety (s : State) : SafetyMode := modeOf s.saf.causes

/-- Code of SAFETY (Table 2.4). -/
def SafetyMode.code : SafetyMode → Nat
  | .normal => 0 | .degraded => 1 | .safeHold => 2

/-- Code of ROLE (Table 2.4). -/
def Role.code : Role → Nat
  | .solo => 0 | .member => 1 | .coordinator => 2

/-- Code of POWER (Table 2.4). -/
def Power.code : Power → Nat
  | .run => 0 | .trim => 1 | .doze => 2

/-- Code of UPDATE (Table 2.4). -/
def UpdateState.code : UpdateState → Nat
  | .idle => 0 | .staging => 1 | .pending => 2 | .activating => 3

/-- Code of BOBBIN_STATE.STATE (Table 2.9a). -/
def BobbinMode.code : BobbinMode → Nat
  | .unused => 0 | .running => 1 | .stopped => 2 | .error => 3

/-- Code of DEBUG_STAT.LEVEL (Table 22.7). -/
def DebugLevel.code : DebugLevel → Nat
  | .locked => 0 | .host => 1 | .full => 2

/-- MGMT_ID (Table 2.3). -/
def State.mgmtId (s : State) : Nat :=
  s.dev.part * 2 ^ 16 + s.dev.stepping * 2 ^ 8 + s.dev.node * 4 + s.dev.grade

/-- MGMT_MODE.POWER (R428, R463): Doze while DOZE_EN is 1 and no reservation exists, else Trim while a governor step or a thermal throttle
holds, else Run. -/
def State.power (s : State) : Power :=
  if s.pwr.dozeEn && s.dom.reservations.isEmpty then .doze
  else if 0 < s.tens.gov || !s.tens.throttled.isEmpty then .trim else .run

/-- MGMT_MODE (Table 2.4). -/
def State.mgmtMode (s : State) : Nat :=
  s.dev.cfgDiv.toNat * 2 ^ 16 + s.dev.update.code * 2 ^ 12 + s.dev.role.code * 2 ^ 8 + s.safety.code * 2 ^ 4 + s.power.code

/-- Packets of bobbin `n` fetched and not yet ended. -/
def State.outstanding (s : State) (n : Nat) : List OutPkt := s.pkts.filter (fun o => o.src == .bobbin n)

/-- Packets outstanding of context `c` (R85): those of opcodes that name a context. -/
def State.ctxPkts (s : State) (c : Nat) : List OutPkt :=
  s.pkts.filter (fun o => o.pkt.ctx = c && opHasCtx o.pkt.opcode)

/-- The bobbin `n`. -/
def State.bob (s : State) (n : Nat) : Bobbin := NMap.getD s.q.bobbins n {}

/-- BOBBIN_STATE of bobbin `n` (Table 2.9a). -/
def State.bobbinState (s : State) (n : Nat) : Nat :=
  let b := s.bob n
  b.mode.code * 2 ^ 30 + b.control.toNat * 2 ^ 29 + b.tenant * 2 ^ 25 + b.flyer * 2 ^ 21 + b.sizeLog2 * 2 ^ 17
    + b.fixed.toNat * 2 ^ 16 + (s.outstanding n).length

/-- BOBBIN_ERR of bobbin `n` (Table 2.9b). -/
def State.bobbinErr (s : State) (n : Nat) : Nat :=
  let b := s.bob n
  b.evtLostBit.toNat * 32 + (!b.held.isEmpty).toNat * 16 + b.overrun.toNat * 8 + b.fetchFault.toNat * 4
    + b.cplFault.toNat * 2 + b.rejected.toNat

/-- Whether the three error bits of R45 are clear. -/
def Bobbin.clean (b : Bobbin) : Bool := !b.overrun && !b.fetchFault && !b.cplFault

/-- Field [hi:lo] of a group record's header (Table 13.2), grid block (Table 13.7), track block (Table 13.8) and member entry `i` (Table 13.3). -/
def Group.head (g : Group) (hi lo : Nat) : Nat := bits (leNat (g.record.take 64)) hi lo
def Group.grid (g : Group) (hi lo : Nat) : Nat := bits (leNat ((g.record.drop 64).take 64)) hi lo
def Group.track (g : Group) (hi lo : Nat) : Nat := bits (leNat ((g.record.drop 128).take 64)) hi lo
def Group.mem (g : Group) (i hi lo : Nat) : Nat := bits (leNat ((g.record.drop (192 + 32 * i)).take 32)) hi lo
/-- Members of a group. -/
def Group.count (g : Group) : Nat := g.head 267 262 + 1
/-- LEVELS bit `n`. -/
def Group.lev (g : Group) (n : Nat) : Bool := bit (g.head 261 259) n
/-- Bobbins a group posts to: RELEASE_BOBBIN and, with tracks, TRACK_BOBBIN. -/
def Group.bobbins (g : Group) : List Nat := g.head 207 200 :: (if g.lev 2 then [g.track 255 248] else [])
/-- A started group names a bobbin (R317). -/
def State.cardBobbin (s : State) (n : Nat) : Bool := s.sen.groups.any (fun (g : Nat × Group) => g.2.started && g.2.bobbins.contains n)

/-- Field [hi:lo] of a loop record's bytes 0 to 63 (Table 16.2). -/
def Loop.hd (l : Loop) (hi lo : Nat) : Nat := bits (leNat (l.record.take 64)) hi lo

/-- An activation's pause runs (R521). -/
def State.inPause (s : State) : Bool := match s.upd.act with | some a => a.stage ≠ .drain | none => false

/-- Distaff runs an image: not in the part of a pause in which its own image is being replaced (R533). -/
def State.distaffRuns (s : State) : Bool :=
  (match s.upd.act with | some a => a.stage ≠ .paused && a.stage ≠ .held | none => true) &&
  (match s.pwr.phase with | .up => true | .entering _ => true | .lost => true | .tripped => true | .recovery => true | _ => false)

/-- The fast clock domains run (R459): not in Sleep, in a wake, without input or after a trip. -/
def State.clocked (s : State) : Bool := match s.pwr.phase with | .up => true | .entering _ => true | _ => false

/-- Packets come to an end: the module is up, entering Sleep, or in recovery. -/
def State.serves (s : State) : Bool := s.clocked || s.pwr.phase = .recovery

/-- What an event does while packets are served; otherwise nothing. -/
def State.whileServing (s t : State) : State := if s.serves then t else s

/-- What an event does while the fast domains run; without them nothing. -/
def State.whileUp (s t : State) : State := if s.clocked then t else s

/-- SAFE_A_N (`b` false) or SAFE_B_N is driven low (R443, R549): high only in Normal or Degraded, with both pairs healthy, the hold-up store
charged once since power-up, outside the pause of an activation (R522), while the module is up and for the first 10 µs of Sleep entry
(Table 20.7). -/
def State.safeLow (s : State) : Bool :=
  s.safety = .safeHold || s.saf.daFailed || s.saf.dbFailed || !s.pwr.holdupGate
  || (match s.pwr.phase with | .up => false | .entering n => decide (0 < n) | _ => true)
  || s.inPause

/-- A machine-at-rest assertion is in force (R450). -/
def State.isAtRest (s : State) : Bool := s.saf.atRest.isSome

/-- Device time in nanoseconds, S × 10^9 + N (R290). -/
def State.now (s : State) : Nat := s.time.ns

/-- TS32 of a time (R291). -/
def ts32 (t : Nat) : Nat := t % 2 ^ 32

end Sys2Proof.Machine
end

