-- ==== Sys2Proof/Machine/Ops.lean ====
section
/-! DEFINITION. Shared operations: memory bytes in canonical form, the log, trace and counters, safety causes, free values, replies and
events on completion rings (R49 to R53), interrupts (R41), and the end of a packet. -/

namespace Sys2Proof.Machine

/-! ### Memory -/

/-- The byte at an address; an unlisted address reads 0. -/
def memGet : List Host.Cell → Addr → Byte
  | [], _ => 0
  | (a', b) :: r, a => if a' = a then b else if a < a' then 0 else memGet r a

/-- Write one byte, keeping the canonical form: rising addresses, no 0 listed. -/
def memPut : List Host.Cell → Addr → Byte → List Host.Cell
  | [], a, b => if b = 0 then [] else [(a, b)]
  | (a', b') :: r, a, b =>
    if a < a' then (if b = 0 then (a', b') :: r else (a, b) :: (a', b') :: r)
    else if a = a' then (if b = 0 then r else (a, b) :: r)
    else (a', b') :: memPut r a b

/-- Write bytes from an address on. -/
def memPuts (m : List Host.Cell) : Addr → List Byte → List Host.Cell
  | _, [] => m
  | a, b :: bs => memPuts (memPut m a b) (a + 1) bs

/-- `n` bytes from an address on. -/
def memGets (m : List Host.Cell) : Addr → Nat → List Byte
  | _, 0 => []
  | a, n + 1 => memGet m a :: memGets m (a + 1) n

/-- Clear a range to 0 (R183, R184). -/
def memClear (m : List Host.Cell) (a n : Nat) : List Host.Cell := m.filter (fun c => c.1 < a || a + n ≤ c.1)

/-- The canonical form: addresses strictly rising, no byte 0 listed. -/
def memWf : List Host.Cell → Bool
  | [] => true
  | [(_, b)] => b != 0
  | (a, b) :: (a', b') :: r => b != 0 && decide (a < a') && memWf ((a', b') :: r)

/-- Poison left after a write of a range: a word of SRAM or a line of HBM that is written whole loses its poison (Table 6.14). -/
def poisonAfter (p : List Nat) (a n : Nat) : List Nat := p.filter (fun u => !(decide (a ≤ u) && decide (u + eccSize u ≤ a + n)))

/-- Write bytes to committed memory: poison of what is covered whole goes (Table 6.14) and a line awaiting writeback is replaced,
which cancels its writeback (R207). -/
def State.store (s : State) (a : Addr) (bs : List Byte) : State :=
  { s with
    mem := memPuts s.mem a bs
    ms := { s.ms with poison := poisonAfter s.ms.poison a bs.length }
    dr := { s.dr with writeback := s.dr.writeback.filter (fun w => !(overlap (w.2 * 64) 64 a bs.length)) } }

/-- Read committed bytes. -/
def State.load (s : State) (a : Addr) (n : Nat) : List Byte := memGets s.mem a n

/-- Read a little-endian number of `n` bytes. -/
def State.loadNat (s : State) (a : Addr) (n : Nat) : Nat := leNat (s.load a n)

/-- Clear a range of memory with valid ECC, which also removes poison (R183). -/
def State.clear (s : State) (a n : Nat) : State :=
  { s with mem := memClear s.mem a n, ms := { s.ms with poison := poisonAfter s.ms.poison a n } }

/-- Whether a range is served: inside one memory of the map and not in a withdrawn stack (R163, R176). -/
def State.served (s : State) (a n : Nat) : Bool :=
  n ≠ 0 && sameMemory a n &&
  match place a with
  -- the firmware reserve and the trace ring move to another stack at their next use and keep their addresses (R176)
  | .hbm k _ => !(s.ms.hbmStacks.getD k {}).withdrawn || decide (a + n ≤ 0x80000000) || (decide (0x001790000000 ≤ a) && decide (a + n ≤ 0x0017D0000000))
  | .none_ => false
  | .mgmt _ => false
  | _ => true

/-! ### Free values -/

/-- `n` unspecified bytes. -/
def freeBytes (s : State) (n : Nat) : List Byte := (List.range n).map (fun i => Config.freeByte (s.free + i))

/-- Step the free-value counter. -/
def State.drawn (s : State) (n : Nat) : State := { s with free := s.free + n }

/-- Make the bytes of a range unspecified (R60, R63). -/
def State.scramble (s : State) (a n : Nat) : State := (s.store a (freeBytes s n)).drawn n

/-- A stopped domain of Table 20.1 restarts (R461, R462). -/
def State.restart (s : State) (d : Nat) : State := { s with pwr := { s.pwr with stopped := s.pwr.stopped.filter (· ≠ d) } }

/-! ### Log, trace and counters -/

/-- Write a log record (R32). -/
def State.logIt (s : State) (k : LogKind) (a : Nat := 0) (b : Nat := 0) (c : Nat := 0) : State :=
  { s with log := s.log ++ [⟨k, a, b, c, s.now⟩] }

/-- Send something to the surroundings. -/
def State.emit (s : State) (o : Out) : State := { s with out := s.out ++ [o] }

/-- Virtual channel of a message (Table 17.3): 0 control, 1 safety, 2 collective, 3 bulk. -/
def PlyMsg.vc : PlyMsg → Nat
  | .write .. => 3 | .readReq .. => 3 | .readRsp .. => 3 | .writeAck .. => 3 | .ethernet .. => 3
  | .coll .. => 2
  | .health .. => 1 | .compareCfg .. => 1 | .compareRec .. => 1 | .report .. => 1 | .grant .. => 1 | .machineBudget .. => 1
  | .budgetRequest .. => 1 | .budgetDenied .. => 1 | .overBudget .. => 1
  | _ => 0

/-- Payload bytes of a message in 64-byte units, where the manual gives its payload. -/
def PlyMsg.bytes : PlyMsg → Option Nat
  | .idle => some 0
  | .write _ _ _ _ _ _ d => some (ceilDiv d.length 64 * 64)
  | .readReq .. => some 64
  | .readRsp _ d => some (ceilDiv d.length 64 * 64)
  | .writeAck _ => some 0
  | .ethernet d => some (ceilDiv d.length 64 * 64)
  | .coll _ d => some (ceilDiv d.length 64 * 64)
  | _ => none

/-- An event for the trace unit (Table 22.6); `tenant` is none for an event without a tenant. -/
structure TraceEv where
  type : Nat
  unitClass : Nat := 0
  unit : Nat := 0
  ctx : Nat := 0
  tenant : Option Nat := none
  opcode : Nat := 0
  status : Nat := 0
  tag : Nat := 0
  arg : Nat := 0

/-- The 32 bytes of a trace record (Table 22.6). -/
def traceBytes (t : TraceEv) (ts : Nat) : List Byte :=
  leBytes 32 (t.arg % 2 ^ 96 + t.tag % 2 ^ 32 * 2 ^ 96 + t.status % 2 ^ 16 * 2 ^ 149 + t.opcode % 2 ^ 16 * 2 ^ 165
    + (t.tenant.getD 0) % 16 * 2 ^ 181 + t.ctx % 4096 * 2 ^ 185 + t.unit % 2 ^ 16 * 2 ^ 197 + t.unitClass % 64 * 2 ^ 213
    + t.type % 32 * 2 ^ 219 + ts % 2 ^ 32 * 2 ^ 224)

/-- The trace unit takes an event, where it is on and its filters pass it (R495, Table 22.4), or drops it and counts it. -/
def State.trace (s : State) (t : TraceEv) : State :=
  let d := s.dbg
  let pass := d.traceOn && !d.traceStop && bit d.typeMask t.type
    && (match t.tenant with | some n => bit d.tenants n | none => true)
    && (match d.ctxOnly with | some c => t.ctx = c | none => true)
  if !pass then s else
  -- the unit or its write queue is full: the record is dropped and counted (R495)
  if Config.traceFull s.time.tick d.traceHead d.traceLost then { s with dbg := { d with traceLost := satAdd 0xFFFFFFFF d.traceLost 1 } } else
  let entries := d.sizeMib * 2 ^ 20 / 32
  let s1 := s.store (d.traceBase + 32 * d.traceHead) (traceBytes t (ts32 s.now))
  let next := d.traceHead + 1
  let wrapped := decide (entries ≤ next)
  { s1 with dbg := { d with
      traceHead := if wrapped then (if d.stopFull then d.traceHead + 1 else 0) else next
      traceWraps := if wrapped && !d.stopFull then satAdd 0xFFFFFFFF d.traceWraps 1 else d.traceWraps
      traceStop := wrapped && d.stopFull } }

/-- Key of a counter: group, tenant (0 for device groups), entry, field (Table 22.9). -/
def ctrKey (group tenant entry field : Nat) : Nat := ((group * 16 + tenant) * 1024 + entry) * 8 + field

/-- Count `n` in a counter that saturates at `limit` (R497). -/
def State.bump (s : State) (group tenant entry field n : Nat) (limit : Nat := 2 ^ 64 - 1) : State :=
  let k := ctrKey group tenant entry field
  { s with dbg := { s.dbg with counters := NMap.put s.dbg.counters k (satAdd limit (NMap.getD s.dbg.counters k 0) n) } }

/-- Send a ply frame on a port: numbered, kept in the port's retry buffer until it is acknowledged (R390), and counted (Table 22.9). -/
def State.plyOut (s : State) (port dst : Nat) (m : PlyMsg) : State :=
  let q := s.ply.ports.getD port {}
  let n := (q.txSeq + 1) % 65536
  let s1 : State := { s with ply := { s.ply with ports := setAt s.ply.ports port { q with txSeq := n, buffer := q.buffer ++ [⟨n, dst, m⟩] } } }
  let s2 := match m.bytes with
    | some k => s1.bump 5 0 port m.vc k
    | none => (s1.bump 5 0 port m.vc (Config.freeNat s1.free)).drawn 1
  s2.emit (.ply port dst m)

/-- Send a message to a node on the lowest minimal port of the active table (R397); a frame to a node that the table does not hold is dropped. -/
def State.plySend (s : State) (node : Nat) (m : PlyMsg) : State :=
  match NMap.get? s.ply.table node with
  | some r => s.plyOut (r.ports.headD 0) node m
  | none => s

/-! ### Safety causes -/

/-- What loops and PWM outputs keep of a change of mode: on entry into Safe-hold a loop with SH_ACT 0 sticks to SAFE_VAL and one with SH_ACT 1
notes its set-point (Table 16.5); on leaving it a PWM output in MODE 0b00 waits for its next reload (R451). -/
def Loop.enterHold (l : Loop) : Loop :=
  if l.mode = .stopped then l
  else if l.hd 470 470 = 0 then { l with stuck := true }
  else { l with spSafe := l.spValid }

def Pwm.leaveHold (w : Pwm) : Pwm := if bits w.cfg.toNat 27 26 = 0 then { w with wait := true } else w

def State.holdChange (s : State) (was now : SafetyMode) : State :=
  if was ≠ .safeHold && now = .safeHold then
    { s with eng := { s.eng with loops := s.eng.loops.map (fun (l : Nat × Loop) => (l.1, l.2.enterHold)) } }
  else if was = .safeHold && now ≠ .safeHold then
    { s with
      eng := { s.eng with loops := s.eng.loops.map (fun (l : Nat × Loop) => (l.1, { l.2 with spSafe := none })) }
      sen := { s.sen with pwm := (s.sen.pwm.take 16).map Pwm.leaveHold ++ s.sen.pwm.drop 16 } }
  else s

/-- Change the set of causes; a change of mode is logged and traced (R441). -/
def State.setCauses (s : State) (causes : Nat) : State :=
  let s1 : State := { s with saf := { s.saf with causes := causes } }.holdChange s.safety (modeOf causes)
  if modeOf causes = s.safety then s1
  else (s1.logIt .mode (modeOf causes).code causes).trace { type := 11, status := (modeOf causes).code }

/-- Raise cause `n` (Table 19.2). -/
def State.raise (s : State) (n : Nat) : State :=
  let s1 := s.setCauses (s.saf.causes ||| 1 <<< n)
  -- Distaff resumes every halted core when a Safe-hold cause is raised (R494)
  if bit safeHoldCauses n then { s1 with dbg := { s1.dbg with haltedAc := 0, haltedFl := 0 } } else s1

/-- End cause `n`. -/
def State.endCause (s : State) (n : Nat) : State :=
  if bit s.saf.causes n then s.setCauses (s.saf.causes - 1 <<< n) else s

/-! ### Bobbins and replies -/

/-- Replace bobbin `n`. -/
def State.setBob (s : State) (n : Nat) (b : Bobbin) : State :=
  { s with q := { s.q with bobbins := NMap.put s.q.bobbins n b } }

/-- Put a bobbin in Error (R44, R45). -/
def State.bobError (s : State) (n : Nat) (f : Bobbin → Bobbin) : State :=
  s.setBob n { f (s.bob n) with mode := .error }

/-- The eight words of a reply at a completion index (Table 2.13, R50). -/
def replyWords (r : Reply) (ix : Index) (sizeLog2 : Nat) : List Nat :=
  [r.status + r.opcode * 2 ^ 16,
   r.ctx + r.tag * 2 ^ 12 + r.level * 2 ^ 18 + r.event.toNat * 2 ^ 30 + (!(ix.toNat.testBit sizeLog2)).toNat * 2 ^ 31,
   r.reqTag, ts32 r.time, r.d0 % 2 ^ 32, r.d1 % 2 ^ 32, r.d2 % 2 ^ 32, r.d3 % 2 ^ 32]

/-- Raise a bobbin's interrupt: every pending reply stops being pending (R41). -/
def State.raiseIrq (s : State) (n : Nat) : State :=
  let b := s.bob n
  (s.setBob n { b with irqPending := [] }).emit (.irq b.irqVector)

/-- Raise the interrupt when COUNT replies are pending; 0 acts as 1 (R41, Table 2.9c). -/
def State.checkIrq (s : State) (n : Nat) : State :=
  let b := s.bob n
  if b.irqEnable && decide (max 1 b.irqCount ≤ b.irqPending.length) then s.raiseIrq n else s

/-- Whether a bobbin's completion ring has a free slot (R52). -/
def Bobbin.room (b : Bobbin) : Bool := decide ((b.cplTail - b.cplDoorbell).toNat < 2 ^ b.sizeLog2)

/-- Write a reply to the next completion slot (R49, R50). A ring that cannot be written sets CPL_FAULT and puts the bobbin in
Error (Table 2.9b); the reply is then held, as a completion reply is never dropped while its bobbin exists (R52). -/
def State.writeReply (s : State) (n : Nat) (r : Reply) : State :=
  let b := s.bob n
  let slot := b.cplTail.toNat % 2 ^ b.sizeLog2
  let a := b.cplBase + 32 * slot
  if !s.served a 32 then s.bobError n (fun b => { b with cplFault := true, held := b.held ++ [r] }) else
  let s1 := s.store a (wordBytes (replyWords r b.cplTail b.sizeLog2))
  let b1 := { b with cplTail := b.cplTail + 1, irqPending := if r.irq then b.irqPending ++ [b.cplTail] else b.irqPending }
  (s1.setBob n b1).checkIrq n

/-- Write held replies, oldest first, while the ring has room, at most `fuel` of them (R52). A ring that cannot be written takes
none: with as much fuel as there are held replies they all stay, in their order. -/
def State.drainHeld (s : State) (n : Nat) : Nat → State
  | 0 => s
  | fuel + 1 =>
    let b := s.bob n
    match b.held with
    | [] => s
    | r :: rest =>
      if b.room && b.mode ≠ .unused then
        State.drainHeld ((s.setBob n { b with held := rest }).writeReply n r) n fuel
      else s

/-- Deliver a reply to bobbin `n`: written at once where the ring has room and nothing is held, else held, and written behind
the held ones where there is room; an event that finds 32 replies held is dropped and counted (R52). -/
def State.deliver (s : State) (n : Nat) (r : Reply) : State :=
  let b := s.bob n
  if b.mode = .unused then s
  -- after the service link has gone down, replies of the service bobbins are logged (R74)
  else if 224 ≤ n && !s.q.serviceUp then s.logIt .serviceReply n r.status r.reqTag
  else if b.room && b.held.isEmpty then s.writeReply n r
  else if r.event && decide (32 ≤ b.held.length) then
    s.setBob n { b with evtLostBit := true, evtLost := satAdd 0xFFFFFFFF b.evtLost 1 }
  else
    let s1 := s.setBob n { b with held := b.held ++ [r] }
    if b.room then s1.drainHeld n (b.held.length + 1) else s1

/-- Bobbin an event goes to: the one that created the object, or 0 (R53). -/
def State.eventBobbin (s : State) (creator : Nat) : Nat := if (s.bob creator).mode = .unused then 0 else creator

/-- Write an event reply (R53) and, as R32 requires, its log record. -/
def State.event (s : State) (creator opcode status ctx : Nat) (d : List Nat) : State :=
  let s1 := s.logIt .event status (d.headD 0) (d.getD 1 0)
  s1.deliver (s.eventBobbin creator)
    { opcode := opcode, status := status, event := true, ctx := ctx, time := s.now
      d0 := d.getD 0 0, d1 := d.getD 1 0, d2 := d.getD 2 0, d3 := d.getD 3 0 }

/-- FENCED, Table 2.15. -/
def fenced : Nat := 0x0303

/-- Report a fence: a FENCED event with unit class, unit and cause (R452, R564), a FENCE log record and a trace record (R32). -/
def State.fence (s : State) (creator opcode ctx cls unit cause : Nat) : State :=
  ((s.event creator opcode fenced ctx [cls, unit, cause, 0]).logIt .fence cls unit cause).trace
    { type := 4, unitClass := cls, unit := unit, ctx := ctx, arg := cause }

/-- A fence that only the log reports (Table 19.11a). -/
def State.fenceLog (s : State) (cls unit cause : Nat) : State :=
  (s.logIt .fence cls unit cause).trace { type := 4, unitClass := cls, unit := unit, arg := cause }

/-! ### Packets outstanding -/

/-- The outstanding packet `id`. -/
def State.pkt? (s : State) (id : Nat) : Option OutPkt := s.pkts.find? (fun o => o.id = id)

/-- Change the job of packet `id`. -/
def State.setJob (s : State) (id : Nat) (j : Job) : State :=
  { s with pkts := s.pkts.map (fun o => if o.id = id then { o with job := j } else o) }

/-- Tenant that a packet counts for: its context's, or its bobbin's. -/
def State.pktTenant (s : State) (o : OutPkt) : Nat :=
  match NMap.get? s.dom.contexts o.pkt.ctx, o.src with
  | some c, .bobbin n => if opHasCtx o.pkt.opcode then c.tenant else (s.bob n).tenant
  | none, .bobbin n => (s.bob n).tenant
  | _, .oob _ _ => 0

/-- Cores freed by packet `id` (R93): no longer executing it, with no operation of it in flight (R153). -/
def freeCores (cs : List Core) (id : Nat) : List Core :=
  cs.map (fun c => if c.busy = some id then { c with busy := none, ops := [] } else c)

/-- A draft that an ABORTED operation was issued under becomes Tainted (R64, Table 7.5); a draft in Twisting whose twist has not
started becomes Tainted too (R202). -/
def taint (ds : List Draft) (ts : List Twist) (ctx level tag reqTag : Nat) : List Draft :=
  ds.map (fun d =>
    if d.ctx = ctx && d.level = level && d.tag = tag && d.node.isNone && d.esc.isNone then
      match d.st with
      | .opened => { d with st := .tainted reqTag }
      | .twisting p => if ts.any (fun t => t.pkt = p && t.started) then d else { d with st := .tainted reqTag }
      | _ => d
    else d)

/-- The key of the slot that carries USE OOB (R508). -/
def State.oobKey (s : State) : Option (List Byte) := (s.vault.slots.find? (fun k => k.type = 1 && bit k.use 3)).map (fun k => k.key)

/-- An encoded out-of-band reply (Table 2.20): the 32-byte reply, the carrier's next counter, the tag over both. -/
def oobReplyBytes (r : Reply) (ctr : Nat) (key : List Byte) : List Byte :=
  let body := wordBytes (replyWords r 0 16) ++ leBytes 8 ctr
  body ++ leBytes 16 (Config.cmac key body)

/-- The carrier's counters. -/
def Oob.get (o : Oob) : Carrier → OobCarrier
  | .ve => o.ve
  | .cx n => o.cx.getD n {}
  | .mbox => o.mbox

/-- Replace a carrier's counters. -/
def Oob.set (o : Oob) (c : Carrier) (x : OobCarrier) : Oob :=
  match c with
  | .ve => { o with ve := x }
  | .cx n => { o with cx := setAt o.cx n x }
  | .mbox => { o with mbox := x }

/-- Number the next frame that Distaff sends on a carrier: the counter used, and the state with it stepped; a counter above the
stored reservation first stores a new one 2^20 above it (R70). -/
def State.oobNext (s : State) (c : Carrier) : Nat × State :=
  let x := s.oob.get c
  let n := x.next
  let x1 := { x with next := n + 1, sendReserve := if x.sendReserve < n then n + 2 ^ 20 else x.sendReserve }
  (n, { s with oob := s.oob.set c x1 })

/-- Send an out-of-band reply on the port of arrival (R70); the mailbox holds its reply in MBOX_RX (Table 2.25). -/
def State.oobSend (s : State) (c : Carrier) (port : Nat) (r : Reply) : State :=
  let (n, s1) := s.oobNext c
  let bytes := oobReplyBytes r n (s.oobKey.getD [])
  match c with
  | .mbox => { s1 with oob := { s1.oob with mboxRx := bytes, mboxRxValid := true } }
  | _ => s1.emit (.oobReply c port bytes)

/-- The reply of a packet with a status and details (Table 2.13). -/
def replyOf (o : OutPkt) (status time : Nat) (d : List Nat) : Reply :=
  { opcode := o.pkt.opcode, status := status, level := o.pkt.level, tag := o.pkt.tag, ctx := o.pkt.ctx, reqTag := o.pkt.reqTag
    time := time, d0 := d.getD 0 0, d1 := d.getD 1 0, d2 := d.getD 2 0, d3 := d.getD 3 0, irq := o.pkt.irq }

/-- Service bobbins without an outstanding packet are destroyed once the service link is down (R74). -/
def State.dropService (s : State) : State :=
  if s.q.serviceUp then s
  else { s with q := { s.q with bobbins := s.q.bobbins.filter (fun (b : Nat × Bobbin) => decide (b.1 < 224) || !(s.outstanding b.1).isEmpty) } }

/-- Packet `id` has ended with a status: what a link to it says. -/
def ChainLink.ended (l : ChainLink) (id status : Nat) : ChainLink := if l.id = id then { l with status := some status } else l

/-- End outstanding packet `o` with a status (R47, R62, R66): it leaves the outstanding packets and frees its cores, an ABORTED
operation taints its draft, a successor held by CHAIN learns the status, REJECTED is set for a request error, and the reply is
written unless the status is of class 0x00 and REPLY is clear (Table 2.11). -/
def State.endPkt (s : State) (o : OutPkt) (status : Nat) (d : List Nat := []) (time : Nat := s.now) : State :=
  let live := s.q.bobbins.any (fun b => !b.2.bells.isEmpty)
  let en : Ended := { seq := s.q.endSeq, id := o.id, src := o.src, pkt := o.pkt, control := o.control }
  let s1 : State := { s with
    pkts := (s.pkts.filter (fun x => x.id ≠ o.id)).map (fun x => { x with pred := x.pred.map (fun l => l.ended o.id status) })
    dom := { s.dom with cores := freeCores s.dom.cores o.id, waits := s.dom.waits.filter (fun w => w.pkt ≠ o.id) }
    q := { s.q with
      endSeq := s.q.endSeq + 1
      ended := if live then s.q.ended ++ [en] else [] }
    ms := { s.ms with handovers := s.ms.handovers.filter (fun h => h.pkt ≠ o.id) }
    ply := { s.ply with remote := s.ply.remote.filter (fun r => r.pkt ≠ some o.id), colls := s.ply.colls.filter (fun c => c.pkt ≠ o.id) }
    dr := { s.dr with drafts :=
      if status = 0x0300 && o.pkt.level ≠ 0 && opHasCtx o.pkt.opcode then taint s.dr.drafts s.dr.twists o.pkt.ctx o.pkt.level o.pkt.tag o.pkt.reqTag
      else s.dr.drafts } }
  let tainted (x : State) : Nat := (x.dr.drafts.filter (fun d => match d.st with | .tainted _ => true | _ => false)).length
  let s1 := if tainted s < tainted s1 then s1.bump 3 (s.pktTenant o) 0 4 (tainted s1 - tainted s) else s1
  let s2 := (s1.bump 1 (s.pktTenant o) ((o.pkt.opcode / 256 - 1) * 8 + status / 256) 0 1).trace
    { type := 1, unit := (match o.src with | .bobbin n => n | _ => 0), ctx := o.pkt.ctx, tenant := some (s.pktTenant o), opcode := o.pkt.opcode, status := status, tag := o.pkt.reqTag }
  match o.src with
  | .bobbin n =>
    let b := s2.bob n
    let b1 := { b with
      rejected := b.rejected || status / 256 = 1
      last := b.last.map (fun l => l.ended o.id status) }
    let s3 := s2.setBob n b1
    let s4 := if status / 256 = 0 && !o.pkt.reply then s3 else s3.deliver n (replyOf o status time d)
    if 224 ≤ n then s4.dropService else s4
  | .oob c port => s2.oobSend c port (replyOf o status time d)

/-- End packet `id`, if it is outstanding. -/
def State.finish (s : State) (id status : Nat) (d : List Nat := []) (time : Nat := s.now) : State :=
  match s.pkt? id with
  | some o => s.endPkt o status d time
  | none => s

end Sys2Proof.Machine
end

