-- ==== Sys2Proof/Machine/Access.lean ====
section
/-! DEFINITION. What a context may reach: regions and rights (R171), bank maps and ports (R144, R165, R168), windows on peers (R410), HBM
accounting (R82, R170, R172). -/

namespace Sys2Proof.Machine

/-- The context `c`, if it exists for the checks of Table 2.12 (R85). -/
def State.ctx? (s : State) (c : Nat) : Option Context :=
  match NMap.get? s.dom.contexts c with
  | some x => if x.destroying then none else some x
  | none => none

/-- The tenant `t`. -/
def State.tenant? (s : State) (t : Nat) : Option Tenant := NMap.get? s.dom.tenants t

/-- Tenant of context `c`; 0 where there is none. -/
def State.ctxTenant (s : State) (c : Nat) : Nat := match NMap.get? s.dom.contexts c with | some x => x.tenant | none => 0

/-- Whether a context is bound to the fixed lane. -/
def State.isFixed (s : State) (c : Nat) : Bool := match NMap.get? s.dom.contexts c with | some x => x.fixed | none => false

/-- Bytes of a region. -/
def Region.size (r : Region) : Nat := r.granules * 0x200000

/-- Region of a context that holds a range: its own, or a TENANT_WIDE one of its tenant (Table 6.8). -/
def State.region? (s : State) (c a n : Nat) : Option Region :=
  s.ms.regions.find? (fun r => (r.ctx = c || (r.wide && r.tenant = s.ctxTenant c)) && decide (r.base ≤ a) && decide (a + n ≤ r.base + r.size))

/-- Whether a range touches a region of a bound pool, which only Mladon writes (R215). -/
def State.inPool (s : State) (a n : Nat) : Bool :=
  s.kv.any (fun p => p.2.regions.any (fun b => overlap b (p.2.granules * 0x200000) a n))

/-- Whether a context may use an HBM range with a right (R171, R215). -/
def State.hbmOk (s : State) (c a n : Nat) (write : Bool) : Bool :=
  s.served a n && (match s.region? c a n with
    | some r => if write then r.write && !s.inPool a n else r.read
    | none => false)

/-- The port that owns the bank of an address for a context, a handover of its schedule included (R165, R167, R168). -/
def State.portOf (s : State) (c a : Nat) : Option Nat :=
  match bankOf a with
  | none => none
  | some (m, b) =>
    match s.ms.handovers.find? (fun h => h.memory = m && h.bank = b && (s.pkts.any (fun o => o.id = h.pkt && o.pkt.ctx = c))) with
    | some h => some h.port
    | none =>
      match m, place a with
      | 0, .coreMem k _ =>
        match NMap.get? s.dom.contexts c with
        | some x => if bit x.coreMask k then NMap.get? x.coreBanks b else none
        | none => none
      | _, _ =>
        match NMap.get? s.ms.banks ((m - 1) * 64 + b) with
        | some o => if o.ctx = c then some o.port else none
        | none => none

/-- First addresses of the bank-sized pieces that a range touches. -/
def bankSteps (a n : Nat) : List Nat :=
  if n = 0 then [] else
  let m := match bankOf a with | some (m, _) => m | none => 1
  let z := bankSize m
  (List.range ((a + n - 1) / z + 1 - a / z)).map (fun i => if i = 0 then a else (a / z + i) * z)

/-- Every bank of a range is owned by one of the listed ports of the context (R144, precondition 17). -/
def State.portsOk (s : State) (c a n : Nat) (ports : List Nat) : Bool :=
  sameMemory a n && (bankSteps a n).all (fun x => match s.portOf c x with | some p => ports.contains p | none => false)

/-- A scratchpad with banks: core memory, die shared memory or hub SRAM. -/
def isBanked (a : Addr) : Bool := (bankOf a).isSome

/-- An operand buffer (Table 6.2). -/
def isOperandBuf (a : Addr) : Bool :=
  match place a with | .weightBuf _ _ => true | .actBuf _ _ => true | .accBuf _ _ => true | _ => false

/-- Segment of a peer's window that this module's context may use for a range, by the local copy of the peer's table (R410). -/
def State.peerSegment? (s : State) (c node off n : Nat) (write : Bool) : Option Segment :=
  s.ply.held.find? (fun g => g.node = node && g.tenant = s.ctxTenant c && decide (g.offset ≤ off)
    && decide (off + n ≤ g.offset + g.granules * 0x200000) && (if write then g.write else g.read))

/-- Every bank of a range is held by the context, under whichever port. -/
def State.banksHeld (s : State) (c a n : Nat) : Bool := s.portsOk c a n [0, 1, 2, 3, 4, 5, 6]

/-- Whether an address range is one that a context of a packet may name at all (R163, R178, Table 2.12): HBM by region and right, a scratchpad
by banks that the context holds; operand buffers, the management window and holes never, and the ply remote window only by DMA. -/
def State.addrOk (s : State) (c a n : Nat) (write : Bool) : Bool :=
  sameMemory a n &&
  match place a with
  | .hbm _ _ => s.hbmOk c a n write
  | .coreMem _ _ => s.banksHeld c a n
  | .dieShared _ _ => s.banksHeld c a n
  | .hub _ => s.banksHeld c a n
  | _ => false

/-- Node of a remote address. -/
def remoteNode (a : Addr) : Option Nat := match place a with | .remote k _ => some k | _ => none

/-- Whether a node is in the active routing table (R394, R399). -/
def State.reachable (s : State) (node : Nat) : Bool := NMap.has s.ply.table node

/-- Whether a transfer may name an address range: as any packet, or a window on a peer by the local copy of the peer's table (R410). Of a node
that is not reachable there is no copy to check against: the transfer ends NO_ROUTE_YET after its checks (R399, R404). -/
def State.dmaAddr (s : State) (c a n : Nat) (write : Bool) : Bool :=
  match place a with
  | .remote k o => sameMemory a n && (!s.reachable k || (s.peerSegment? c k o n write).isSome)
  | _ => s.addrOk c a n write

/-- Whether a peer bobbin's node may name a context: one that holds a segment granted to it (R36, R408). -/
def State.peerNames (s : State) (node c : Nat) : Bool := s.ply.granted.any (fun g => g.node = node && g.ctx = c)

/-- Element bytes of a pool's format (R214). -/
def KvPool.elem (k : KvPool) : Nat := if k.fmt = 7 || k.fmt = 8 then 2 else 1

/-- Whether a pool's format is block-scaled. -/
def KvPool.scaled (k : KvPool) : Bool := k.fmt = 0xB || k.fmt = 0xC

/-- FRAME of a pool (R214). -/
def KvPool.frameBytes (k : KvPool) : Nat :=
  (512 * k.heads * k.dim * k.elem + (if k.scaled then 16 * k.heads * k.dim else 0) + 4095) / 4096 * 4096

/-- HBM bytes a tenant has mapped: its regions, its contexts' save areas (R82) and the pages its drafts hold (Table 7.2). -/
def State.hbmUsed (s : State) (t : Nat) : Nat :=
  (s.ms.regions.filter (fun r => r.tenant = t)).foldl (fun a r => a + r.size) 0
  + (s.dom.contexts.filter (fun c => c.2.tenant = t)).foldl (fun a c => a + c.2.maxCores * 18 * 2 ^ 20) 0
  + (s.dr.drafts.filter (fun d => s.ctxTenant d.ctx = t)).foldl (fun a d => a + d.pages.foldl (fun b p =>
      b + (match NMap.get? s.kv (t * 16 + p.pool) with
        | some k => k.frameBytes
        | none => 0)) 0) 0

/-- Quota of a tenant in bytes (Table 3.2). -/
def Tenant.quotaBytes (t : Tenant) : Nat := t.quota * 256 * 2 ^ 20

/-- Tenant-usable HBM in MiB: 23.25 GiB less for each withdrawn stack, of 90 GiB (R170, R176). -/
def State.usableMib (s : State) : Nat :=
  90 * 1024 - (s.ms.hbmStacks.filter (fun k => k.withdrawn)).length * 23808

/-- Ranges of HBM that no tenant can map, as base and length in bytes (Table 6.7). -/
def reservedHbm : List (Nat × Nat) :=
  [(0x000000000000, 0x80000000), (0x001790000000, 0x40000000),
   (0x0005D0000000, 0x30000000), (0x000BD0000000, 0x30000000), (0x0011D0000000, 0x30000000), (0x0017D0000000, 0x30000000)]

/-- Whether granule `g` (2 MiB, counted from address 0) is free and cleared (R171). -/
def State.granuleFree (s : State) (g : Nat) : Bool :=
  !(reservedHbm.any (fun r => overlap r.1 r.2 (g * 0x200000) 0x200000))
  && !(s.ms.regions.any (fun r => overlap r.base r.size (g * 0x200000) 0x200000))
  && !(s.ms.clearing.any (fun c => overlap c.1 (c.2 * 0x200000) (g * 0x200000) 0x200000))

/-- Taken runs of a stack as (first granule, granules): reserved, mapped and, when `busy`, being cleared. -/
def State.takenRuns (s : State) (k : Nat) (busy : Bool) : List (Nat × Nat) :=
  let lo := k * 12288
  let raw := reservedHbm.map (fun r => (r.1 / 0x200000, r.2 / 0x200000))
    ++ s.ms.regions.map (fun r => (r.base / 0x200000, r.granules))
    ++ (if busy then s.ms.clearing.map (fun c => (c.1 / 0x200000, c.2)) else [])
  raw.filter (fun r => decide (lo ≤ r.1) && decide (r.1 < lo + 12288))

/-- Lowest granule of stack `k` where a run of `n` granules is free: the stack's first granule, or the end of a taken run (R172). -/
def State.freeRun (s : State) (k n : Nat) (busy : Bool) : Option Nat :=
  if (s.ms.hbmStacks.getD k {}).withdrawn then none else
  let lo := k * 12288
  let taken := s.takenRuns k busy
  let cands := lo :: taken.map (fun r => r.1 + r.2)
  let fits := cands.filter (fun g => decide (g + n ≤ lo + 12288) && !(taken.any (fun r => overlap r.1 r.2 g n)))
  fits.foldl (fun a g => match a with | none => some g | some b => some (min b g)) none

/-- Lowest-numbered allowed stack with a free run, and its granule (R172). -/
def State.findRun (s : State) (hbmStacks n : Nat) (busy : Bool) : Option (Nat × Nat) :=
  (maskList 4 hbmStacks).findSome? (fun k => (s.freeRun k n busy).map (fun g => (k, g)))

/-- A ring of `n` bytes at a base lies in HBM or hub SRAM in a region that tenant `t` owns: a mapped region of one of its contexts, or
hub-port banks one of them holds (R42, R167). -/
def State.tenantOwns (s : State) (t a n : Nat) : Bool :=
  s.served a n &&
  match place a with
  | .hbm _ _ => s.ms.regions.any (fun r => r.tenant = t && decide (r.base ≤ a) && decide (a + n ≤ r.base + r.size))
  | .hub _ => (bankSteps a n).all (fun x => match bankOf x with
      | some (_, b) => (match NMap.get? s.ms.banks (128 + b) with | some o => s.ctxTenant o.ctx = t && o.port = 5 | none => false)
      | none => false)
  | _ => false

end Sys2Proof.Machine
end

