-- ==== Sys2Proof/Machine/DraftOps.lean ====
section
/-! DEFINITION. Drafts as shared operations: which version an observer sees (R193, R194), shadow storage and its capacity (Table 7.2, R192),
eviction (R197, R198), discarding a draft (R206). -/

namespace Sys2Proof.Machine

/-- The open draft of a context with a level and tag (R187); peer records and escalation drafts apart. -/
def State.draft? (s : State) (c level tag : Nat) : Option Draft :=
  s.dr.drafts.find? (fun d => d.ctx = c && d.level = level && d.tag = tag && d.node.isNone && d.esc.isNone)

/-- A draft and its ancestors, nearest first (R194). -/
def State.chain (s : State) (c : Nat) : Nat → Nat → List Draft
  | 0, _ => []
  | level + 1, tag =>
    match s.draft? c (level + 1) tag with
    | some d => d :: State.chain s c level d.parent
    | none => []

/-- The 64 bytes of a line as an operation under a chain of drafts sees them (R194). -/
def State.lineSeen (s : State) (chain : List Draft) (l : Nat) : List Byte :=
  match chain.findSome? (fun d => NMap.get? d.lines l) with
  | some bs => bs
  | none => s.load (l * 64) 64

/-- A byte as an operation under a chain of drafts sees it. -/
def State.byteSeen (s : State) (chain : List Draft) (a : Addr) : Byte :=
  match chain.findSome? (fun d => NMap.get? d.lines (a / 64)) with
  | some bs => bs.getD (a % 64) 0
  | none => memGet s.mem a

/-- `n` bytes as packet `p` sees them (Table 7.3). -/
def State.see (s : State) (p : Packet) (a n : Nat) : List Byte :=
  let ch := s.chain p.ctx p.level p.tag
  if ch.isEmpty then s.load a n else (List.range n).map (fun i => s.byteSeen ch (a + i))

/-- A little-endian number as packet `p` sees it. -/
def State.seeNat (s : State) (p : Packet) (a n : Nat) : Nat := leNat (s.see p a n)

/-- The stores of Table 7.2 that hold lines, and the others. -/
inductive Store where
  | core (n : Nat) | die (n : Nat) | pages | plans | peer (node : Nat)
  deriving DecidableEq, Repr

/-- The store that holds the shadow of a line; none for memory without shadow storage. -/
def storeOf (l : Nat) : Option Store :=
  match place (l * 64) with
  | .coreMem n _ => some (.core n)
  | .dieShared d _ => some (.die d)
  | _ => none

/-- Shadow banks of a die that a context holds (R192). -/
def State.shadowBanks (s : State) (c d : Nat) : Nat :=
  (s.ms.banks.filter (fun b => b.1 / 64 = d && b.2.ctx = c && b.2.port = 6)).length

/-- Lines, pages or plan sets that a context's store holds at most (Table 7.2). -/
def State.capacity (s : State) (c : Nat) (k : Store) : Nat :=
  match k, NMap.get? s.dom.contexts c with
  | .core _, some x => x.shadowMib * 16384
  | .die d, some _ => s.shadowBanks c d * 32768
  | .pages, some x => x.pageBudget
  | .plans, some _ => 4
  | _, _ => 0

/-- What a draft holds in a store. -/
def Draft.holds (d : Draft) (k : Store) : Nat :=
  match k with
  | .pages => d.pages.length
  | .plans => d.plans.length
  | .peer n => (d.peers.filter (· = n)).length
  | k => (d.lines.filter (fun l => storeOf l.1 = some k)).length

/-- What a context's drafts and its lines awaiting writeback hold in a store (R197). -/
def State.held (s : State) (c : Nat) (k : Store) : Nat :=
  (s.dr.drafts.filter (fun d => d.ctx = c)).foldl (fun a d => a + d.holds k) 0
  + (s.dr.writeback.filter (fun w => w.1 = c && storeOf w.2 = some k)).length

/-- Draft that an escalation draft, or an outstanding packet, belongs under. -/
def State.pktDraft? (s : State) (o : OutPkt) : Option Draft :=
  if o.pkt.level = 0 then none else s.draft? o.pkt.ctx o.pkt.level o.pkt.tag

/-- Whether `d` is the draft with order `order` or lies below it (R187, R136). -/
def State.isUnder (s : State) (order : Nat) (d : Draft) : Bool :=
  d.order = order ||
  match d.esc with
  | some id =>
    (match s.pkt? id with
     | some o => (s.chain d.ctx o.pkt.level o.pkt.tag).any (fun x => x.order = order)
     | none => false)
  | none => d.node.isNone && (s.chain d.ctx d.level d.tag).any (fun x => x.order = order)

/-- A draft and its descendants. -/
def State.underSet (s : State) (order : Nat) : List Draft := s.dr.drafts.filter (s.isUnder order)

/-- Lower the reference count of a frame; a frame whose count reaches 0 leaves the frames in use (R219). -/
def dropRef (fs : NMap KvFrame) (f : Nat) : NMap KvFrame :=
  match NMap.get? fs f with
  | some x => if x.ref ≤ 1 then NMap.del fs f else NMap.put fs f { x with ref := x.ref - 1 }
  | none => fs

/-- Discard what one draft holds: its shadow lines, page copies and new pages, plan sets, and its parts on peers (R206). -/
def State.discard (s : State) (d : Draft) : State :=
  let t := s.ctxTenant d.ctx
  let kv := d.pages.foldl (fun m p =>
    NMap.upd m (t * 16 + p.pool) (fun k => { k with frames := dropRef k.frames p.frame })) s.kv
  let s1 : State := { s with
    kv := kv
    dr := { s.dr with drafts := s.dr.drafts.filter (fun x => x.order ≠ d.order) }
    eng := { s.eng with plans := s.eng.plans.map (fun (c : Nat × PlanConfig) => (c.1, { c.2 with shadow := NMap.del c.2.shadow d.order })) } }
  let s2 := d.peers.foldl (fun x n => x.plySend n (.unravelDraft ⟨x.dev.node, d.ctx, d.tag, d.level⟩)) s1
  s2.trace { type := 6, ctx := d.ctx, tenant := some t, status := 4, tag := d.tag }

/-- How packets outstanding under an unravelled draft end (R198, R204, Table 3.8). -/
structure EndWith where
  status : Nat
  d : List Nat := []
  /-- Packet left to its caller. -/
  skip : Option Nat := none

/-- The twist that packet `id` runs. -/
def State.twist? (s : State) (id : Nat) : Option Twist := s.dr.twists.find? (fun t => t.pkt = id)

/-- Whether packet `id` is a TWIST past its commit point (R65). -/
def State.twistCommitted (s : State) (id : Nat) : Bool := match s.twist? id with | some t => t.committed | none => false

/-- Whether a packet was issued under one of the drafts, or is the TWIST of one. -/
def isOn (ds : List Draft) (o : OutPkt) : Bool :=
  (opHasCtx o.pkt.opcode && o.pkt.level ≠ 0 && o.pkt.opcode ≠ 0x0400
    && ds.any (fun d => d.ctx = o.pkt.ctx && d.level = o.pkt.level && d.tag = o.pkt.tag && d.node.isNone && d.esc.isNone))
  || (o.pkt.opcode = 0x0401 && o.job = .waits .twist && ds.any (fun d => d.ctx = o.pkt.ctx && d.level = o.pkt.f 3 8 6 && d.tag = o.pkt.f 3 5 0 && d.node.isNone))
  || (ds.any (fun d => d.esc = some o.id))

/-- Unravel a draft with all its descendants: their outstanding packets end as told, then each draft is discarded. Answers the state and
how many drafts, shadow lines and pages went (Table 7.10). -/
def State.unravelAll (s : State) (order : Nat) (w : EndWith) : State × Nat × Nat × Nat :=
  let ds := s.underSet order
  let on := s.pkts.filter (fun o => isOn ds o && w.skip ≠ some o.id && !s.twistCommitted o.id)
  -- the TWIST of a draft that has become Tainted ends DRAFT_TAINTED (R202)
  let tainted (o : OutPkt) : Option Nat :=
    if o.pkt.opcode ≠ 0x0401 then none else
    ds.findSome? (fun d => match d.st with | .tainted r => if d.level = o.pkt.f 3 8 6 && d.tag = o.pkt.f 3 5 0 then some r else none | _ => none)
  let s1 := on.foldl (fun x o => match tainted o with | some r => x.finish o.id 0x0109 [r] | none => x.finish o.id w.status w.d) s
  let s2 := ds.foldl (fun x d => x.discard d) s1
  let s3 : State := { s2 with dr := { s2.dr with twists := s2.dr.twists.filter (fun t => (s2.pkt? t.pkt).isSome) } }
  let t := match ds with | d :: _ => s.ctxTenant d.ctx | [] => 0
  (s3.bump 3 t 0 2 ds.length, ds.length, ds.foldl (fun a d => a + d.lines.length) 0, ds.foldl (fun a d => a + d.pages.length) 0)

/-- DETAIL0 of DRAFT_EVICTED (Table 7.4). -/
def evictWord (d : Draft) : Nat := d.level * 64 + d.tag

/-- CAUSE and WHERE of an eviction for a store (Table 7.4). -/
def Store.cause : Store → Nat × Nat
  | .core n => (0, n)
  | .die n => (1, n)
  | .pages => (2, 0)
  | .plans => (3, 0)
  | .peer n => (4, n)

/-- DRAFT_EVICTED (Table 2.15). -/
def draftEvicted : Nat := 0x0202

/-- Evict a draft with its descendants: each unravelled draft reports DRAFT_EVICTED to the bobbin that opened it, the event of a peer
record going to bobbin 0 (R198, R209), and packets under them end DRAFT_EVICTED. -/
def State.evict (s : State) (d : Draft) (cause place : Nat) (skip : Option Nat) : State :=
  let ds := s.underSet d.order
  let (s1, _, _, _) := s.unravelAll d.order ⟨draftEvicted, [evictWord d, cause, place, 0], skip⟩
  let s2 := ds.foldl (fun x e => x.event (if e.node.isSome then 0 else e.opener) 0x0400 draftEvicted e.ctx [evictWord e, cause, place, 0]) s1
  s2.bump 3 (s.ctxTenant d.ctx) 0 3 ds.length

/-- The draft that eviction takes next for a store: the oldest that holds storage there and is not in Twisting (R197). -/
def State.victim? (s : State) (c : Nat) (k : Store) : Option Draft :=
  (s.dr.drafts.filter (fun d => d.ctx = c && decide (0 < d.holds k) && (match d.st with | .twisting _ => false | _ => true))).foldl
    (fun a d => match a with | none => some d | some x => if d.order < x.order then some d else some x) none

/-- Outcome of making room. -/
inductive Room where
  | ok (s : State)
  /-- The requesting operation's own draft, or an ancestor, was evicted: it ends DRAFT_EVICTED with these details (R198). -/
  | self (s : State) (d : List Nat)
  /-- Only drafts in Twisting and lines awaiting writeback fill the store: the write waits (R197). -/
  | wait

/-- Make room for `n` more items of a store, evicting the oldest drafts until they fit (R197). `own` are the orders of the requester's
draft and its ancestors. -/
def State.makeRoom (s : State) (c : Nat) (k : Store) (n : Nat) (own : List Nat) (me : Option Nat) : Nat → Room
  | 0 => .wait
  | fuel + 1 =>
    if s.held c k + n ≤ s.capacity c k then .ok s else
    match s.victim? c k with
    | none => .wait
    | some d =>
      let (cause, place) := k.cause
      let hit := own.contains d.order
      let s1 := s.evict d cause place me
      if hit then .self s1 [evictWord d, cause, place, 0] else State.makeRoom s1 c k n own me fuel

/-- Replace the draft with this order. -/
def State.setDraft (s : State) (order : Nat) (f : Draft → Draft) : State :=
  { s with dr := { s.dr with drafts := s.dr.drafts.map (fun d => if d.order = order then f d else d) } }

/-- Allocate the shadow lines that a drafted write needs, each first holding the version that the draft sees (R193). `sees` is the chain
the draft's own reader sees. -/
def State.allocLines (s : State) (c order : Nat) (sees : List Draft) (own : List Nat) (me : Option Nat) : List Nat → Room
  | [] => .ok s
  | l :: rest =>
    match s.dr.drafts.find? (fun d => d.order = order) with
    | none => .self s [0, 0, 0, 0]
    | some d =>
      if NMap.has d.lines l then State.allocLines s c order sees own me rest else
      match storeOf l with
      | none => State.allocLines s c order sees own me rest
      | some k =>
        match s.makeRoom c k 1 own me (s.dr.drafts.length + 1) with
        | .ok s1 => State.allocLines (s1.setDraft order (fun d => { d with lines := NMap.put d.lines l (s.lineSeen (d :: sees) l) })) c order sees own me rest
        | .self s1 ds => .self s1 ds
        | .wait => .wait

/-- A line's bytes after writing `bs` at `a` over it. -/
def overlayLine (old : List Byte) (l a : Nat) (bs : List Byte) : List Byte :=
  (List.range 64).map (fun i =>
    let x := l * 64 + i
    if a ≤ x && x < a + bs.length then bs.getD (x - a) 0 else old.getD i 0)

/-- Write bytes into the lines of a draft that it already holds. -/
def State.draftStore (s : State) (order a : Nat) (bs : List Byte) : State :=
  s.setDraft order (fun d => { d with lines := (linesOf a bs.length).foldl (fun m l =>
    NMap.put m l (overlayLine (NMap.getD m l (s.load (l * 64) 64)) l a bs)) d.lines })

/-- Whether a range touches a line that a twist has frozen: every access to it waits (R206). -/
def State.frozen (s : State) (a n : Nat) : Bool :=
  s.dr.drafts.any (fun d => d.frozen && (linesOf a n).any (fun l => NMap.has d.lines l))

end Sys2Proof.Machine
end

