-- ==== Sys2Proof/Machine/Release.lean ====
section
/-! DEFINITION. The release of a packet to start: the checks of Table 2.12 in their order (R47), the outcomes that follow them, and the start
of an operation. Every opcode's row is an `OpSpec`: its field map, its own checks, and what it does. -/

namespace Sys2Proof.Machine

/-- What a meaning answers. -/
abbrev Res := Host.Outcome State Fault Refusal

/-- A packet being released. -/
structure Env where
  id : Nat
  src : Src
  p : Packet
  /-- Bobbin that rules count it on: its own, or 0 on the out-of-band path (R69). -/
  bob : Nat
  flyer : Nat

/-- A failed check: status and details. -/
structure Rej where
  status : Nat
  d : List Nat := []
  deriving DecidableEq, Repr

/-- BAD_PARAM with the word index. -/
def badParam (w : Nat) : Rej := ⟨0x0106, [w]⟩
/-- BAD_ADDRESS with the address. -/
def badAddr (a : Addr) : Rej := ⟨0x0107, [a % 2 ^ 32, a / 2 ^ 32]⟩
/-- BAD_STATE with the precondition number. -/
def badState (n : Nat) : Rej := ⟨0x0108, [n]⟩

/-- First failing check of a list of (fails, outcome). -/
def firstFail : List (Bool × Rej) → Option Rej
  | [] => none
  | (b, r) :: rest => if b then some r else firstFail rest

/-- An opcode: field map, checks of its parameters and addresses, writes under a draft (Table 7.1), preconditions, effect. -/
structure OpSpec where
  code : Nat
  masks : Packet → List Nat
  /-- A context named in a parameter fails the context check (R56). -/
  ctxParam : Env → State → Bool := fun _ _ => false
  /-- BAD_PARAM and BAD_ADDRESS, in order. -/
  params : Env → State → Option Rej := fun _ _ => none
  /-- Listed in Table 7.1, with the check that every drafted write has shadow storage (precondition 22); none: not listed. -/
  draft : Option (Env → State → Bool) := none
  pre : Env → State → Option Rej := fun _ _ => none
  run : Env → State → State

/-- Kind of bobbin marks (Table 2.1): whether the opcode's row is marked for the source. -/
def kindOk (r : OpRow) (src : Src) : Bool :=
  match src with
  | .bobbin n => if n = 0 then r.a else if n < 192 then r.t else if n < 224 then r.p else if n < 232 then r.s else false
  | .oob _ _ => true

/-- Opcodes accepted on the out-of-band path (R69). -/
def oobOk (p : Packet) : Bool :=
  (p.opcode = 0x0108 && p.f 3 21 20 ≠ 0) || [0x0502, 0x0103, 0x0B01, 0x0118].contains p.opcode

/-- Tenant whose contexts a bobbin may name: none for every context (Table 2.1). -/
def State.issuerTenant (s : State) (src : Src) : Option Nat :=
  match src with
  | .bobbin n => if n = 0 || (224 ≤ n && n < 232) then none else some (s.bob n).tenant
  | .oob _ _ => none

/-- Whether the issuer may name context `c`, which exists (R36, R48, Table 2.12). -/
def State.mayName (s : State) (src : Src) (c : Nat) (x : Context) : Bool :=
  match src with
  | .oob _ _ => true
  | .bobbin n =>
    if n = 0 || (224 ≤ n && n < 232) then true
    else if 192 ≤ n then s.peerNames (s.bob n).node c
    else x.tenant = (s.bob n).tenant

/-- The context check of Table 2.12, with R81 for CONTEXT_CREATE. -/
def State.ctxFails (s : State) (src : Src) (p : Packet) (r : OpRow) : Bool :=
  if !r.ctx then p.ctx ≠ 0
  else if p.opcode = 0x0500 then
    let inRange (t : Tenant) : Bool := decide (t.ctxBase ≤ p.ctx) && decide (p.ctx < t.ctxBase + t.ctxCount)
    let okRange := match s.issuerTenant src with
      | none => s.dom.tenants.any (fun t => inRange t.2)
      | some t => (match s.tenant? t with | some x => inRange x | none => false)
    !okRange || NMap.has s.dom.contexts p.ctx
  else
    match s.ctx? p.ctx with
    | none => true
    | some x => !s.mayName src p.ctx x || (match src with | .bobbin n => (s.bob n).fixed && !x.fixed | _ => false)

/-- The draft check of Table 2.12 (R187, R189). -/
def State.draftFails (s : State) (p : Packet) (r : OpRow) : Bool :=
  if 5 ≤ p.level then true
  else if p.level = 0 then p.tag ≠ 0
  else if !r.ctx then true
  else match s.draft? p.ctx p.level p.tag with
    | some d => (match d.st with | .opened => false | .tainted _ => false | _ => true)
    | none => true

/-- Precondition 22 (R190): under a draft, the opcode is listed in Table 7.1 and each drafted write has its shadow storage. DRAFT_OPEN names
its parent there (R188). -/
def OpSpec.draftPre (sp : OpSpec) (e : Env) (s : State) : Bool :=
  if e.p.level = 0 || e.p.opcode = 0x0400 then true
  else match sp.draft with
    | none => false
    | some f => f e s

/-- The checks of Table 2.12 on a packet released to start, in their order (R47). -/
def OpSpec.check (sp : OpSpec) (e : Env) (s : State) : Option Rej :=
  match opRow e.p.opcode with
  | none => some ⟨0x0100, []⟩
  | some r =>
    match reservedBits e.p r.flags (sp.masks e.p) with
    | some (w, b) => some ⟨0x0101, [w, b]⟩
    | none =>
      let oob := match e.src with | .oob _ _ => true | _ => false
      if !kindOk r e.src || (oob && !oobOk e.p) || (s.pwr.phase = .recovery && !([0x0D02, 0x0D03, 0x0118, 0x0D06].contains e.p.opcode)) then some ⟨0x0102, []⟩
      else if !oob && (s.bob e.bob).control && !r.c then some ⟨0x0103, []⟩
      else if s.ctxFails e.src e.p r || sp.ctxParam e s then some ⟨0x0104, []⟩
      else if s.draftFails e.p r then some ⟨0x0105, []⟩
      else match sp.params e s with
        | some x => some x
        | none =>
          if s.safety = .safeHold && !oob && !([1, 0xB, 0xC, 0xD].contains (e.p.opcode / 256)) then some (badState 79)
          else if !sp.draftPre e s then some (badState 22)
          else sp.pre e s

/-- Opcodes that run for a Fenced context (R84). -/
def runsFenced (code : Nat) : Bool := code = 0x0502 || code = 0x0501 || code = 0x0109

/-- A packet for the planner or the solve engine restarts its domain (R461, Table 20.6). -/
def State.restartFor (s : State) (code : Nat) : State :=
  if code = 0x0701 || code = 0x0702 then s.restart 36 else if code = 0x0711 then s.restart 37 else s

/-- What a packet of a Fenced or a resetting context ends with (R84, Table 3.8). -/
def State.ctxEnds (s : State) (e : Env) : Option Rej :=
  match (if opHasCtx e.p.opcode && e.p.opcode ≠ 0x0500 then NMap.get? s.dom.contexts e.p.ctx else none) with
  | some x => if x.fenced && !runsFenced e.p.opcode then some ⟨fenced, [2, e.p.ctx, 0, 0]⟩ else if x.resetting then some ⟨0x0302, []⟩ else none
  | none => none

/-- Run a released packet that is outstanding: the checks, then the outcomes of a Fenced or resetting context (R84, Table 3.8), then its
effect. -/
def OpSpec.start (sp : OpSpec) (e : Env) (s : State) : State :=
  match sp.check e s with
  | some r => s.finish e.id r.status r.d
  | none => match s.ctxEnds e with
    | some r => s.finish e.id r.status r.d
    | none => sp.run e (s.restartFor sp.code)

/-- A packet as it becomes outstanding, under a fresh id (R66). Distaff takes the owning flyer's place on the out-of-band path. -/
def State.newPkt (s : State) (src : Src) (p : Packet) (bell : Nat × Nat) : OutPkt :=
  let b := s.bob src.bob
  { id := s.q.nextId, src := src, pkt := p, flyer := (match src with | .bobbin _ => b.flyer | .oob _ _ => 16),
    control := b.control && (match src with | .bobbin _ => true | _ => false), job := .held, bell := bell, start := s.time.tick }

/-- Add a packet to the outstanding packets. -/
def State.takeIn (s : State) (src : Src) (p : Packet) (bell : Nat × Nat) : State :=
  let b := s.bob src.bob
  let o := s.newPkt src p bell
  let s1 : State := { s with pkts := s.pkts ++ [o], q := { s.q with nextId := s.q.nextId + 1 } }
  match src with
  | .bobbin n => s1.setBob n { b with last := some ⟨o.id, p.chain, none⟩ }
  | .oob _ _ => s1

/-- The environment of outstanding packet `o`. -/
def OutPkt.env (o : OutPkt) : Env := ⟨o.id, o.src, o.pkt, o.src.bob, o.flyer⟩

/-- Whether packets of a source start at all now: not on an Unused bobbin, not from a bobbin while Activating or on a halted flyer (Table 25.3,
R493), in recovery only from bobbin 224 (R503), and never while the module is not up. -/
def State.starts (s : State) (src : Src) : Bool :=
  match src with
  | .bobbin n =>
    (s.bob n).mode ≠ .unused &&
    (match s.pwr.phase with
      | .up => s.dev.update ≠ .activating && !bit s.dbg.haltedFl (s.bob n).flyer
      | .recovery => n = 224
      | _ => false)
  | .oob _ _ => s.clocked

/-- A packet row of the opcode table: the packet, with the row's opcode, is released to start on its source, where its source starts packets. -/
def OpSpec.exec (sp : OpSpec) (src : Src) (p : Packet) (s : State) : State :=
  let p1 := p.withOpcode sp.code
  let bell := (s.q.nextId, s.q.endSeq)
  if s.starts src then sp.start (s.newPkt src p1 bell).env (s.takeIn src p1 bell) else s

/-! ### Starting work -/

/-- Unit class, unit and cause of FENCED for consumed poison (Table 19.11c). -/
def dataLossDetails (c : Nat) : List Nat := [2, c, 3, 0]

/-- Order of the draft that a packet's writes belong to. -/
def State.draftOrder? (s : State) (p : Packet) : Option Nat := (s.draft? p.ctx p.level p.tag).map (fun d => d.order)

/-- Orders of a packet's draft and its ancestors. -/
def State.ownOrders (s : State) (p : Packet) : List Nat := (s.chain p.ctx p.level p.tag).map (fun d => d.order)

/-- Lines that the result writes of a packet touch. -/
def Work.lines (w : Work) : List Nat := w.writes.flatMap (fun r => linesOf r.addr r.bytes.length)

/-- Start an operation: it becomes outstanding work. Until its commit point its destinations are unspecified (R60); under a draft the
writes take shadow lines (R193), and an escalating operation takes an escalation draft (R136). -/
def State.startWork (s : State) (e : Env) (w : Work) : State :=
  let s0 := s.setJob e.id (.work w)
  let s1 := s0.trace { type := 2, ctx := e.p.ctx, tenant := some (s.ctxTenant e.p.ctx), opcode := e.p.opcode, tag := e.p.reqTag }
  if w.esc then
    let d : Draft := { ctx := e.p.ctx, tag := 0, level := 0, order := s.dr.nextOrder, esc := some e.id, opener := e.bob }
    let s2 : State := { s1 with dr := { s1.dr with drafts := s1.dr.drafts ++ [d], nextOrder := s1.dr.nextOrder + 1 } }
    match s2.allocLines e.p.ctx d.order (s2.chain e.p.ctx e.p.level e.p.tag) (d.order :: s2.ownOrders e.p) (some e.id) w.lines with
    | .ok s3 => s3
    | .self s3 ds => s3.finish e.id draftEvicted ds
    | .wait => s2
  else if e.p.level ≠ 0 then
    match s1.draftOrder? e.p with
    | none => s1
    | some order =>
      match s1.allocLines e.p.ctx order (s1.chain e.p.ctx e.p.level e.p.tag) (s1.ownOrders e.p) (some e.id) w.lines with
      | .ok s3 => s3
      | .self s3 ds => s3.finish e.id draftEvicted ds
      | .wait => s1
  else w.writes.foldl (fun x r => if (remoteNode r.addr).isSome then x else x.scramble r.addr r.bytes.length) s1

/-- A command that is decided at its start ends with a status (class 0x00 where it completes). -/
def State.done (s : State) (e : Env) (status : Nat := 0) (d : List Nat := []) : State := s.finish e.id status d

/-- Word masks that reserve every parameter word. -/
def noParams : Packet → List Nat := fun _ => []

end Sys2Proof.Machine
end

