-- ==== Sys2Proof/Machine/Admin.lean ====
section
/-! DEFINITION. Family 0x01 and the bobbin registers: bobbin 0's configuration (R40), doorbells (R44, R52), interrupts (R41), bobbin commands
(R45, R563), NOP, QUIESCE, tenants (R77 to R80), QUERY (R73). -/

namespace Sys2Proof.Machine

/-! ### ADMIN_CFG, doorbells, interrupts -/

/-- Flyer that serves a role: a spare that has taken it over counts as that flyer (R38, R491). -/
def State.flyerFor (s : State) (role : Nat) : Nat := NMap.getD s.dev.flyerRole role role

/-- Key of a unit in the lists of fenced and retired units. -/
def unitKey (cls unit : Nat) : Nat := cls * 65536 + unit

/-- A flyer serves a role: roles 4 and 9 of Table 22.2 are the spares' own numbers and serve nothing. -/
def State.flyerServes (s : State) (f : Nat) : Bool := [0, 1, 2, 3, 5, 6, 7, 8].any (fun r => s.flyerFor r = f)

/-- The die's spare flyer: in service, not retired, and serving no role (Table 21.1). -/
def State.spareFlyer (s : State) (die : Nat) : Option Nat :=
  ((List.range 5).map (· + die * 5)).find? (fun f => !s.dev.flyersFenced.contains f && !s.spl.outRetired.contains (unitKey 3 f) && !s.flyerServes f)

/-- Home flyer of a bobbin by number and lane (R38). -/
def State.homeFlyer (s : State) (n : Nat) (fixed : Bool) : Nat :=
  s.flyerFor (if n = 0 then 1
    else if 224 ≤ n && n < 232 then 2
    else if fixed then (if n % 2 = 0 then 0 else 5)
    else [1, 2, 3, 6, 7, 8].getD (n % 6) 1)

/-- A ring base in HBM or hub SRAM (R40). -/
def State.adminBaseOk (s : State) (a n : Nat) : Bool :=
  s.served a n && (match place a with | .hbm _ _ => true | .hub _ => true | _ => false)

/-- The fields of ADMIN_CFG [14:0] apply only while ENABLE is 0 (R40, Table 2.6). -/
def State.adminFields (s : State) (v : Word) : State :=
  if s.q.adminEnable then s
  else { s with q := { s.q with adminVector := bits v.toNat 14 4, adminSizeLog2 := bits v.toNat 3 0 } }

/-- ADMIN_CFG written with ENABLE 1 (R40): fetching starts from bobbin 0, or a bad size or base leaves ENABLE at 0 and sets FETCH_FAULT. A
bobbin 0 in Error leaves it only with its three error bits clear, and fetching resumes at CMD_HEAD (R45). -/
def State.adminOn (s : State) (v : Word) : State :=
    if s.q.adminEnable then s else
    let s1 := s.adminFields v
    let k := s1.q.adminSizeLog2
    let b := s1.bob 0
    let cmd := s1.q.adminCmdBase
    let cpl := s1.q.adminCplBase
    if k < 4 || !s1.adminBaseOk cmd (64 * 2 ^ k) || !s1.adminBaseOk cpl (32 * 2 ^ k) then
      s1.setBob 0 { b with fetchFault := true }
    else
      let s2 : State := { s1 with q := { s1.q with adminEnable := true } }
      let b1 : Bobbin := { b with sizeLog2 := k, cmdBase := cmd, cplBase := cpl, irqVector := s1.q.adminVector, flyer := s1.homeFlyer 0 false, tenant := 0 }
      if b.mode = .error && !b.clean then s2.setBob 0 b1
      else
        let s3 := s2.setBob 0 { b1 with mode := .running }
        -- CONFIG_DIVERGED is reported to bobbin 0 once ENABLE is set (R456)
        if s3.dev.cfgDivReport.isSome then
          ({ s3 with dev := { s3.dev with cfgDivReport := none } }).event 0 0 0x0307 0 [s3.dev.cfgDivReport.getD 0]
        else s3

def execAdminCfgEnable (v : Word) (s : State) : Res := .next (s.whileUp (s.adminOn v))

/-- ADMIN_CFG written with ENABLE 0 (R40): fetching from bobbin 0 stops as BOBBIN_STOP does. -/
def State.adminOff (s : State) (v : Word) : State :=
    let b := s.bob 0
    let s1 : State := { s with q := { s.q with adminEnable := false } }
    let s2 := if b.mode = .running then s1.setBob 0 { b with mode := .stopped } else s1
    if s.q.adminEnable then s2 else s2.adminFields v

def execAdminCfgDisable (v : Word) (s : State) : Res := .next (s.whileUp (s.adminOff v))

/-- DOORBELL of bobbin `n` (Table 2.10). -/
def State.doorbell (s : State) (n : Nat) (v : Index) : State :=
  let b := s.bob n
  if b.mode = .unused then s.logIt .doorbellUnused n
  else if 2 ^ b.sizeLog2 < (v - b.cmdHead).toNat then s.bobError n (fun b => { b with overrun := true })
  else if v = b.tail then s
  else
    -- in Doze a doorbell wakes the home flyer's domain (Table 2.21)
    let s1 := (s.restart (24 + b.flyer / 5)).setBob n { b with tail := v, bells := b.bells ++ [(v, s.q.nextId, s.q.endSeq)] }
    s1.trace { type := 7, unit := n, tenant := some b.tenant }

/-- A DOORBELL write is ignored and logged, refused as an overrun, or taken as the new tail (R44). In Doze it wakes the home flyer's domain
(Table 2.21). -/
def execDoorbellWrite (n : Nat) (v : Word) (s : State) : Res :=
  -- carding owns the tail of a bobbin that a started group names (R317)
  .next (s.whileServing (if s.cardBobbin n then s.logIt .refused n v.toNat else s.doorbell n (BitVec.ofNat 16 v.toNat)))

/-- CPL_DOORBELL of bobbin `n`. -/
def State.cplBell (s : State) (n : Nat) (x : Index) : State :=
  let b := s.bob n
  if b.mode = .unused then s else
  let passed (i : Index) : Bool := decide ((i - b.cplDoorbell).toNat < (x - b.cplDoorbell).toNat)
  let s1 := s.setBob n { b with cplDoorbell := x, irqPending := b.irqPending.filter (fun i => !passed i) }
  s1.drainHeld n b.held.length

/-- A CPL_DOORBELL write frees slots, takes passed replies from the pending count (R41) and releases held replies (R52). -/
def execCplDoorbellWrite (n : Nat) (v : Word) (s : State) : Res := .next (s.whileServing (s.cplBell n (BitVec.ofNat 16 v.toNat)))

/-- HOLDOFF after the oldest pending reply the interrupt is raised (R41), where interrupts are enabled. -/
def execIrqHoldoffExpiry (n : Nat) (s : State) : Res :=
  .next <| s.whileUp <|
    let b := s.bob n
    if b.irqEnable && !b.irqPending.isEmpty then s.raiseIrq n else s

/-! ### NOP, bobbin commands -/

def specNop : OpSpec := { code := 0x0100, masks := noParams, run := fun e s => s.done e }

/-- NOP completes with no effect. -/
def execNop (src : Src) (p : Packet) (s : State) : Res := .next (specNop.exec src p s)

/-- Whether a packet's source may name bobbin `n` in a parameter (R563). -/
def State.bobNameable (s : State) (src : Src) (n : Nat) : Bool :=
  let b := s.bob n
  match s.issuerTenant src with
  | none => b.mode ≠ .unused && decide (n < 232)
  | some t =>
    match src with
    | .bobbin m => if 192 ≤ m then n = m else b.mode ≠ .unused && b.tenant = t && (n < 192 || (224 ≤ n && n < 232))
    | .oob _ _ => false

def bobbinWord : Packet → List Nat := fun _ => [fm [(7, 0)]]

/-- BOBBIN_CREATE (R563, Table 2.17): the tests of its own parameters, ring addresses, precondition 83. -/
def specBobbinCreate : OpSpec where
  code := 0x0101
  masks := fun _ => [fm [(20, 12), (8, 0)]] ++ addrMasks ++ addrMasks ++ [fm [(10, 0)]]
  params := fun e s =>
    let p := e.p
    let k := p.f 3 19 16
    let t := p.f 3 15 12
    let inRing (a n : Nat) : Bool := match s.tenant? t with
      | some _ => s.tenantOwns t a n
      | none => s.adminBaseOk a n
    firstFail [
      (p.f 3 7 0 = 0 || 192 ≤ p.f 3 7 0 || k < 4 || (p.b 3 8 && 6 < k), badParam 3),
      (p.f 4 11 0 ≠ 0, badParam 4), (p.f 6 11 0 ≠ 0, badParam 6),
      (!inRing (p.addr 4) (64 * 2 ^ k), badAddr (p.addr 4)),
      (!inRing (p.addr 6) (32 * 2 ^ k), badAddr (p.addr 6))]
  pre := fun e s =>
    match s.tenant? (e.p.f 3 15 12) with
    | none => some (badState 83)
    | some t => if e.p.b 3 20 && !t.fixedOk then some (badState 83) else none
  run := fun e s =>
    let p := e.p
    let n := p.f 3 7 0
    if (s.bob n).mode ≠ .unused then s.done e 0x0201 else
    (s.setBob n {
      mode := .running, control := p.b 3 8, tenant := p.f 3 15 12, flyer := s.homeFlyer n (p.b 3 20), sizeLog2 := p.f 3 19 16
      fixed := p.b 3 20, cmdBase := p.addr 4, cplBase := p.addr 6, irqVector := p.f 8 10 0 }).done e

/-- BOBBIN_CREATE creates a tenant bobbin with its rings, class, lane and home flyer. -/
def execBobbinCreate (src : Src) (p : Packet) (s : State) : Res := .next (specBobbinCreate.exec src p s)

def specBobbinDestroy : OpSpec where
  code := 0x0102
  masks := bobbinWord
  params := fun e s =>
    let n := e.p.f 3 7 0
    if n = 0 || 192 ≤ n || !s.bobNameable e.src n then some (badParam 3) else none
  pre := fun e s =>
    let n := e.p.f 3 7 0
    if (s.bob n).mode = .stopped && (s.outstanding n).isEmpty then none else some (badState 77)
  run := fun e s => ({ s with q := { s.q with bobbins := NMap.del s.q.bobbins (e.p.f 3 7 0) } }).done e

/-- BOBBIN_DESTROY destroys a Stopped tenant bobbin with no packet outstanding (R563, precondition 77). -/
def execBobbinDestroy (src : Src) (p : Packet) (s : State) : Res := .next (specBobbinDestroy.exec src p s)

/-- Stop fetching on a bobbin; one in Error stays in Error (R45). -/
def State.stopBobbin (s : State) (n : Nat) : State :=
  let b := s.bob n
  if b.mode = .running then s.setBob n { b with mode := .stopped } else s

def nameable3 (e : Env) (s : State) : Option Rej :=
  if s.bobNameable e.src (e.p.f 3 7 0) then none else some (badParam 3)

/-- BOBBIN_STOP (R563, R61): at once where the named bobbin has the same home flyer, else by a forwarded order. -/
def specBobbinStop : OpSpec where
  code := 0x0103
  masks := bobbinWord
  params := nameable3
  run := fun e s =>
    let n := e.p.f 3 7 0
    let b := s.bob n
    if b.flyer = e.flyer then (s.stopBobbin n).done e
    else
      let s1 := s.setJob e.id (.waits (.stopBobbin n))
      { s1 with q := { s1.q with stops := s1.q.stops ++ [⟨e.id, b.flyer, .abort, [], some n⟩] } }

/-- BOBBIN_STOP stops fetching on the named bobbin. -/
def execBobbinStop (src : Src) (p : Packet) (s : State) : Res := .next (specBobbinStop.exec src p s)

def specBobbinResume : OpSpec where
  code := 0x0104
  masks := bobbinWord
  params := nameable3
  pre := fun e s =>
    let n := e.p.f 3 7 0
    let b := s.bob n
    if b.mode = .stopped || (b.mode = .error && b.clean && n ≠ 0) then none else some (badState 78)
  run := fun e s =>
    let n := e.p.f 3 7 0
    (s.setBob n { s.bob n with mode := .running }).done e

/-- BOBBIN_RESUME returns a Stopped bobbin, or one in Error whose fault bits are clear, to Running (R45, precondition 78). -/
def execBobbinResume (src : Src) (p : Packet) (s : State) : Res := .next (specBobbinResume.exec src p s)

/-! ### QUIESCE -/

/-- Packets outstanding of a context but for QUIESCE itself (R55). -/
def State.busyCtx (s : State) (c : Nat) : Bool := (s.ctxPkts c).any (fun o => o.pkt.opcode ≠ 0x0109)

def specQuiesce : OpSpec where
  code := 0x0109
  masks := noParams
  run := fun e s => if s.busyCtx e.p.ctx then s.setJob e.id (.waits .quiesce) else s.done e

/-- QUIESCE completes when the context has no packet outstanding. -/
def execQuiesce (src : Src) (p : Packet) (s : State) : Res := .next (specQuiesce.exec src p s)

/-! ### Tenants -/

/-- NO_SPACE with a resource code of Table 2.27. -/
def noSpace : Nat := 0x0200

def specTenantCreate : OpSpec where
  code := 0x0110
  masks := fun _ => [fm [(20, 16), (4, 0)], fm [(28, 16), (11, 0)], fm [(15, 0)]]
  params := fun e _ =>
    let p := e.p
    firstFail [(p.f 3 19 16 = 0 || 24 < p.f 3 4 0, badParam 3),
      (p.f 4 28 16 = 0 || 4096 < p.f 4 28 16 || 4096 < p.f 4 11 0 + p.f 4 28 16, badParam 4)]
  pre := fun e s =>
    let p := e.p
    firstFail [((s.tenant? (p.f 3 19 16)).isSome, badState 1),
      (s.dom.tenants.any (fun t => overlap t.2.ctxBase t.2.ctxCount (p.f 4 11 0) (p.f 4 28 16)), badState 2)]
  run := fun e s =>
    let p := e.p
    let slots := s.dom.tenants.foldl (fun a t => a + t.2.hotSlots) (p.f 3 4 0)
    let quota := s.dom.tenants.foldl (fun a t => a + t.2.quota) (p.f 5 15 0)
    if 16 ≤ s.dom.tenants.length then s.done e noSpace [1]
    else if 24 < slots then s.done e noSpace [2]
    else if s.usableMib < quota * 256 then s.done e noSpace [3]
    else
      let t : Tenant := ⟨p.b 3 20, p.f 3 4 0, p.f 4 11 0, p.f 4 28 16, p.f 5 15 0⟩
      ({ s with dom := { s.dom with tenants := NMap.put s.dom.tenants (p.f 3 19 16) t } }).done e

/-- TENANT_CREATE (R79, Table 3.2). -/
def execTenantCreate (src : Src) (p : Packet) (s : State) : Res := .next (specTenantCreate.exec src p s)

/-- Unmap regions: their granules are cleared before they return to the free pool (R173, R184). -/
def State.unmapRegions (s : State) (f : Region → Bool) : State :=
  let gone := s.ms.regions.filter f
  { s with
    ms := { s.ms with regions := s.ms.regions.filter (fun r => !f r), clearing := s.ms.clearing ++ gone.map (fun r => (r.base, r.granules)) }
    kv := s.kv.filter (fun k => !(gone.any (fun r => k.2.regions.contains r.base))) }

/-- Whether a tenant holds a context, a bobbin, a hot-set model or a reservation (precondition 3). -/
def State.tenantHolds (s : State) (t : Nat) : Bool :=
  s.dom.contexts.any (fun c => c.2.tenant = t)
  || s.q.bobbins.any (fun b => b.2.mode ≠ .unused && b.2.tenant = t && (b.1 < 192))
  || s.dom.hot.any (fun m => m.2.tenant = t)
  || s.dom.reservations.any (fun r => r.2.tenant = t)

def specTenantDestroy : OpSpec where
  code := 0x0111
  masks := fun _ => [fm [(3, 0)]]
  params := fun e s =>
    let t := e.p.f 3 3 0
    if t = 0 || (s.tenant? t).isNone then some (badParam 3) else none
  pre := fun e s => if s.tenantHolds (e.p.f 3 3 0) then some (badState 3) else none
  run := fun e s =>
    let t := e.p.f 3 3 0
    let s1 := s.unmapRegions (fun r => r.tenant = t)
    ({ s1 with dom := { s1.dom with tenants := NMap.del s1.dom.tenants t }, kv := s1.kv.filter (fun k => k.1 / 16 ≠ t) }).done e

/-- TENANT_DESTROY clears everything the tenant held and returns its IDs, slots and quota (R80). -/
def execTenantDestroy (src : Src) (p : Packet) (s : State) : Res := .next (specTenantDestroy.exec src p s)

/-! ### QUERY -/

/-- Largest INDEX of an item of Table 2.24; none for an item outside it. -/
def queryIndexMax (item : Nat) : Option Nat :=
  match item with
  | 1 => some 0 | 2 => some 0 | 3 => some 15 | 4 => some 23 | 5 => some 4095 | 6 => some 3 | 7 => some 0 | 8 => some 0
  | _ => none

/-- Whether a source sees an item of tenant `t` (R73). -/
def State.seesTenant (s : State) (src : Src) (t : Nat) : Bool :=
  match s.issuerTenant src with | none => true | some x => x = t

/-- Bit per stack. -/
def stackBits (ks : List Stack) (f : Stack → Bool) : Nat := listMask ((List.range 4).filter (fun i => f (ks.getD i {})))

/-- Free and cleared HBM in MiB: tenant-usable, less what is mapped, reserved for save areas or being cleared. -/
def State.freeMib (s : State) : Nat :=
  s.usableMib - s.dom.tenants.foldl (fun a t => a + s.hbmUsed t.1) 0 / 2 ^ 20 - s.ms.clearing.foldl (fun a c => a + 2 * c.2) 0

/-- The four words an item reports (Table 2.24). -/
def State.queryItem (s : State) (src : Src) (item ix : Nat) : List Nat :=
  match item with
  | 1 => [s.mgmtId, s.mgmtMode, s.dev.serial % 2 ^ 32, s.dev.serial / 2 ^ 32]
  | 2 =>
    let d1 := match s.issuerTenant src with
      | none => s.freeMib
      | some t => (match s.tenant? t with | some x => (x.quotaBytes - s.hbmUsed t) / 2 ^ 20 | none => 0)
    [s.usableMib, d1, stackBits s.ms.hbmStacks (fun k => !k.withdrawn) + stackBits s.ms.hbmStacks (fun k => k.remapped.isSome) * 16, 0]
  | 3 =>
    match s.tenant? ix with
    | some t => if s.seesTenant src ix then
        [2 ^ 31 + t.fixedOk.toNat * 2 ^ 30 + t.hotSlots * 2 ^ 24 + t.ctxBase, t.ctxCount, t.quota * 256, s.hbmUsed ix / 2 ^ 20] else []
    | none => []
  | 4 =>
    match NMap.get? s.dom.hot ix with
    | some m => if s.seesTenant src m.tenant then
        [2 ^ 31 + m.pinned.toNat * 2 ^ 30 + m.invalid.toNat * 2 ^ 29 + m.tenant * 2 ^ 16, m.imageId, m.resident, m.lastStart] else []
    | none => []
  | 5 =>
    match NMap.get? s.dom.contexts ix with
    | some c => if s.mayName src ix c then
        [2 ^ 31 + c.fenced.toNat * 2 ^ 30 + c.fixed.toNat * 2 ^ 29 + c.reservation * 2 ^ 16 + c.coreMask, (s.ctxPkts ix).length,
         (s.dr.drafts.filter (fun d => d.ctx = ix && d.node.isNone && d.esc.isNone)).length, c.shadowMib * 256 + c.maxCores] else []
    | none => []
  | 6 =>
    match NMap.get? s.dom.reservations ix with
    | some r => if s.seesTenant src r.tenant then
        [2 ^ 31 + r.tenant * 2 ^ 16 + r.coreMask, r.planShare * 2 ^ 24 + r.systems * 2 ^ 16 + r.loops * 2 ^ 8, r.powerMw, r.hbmBw] else []
    | none => []
  | 7 => [s.dev.node * 256 + s.dev.role.code, listMask ((s.ply.table.map (fun r => r.1)).filter (· < 32)),
          listMask (((s.ply.table.map (fun r => r.1)).filter (32 ≤ ·)).map (· - 32)), s.ply.version]
  | 8 => [s.dev.hoursRun, s.dev.hoursSleep, s.dev.resets, s.dev.wakes]
  | _ => []

def specQuery : OpSpec where
  code := 0x0118
  masks := fun _ => [full]
  params := fun e _ =>
    match queryIndexMax (e.p.f 3 15 0) with
    | some m => if e.p.f 3 31 16 ≤ m then none else some (badParam 3)
    | none => some (badParam 3)
  run := fun e s => s.done e 0 (s.queryItem e.src (e.p.f 3 15 0) (e.p.f 3 31 16))

/-- QUERY reports one item of Table 2.24 (R73). -/
def execQuery (src : Src) (p : Packet) (s : State) : Res := .next (specQuery.exec src p s)

end Sys2Proof.Machine
end

