-- ==== Sys2Proof/Machine/Num.lean ====
section
/-! DEFINITION. Number formats (chapter 4): encodings (Tables 4.1, 4.2), exact values, rounding (Table 4.5), conversion with its events
(Table 4.6), block scales (R117 to R119), and binary32 and binary64 arithmetic rounded once to nearest, ties to even. Values are exact
dyadic numbers, so no rounding happens but where it is written. -/

namespace Sys2Proof.Num

/-- A number: NaN, an infinity, or (−1)^neg × m × 2^e, zero keeping its sign. -/
inductive Val where
  | nan
  | inf (neg : Bool)
  | fin (neg : Bool) (m : Nat) (e : Int)
  deriving DecidableEq, Repr

/-- How a format uses its highest exponent: finite only, one NaN pattern (E4M3), or IEEE 754 infinities and NaN (Table 4.2). -/
inductive Top where
  | finite | e4m3 | ieee
  deriving DecidableEq, Repr

/-- A floating-point format (Table 4.2). -/
structure Fmt where
  ebits : Nat
  mbits : Nat
  bias : Nat
  top : Top
  deriving DecidableEq, Repr

def e2m1 : Fmt := ⟨2, 1, 1, .finite⟩
def e2m3 : Fmt := ⟨2, 3, 1, .finite⟩
def e3m2 : Fmt := ⟨3, 2, 3, .finite⟩
def e4m3 : Fmt := ⟨4, 3, 7, .e4m3⟩
def e5m2 : Fmt := ⟨5, 2, 15, .ieee⟩
def fp16 : Fmt := ⟨5, 10, 15, .ieee⟩
def bf16 : Fmt := ⟨8, 7, 127, .ieee⟩
def fp32 : Fmt := ⟨8, 23, 127, .ieee⟩
def fp64 : Fmt := ⟨11, 52, 1023, .ieee⟩

/-- A format code of Table 4.1: an integer of a width, or a floating-point format. -/
inductive Elem where
  | int (w : Nat)
  | fp (f : Fmt)
  deriving DecidableEq, Repr

/-- The element format of a code (Table 4.1); none for 0xD to 0xF. -/
def elem (code : Nat) : Option Elem :=
  match code with
  | 0 => some (.int 8) | 1 => some (.int 4) | 2 => some (.fp e4m3) | 3 => some (.fp e5m2)
  | 4 => some (.fp e2m3) | 5 => some (.fp e3m2) | 6 => some (.fp e2m1) | 7 => some (.fp bf16)
  | 8 => some (.fp fp16) | 9 => some (.fp fp32) | 10 => some (.int 32) | 11 => some (.fp e4m3) | 12 => some (.fp e5m2)
  | _ => none

/-- Bits per element (Table 4.1). -/
def width (code : Nat) : Nat :=
  match code with
  | 0 => 8 | 1 => 4 | 2 => 8 | 3 => 8 | 4 => 6 | 5 => 6 | 6 => 4 | 7 => 16 | 8 => 16 | 9 => 32 | 10 => 32 | 11 => 8 | 12 => 8 | _ => 8

/-- Block-scaled codes (Table 4.1). -/
def scaled (code : Nat) : Bool := [4, 5, 6, 0xB, 0xC].contains code
/-- Codes marked for activations. -/
def isAct (code : Nat) : Bool := [0, 2, 3, 4, 5, 6, 7, 8, 9, 0xB, 0xC].contains code
/-- Codes marked for weights. -/
def isWeight (code : Nat) : Bool := [0, 1, 2, 3, 4, 5, 6, 7, 8, 9, 0xB, 0xC].contains code
/-- Codes marked for outputs. -/
def isOut (code : Nat) : Bool := [0, 2, 3, 4, 5, 6, 7, 8, 9, 0xA, 0xB, 0xC].contains code
/-- FP8 codes. -/
def isFp8 (code : Nat) : Bool := [2, 3, 0xB, 0xC].contains code
/-- FP6 and FP4 codes. -/
def isFp64th (code : Nat) : Bool := [4, 5, 6].contains code

/-! ### Decoding -/

/-- Value of an encoding (R112, Table 4.2). -/
def decode (f : Fmt) (x : Nat) : Val :=
  let s := x.testBit (f.ebits + f.mbits)
  let e := x / 2 ^ f.mbits % 2 ^ f.ebits
  let m := x % 2 ^ f.mbits
  let allOnes := e = 2 ^ f.ebits - 1
  match f.top with
  | .ieee =>
    if allOnes then (if m = 0 then .inf s else .nan)
    else if e = 0 then .fin s m (1 - (f.bias : Int) - f.mbits)
    else .fin s (m + 2 ^ f.mbits) ((e : Int) - f.bias - f.mbits)
  | .e4m3 =>
    if allOnes && m = 2 ^ f.mbits - 1 then .nan
    else if e = 0 then .fin s m (1 - (f.bias : Int) - f.mbits)
    else .fin s (m + 2 ^ f.mbits) ((e : Int) - f.bias - f.mbits)
  | .finite =>
    if e = 0 then .fin s m (1 - (f.bias : Int) - f.mbits)
    else .fin s (m + 2 ^ f.mbits) ((e : Int) - f.bias - f.mbits)

/-- The exact value of an integer. -/
def ofInt (i : Int) : Val := .fin (decide (i < 0)) i.natAbs 0

/-- Value of an element of a format. -/
def decodeElem (e : Elem) (x : Nat) : Val :=
  match e with
  | .int w => ofInt (sext w x)
  | .fp f => decode f x

/-! ### Rounding -/

/-- Rounding modes: the three of Table 4.5, and rounding of a magnitude upward for the escalation bound (R133). -/
inductive Mode where
  | rne | rtz | sr (r : Nat) | up
  deriving DecidableEq, Repr

/-- Round a magnitude m × 2^e to a multiple of 2^q: the multiple. -/
def roundAt (mode : Mode) (m : Nat) (e q : Int) : Nat :=
  if q ≤ e then m * 2 ^ (e - q).toNat
  else
    let sh := (q - e).toNat
    let t := m / 2 ^ sh
    let rem := m % 2 ^ sh
    let half := 2 ^ (sh - 1)
    match mode with
    | .rne => if half < rem || (rem = half && t % 2 = 1) then t + 1 else t
    | .rtz => t
    | .sr r => if 65536 ≤ rem * 65536 / 2 ^ sh + r then t + 1 else t
    | .up => if rem = 0 then t else t + 1

/-- Exponent of the unit in the last place that a format gives a magnitude m × 2^e, subnormals included (R112, R115). -/
def ulpExp (f : Fmt) (m : Nat) (e : Int) : Int :=
  max ((Nat.log2 m : Int) + e) (1 - (f.bias : Int)) - f.mbits

/-- Magnitude encoding of the largest finite value (Table 4.2). -/
def maxEnc (f : Fmt) : Nat :=
  match f.top with
  | .ieee => (2 ^ f.ebits - 1) * 2 ^ f.mbits - 1
  | .e4m3 => 2 ^ (f.ebits + f.mbits) - 2
  | .finite => 2 ^ (f.ebits + f.mbits) - 1

/-- The canonical NaN (R116). -/
def nanEnc (f : Fmt) : Nat :=
  match f.top with
  | .e4m3 => 2 ^ (f.ebits + f.mbits) - 1
  | .ieee => (2 ^ f.ebits - 1) * 2 ^ f.mbits + 2 ^ (f.mbits - 1)
  | .finite => 0

/-- Magnitude encoding of m × 2^e rounded, unbounded above. -/
def magEnc (f : Fmt) (mode : Mode) (m : Nat) (e : Int) : Nat :=
  if m = 0 then 0 else
  let q := ulpExp f m e
  roundAt mode m e q + (q - (1 - (f.bias : Int) - f.mbits)).toNat * 2 ^ f.mbits

/-- A conversion's result and its NaN and saturation events (R126). -/
structure Conv where
  enc : Nat
  nan : Nat := 0
  sat : Nat := 0
  deriving DecidableEq, Repr

/-- Sign bit of an encoding. -/
def signEnc (f : Fmt) (neg : Bool) : Nat := neg.toNat * 2 ^ (f.ebits + f.mbits)

/-- Conversion to a floating-point format (Table 4.6). NaN to FP6 or FP4 writes element 0; its block's scale 0xFF is written by the
block conversion. -/
def toFp (f : Fmt) (mode : Mode) (satFlag : Bool) (v : Val) : Conv :=
  let beyond (neg : Bool) : Conv :=
    match f.top with
    | .ieee =>
      if satFlag || mode = .rtz then { enc := signEnc f neg + maxEnc f, sat := 1 }
      else { enc := signEnc f neg + (2 ^ f.ebits - 1) * 2 ^ f.mbits }
    | _ => { enc := signEnc f neg + maxEnc f, sat := 1 }
  match v with
  | .nan => { enc := nanEnc f, nan := 1 }
  | .inf s => beyond s
  | .fin s m e =>
    let x := magEnc f mode m e
    if maxEnc f < x then beyond s else { enc := signEnc f s + x }

/-- Conversion to a two's complement integer (Table 4.6, R124). -/
def toInt (w : Nat) (mode : Mode) (v : Val) : Conv :=
  let md : Mode := if mode = .rtz then .rtz else .rne
  match v with
  | .nan => { enc := 0, nan := 1 }
  | .inf s => { enc := if s then 2 ^ (w - 1) else 2 ^ (w - 1) - 1, sat := 1 }
  | .fin s m e =>
    let x := roundAt md m e 0
    if s then (if 2 ^ (w - 1) < x then { enc := 2 ^ (w - 1), sat := 1 } else { enc := (2 ^ w - x) % 2 ^ w })
    else if 2 ^ (w - 1) ≤ x then { enc := 2 ^ (w - 1) - 1, sat := 1 }
    else { enc := x }

/-- Conversion to an element format. -/
def toElem (t : Elem) (mode : Mode) (satFlag : Bool) (v : Val) : Conv :=
  match t with
  | .int w => toInt w mode v
  | .fp f => toFp f mode satFlag v

/-! ### Exact arithmetic -/

/-- Negation. -/
def neg : Val → Val
  | .nan => .nan
  | .inf s => .inf (!s)
  | .fin s m e => .fin (!s) m e

/-- Magnitude. -/
def abs : Val → Val
  | .nan => .nan
  | .inf _ => .inf false
  | .fin _ m e => .fin false m e

/-- Multiply by 2^k. -/
def scale (k : Int) : Val → Val
  | .fin s m e => .fin s m (e + k)
  | v => v

/-- Exact product (R123: NaN, and ∞ × 0, give NaN). -/
def mul : Val → Val → Val
  | .nan, _ => .nan
  | _, .nan => .nan
  | .inf s, .inf t => .inf (s != t)
  | .inf s, .fin t m _ => if m = 0 then .nan else .inf (s != t)
  | .fin s m _, .inf t => if m = 0 then .nan else .inf (s != t)
  | .fin s m e, .fin t n f => .fin (s != t) (m * n) (e + f)

/-- Exact sum (R123: ∞ + (−∞) gives NaN). A zero sum of opposite signs is +0 (R115). -/
def add : Val → Val → Val
  | .nan, _ => .nan
  | _, .nan => .nan
  | .inf s, .inf t => if s = t then .inf s else .nan
  | .inf s, _ => .inf s
  | _, .inf t => .inf t
  | .fin s m e, .fin t n f =>
    let q := min e f
    let a : Int := (m * 2 ^ (e - q).toNat : Nat)
    let b : Int := (n * 2 ^ (f - q).toNat : Nat)
    let x := (if s then -a else a) + (if t then -b else b)
    if x = 0 then .fin (s && t) 0 q else .fin (decide (x < 0)) x.natAbs q

/-- Difference. -/
def sub (a b : Val) : Val := add a (neg b)

/-- Exact comparison of two numbers; none when either is NaN. -/
def lt? : Val → Val → Option Bool
  | .nan, _ => none
  | _, .nan => none
  | .inf s, .inf t => some (s && !t)
  | .inf s, _ => some s
  | _, .inf t => some (!t)
  | a, b => match sub a b with
    | .fin s m _ => some (s && m ≠ 0)
    | _ => some false

/-- a < b, false for NaN. -/
def lt (a b : Val) : Bool := (lt? a b).getD false
/-- a ≤ b, false for NaN. -/
def le (a b : Val) : Bool := match lt? b a with | some x => !x | none => false
/-- Maximum; NaN if either is. -/
def maxV (a b : Val) : Val := match lt? a b with | none => .nan | some true => b | some false => a
/-- Minimum; NaN if either is. -/
def minV (a b : Val) : Val := match lt? b a with | none => .nan | some true => b | some false => a
/-- Whether a value is a number other than NaN and infinities. -/
def isFinite : Val → Bool
  | .fin _ _ _ => true
  | _ => false
/-- Whether a value is zero. -/
def isZero : Val → Bool
  | .fin _ m _ => m = 0
  | _ => false

/-- Quotient with `p` good bits and a sticky last bit, enough to round once into a format of fewer than `p` bits. -/
def divBits (p : Nat) : Val → Val → Val
  | .nan, _ => .nan
  | _, .nan => .nan
  | .inf _, .inf _ => .nan
  | .inf s, .fin t _ _ => .inf (s != t)
  | .fin s _ _, .inf t => .fin (s != t) 0 0
  | .fin s m e, .fin t n f =>
    if n = 0 then (if m = 0 then .nan else .inf (s != t))
    else
      let sh := p + 2 + Nat.log2 n
      let a := m * 2 ^ sh
      let q := a / n
      .fin (s != t) (2 * q + (if a % n = 0 then 0 else 1)) (e - f - sh - 1)

/-- Integer square root by bits: `n` steps, from bit n − 1 down. -/
def isqrtGo (x : Nat) : Nat → Nat → Nat
  | 0, r => r
  | n + 1, r => let c := r + 2 ^ n; isqrtGo x n (if c * c ≤ x then c else r)

/-- Floor of the square root. -/
def isqrt (x : Nat) : Nat := isqrtGo x (Nat.log2 x / 2 + 1) 0

/-- Square root with `p` good bits and a sticky last bit. -/
def sqrtBits (p : Nat) : Val → Val
  | .nan => .nan
  | .inf s => if s then .nan else .inf false
  | .fin s m e =>
    if m = 0 then .fin s 0 0
    else if s then .nan
    else
      let k := 2 * p + 2
      let e1 := e - k
      let odd := e1 % 2 ≠ 0
      let a := m * 2 ^ (if odd then k + 1 else k)
      let e2 := if odd then e1 - 1 else e1
      let r := isqrt a
      .fin false (2 * r + (if r * r = a then 0 else 1)) (e2 / 2 - 1)

/-! ### Binary32 and binary64, rounded once to nearest, ties to even -/

/-- Round to binary32: the encoding. -/
def enc32 (v : Val) : Nat := (toFp fp32 .rne false v).enc
/-- Value of a binary32 encoding. -/
def dec32 (x : Nat) : Val := decode fp32 x
/-- Round a value to binary32. -/
def r32 (v : Val) : Val := dec32 (enc32 v)
def add32 (a b : Val) : Val := r32 (add a b)
def sub32 (a b : Val) : Val := r32 (sub a b)
def mul32 (a b : Val) : Val := r32 (mul a b)
def div32 (a b : Val) : Val := r32 (divBits 28 a b)
def sqrt32 (a : Val) : Val := r32 (sqrtBits 28 a)
/-- Round to binary64: the encoding. -/
def enc64 (v : Val) : Nat := (toFp fp64 .rne false v).enc
def dec64 (x : Nat) : Val := decode fp64 x
def r64 (v : Val) : Val := dec64 (enc64 v)
def add64 (a b : Val) : Val := r64 (add a b)
def sub64 (a b : Val) : Val := r64 (sub a b)
def mul64 (a b : Val) : Val := r64 (mul a b)
def div64 (a b : Val) : Val := r64 (divBits 57 a b)
def sqrt64 (a : Val) : Val := r64 (sqrtBits 57 a)
/-- Fused multiply-add a × b + c in binary64. -/
def fma64 (a b c : Val) : Val := r64 (add (mul a b) c)
/-- Fused multiply-add in binary32. -/
def fma32 (a b c : Val) : Val := r32 (add (mul a b) c)
/-- Value zero. -/
def zero : Val := .fin false 0 0
def ofNat (n : Nat) : Val := .fin false n 0
/-- Floor of a finite value as an integer; 0 for NaN and infinities. -/
def floor : Val → Int
  | .fin s m e =>
    let x : Int := if s then -(m : Int) else m
    if 0 ≤ e then x * 2 ^ e.toNat else x / 2 ^ (-e).toNat
  | _ => 0
/-- Nearest integer, ties to even. -/
def nearest : Val → Int
  | .fin s m e => let r : Int := (roundAt .rne m e 0 : Nat); if s then -r else r
  | _ => 0

/-! ### Packing and block scales -/

/-- Bytes of a row of `n` elements, padded to its last byte or FP6 group (R114). -/
def rowBytes (code n : Nat) : Nat :=
  match width code with
  | 6 => (n + 3) / 4 * 3
  | 4 => (n + 1) / 2
  | w => n * (w / 8)

/-- Encoding of element `i` of a packed row (R114). -/
def elemAt (code : Nat) (bs : List Byte) (i : Nat) : Nat :=
  match width code with
  | 4 => leNat ((bs.drop (i / 2)).take 1) / 2 ^ (4 * (i % 2)) % 16
  | 6 => leNat ((bs.drop (i / 4 * 3)).take 3) / 2 ^ (6 * (i % 4)) % 64
  | w => leNat ((bs.drop (i * (w / 8))).take (w / 8))

/-- Pack element encodings into bytes (R114): FP6 four to three bytes, INT4 and FP4 two to a byte. -/
def pack6 : List Nat → List Byte
  | a :: b :: c :: d :: r => leBytes 3 (a + b * 64 + c * 4096 + d * 262144) ++ pack6 r
  | [a, b, c] => leBytes 3 (a + b * 64 + c * 4096)
  | [a, b] => leBytes 3 (a + b * 64)
  | [a] => leBytes 3 a
  | [] => []

def pack4 : List Nat → List Byte
  | a :: b :: r => BitVec.ofNat 8 (a + b * 16) :: pack4 r
  | [a] => [BitVec.ofNat 8 a]
  | [] => []

def pack (code : Nat) (xs : List Nat) : List Byte :=
  match width code with
  | 6 => pack6 xs
  | 4 => pack4 xs
  | w => xs.flatMap (leBytes (w / 8))

/-- Value of an element with its block's scale byte: 255 makes it NaN (R117). -/
def scaledVal (code x scaleByte : Nat) : Val :=
  if scaleByte = 255 then .nan else
  match elem code with
  | some e => scale ((scaleByte : Int) - 127) (decodeElem e x)
  | none => .nan

/-- Value of an unscaled element. -/
def plainVal (code x : Nat) : Val := match elem code with | some e => decodeElem e x | none => .nan

/-- Largest finite value of an element format. -/
def fmax (f : Fmt) : Val := decode f (maxEnc f)

/-- Largest magnitude of a list; NaN elements are left out. -/
def amax (vs : List Val) : Val := vs.foldl (fun a v => match lt? a (abs v) with | some true => abs v | _ => a) zero

/-- ⌈log2(a / b)⌉ of two positive finite values: the least k with a ≤ b × 2^k. -/
def ceilLog2Ratio : Val → Val → Int
  | .fin _ m e, .fin _ n f =>
    let k0 := ((Nat.log2 m : Int) + e) - ((Nat.log2 n : Int) + f) - 1
    if le (.fin false m e) (.fin false n (f + k0)) then k0
    else if le (.fin false m e) (.fin false n (f + k0 + 1)) then k0 + 1
    else k0 + 2
  | _, _ => 127

/-- Scale exponent of a block and whether the clamp at 127 applied (R119). An infinite maximum takes the clamp. -/
def scaleExp (f : Fmt) (vs : List Val) : Int × Bool :=
  match amax vs with
  | .fin _ m e =>
    if m = 0 then (0, false) else
    let s := ceilLog2Ratio (.fin false m e) (fmax f)
    if 127 < s then (127, true) else if s < -127 then (-127, false) else (s, false)
  | _ => (127, true)

/-- A converted block: element encodings, scale byte, events. -/
structure Block where
  enc : List Nat
  scaleByte : Nat
  nan : Nat := 0
  sat : Nat := 0
  clamped : Bool := false
  deriving DecidableEq, Repr

/-- Convert a block to a block-scaled format (R119, R126): `mode` gives the rounding of each element by its place. A NaN source makes the
whole block 0 with scale 0xFF where the format has no NaN, and counts one event per NaN. -/
def toBlock (f : Fmt) (mode : Nat → Mode) (satFlag : Bool) (vs : List Val) : Block :=
  let nans := (vs.filter (· = .nan)).length
  if f.top = .finite && 0 < nans then { enc := vs.map (fun _ => 0), scaleByte := 255, nan := nans }
  else
    let (s, cl) := scaleExp f vs
    let cs := (vs.zipIdx).map (fun v => toFp f (mode v.2) satFlag (scale (-s) v.1))
    { enc := cs.map (fun c => c.enc), scaleByte := (s + 127).toNat, nan := (cs.map (fun c => c.nan)).sum
      sat := (cs.map (fun c => c.sat)).sum, clamped := cl }

/-- Split a list into pieces of `n`, `fuel` of them at most. -/
def chunks {α : Type} (n : Nat) : Nat → List α → List (List α)
  | 0, _ => []
  | fuel + 1, l => if l.isEmpty then [] else l.take n :: chunks n fuel (l.drop n)

/-- The floating-point format of a block-scaled code. -/
def fpOf (code : Nat) : Fmt := match elem code with | some (.fp f) => f | _ => e4m3

/-- Mode of a ROUND field, with the r of stochastic rounding for an element (Table 4.5, R125). -/
def modeOf (round seed row col : Nat) : Mode :=
  match round with
  | 1 => .rtz
  | 2 => .sr (Config.stochastic seed row col).toNat
  | _ => .rne

end Sys2Proof.Num
end

