-- ==== Sys2Proof/Machine/Pwm.lean ====
section
/-! DEFINITION. PWM outputs and lamp strobes (R286 to R289): outputs 0 to 15 are PW00 to PW15, 16 to 23 are LMP0 to LMP7. -/

namespace Sys2Proof.Machine

/-- Who reaches the global page and the pages ruled like it (R39, R286): application cores in machine or supervisor mode, and Distaff. -/
def pageOpen : Accessor → Bool
  | .supervisor => true
  | .distaff => true
  | _ => false

/-- A register access on such a page: any other one is ignored and logged (R39). -/
def State.paged (s : State) (who : Accessor) (f : State → State) : State := if !s.clocked then s else if pageOpen who then f s else s.logIt .managementAccess

/-- MODE of an output (Tables 11.10, 11.11). -/
def Pwm.mode (w : Pwm) : Nat := bits w.cfg.toNat 27 26
def Pwm.enabled (w : Pwm) : Bool := bit w.cfg.toNat 31
/-- PENDING. -/
def Pwm.isPending (w : Pwm) : Bool := !w.armed.isEmpty
/-- PERIOD in force: values below 250 act as 250 (Table 11.12). -/
def Pwm.period (w : Pwm) : Nat := max 250 (bits w.active 55 32)

/-- Output `n`. -/
def State.pwm (s : State) (n : Nat) : Pwm := s.sen.pwm.getD n {}
def State.setPwm (s : State) (n : Nat) (w : Pwm) : State := { s with sen := { s.sen with pwm := setAt s.sen.pwm n w } }

/-- Bits of CFG that a write changes (R15, Tables 11.10, 11.11). -/
def cfgBits (n : Nat) : Nat := if n < 16 then fm [(31, 30), (28, 26)] else fm [(31, 30), (27, 21), (15, 0)]

/-- Arm a value at this tick; of those armed at earlier ticks only the last stays (R287, Table 11.14). -/
def Pwm.arm (w : Pwm) (tick v : Nat) : Pwm :=
  let old := (w.armed.filter (fun (a : Nat × Nat) => a.1 < tick)).reverse.take 1
  { w with lo := BitVec.ofNat 32 v, hi := BitVec.ofNat 32 (v / 2 ^ 32), armed := old ++ [(tick, v)] }

/-- A reload (R288): the last value armed before this tick goes whole into ACTIVE and LOAD_SEQ names the period; a value armed in this very
tick waits for the next reload (Table 11.14). -/
def Pwm.reload (w : Pwm) (tick : Nat) : Pwm :=
  match (w.armed.filter (fun (a : Nat × Nat) => a.1 < tick)).getLast? with
  | some a => { w with active := a.2, loadSeq := w.cur, armed := w.armed.filter (fun (a : Nat × Nat) => decide (tick ≤ a.1)), wait := false }
  | none => { w with wait := false }

/-- The next period or pulse starts. -/
def Pwm.nextPeriod (w : Pwm) (tick : Nat) : Pwm := ({ w with cur := (w.cur + 1) % 65536 } : Pwm).reload tick

/-- Write the lower word of NEXT, and the upper word, which arms (R287). Where the loop engine writes PW_NEXT, other writes are ignored
(Table 11.10). -/
def State.writeNext (s : State) (n : Nat) (lo hi : Option Nat) : State :=
  let w := s.pwm n
  if 24 ≤ n || (n < 16 && w.mode = 1) then s else
  let l := match lo with | some x => x % 2 ^ 24 | none => w.lo.toNat
  match hi with
  | some h => s.setPwm n (w.arm s.time.tick (l + h % 2 ^ 24 * 2 ^ 32))
  | none => s.setPwm n { w with lo := BitVec.ofNat 32 l }

/-- A write to bytes 4 to 7 of PW_NEXT or LMP_NEXT arms the value (R287); `lo` is the lower word of a 64-bit store. -/
def execPwNextArm (who : Accessor) (n : Nat) (lo : Option Word) (hi : Word) (s : State) : Res :=
  .next (s.paged who (fun s => s.writeNext n (lo.map (fun (x : Word) => x.toNat)) (some hi.toNat)))

/-- A period starts on an enabled output, or on a strobe in MODE 0b00 whose channel is on (Tables 11.10, 11.11, R288). Pulses of a strobe in
MODE 0b01 come with their triggers. -/
def execPwmReload (n : Nat) (s : State) : Res :=
  .next <| s.whileUp <|
    let w := s.pwm n
    let runs := w.enabled && !s.sen.highZ && (if n < 16 then true else decide (n < 24) && w.mode = 0 && (s.sen.channels.getD (n + 8) {}).on)
    if runs then s.setPwm n (w.nextPeriod s.time.tick) else s

/-- Write CFG: setting ENABLE starts period 0, with its reload (Table 11.10, R288). -/
def State.writeCfg (s : State) (n v : Nat) : State :=
  if 24 ≤ n then s else
  let w := s.pwm n
  let w1 := { w with cfg := BitVec.ofNat 32 (v &&& cfgBits n) }
  let starts := !w.enabled && w1.enabled
  let periods := n < 16 || w1.mode = 0
  s.setPwm n (if starts then (let w2 := { w1 with cur := 0, wait := false }; if periods then w2.reload s.time.tick else w2) else w1)

/-- A write to PW_CFG or LMP_CFG. -/
def execPwCfgWrite (who : Accessor) (n : Nat) (v : Word) (s : State) : Res := .next (s.paged who (fun s => s.writeCfg n v.toNat))

end Sys2Proof.Machine
end

