-- ==== Sys2Proof/Machine/Stops.lean ====
section
/-! DEFINITION. Stopping work: ABORT and its targets (R56, R62, R63, R66), forwarded orders (R61), a context's reset and teardown (R106 to
R109, Tables 3.7 to 3.9). -/

namespace Sys2Proof.Machine

/-- An ABORT of a TWIST before its commit point: frozen items are released and the draft returns to Open (Table 7.5, Table 7.12). -/
def State.untwist (s : State) (id : Nat) : State :=
  match s.twist? id with
  | none => s
  | some _ =>
    let s1 := (s.dr.drafts.filter (fun d => d.st = .twisting id)).foldl (fun y d =>
      d.peers.foldl (fun x n => x.plySend n (.releaseDraft ⟨x.dev.node, d.ctx, d.tag, d.level⟩)) y) s
    { s1 with dr := { s1.dr with
        twists := s1.dr.twists.filter (fun t => t.pkt ≠ id)
        drafts := s1.dr.drafts.map (fun d => if d.st = .twisting id then { d with st := .opened, frozen := false } else d) } }

/-- Discard the escalation draft of a stopped operation: its destination keeps its previous contents (Table 4.11). -/
def State.dropEsc (s : State) (id : Nat) : State :=
  match s.dr.drafts.find? (fun d => d.esc = some id) with
  | some d => s.discard d
  | none => s

/-- A stopped COLLECTIVE tells the other participants (R413). -/
def State.collAborted (s : State) (id : Nat) : State :=
  match s.ply.colls.find? (fun c => c.pkt = id) with
  | some c => ((maskList 64 c.key.nodes).filter (· ≠ s.dev.node)).foldl (fun x n => x.plySend n (.collAbort c.key.tenant c.key.id s.dev.node)) s
  | none => s

/-- Status a stop ends its targets with (R62, R108, R107). -/
def StopWhy.status : StopWhy → Nat × List Nat
  | .abort => (0x0300, [])
  | .unravel => (0x0300, [])
  | .reset => (0x0302, [])
  | .evicted t l c p => (0x0202, [l * 64 + t, c, p, 0])

/-- Stop one target at its owning flyer (Table 2.19, R66): answers whether it was stopped; a TWIST past its commit point and a packet
that has ended are not. -/
def State.stopOne (s : State) (why : StopWhy) (id : Nat) : State × Bool :=
  match s.pkt? id with
  | none => (s, false)
  | some o =>
    if s.twistCommitted id then (s, false) else
    let s1 := ((s.collAborted id).dropEsc id)
    let s2 := if why = .abort then s1.untwist id else s1
    -- a LANE_RESERVE that is stopped while it drains reserves nothing
    let s2 := match o.job with
      | .waits (.lane h) => { s2 with dom := { s2.dom with reservations := NMap.del s2.dom.reservations h } }
      | _ => s2
    let (st, d) := why.status
    (s2.endPkt o st d, true)

/-- Stop a list of targets; answers how many were stopped and how many had passed their commit point. -/
def State.stopMany (s : State) (why : StopWhy) : List Nat → State × Nat × Nat
  | [] => (s, 0, 0)
  | id :: rest =>
    let (s1, hit) := s.stopOne why id
    let (s2, a, b) := State.stopMany s1 why rest
    if hit then (s2, a + 1, b) else (s2, a, b + 1)

/-- Forward the targets of an order to their owning flyers, those of flyer `here` excepted (R61). -/
def ordersFor (id here : Nat) (why : StopWhy) (pkts : List OutPkt) : List StopOrder :=
  (List.range 10).filterMap (fun f =>
    let ts := (pkts.filter (fun o => o.flyer = f && f ≠ here)).map (fun o => o.id)
    if ts.isEmpty then none else some ⟨id, f, why, ts, none⟩)

/-- End an ABORT that has heard of all its targets (R56). -/
def State.endAbort (s : State) (id aborted already reason : Nat) : State :=
  if 0 < aborted then s.finish id 0 [aborted, already, 0]
  else s.finish id 1 [0, already, reason]

/-- Whether a packet matches the scope of an ABORT (R56). -/
def abortMatch (p : Packet) (src : Src) (q : Packet) : Bool :=
  let scope := p.f 3 21 20
  opHasCtx q.opcode && q.ctx = p.f 3 19 8
  && (scope = 2 || src == .bobbin (p.f 3 7 0))
  && (scope ≠ 0 || q.reqTag = p.word 4)

/-- TARGET_CTX fails the context check (R56). -/
def abortCtxFails (e : Env) (s : State) : Bool :=
  match s.ctx? (e.p.f 3 19 8) with
  | none => true
  | some x => !s.mayName e.src (e.p.f 3 19 8) x

/-- ABORT (R56, R62): its targets were fixed when its doorbell landed; those of its own flyer are decided at once, the others by
forwarded orders. -/
def specAbort : OpSpec where
  code := 0x0108
  masks := fun _ => [fm [(21, 0)], full]
  ctxParam := abortCtxFails
  params := fun e s =>
    let scope := e.p.f 3 21 20
    if scope = 3 then some (badParam 3)
    else if scope ≠ 2 && !s.bobNameable e.src (e.p.f 3 7 0) then some (badParam 3) else none
  run := fun e s =>
    match s.pkt? e.id with
    | none => s
    | some me =>
      let live := s.pkts.filter (fun o => o.id ≠ e.id && decide (o.id < me.bell.1) && abortMatch e.p o.src o.pkt)
      let targets := live.filter (fun o => !o.control)
      let gone := s.q.ended.filter (fun x => decide (me.bell.2 ≤ x.seq) && decide (x.id < me.bell.1) && !x.control && abortMatch e.p x.src x.pkt)
      let reason := if !targets.isEmpty || !gone.isEmpty then 0 else if live.any (fun o => o.control) then 2 else 1
      let orders := ordersFor e.id e.flyer .abort targets
      let (s1, a, b) := s.stopMany .abort ((targets.filter (fun o => o.flyer = e.flyer)).map (fun o => o.id))
      let already := b + gone.length
      if orders.isEmpty then s1.endAbort e.id a already reason
      else
        let s2 := s1.setJob e.id (.waits (.abort a already reason))
        { s2 with q := { s2.q with stops := s2.q.stops ++ orders } }

/-- ABORT ends the matching packets that have not passed their commit points. -/
def execAbort (src : Src) (p : Packet) (s : State) : Res := .next (specAbort.exec src p s)

/-- A flyer is halted at a breakpoint (R493). -/
def State.flyerHalted (s : State) (f : Nat) : Bool := bit s.dbg.haltedFl f

/-- Carry out a stop order at its flyer and report to the packet that gave it. -/
def State.carryOut (s : State) (o : StopOrder) : State :=
  match o.bobbin with
  | some b => (s.stopBobbin b).finish o.by_ 0
  | none =>
    let (s1, a, b) := s.stopMany o.why o.targets
    match s1.pkt? o.by_ with
    | none => s1
    | some me =>
      match me.job with
      | .waits (.abort x y r) =>
        if s1.q.stops.any (fun z => z.by_ = o.by_) then s1.setJob o.by_ (.waits (.abort (x + a) (y + b) r))
        else s1.endAbort o.by_ (x + a) (y + b) r
      | _ => s1

/-- The oldest forwarded order for a flyer arrives there (R61, R62). At a halted flyer it queues behind the acknowledgements (R493). -/
def execStopOrderArrival (flyer : Nat) (s : State) : Res :=
  .next <| s.whileUp <|
    match s.q.stops.find? (fun o => o.flyer = flyer) with
    | none => s
    | some o =>
      let i := (firstIx (fun (x : StopOrder) => x.flyer = flyer) s.q.stops).getD 0
      let s1 : State := { s with q := { s.q with stops := s.q.stops.take i ++ s.q.stops.drop (i + 1) } }
      if s.flyerHalted flyer then { s1 with dbg := { s1.dbg with queuedAcks := s1.dbg.queuedAcks ++ [(o.by_, some o)] } }
      else s1.carryOut o

/-! ### Reset and teardown -/

/-- Clear the planner and solve stores of contexts: maps, plan sets and warm starts go, records stay (Tables 14.10, 15.11). -/
def State.clearStores (s : State) (who : Nat → Bool) : State :=
  { s with eng := { s.eng with
    plans := s.eng.plans.map (fun (c : Nat × PlanConfig) => (c.1, if who c.2.ctx then
      { c.2 with ready := false, map := { version := c.2.map.version }, committed := none, shadow := [], made := [], maps := [] } else c.2))
    solves := s.eng.solves.map (fun (c : Nat × SolveSys) => (c.1, if who c.2.ctx then { c.2 with valid := false, warm := none, found := [] } else c.2)) } }

/-- Clear the scratchpad contents that a context holds: its core-memory banks on every core its contents lie on, the operand buffers of
cores it ran on last, its die-shared and hub banks, and what was saved of it (Table 3.9, R109). -/
def State.clearCtx (s : State) (c : Nat) : State :=
  match NMap.get? s.dom.contexts c with
  | none => s
  | some x =>
    let onCores := (List.range 16).filter (fun k => ((s.dom.cores.getD k {}).holders).contains c)
    let banks := x.coreBanks.map (fun b => b.1) ++ (List.range x.shadowMib).map (fun i => 15 - i)
    let s1 := onCores.foldl (fun y k => banks.foldl (fun z b => z.clear (coreBase k + b * 0x100000) 0x100000) y) s
    let s2 := (onCores.filter (fun k => (s.dom.cores.getD k {}).lastCtx = some c)).foldl (fun y k => y.clear (coreBase k + 0x1000000) 0x200000) s1
    let s3 := (s.ms.banks.filter (fun b => b.2.ctx = c)).foldl (fun y b =>
      y.clear ((if b.1 / 64 = 2 then hubBase else dieBase (b.1 / 64)) + (b.1 % 64) * 0x200000) 0x200000) s2
    { s3.clearStores (fun z => z = c) with dom := { s3.dom with
        contexts := NMap.upd s3.dom.contexts c (fun z => { z with saved := [] })
        cores := s3.dom.cores.map (fun k => { k with holders := k.holders.filter (· ≠ c), lastCtx := if k.lastCtx = some c then none else k.lastCtx }) } }

/-- Unravel every draft of a context that is not past its commit point, children and parents alike (Table 3.8). -/
def State.unravelCtx (s : State) (c : Nat) (w : EndWith) : State :=
  let roots := (s.dr.drafts.filter (fun d => d.ctx = c && d.node.isNone && (match d.st with | .twisting p => !s.twistCommitted p | _ => true))).map (fun d => d.order)
  roots.foldl (fun x o => (x.unravelAll o w).1) s

/-- Set or clear the states of a context. -/
def State.setCtx (s : State) (c : Nat) (f : Context → Context) : State :=
  { s with dom := { s.dom with contexts := NMap.upd s.dom.contexts c f } }

/-- End a context's phase hint (Table 18.10). -/
def State.endHint (s : State) (c : Nat) : State := { s with tens := { s.tens with hints := s.tens.hints.filter (fun h => h.ctx ≠ c) } }

/-- The procedure that a reset and a teardown share once work has stopped: drafts unravelled, scratchpads cleared, the phase hint ended, page
budget back to 64 (Table 3.9, Table 7.2, Table 18.10). -/
def State.wipeCtx (s : State) (c : Nat) (w : EndWith) : State :=
  (((s.unravelCtx c w).clearCtx c).endHint c).setCtx c (fun x => { x with pageBudget := 64 })

/-- A context fault (Table 3.7): every outstanding packet of the context ends FENCED, drafts are unravelled, scratchpads cleared, the
context is Fenced, and the fence is reported (R107). `cause` is DETAIL2 as Table 19.11c lays it out. -/
def State.tearDown (s : State) (c cause : Nat) : State :=
  match NMap.get? s.dom.contexts c with
  | none => s
  | some x =>
    let ids := ((s.ctxPkts c).filter (fun o => !s.twistCommitted o.id)).map (fun o => o.id)
    let s1 := ids.foldl (fun y i => ((y.collAborted i).dropEsc i).finish i fenced [2, c, cause, 0]) s
    let s2 := s1.wipeCtx c ⟨fenced, [2, c, cause, 0], none⟩
    (s2.setCtx c (fun z => { z with fenced := true, resetting := false })).fence x.opener 0x0500 c 2 c cause

/-- CONTEXT_RESET (R108): no packet of the context starts from now on; work of its own flyer stops at once, other flyers by orders. -/
def specContextReset : OpSpec where
  code := 0x0502
  masks := noParams
  run := fun e s =>
    let c := e.p.ctx
    let s0 := s.setCtx c (fun x => { x with resetting := true })
    let targets := (s0.ctxPkts c).filter (fun o => o.id ≠ e.id)
    let s1 := (s0.stopMany .reset ((targets.filter (fun o => o.flyer = e.flyer)).map (fun o => o.id))).1
    let s2 := s1.setJob e.id (.waits (.reset c))
    { s2 with q := { s2.q with stops := s2.q.stops ++ ordersFor e.id e.flyer .reset targets } }

/-- CONTEXT_RESET stops the context's work; its completion follows at its commit point, once every order has arrived. -/
def execContextReset (src : Src) (p : Packet) (s : State) : Res := .next (specContextReset.exec src p s)

/-- The end of a reset, once every order has arrived and no other packet of the context is outstanding: the context is Ready (R84, R109). -/
def State.endReset (s : State) (id c : Nat) : State :=
  if s.q.stops.any (fun o => o.by_ = id) || (s.ctxPkts c).any (fun o => o.id ≠ id) then s
  else ((s.wipeCtx c ⟨0x0302, [], some id⟩).setCtx c (fun x => { x with fenced := false, resetting := false })).finish id 0

end Sys2Proof.Machine
end

