-- ==== Sys2Proof/Machine/Vault.lean ====
section
/-! DEFINITION. Shared operations of the board: the splice log (R484), CRC-32C, the anti-rollback counter (R512), signatures (R504, R505), key
slots (R508 to R511). -/

namespace Sys2Proof.Machine

/-- Write a record of the splice log (R484, Table 21.6): the next SEQ, device time, and a trace record of type SPLICE. -/
def State.spliceRec (s : State) (r : SpliceRec) : State :=
  let q := s.spl.seq
  let s1 : State := { s with spl := { s.spl with log := s.spl.log ++ [{ r with seq := q, time := s.now }], seq := (q + 1) % 65536 } }
  (s1.logIt .splice r.cls r.from_ r.to_).trace { type := 5, unitClass := r.cls, unit := r.from_, arg := q }

/-! ### CRC-32C -/

/-- One bit of the reflected Castagnoli polynomial. -/
def crcBit (c : Nat) : Nat := if c % 2 = 1 then (c / 2) ^^^ 0x82F63B78 else c / 2
/-- One byte. -/
def crcByte (c : Nat) (b : Byte) : Nat :=
  crcBit (crcBit (crcBit (crcBit (crcBit (crcBit (crcBit (crcBit (c ^^^ b.toNat))))))))
/-- CRC-32C of a byte string (reflected, initial and final inversion). -/
def crc32c (bs : List Byte) : Nat := (bs.foldl crcByte 0xFFFFFFFF) ^^^ 0xFFFFFFFF

/-! ### The anti-rollback counter -/

/-- VALUE: blown steps of all banks. -/
def Vault.value (v : Vault) : Nat := (v.banks.map (fun b => b.blown)).sum
/-- CAPACITY: steps that can still be blown. -/
def Vault.capacity (v : Vault) : Nat := 512 - v.value - (v.banks.map (fun b => b.lost)).sum
/-- Bank that receives the next step; 3 when every bank is spent. -/
def Vault.bank (v : Vault) : Nat := (firstIx (fun (b : FuseBank) => decide (b.blown + b.lost < 128)) v.banks).getD 3
/-- FUSE_STAT (Table 23.9). -/
def Vault.fuseStat (v : Vault) : Nat := v.value * 2 ^ 16 + v.bank * 2 ^ 14 + (decide (v.capacity = 0)).toNat * 2 ^ 13 + v.capacity

/-- Blow one step, or end a bank whose step fails three attempts; a bank that is then spent hands over to the next (R512). -/
def State.blowStep (s : State) : State :=
  let v := s.vault
  let i := v.bank
  let b := v.banks.getD i {}
  if 128 ≤ b.blown + b.lost then s else
  let b1 : FuseBank := if Config.fuseFails (i * 128 + b.blown) then { b with lost := 128 - b.blown } else { b with blown := b.blown + 1 }
  let s1 : State := { s with vault := { v with banks := setAt v.banks i b1 } }
  if 128 ≤ b1.blown + b1.lost && i < 3 then
    s1.spliceRec { event := 1, cls := 0x26, from_ := i, to_ := i + 1, trigger := 3 }
  else s1

/-- Raise the counter to `sv` (R512), in at most `fuel` attempts. -/
def State.raiseCounter (s : State) (sv : Nat) : Nat → State
  | 0 => s
  | n + 1 => if s.vault.value < sv && decide (0 < s.vault.capacity) then State.raiseCounter s.blowStep sv n else s

/-! ### Signatures -/

/-- Key slot `n`. -/
def State.slot (s : State) (n : Nat) : KeySlot := s.vault.slots.getD n {}
/-- Change key slot `n`. -/
def State.setSlot (s : State) (n : Nat) (f : KeySlot → KeySlot) : State :=
  { s with vault := { s.vault with slots := updAt s.vault.slots n f } }

/-- Which signatures of an object fail (R505): 0 none, 1 ECDSA, 2 ML-DSA, 3 both. `fused` is the firmware key index, none for an
owner-signed object; an empty anchor slot fails its algorithm, a revoked index both. -/
def State.sigFails (s : State) (fused : Option Nat) (msg ec ml : List Byte) : Nat :=
  match fused with
  | some i => if s.vault.revoked.contains i then 3
      else (!Config.ecdsaOk i [] msg ec).toNat + (!Config.mldsaOk i [] msg ml).toNat * 2
  | none =>
    let a := s.slot 30
    let b := s.slot 31
    (decide (a.type ≠ 3) || !Config.ecdsaOk 4 a.key msg ec).toNat + (decide (b.type ≠ 4) || !Config.mldsaOk 4 b.key msg ml).toNat * 2

/-- SIGNATURE_INVALID. -/
def signatureInvalid : Nat := 0x0502
/-- KEY_REVOKED. -/
def keyRevoked : Nat := 0x0500

/-! ### Key slots -/

/-- SLOT_STAT of a slot (Table 23.8). -/
def KeySlot.stat (k : KeySlot) : Nat := k.gen * 2 ^ 32 + k.type * 2 ^ 28 + k.use * 2 ^ 24 + k.revoking.toNat * 2 ^ 23

/-- Bytes of a key type (Table 23.3). -/
def keyBytes (type : Nat) : Nat := [0, 32, 48, 97, 1952].getD type 0

/-- USE bits that a type allows (Table 23.3). -/
def useAllowed (type : Nat) : Nat := if type = 1 then 0xB else if type = 2 then 0x4 else 0

/-- Next generation, modulo 2^32 (R510). -/
def nextGen (g : Nat) : Nat := (g + 1) % 2 ^ 32

/-- Store a key in a slot (R508, R510): its generation rises, and OOB leaves the slot that held it. -/
def State.putKey (s : State) (n type use : Nat) (key : List Byte) : State :=
  let clear (x : State) : State := if bit use 3 then
      { x with vault := { x.vault with slots := x.vault.slots.map (fun k => { k with use := k.use - k.use % 16 / 8 * 8 }) } } else x
  (clear s).setSlot n (fun k => { k with gen := nextGen k.gen, type := type, use := use, key := key })

/-- Empty a slot; its generation rises (R510). -/
def State.emptySlot (s : State) (n : Nat) : State :=
  s.setSlot n (fun k => { k with gen := nextGen k.gen, type := 0, use := 0, key := [] })

/-- Packets that hold a private copy of a slot's key (Table 23.4). -/
def State.keyUsers (s : State) (n : Nat) : List OutPkt :=
  s.pkts.filter (fun o => match o.job with
    | .work w => w.keys.contains n
    | .waits (.verify _ ks) => ks.contains n
    | _ => false)

end Sys2Proof.Machine
end

