-- ==== Sys2Proof/Machine/AgeWatch.lean ====
section
/-! DEFINITION. Distaff (chapter 19): the age watch (R445, R446), pair comparison (R454, R455), the status frame (R444), the deadline monitor (R447),
the host watchdog, machine-at-rest (R450) and the release of Safe-hold (R451). -/

namespace Sys2Proof.Machine

/-! ### Pair comparison -/

def State.setCompare (s : State) (stream : Nat) (c : PairCompare) : State := { s with saf := { s.saf with compares := NMap.put s.saf.compares stream c } }

/-- End cause 7 once no stream is diverged (Table 19.2). -/
def State.settlePairs (s : State) : State := if s.saf.compares.any (fun (c : Nat × PairCompare) => c.2.diverged) then s else s.endCause 7

/-- Whether two records agree (R454). -/
def PairCompare.agree (c : PairCompare) (a b : CompareRec) : Bool :=
  if c.mode = 0 then a.values = b.values
  else a.values.length = b.values.length && (a.values.zip b.values).all (fun (v : Nat × Nat) =>
    let x := Num.dec32 v.1
    let y := Num.dec32 v.2
    let big := if Num.lt (Num.abs x) (Num.abs y) then Num.abs y else Num.abs x
    Num.le (Num.abs (Num.sub x y)) (Num.add (Num.dec32 c.tolAbs) (Num.mul (Num.dec32 c.tolRel) big)))

/-- Two records match: their age stamps lie within MATCH_US (R454). -/
def PairCompare.matches_ (c : PairCompare) (a b : CompareRec) : Bool :=
  decide (a.stamp ≤ b.stamp + c.matchUs * 1000) && decide (b.stamp ≤ a.stamp + c.matchUs * 1000)

/-- A verdict of a matched pair (R455). -/
def State.verdictOf (s : State) (stream : Nat) (agree : Bool) : State :=
  match NMap.get? s.saf.compares stream with
  | none => s
  | some c =>
    if agree then
      let run := c.agreeRun + 1
      (s.setCompare stream { c with disagree := 0, agreeRun := run, diverged := c.diverged && decide (run < 100) }).settlePairs
    else if c.disagree + 1 < c.divN then s.setCompare stream { c with disagree := c.disagree + 1, agreeRun := 0 }
    else
      let s1 := s.setCompare stream { c with disagree := 0, agreeRun := 0, diverged := true }
      let s2 := s1.event 0 0x0B02 0x0308 0 [stream]
      ({ s2 with saf := { s2.saf with divStream := stream } }).raise 7

/-- A record of this module (`own`) or of the partner meets the other side's records. -/
def State.compareRecord (s : State) (stream : Nat) (own : Bool) (r : CompareRec) : State :=
  match NMap.get? s.saf.compares stream with
  | none => s
  | some c =>
    if c.mismatch then s else
    let other := if own then c.peer else c.own
    match other.find? (fun (x : CompareRec) => c.matches_ r x) with
    | some x =>
      let rest := other.filter (fun (y : CompareRec) => y ≠ x)
      (s.setCompare stream (if own then { c with peer := rest } else { c with own := rest })).verdictOf stream (c.agree r x)
    | none => s.setCompare stream (if own then { c with own := c.own ++ [r] } else { c with peer := c.peer ++ [r] })

/-- Send the partner a compare record of a committed result (R454). -/
def State.compareResult (s : State) (stream stamp : Nat) (payload : List Byte) : State :=
  match NMap.get? s.saf.compares stream with
  | none => s
  | some c =>
    if c.mismatch || !s.reachable c.partner then s else
    let word (i : Nat) : Nat := leNat ((payload.drop (c.first + 4 * i)).take 4)
    let values := if c.mode = 0 then [crc32c payload] else (List.range c.count).map word
    (s.plySend c.partner (.compareRec stream stamp values)).compareRecord stream true ⟨stamp, values⟩

/-- A compare record of the partner arrives. -/
def State.peerRecord (s : State) (node stream stamp : Nat) (values : List Nat) : State :=
  match NMap.get? s.saf.compares stream with
  | some c => if c.partner = node && s.reachable node then s.compareRecord stream false ⟨stamp, values⟩ else s
  | none => s

def execPairCompareRecord (node stream stamp : Nat) (values : List Nat) (s : State) : Res := .next (s.whileUp (s.peerRecord node stream stamp values))

/-- The partner's configuration check arrives: configurations that differ compare nothing, and both modules log it (Table 19.13). -/
def State.peerConfig (s : State) (node stream crc : Nat) : State :=
  let s1 : State := { s with saf := { s.saf with peerCrc := NMap.put s.saf.peerCrc stream crc } }
  match NMap.get? s.saf.compares stream with
  | some c =>
    if c.partner ≠ node then s1 else
    let bad := decide (c.crc ≠ crc)
    let s2 := s1.setCompare stream { c with mismatch := bad }
    if bad then s2.logIt .pairMismatch stream crc else s2
  | none => s1

/-- No partner record matched within MATCH_US + 2 ms of the oldest waiting result: no verdict, and a pair miss (Table 19.13). -/
def execPairMatchTimeout (stream : Nat) (s : State) : Res :=
  .next (s.whileUp (match NMap.get? s.saf.compares stream with
    | some c => (match c.own with
      | r :: rest => s.setCompare stream { c with own := rest, misses := c.misses + 1, peer := c.peer.filter (fun (x : CompareRec) => decide (r.stamp ≤ x.stamp + c.matchUs * 1000)) }
      | [] => s)
    | none => s))

def compareMasks : Packet → List Nat := fun _ => [fm [(31, 28), (21, 16), (7, 0)], full, full, full, full]

/-- A finite FP32 word of 0 or more. -/
def pairTolOk (w : Nat) : Bool := Num.le Num.zero (Num.dec32 w) && Num.isFinite (Num.dec32 w)

def specPairConfigure : OpSpec where
  code := 0x0B02
  masks := compareMasks
  params := fun e _ =>
    let p := e.p
    let v : Bool := p.f 3 29 28 = 1
    firstFail [(decide (2 ≤ p.f 3 31 30) || decide (2 ≤ p.f 3 29 28), badParam 3),
      ((if v then !pairTolOk (p.word 4) else p.word 4 ≠ 0), badParam 4), ((if v then !pairTolOk (p.word 5) else p.word 5 ≠ 0), badParam 5),
      (p.f 6 31 16 = 0 || p.f 6 15 8 = 0 || (if v then p.f 6 7 0 = 0 || decide (64 < p.f 6 7 0) else p.f 6 7 0 ≠ 0), badParam 6),
      ((if v then p.word 7 % 4 ≠ 0 else p.word 7 ≠ 0), badParam 7)]
  pre := fun e s =>
    if !NMap.has s.saf.ages (e.p.f 3 7 0) || e.p.f 3 21 16 = s.dev.node || !s.reachable (e.p.f 3 21 16) then some (badState 66) else none
  run := fun e s =>
    let p := e.p
    let n := p.f 3 7 0
    let crc := crc32c (wordBytes [p.word 3 - p.f 3 21 16 * 2 ^ 16, p.word 4, p.word 5, p.word 6, p.word 7])
    let bad := match NMap.get? s.saf.peerCrc n with | some x => decide (x ≠ crc) | none => false
    let c : PairCompare := { mode := p.f 3 29 28, partner := p.f 3 21 16, tolAbs := p.word 4, tolRel := p.word 5, matchUs := p.f 6 31 16, divN := p.f 6 15 8
                             count := p.f 6 7 0, first := p.word 7, crc := crc, mismatch := bad }
    let s1 := ((s.setCompare n c).settlePairs).plySend (p.f 3 21 16) (.compareCfg n crc)
    (if bad then s1.logIt .pairMismatch n crc else s1).done e

/-- PAIR_COMPARE_CONFIG configure (R454). -/
def execPairCompareConfigure (src : Src) (p : Packet) (s : State) : Res := .next (specPairConfigure.exec src (p.withField 3 31 30 0) s)

def specPairRemove : OpSpec where
  code := 0x0B02
  masks := compareMasks
  run := fun e s =>
    (({ s with saf := { s.saf with compares := NMap.del s.saf.compares (e.p.f 3 7 0) } }).settlePairs).done e

/-- PAIR_COMPARE_CONFIG remove ends the stream's comparison, and with it cause 7 for that stream. -/
def execPairCompareRemove (src : Src) (p : Packet) (s : State) : Res := .next (specPairRemove.exec src (p.withField 3 31 30 1) s)

/-! ### The age watch -/

def State.setAge (s : State) (n : Nat) (a : AgeStream) : State := { s with saf := { s.saf with ages := NMap.put s.saf.ages n a } }

/-- Clear a validity bit with its AGE_EXPIRED event; `age` in µs (R446). -/
def State.expire (s : State) (n : Nat) (a : AgeStream) (age : Nat) : State :=
  let s1 := ((s.setAge n { a with valid := false }).event 0 0x0B00 0x0403 0 [n, age]).trace { type := 10, unit := n, arg := age }
  { s1 with saf := { s1.saf with expired := satAdd 0xFFFF s1.saf.expired 1 } }

/-- A result of a stream is committed: its validity bit takes the result's validity (R446, Table 19.8), and the pair comparison sees it. -/
def State.ageResult (s : State) (n : Nat) (stamp : Option Nat) (payload : List Byte) : State :=
  let s1 := match stamp with | some t => s.compareResult n t payload | none => s
  match NMap.get? s1.saf.ages n with
  | none => { s1 with saf := { s1.saf with unregistered := s1.saf.unregistered + 1 } }
  | some a =>
    match (match stamp with | some t => if t ≤ s1.now then some t else none | none => none) with
    | none =>
      let s2 : State := ({ s1 with saf := { s1.saf with badResults := s1.saf.badResults + 1 } }).logIt .invalidResult n
      let a1 := { a with latest := stamp }
      -- no age is stated for such a result
      if a.valid then (s2.drawn 1).expire n a1 (Config.freeWord s2.free).toNat else s2.setAge n a1
    | some t =>
      let age := s1.now - t
      let ok := decide (age ≤ a.maxAgeUs * 1000)
      let a1 := { a with latest := some t, valid := ok }
      if a.valid && !ok then s1.expire n a1 (age / 1000) else s1.setAge n a1

/-- The periodic check: bits of results older than their maximum are cleared (R446). -/
def execAgeCheck (s : State) : Res :=
  .next (if !s.distaffRuns then s else s.saf.ages.foldl (fun (y : State) (a : Nat × AgeStream) =>
    match a.2.valid, a.2.latest with
    | true, some t => if a.2.maxAgeUs * 1000 < y.now - t then y.expire a.1 a.2 ((y.now - t) / 1000) else y
    | _, _ => y) s)

/-- Validity bit of a stream (R442, R446). -/
def State.isValid (s : State) (n : Nat) : Bool := match NMap.get? s.saf.ages n with | some a => a.valid | none => false

def ageMasks : Packet → List Nat := fun _ => [fm [(31, 29), (7, 0)], full]

def specAgeRegister : OpSpec where
  code := 0x0B00
  masks := ageMasks
  params := fun e _ =>
    firstFail [(decide (2 ≤ e.p.f 3 31 30) || (e.p.b 3 29 && e.p.f 3 7 0 ≠ 0), badParam 3),
      (decide (e.p.word 4 < 100) || decide (10000000 < e.p.word 4), badParam 4)]
  run := fun e s =>
    match (if e.p.b 3 29 then (List.range 256).find? (fun n => !NMap.has s.saf.ages n) else some (e.p.f 3 7 0)) with
    | none => s.done e noSpace [0x25]
    | some n =>
      let a : AgeStream := match NMap.get? s.saf.ages n with | some a => { a with maxAgeUs := e.p.word 4 } | none => { maxAgeUs := e.p.word 4 }
      (s.setAge n a).done e 0 [n]

/-- AGE_REGISTER registers a result stream or changes its maximum age (R445). -/
def execAgeRegister (src : Src) (p : Packet) (s : State) : Res := .next (specAgeRegister.exec src (p.withField 3 31 30 0) s)

def specAgeDeregister : OpSpec where
  code := 0x0B00
  masks := ageMasks
  params := fun e _ => if e.p.word 4 ≠ 0 then some (badParam 4) else none
  pre := fun e s => if NMap.has s.saf.ages (e.p.f 3 7 0) then none else some (badState 64)
  run := fun e s => ({ s with saf := { s.saf with ages := NMap.del s.saf.ages (e.p.f 3 7 0) } }).done e 0 [e.p.f 3 7 0]

/-- AGE_REGISTER OP 0b01 deregisters a stream and clears its validity bit. -/
def execAgeDeregister (src : Src) (p : Packet) (s : State) : Res := .next (specAgeDeregister.exec src (p.withField 3 31 30 1) s)

/-! ### Deadlines -/

/-- A fixed-lane SCHEDULE_RUN, PLAN_CYCLE or SOLVE that has not ended by its bound raises cause 8, once (R447). -/
def execDeadlineOverrun (id : Nat) (s : State) : Res :=
  .next (match s.pkt? id with
    | some o =>
      if [0x0310, 0x0701, 0x0711].contains o.pkt.opcode && s.isFixed o.pkt.ctx && o.job ≠ .held && !s.saf.overruns.contains id && s.distaffRuns then
        (({ s with saf := { s.saf with overruns := s.saf.overruns ++ [id] } }).logIt .overrun o.pkt.reqTag).raise 8
      else s
    | none => s)

/-- 10 s with no further overrun end cause 8 (Table 19.2). -/
def execOverrunClear (s : State) : Res := .next (s.whileUp ((({ s with saf := { s.saf with overruns := s.saf.overruns.filter (fun i => (s.pkt? i).isSome) } } : State)).endCause 8))

/-! ### The status frame -/

/-- The 256 validity bits as a number. -/
def State.validMap (s : State) : Nat := s.saf.ages.foldl (fun a (x : Nat × AgeStream) => if x.2.valid then a + 2 ^ (x.1 % 256) else a) 0

/-- What a change of sends a status frame (R444). -/
def State.shown (s : State) : List Nat := [s.safety.code, s.safeLow.toNat, s.saf.causes, s.validMap]

/-- The status block (Table 19.6). -/
def State.statusBlock (s : State) : List Byte :=
  leBytes 64 (2 ^ 504 + s.safety.code * 2 ^ 502 + s.power.code * 2 ^ 499 + s.dev.role.code * 2 ^ 497 + s.safeLow.toNat * 2 ^ 496 + s.safeLow.toNat * 2 ^ 495
    + s.dev.cfgDiv.toNat * 2 ^ 494 + (bit s.saf.causes 7).toNat * 2 ^ 493
    + (s.ply.table.any (fun (r : Nat × Route) => r.1 ≠ s.dev.node)).toNat * 2 ^ 492
    + (if s.dev.role = .solo then 0 else s.dev.node) * 2 ^ 480 + s.saf.causes % 2 ^ 14 * 2 ^ 452 + ts32 s.now * 2 ^ 416 + s.saf.divStream * 2 ^ 400
    + s.saf.expired * 2 ^ 384 + s.validMap)

/-- Send the status frame on a carrier: its block, the carrier's next counter, which replies share (R70), and the tag keyed from the out-of-band slot,
all zero where that slot is empty (R444, Tables 2.20, 23.6). -/
def State.sendStatus (s : State) (c : Carrier) : State :=
  let (n, s0) := s.oobNext c
  let body := s.statusBlock ++ leBytes 8 n
  let tag := match s.oobKey with | some k => leBytes 16 (Config.cmac k body) | none => List.replicate 16 0
  let s1 := s0.emit (.status c (body ++ tag))
  { s1 with saf := if c = .ve then { s1.saf with veShown := s.shown, expired := 0 } else { s1.saf with cxShown := s.shown, expired := 0 } }

/-- A carrier is enabled for the status frame (Table 19.5). -/
def State.statusOn (s : State) : Carrier → Bool
  | .ve => s.saf.veEn
  | .cx n => s.saf.cxEn && s.saf.cxPort = n
  | .mbox => false

/-- The periodic status frame of a carrier; a new PERIOD_MS takes effect from it (R444). -/
def execStatusFramePeriodic (c : Carrier) (s : State) : Res :=
  .next (if !s.statusOn c || !s.distaffRuns || s.inPause then s else
    let s1 := s.sendStatus c
    { s1 with saf := if c = .ve then { s1.saf with vePeriod := s1.saf.periodMs } else { s1.saf with cxPeriod := s1.saf.periodMs } })

/-- A change since the carrier's last frame sends one (R444). -/
def execStatusFrameChange (c : Carrier) (s : State) : Res :=
  .next (if !s.statusOn c || !s.distaffRuns || s.inPause || s.shown = (if c = .ve then s.saf.veShown else s.saf.cxShown) then s else s.sendStatus c)

/-- Write STATUS_CFG (Table 19.5). -/
def State.writeStatusCfg (s : State) (v : Nat) : State :=
  { s with saf := { s.saf with veEn := bit v 31, cxEn := bit v 30, cxPort := bits v 29 28, periodMs := min 100 (max 1 (bits v 22 16)), statusCxId := bits v 10 0 } }

def execStatusCfgWrite (who : Accessor) (v : Word) (s : State) : Res := .next (s.paged who (fun s => s.writeStatusCfg v.toNat))

/-! ### The host watchdog -/

/-- Write HOST_WD (Table 19.5): the timeout is stored clamped and applies from the next kick or setting of ENABLE; KICK restarts the timeout and ends
cause 12. -/
def State.writeHostWd (s : State) (v : Nat) : State :=
  let t := min 10000 (max 1 (bits v 15 0))
  let en := bit v 31
  let kick := bit v 30
  let run := if !en then none else if kick || !s.saf.wdEnable then some t else s.saf.wdRunning
  let s1 : State := { s with saf := { s.saf with wdEnable := en, wdTimeout := t, wdRunning := run } }
  if kick then s1.endCause 12 else s1

/-- Setting or clearing ENABLE starts or stops the watchdog. -/
def execHostWdEnable (who : Accessor) (v : Word) (s : State) : Res := .next (s.paged who (fun s => s.writeHostWd (v.toNat &&& 0x8000FFFF)))
/-- Writing KICK. -/
def execHostWdKick (who : Accessor) (v : Word) (s : State) : Res := .next (s.paged who (fun s => s.writeHostWd (v.toNat ||| 0x40000000)))

/-- The host watchdog expires: cause 12, and it waits for the next kick. -/
def execHostWdExpiry (s : State) : Res :=
  .next (match s.saf.wdRunning with
    | some _ => if !s.distaffRuns then s else (({ s with saf := { s.saf with wdRunning := none } }).logIt .hostWd).raise 12
    | none => s)

/-! ### Safe-hold by request, machine at rest -/

def safeMasks : Packet → List Nat := fun _ => [fm [(31, 30), (15, 0)]]

/-- Conditions of R451. -/
def State.mayRelease (s : State) (src : Src) : Bool :=
  src.bob = 0 && s.isAtRest && (!bit s.saf.causes 5 || s.tens.hot.isEmpty) && s.saf.causes &&& safeHoldCauses &&& fm [(4, 4), (11, 11), (13, 13)] = 0

def specSafeRelease : OpSpec where
  code := 0x0B01
  masks := safeMasks
  pre := fun e s => if s.mayRelease e.src then none else some (badState 65)
  run := fun e s => (((s.logIt .reason (e.p.f 3 15 0) 1).endCause 5).endCause 6).done e

/-- SAFE_STATE_REQUEST release ends causes 5 and 6 (R451). -/
def execSafeStateRequestRelease (src : Src) (p : Packet) (s : State) : Res := .next (specSafeRelease.exec src (p.withField 3 31 30 1) s)

/-- An assertion that ends while an activation runs is logged (Table 24.10). -/
def State.logLapse (s : State) : State := if s.upd.act.isSome && !s.isAtRest then s.logIt .update 1 else s

def specAtRest : OpSpec where
  code := 0x0B03
  masks := fun _ => [fm [(31, 31)], full]
  params := fun e _ =>
    if e.p.b 3 31 then (if e.p.word 4 = 0 || 600000 < e.p.word 4 then some (badParam 4) else none) else if e.p.word 4 ≠ 0 then some (badParam 4) else none
  run := fun e s =>
    let t := s.now + e.p.word 4 * 1000000
    (({ s with saf := { s.saf with atRest := if e.p.b 3 31 then some t else none } } : State).logLapse).done e 0 [ts32 t]

/-- AT_REST_ASSERT asserts machine-at-rest for TIMEOUT_MS (R450). -/
def execAtRestAssert (src : Src) (p : Packet) (s : State) : Res := .next (specAtRest.exec src (p.withField 3 31 31 1) s)
/-- AT_REST_ASSERT with ASSERT 0 withdraws it. -/
def execAtRestWithdraw (src : Src) (p : Packet) (s : State) : Res := .next (specAtRest.exec src (p.withField 3 31 31 0) s)

/-- The assertion lapses. -/
def execAtRestTimeout (s : State) : Res :=
  .next (s.whileUp (if s.isAtRest then (({ s with saf := { s.saf with atRest := none } } : State).logLapse) else s))

end Sys2Proof.Machine
end

