-- ==== Sys2Proof/Machine/Memory.lean ====
section
/-! DEFINITION. Family 0x02 but for the key-value pools, and the events of chapter 6: banks (R165 to R169), regions (R171 to R173, R184),
DMA (R177, R178, Table 6.13), pseudo-channels (R174, R176), die links (R180). -/

namespace Sys2Proof.Machine

/-! ### Banks -/

/-- Whether a port may own a bank of a memory (Table 6.3); 7 is release. -/
def portAllowed (memory port : Nat) : Bool :=
  port = 7 || (match memory with
    | 0 => port ≤ 4
    | 3 => port = 4 || port = 5
    | _ => port ≤ 4 || port = 6)

/-- Owner port of a bank for a context (R168). -/
def State.bankPort (s : State) (c memory bank : Nat) : Option Nat :=
  if memory = 0 then (match NMap.get? s.dom.contexts c with | some x => NMap.get? x.coreBanks bank | none => none)
  else match NMap.get? s.ms.banks ((memory - 1) * 64 + bank) with
    | some o => if o.ctx = c then some o.port else none
    | none => none

/-- Base address of a die-shared or hub bank. -/
def bankBase (memory bank : Nat) : Addr := (if memory = 3 then hubBase else dieBase (memory - 1)) + bank * 0x200000

/-- Address ranges that a packet's operation touches: its work's result writes and reads, or what it will touch once it has its cores. -/
def OutPkt.ranges (o : OutPkt) : List (Addr × Nat) :=
  match o.job with
  | .work w => w.writes.map (fun r => (r.addr, r.bytes.length)) ++ w.reads
  | .cores => o.touches
  | _ => []

/-- A queued or executing operation of the context uses a bank (precondition 15). -/
def State.bankUsed (s : State) (c memory bank : Nat) : Bool :=
  (s.ctxPkts c).any (fun o => o.ranges.any (fun r => (bankSteps r.1 r.2).any (fun a => bankOf a = some (memory, bank))))

/-- The banks that BANK_ASSIGN names. -/
def assignBanks (p : Packet) : List Nat := maskList 48 (p.word 4 + p.f 5 15 0 * 2 ^ 32)

/-- BANK_ASSIGN, with its checks in the order of R169. -/
def specBankAssign : OpSpec where
  code := 0x0202
  masks := fun _ => [fm [(10, 8), (1, 0)], full, fm [(15, 0)]]
  params := fun e _ =>
    let p := e.p
    let m := p.f 3 1 0
    firstFail [
      (!portAllowed m (p.f 3 10 8), badParam 3),
      (p.word 4 = 0 && p.f 5 15 0 = 0, badParam 4),
      ((m = 0 || m = 3) && p.f 4 31 16 ≠ 0, badParam 4),
      ((m = 0 || m = 3) && p.f 5 15 0 ≠ 0, badParam 5)]
  pre := fun e s =>
    let p := e.p
    let m := p.f 3 1 0
    let port := p.f 3 10 8
    firstFail [
      (port ≠ 7 && (assignBanks p).any (fun b => match s.bankPort p.ctx m b with | some q => q ≠ port | none => false), badState 14),
      (port = 7 && (assignBanks p).any (s.bankUsed p.ctx m), badState 15)]
  run := fun e s =>
    let p := e.p
    let c := p.ctx
    let m := p.f 3 1 0
    let port := p.f 3 10 8
    let bs := assignBanks p
    let shadow := match NMap.get? s.dom.contexts c with | some x => x.shadowMib | none => 0
    let key (b : Nat) : Nat := (m - 1) * 64 + b
    let foreign (b : Nat) : Bool := match NMap.get? s.ms.banks (key b) with | some o => o.ctx ≠ c | none => false
    let shadowNow := (s.ms.banks.filter (fun b => b.1 / 64 = m - 1 && b.2.port = 6)).length
    let added := (bs.filter (fun b => s.bankPort c m b ≠ some 6)).length
    if m = 0 && bs.any (fun b => 16 - shadow ≤ b) then s.done e noSpace [7]
    else if m ≠ 0 && bs.any foreign then s.done e noSpace [6]
    else if port = 6 && 24 < shadowNow + added then s.done e noSpace [8]
    else if m = 0 then
      (s.setCtx c (fun x => { x with coreBanks := bs.foldl (fun a b => if port = 7 then NMap.del a b else NMap.put a b port) x.coreBanks })).done e
    else
      let t := s.ctxTenant c
      -- a bank passing to another tenant is cleared first (R98, R183)
      let s1 := bs.foldl (fun x b => match NMap.get? x.ms.bankTenant (key b) with
        | some t0 => if t0 = t || port = 7 then x else x.clear (bankBase m b) 0x200000
        | none => x) s
      let ms := { s1.ms with
        banks := bs.foldl (fun a b => if port = 7 then NMap.del a (key b) else NMap.put a (key b) ⟨c, port⟩) s1.ms.banks
        bankTenant := if port = 7 then s1.ms.bankTenant else bs.foldl (fun a b => NMap.put a (key b) t) s1.ms.bankTenant }
      ({ s1 with ms := ms }).done e

/-- BANK_ASSIGN assigns banks of a memory to a port of the context, or releases them. -/
def execBankAssign (src : Src) (p : Packet) (s : State) : Res := .next (specBankAssign.exec src p s)

/-- Whether an address falls in a shadow bank of core memory of a context. -/
def State.isShadowBank (s : State) (c a : Nat) : Bool :=
  match bankOf a, NMap.get? s.dom.contexts c with
  | some (0, b), some x => decide (16 - x.shadowMib ≤ b)
  | _, _ => false

/-- Key of a bank's error counts in COUNTER_READ group 4 (Table 22.9): physical-core banks, die-shared, hub, pseudo-channels. The operand-buffer
regions, which that group does not list, follow from 528. -/
def State.memEntry (s : State) (a : Addr) : Nat :=
  match place a with
  | .coreMem k o => s.spl.map.getD k k * 16 + o / 0x100000
  | .dieShared d o => 288 + d * 48 + o / 0x200000
  | .hub o => 384 + o / 0x200000
  | .hbm k o => 400 + k * 32 + bits o 12 8
  | .weightBuf k _ => 528 + s.spl.map.getD k k * 3
  | .actBuf k _ => 529 + s.spl.map.getD k k * 3
  | .accBuf k _ => 530 + s.spl.map.getD k k * 3
  | _ => 0

/-- An access of context `c` through `port` met bank `a` in a conflict window that now ends (R165, Table 6.4): nothing in a bank that the
port owns or in a shadow bank; a bank of the context under another port tears it down with cause bank conflict; a bank not assigned to it,
with cause illegal access. -/
def execBankConflictWindowEnd (c a port : Nat) (s : State) : Res :=
  .next <| s.whileUp <|
    if s.isShadowBank c a then s else
    match s.portOf c a, bankOf a with
    | some q, some (m, b) =>
      if q = port then s else
      let core := if m = 0 then (a - 0x010000000000) / 0x2000000 else 0
      (s.bump 4 0 (s.memEntry a) 2 1 0xFFFFFFFF).tearDown c (1 + m * 2 ^ 8 + core * 2 ^ 12 + b * 2 ^ 16)
    | none, some _ => s.tearDown c 2
    | _, _ => s

/-- A handover of a bank inside a schedule takes effect at a window boundary (R167): only a bank that the context holds moves. -/
def execBankHandover (pkt memory bank port : Nat) (s : State) : Res :=
  .next <| s.whileUp <|
    match s.pkt? pkt with
    | none => s
    | some o =>
      if o.pkt.opcode ≠ 0x0310 || (s.bankPort o.pkt.ctx memory bank).isNone || !portAllowed memory port || 7 ≤ port then s else
      { s with ms := { s.ms with handovers :=
          (s.ms.handovers.filter (fun h => !(h.pkt = pkt && h.memory = memory && h.bank = bank))) ++ [⟨pkt, memory, bank, port⟩] } }

/-! ### Regions -/

/-- Map a region at a granule for a REGION_MAP packet and complete it (R171, R172). -/
def State.mapRegion (s : State) (id : Nat) (p : Packet) (stack g : Nat) : State :=
  let base := g * 0x200000
  let r : Region := ⟨p.ctx, s.ctxTenant p.ctx, base, p.word 4, p.b 3 18, p.b 3 16, p.b 3 17⟩
  ({ s with ms := { s.ms with regions := s.ms.regions ++ [r] } }).finish id 0 [base % 2 ^ 32, base / 2 ^ 32, p.word 4, stack]

/-- REGION_MAP: NO_SPACE where the quota cannot cover the region or no run exists, a wait where the only runs are being cleared (R172). -/
def specRegionMap : OpSpec where
  code := 0x0203
  masks := fun _ => [fm [(27, 24), (18, 16)], full]
  params := fun e _ =>
    let p := e.p
    firstFail [(p.f 3 27 24 = 0 || p.f 3 17 16 = 0, badParam 3), (p.word 4 = 0 || 11904 < p.word 4, badParam 4)]
  run := fun e s =>
    let p := e.p
    let t := s.ctxTenant p.ctx
    let quota := match s.tenant? t with | some x => x.quotaBytes | none => 0
    if quota < s.hbmUsed t + p.word 4 * 0x200000 then s.done e noSpace [3]
    else match s.findRun (p.f 3 27 24) (p.word 4) true with
      | some (k, g) => s.mapRegion e.id p k g
      | none =>
        if (s.findRun (p.f 3 27 24) (p.word 4) false).isSome then s.setJob e.id (.waits .region)
        else s.done e noSpace [4]

/-- REGION_MAP maps a cleared HBM region in the lowest allowed stack. -/
def execRegionMap (src : Src) (p : Packet) (s : State) : Res := .next (specRegionMap.exec src p s)

/-- Waiting REGION_MAP packets, in order, take the runs that have become clear (R172). -/
def State.retryRegions (s : State) : List OutPkt → State
  | [] => s
  | o :: rest =>
    match o.job with
    | .waits .region =>
      (match s.findRun (o.pkt.f 3 27 24) (o.pkt.word 4) true with
       | some (k, g) => State.retryRegions (s.mapRegion o.id o.pkt k g) rest
       | none => State.retryRegions s rest)
    | _ => State.retryRegions s rest

/-- The oldest run being cleared is clear: it reads zeros and returns to the free pool; a waiting REGION_MAP may complete (R184). -/
def execHbmClearDone (s : State) : Res :=
  .next <| s.whileUp <|
    match s.ms.clearing with
    | [] => s
    | (base, n) :: rest =>
      let s1 := s.clear base (n * 0x200000)
      let s2 : State := { s1 with ms := { s1.ms with clearing := rest } }
      s2.retryRegions s2.pkts

/-- An operation in flight reads or writes a range (precondition 16). -/
def State.inFlight (s : State) (a n : Nat) : Bool :=
  s.pkts.any (fun o => o.ranges.any (fun r => overlap r.1 r.2 a n)
    || (match o.job with | .work w => w.frames.any (fun f => (match NMap.get? s.kv f.1 with
        | some k => k.regions.any (fun b => overlap b (k.granules * 0x200000) a n) | none => false)) | _ => false))

/-- Region of exactly this base that a context mapped. -/
def State.regionAt? (s : State) (c base : Nat) : Option Region := s.ms.regions.find? (fun r => r.ctx = c && r.base = base)

def specRegionUnmap : OpSpec where
  code := 0x0204
  masks := fun _ => addrMasks
  params := fun e s => if (s.regionAt? e.p.ctx (e.p.addr 3)).isNone then some (badParam 3) else none
  pre := fun e s =>
    match s.regionAt? e.p.ctx (e.p.addr 3) with
    | none => none
    | some r => firstFail [(s.inFlight r.base r.size, badState 16),
        (s.kv.any (fun k => k.2.regions.any (fun b => decide (r.base ≤ b) && decide (b < r.base + r.size)) && !k.2.seqs.isEmpty), badState 31)]
  run := fun e s =>
    let base := e.p.addr 3
    match s.regionAt? e.p.ctx base with
    | none => s.done e
    | some r =>
      let s1 : State := { s with kv := s.kv.filter (fun k => !(k.2.regions.any (fun b => decide (r.base ≤ b) && decide (b < r.base + r.size)))) }
      (s1.unmapRegions (fun x => x.ctx = e.p.ctx && x.base = base)).done e

/-- REGION_UNMAP (R173, preconditions 16 and 31). -/
def execRegionUnmap (src : Src) (p : Packet) (s : State) : Res := .next (specRegionUnmap.exec src p s)

/-! ### DMA -/

/-- A DMA descriptor as its twelve words (Table 6.9). -/
abbrev Desc := List Nat

def Desc.w (d : Desc) (i : Nat) : Nat := d.getD i 0
def Desc.src (d : Desc) : Addr := Desc.w d 0 + bits (Desc.w d 1) 15 0 * 2 ^ 32
def Desc.dst (d : Desc) : Addr := Desc.w d 2 + bits (Desc.w d 3) 15 0 * 2 ^ 32
def Desc.rowBytes (d : Desc) : Nat := Desc.w d 4
def Desc.rows (d : Desc) : Nat := bits (Desc.w d 5) 31 16
def Desc.convert (d : Desc) : Bool := bit (Desc.w d 8) 31
def Desc.srcFmt (d : Desc) : Nat := bits (Desc.w d 8) 27 24
def Desc.dstFmt (d : Desc) : Nat := bits (Desc.w d 8) 23 20
def Desc.round (d : Desc) : Nat := bits (Desc.w d 8) 19 18
def Desc.sat (d : Desc) : Bool := bit (Desc.w d 8) 17
/-- Elements of a row. -/
def Desc.elems (d : Desc) : Nat := Desc.rowBytes d * 8 / Num.width (Desc.srcFmt d)
/-- Destination bytes of a row. -/
def Desc.dstRow (d : Desc) : Nat := if Desc.convert d then Num.rowBytes (Desc.dstFmt d) (Desc.elems d) else Desc.rowBytes d
/-- Row starts. -/
def Desc.srcAt (d : Desc) (r : Nat) : Addr := Desc.src d + r * Desc.w d 6
def Desc.dstAt (d : Desc) (r : Nat) : Addr := Desc.dst d + r * Desc.w d 7

/-- Masks of the defined bits of a descriptor (Table 6.9): the conversion fields are reserved with CONVERT 0 (R177). -/
def descMasks (d : Desc) : List Nat :=
  addrMasks ++ addrMasks ++ [full, fm [(31, 16)], full, full] ++ (if Desc.convert d then [fm [(31, 31), (27, 17)], full] else [fm [(31, 31)], 0]) ++ [0, 0]

/-- First 64-byte boundary at or after an address. -/
def up64 (a : Nat) : Nat := (a + 63) / 64 * 64

/-- End of the source elements, and of the destination elements. -/
def Desc.srcEnd (d : Desc) : Addr := Desc.srcAt d (Desc.rows d - 1) + Desc.rowBytes d
def Desc.dstEnd (d : Desc) : Addr := Desc.dstAt d (Desc.rows d - 1) + Desc.dstRow d

/-- The ranges a descriptor reads, row by row, then its scale array (R177). -/
def Desc.reads (d : Desc) : List (Addr × Nat) :=
  (List.range (Desc.rows d)).map (fun r => (Desc.srcAt d r, Desc.rowBytes d))
  ++ (if Desc.convert d && Num.scaled (Desc.srcFmt d) then [(up64 (Desc.srcEnd d), Desc.rows d * (Desc.elems d / 32))] else [])

/-- The ranges a descriptor writes. -/
def Desc.writes (d : Desc) : List (Addr × Nat) :=
  (List.range (Desc.rows d)).map (fun r => (Desc.dstAt d r, Desc.dstRow d))
  ++ (if Desc.convert d && Num.scaled (Desc.dstFmt d) then [(up64 (Desc.dstEnd d), Desc.rows d * (Desc.elems d / 32))] else [])

/-- A descriptor's parameters out of range: the word of the descriptor that carries the fault (R177, Table 6.9). -/
def descBadWord (d : Desc) : Option Nat :=
  let cv := Desc.convert d
  let w := Num.width (Desc.srcFmt d)
  let whole := if w = 6 then Desc.rowBytes d % 3 = 0 else Desc.rowBytes d * 8 % w = 0
  if Desc.rowBytes d = 0 || 67108864 < Desc.rowBytes d then some 4
  else if cv && !whole then some 4
  else if cv && (Num.scaled (Desc.srcFmt d) || Num.scaled (Desc.dstFmt d)) && Desc.elems d % 32 ≠ 0 then some 4
  else if Desc.rows d = 0 then some 5
  else if 1 < Desc.rows d && Desc.w d 6 < Desc.rowBytes d then some 6
  else if 1 < Desc.rows d && Desc.w d 7 < Desc.dstRow d then some 7
  else if cv && (12 < Desc.srcFmt d || !Num.isOut (Desc.dstFmt d) || Desc.round d = 3) then some 8
  else if (Desc.reads d).any (fun a => (Desc.writes d).any (fun b => overlap a.1 a.2 b.1 b.2)) then some 2
  else none

/-- First range of a descriptor that lies outside what the context may use (R178). -/
def State.descBadAddr (s : State) (c : Nat) (d : Desc) : Option Addr :=
  match (Desc.reads d).find? (fun r => !s.dmaAddr c r.1 r.2 false) with
  | some r => some r.1
  | none => ((Desc.writes d).find? (fun r => !s.dmaAddr c r.1 r.2 true)).map (fun r => r.1)

/-- Scratchpad ranges lie in banks owned by the context's DMA port (precondition 17). -/
def State.dmaPortOk (s : State) (c : Nat) (rs : List (Addr × Nat)) : Bool :=
  rs.all (fun r => !isBanked r.1 || s.portsOk c r.1 r.2 [4])

/-- A drafted write may go to a range: core memory, or die shared memory with shadow banks, or a peer's window (Table 7.1, R190). -/
def State.shadowed (s : State) (c : Nat) (a : Addr) : Bool :=
  match place a with
  | .coreMem k _ => decide (0 < s.capacity c (.core k))
  | .dieShared d _ => decide (0 < s.shadowBanks c d)
  | .remote _ _ => true
  | _ => false

/-- Reader of bytes for a packet: what has been received of remote sources, then what the packet sees. -/
def State.reader (s : State) (p : Packet) (staged : List (Nat × Byte)) : Addr → Byte :=
  let ch := s.chain p.ctx p.level p.tag
  fun a => match staged.find? (fun c => c.1 = a) with
    | some c => c.2
    | none => s.byteSeen ch a

/-- Bytes through a reader. -/
def readBytes (rd : Addr → Byte) (a n : Nat) : List Byte := (List.range n).map (fun i => rd (a + i))

/-- Values of row `r` of a converting descriptor. -/
def descRowVals (rd : Addr → Byte) (d : Desc) (r : Nat) : List Num.Val :=
  let bs := readBytes rd (Desc.srcAt d r) (Desc.rowBytes d)
  let n := Desc.elems d
  if Num.scaled (Desc.srcFmt d) then
    let sc := readBytes rd (up64 (Desc.srcEnd d) + r * (n / 32)) (n / 32)
    (List.range n).map (fun i => Num.scaledVal (Desc.srcFmt d) (Num.elemAt (Desc.srcFmt d) bs i) (sc.getD (i / 32) 0).toNat)
  else (List.range n).map (fun i => Num.plainVal (Desc.srcFmt d) (Num.elemAt (Desc.srcFmt d) bs i))

/-- A converted row: element bytes, scale bytes, NaN and saturation events. -/
structure RowOut where
  bytes : List Byte
  scales : List Byte := []
  nan : Nat := 0
  sat : Nat := 0

/-- Convert the values of a row to an output format, element `i` of it being element `first + i` of the operation (R119, R124 to R126). -/
def convertRow (fmt round seed row first : Nat) (satFlag : Bool) (vs : List Num.Val) : RowOut :=
  if Num.scaled fmt then
    let blocks := (Num.chunks 32 vs.length vs).zipIdx.map (fun b =>
      Num.toBlock (Num.fpOf fmt) (fun i => Num.modeOf round seed row (first + b.2 * 32 + i)) satFlag b.1)
    { bytes := Num.pack fmt (blocks.flatMap (fun b => b.enc)), scales := blocks.map (fun b => BitVec.ofNat 8 b.scaleByte)
      nan := (blocks.map (fun b => b.nan)).sum, sat := (blocks.map (fun b => b.sat)).sum }
  else
    let t := (Num.elem fmt).getD (.int 8)
    let cs := vs.zipIdx.map (fun v => Num.toElem t (Num.modeOf round seed row (first + v.2)) satFlag v.1)
    { bytes := Num.pack fmt (cs.map (fun c => c.enc)), nan := (cs.map (fun c => c.nan)).sum, sat := (cs.map (fun c => c.sat)).sum }

/-- Result writes of a descriptor with its NaN and saturation counts (R177, R178). The key of stochastic rounding is SEED with the element
index (Table 6.9, R125). -/
def descOut (rd : Addr → Byte) (d : Desc) : List ResWrite × Nat × Nat :=
  if Desc.convert d then
    let n := Desc.elems d
    let rows := (List.range (Desc.rows d)).map (fun r => convertRow (Desc.dstFmt d) (Desc.round d) (Desc.w d 9) 0 (r * n) (Desc.sat d) (descRowVals rd d r))
    let ws := rows.zipIdx.map (fun r => (⟨Desc.dstAt d r.2, r.1.bytes⟩ : ResWrite))
    let sc := if Num.scaled (Desc.dstFmt d) then [(⟨up64 (Desc.dstEnd d), rows.flatMap (fun r => r.scales)⟩ : ResWrite)] else []
    (ws ++ sc, (rows.map (fun r => r.nan)).sum, (rows.map (fun r => r.sat)).sum)
  else ((List.range (Desc.rows d)).map (fun r => ⟨Desc.dstAt d r, readBytes rd (Desc.srcAt d r) (Desc.rowBytes d)⟩), 0, 0)

/-- DETAIL3 of the format counts (Table 4.9). -/
def evWord (nan sat : Nat) : Nat := min nan 0xFFFF * 2 ^ 16 + min sat 0xFFFF

/-- Poisoned words and lines in a list of ranges. -/
def poisonedIn (poison : List Nat) (rs : List (Addr × Nat)) : List Nat :=
  rs.flatMap (fun r => (eccUnits r.1 r.2).filter (fun u => poison.contains u))

/-- Poisoned source data make the destination poisoned (Table 6.13): byte for byte for a plain copy, the whole row for a converted one. -/
def descPoison (poison : List Nat) (d : Desc) : List Nat :=
  (List.range (Desc.rows d)).flatMap (fun r =>
    let bad := (eccUnits (Desc.srcAt d r) (Desc.rowBytes d)).filter (fun u => poison.contains u)
    if bad.isEmpty then [] else
    if Desc.convert d then eccUnits (Desc.dstAt d r) (Desc.dstRow d)
    else bad.flatMap (fun u =>
      let lo := max u (Desc.srcAt d r) - Desc.srcAt d r
      let hi := min (u + eccSize u) (Desc.srcAt d r + Desc.rowBytes d) - Desc.srcAt d r
      eccUnits (Desc.dstAt d r + lo) (hi - lo)))

/-- A reader that sees result writes before what it read until now. -/
def afterWrites (rd : Addr → Byte) (ws : List ResWrite) : Addr → Byte := fun a =>
  match ws.find? (fun w => decide (w.addr ≤ a) && decide (a < w.addr + w.bytes.length)) with
  | some w => w.bytes.getD (a - w.addr) 0
  | none => rd a

/-- What one entry of a DMA list does: its writes, its NaN and saturation counts, what of its source is poisoned, what of its destination it poisons. -/
structure DescRun where
  writes : List ResWrite
  nan : Nat
  sat : Nat
  src : List Nat
  dst : List Nat

/-- Entries run in list order, so each reads what the ones before it wrote (R178). -/
def runDescs (rd : Addr → Byte) (poison : List Nat) : List Desc → List DescRun
  | [] => []
  | d :: ds =>
    let o := descOut rd d
    let dst := descPoison poison d
    let left := o.1.foldl (fun q w => poisonAfter q w.addr w.bytes.length) poison
    ⟨o.1, o.2.1, o.2.2, poisonedIn poison (Desc.reads d), dst⟩ :: runDescs (afterWrites rd o.1) (dst ++ left) ds

/-- A poisoned word or line that a packet consumes is data of its context alone: in one of its banks, or in an HBM region that is not TENANT_WIDE
(Table 3.7, Table 6.14). -/
def State.ownLine (s : State) (c l : Nat) : Bool :=
  match place l with
  | .hbm _ _ => (match s.region? c l 64 with | some r => !r.wide | none => false)
  | _ => true

/-- What stays poisoned at the destinations: a later entry that writes a word or line whole clears it (Table 6.14). -/
def poisonLeft : List DescRun → List Nat
  | [] => []
  | r :: rs => (rs.flatMap DescRun.writes).foldl (fun q w => poisonAfter q w.addr w.bytes.length) r.dst ++ poisonLeft rs

/-- Poisoned words and lines of memory in a list of ranges. -/
def State.poisonIn (s : State) (rs : List (Addr × Nat)) : List Nat := poisonedIn s.ms.poison rs

/-- What consuming poison does at the end of an operation (Table 6.13, Table 6.14). -/
def State.poisonAfters (s : State) (c : Nat) (src : List Nat) (dst : List Nat) : List After :=
  (if dst.isEmpty then [] else [.poison dst]) ++ (if src.any (s.ownLine c) then [.dataLoss] else [])

/-- Descriptors of a DMA_COPY: the one in the packet, or the entries of its list as the packet sees them (Table 6.10). -/
def State.descs (s : State) (p : Packet) : List Desc :=
  if p.b 3 31 then
    (List.range (p.f 3 12 0)).map (fun i => bytesWords 12 (s.see p (p.addr 4 + 64 * i) 48))
  else [(List.range 12).map (fun i => p.word (4 + i))]

/-- The words of a list entry, reserved bytes 48 to 63 included. -/
def State.listEntry (s : State) (p : Packet) (i : Nat) : List Nat := bytesWords 16 (s.see p (p.addr 4 + 64 * i) 64)

/-- A reserved bit in a list entry: word and bits. -/
def entryReserved (ws : List Nat) : Option (Nat × Nat) :=
  ((ws.zip (descMasks ws ++ [0, 0, 0, 0])).zipIdx).findSome? (fun x =>
    let b := x.1.1 &&& (full ^^^ x.1.2)
    if b = 0 then none else some (x.2, b))

/-- A rejection of list entry `i` carries its index in DETAIL3 (R178). -/
def Rej.atEntry (r : Rej) (i : Nat) : Rej := { r with d := [r.d.getD 0 0, r.d.getD 1 0, 0, i] }

/-- Checks of the entries of a DMA_COPY, by kind of check and then by entry (R178, Table 2.12). -/
def State.dmaParams (s : State) (p : Packet) : Option Rej :=
  let c := p.ctx
  if p.b 3 31 then
    let n := p.f 3 12 0
    if n = 0 || 4096 < n then some (badParam 3)
    else if p.f 4 5 0 ≠ 0 then some (badParam 4)
    else
      let la := p.addr 4
      let listOk := match place la with
        | .hbm _ _ => s.hbmOk c la (64 * n) false
        | .hub _ => s.portsOk c la (64 * n) [4, 5]
        | _ => false
      if !listOk then some (badAddr la) else
      let ds := s.descs p
      match (List.range n).findSome? (fun i => (entryReserved (s.listEntry p i)).map (fun x => (i, x))) with
      | some (i, w, b) => some ((⟨0x0101, [w, b]⟩ : Rej).atEntry i)
      | none =>
        match ds.zipIdx.findSome? (fun d => (descBadWord d.1).map (fun w => (d.2, w))) with
        | some (i, w) => some ((badParam w).atEntry i)
        | none =>
          match ds.zipIdx.findSome? (fun d => (s.descBadAddr c d.1).map (fun a => (d.2, a))) with
          | some (i, a) => some ((badAddr a).atEntry i)
          | none => none
  else if p.f 3 12 0 ≠ 0 then some (badParam 3)
  else
    match s.descs p with
    | [d] =>
      (match descBadWord d with
       | some w => some (badParam (4 + w))
       | none => (s.descBadAddr c d).map badAddr)
    | _ => none

/-- NO_ROUTE_YET. -/
def noRouteYet : Nat := 0x0205

/-- How a packet that names nodes ends where it cannot run: PEER_LOST for one that is leaving (R405), NO_ROUTE_YET for one that the active table does
not reach (R399). -/
def State.noRouteTo (s : State) (ns : List Nat) : Option (Nat × List Nat) :=
  ns.findSome? (fun n =>
    if (match NMap.get? s.ply.db n with | some r => r.leaving | none => false) then some (0x0304, [n, 1])
    else if s.reachable n then none else some (noRouteYet, [n]))
def State.noRoute (s : State) (as : List Addr) : Option (Nat × List Nat) := s.noRouteTo (as.filterMap remoteNode)

/-- A range in pieces of at most 8,192 bytes, the payload of one ply frame (R392). -/
def rangePieces (r : Addr × Nat) : List (Addr × Nat) := (List.range (ceilDiv r.2 8192)).map (fun i => (r.1 + i * 8192, min 8192 (r.2 - i * 8192)))
def ResWrite.pieces (w : ResWrite) : List ResWrite :=
  (List.range (ceilDiv w.bytes.length 8192)).map (fun i => ⟨w.addr + i * 8192, (w.bytes.drop (i * 8192)).take 8192⟩)

/-- Send the remote result writes of a packet as WRITE frames; each awaits its acknowledgement (R410). -/
def State.sendWrites (s : State) (id : Nat) (p : Packet) (ws : List ResWrite) : State :=
  (ws.flatMap ResWrite.pieces).foldl (fun x w =>
    match place w.addr with
    | .remote node off =>
      let tag := x.ply.nextTag
      let x1 := x.plySend node (.write off tag (x.ctxTenant p.ctx) p.ctx p.tag p.level w.bytes)
      { x1 with ply := { x1.ply with nextTag := (tag + 1) % 65536, remote := x1.ply.remote ++ [⟨tag, some id, node, false, w.addr, w.bytes.length⟩] } }
    | _ => x) s

/-- Send read requests for remote source ranges. -/
def State.sendReads (s : State) (id : Nat) (p : Packet) (rs : List (Addr × Nat)) : State :=
  (rs.flatMap rangePieces).foldl (fun x r =>
    match place r.1 with
    | .remote node off =>
      let tag := x.ply.nextTag
      let x1 := x.plySend node (.readReq off tag (x.ctxTenant p.ctx) p.ctx r.2)
      { x1 with ply := { x1.ply with nextTag := (tag + 1) % 65536, remote := x1.ply.remote ++ [⟨tag, some id, node, true, r.1, r.2⟩] } }
    | _ => x) s

/-- The peers that a drafted write of a packet reaches now hold writes of its draft (R209). -/
def State.notePeers (s : State) (p : Packet) (as : List Addr) : State :=
  if p.level = 0 then s else
  let nodes := (as.filterMap remoteNode).eraseDups
  match s.draftOrder? p with
  | none => s
  | some o => s.setDraft o (fun d => { d with peers := (d.peers ++ nodes).eraseDups })

/-- The work of copy descriptors whose sources are all at hand. -/
def State.dmaWork (s : State) (p : Packet) (ds : List Desc) (staged : List (Nat × Byte)) : Work :=
  let runs := runDescs (s.reader p staged) s.ms.poison ds
  let nan := (runs.map DescRun.nan).sum
  let sat := (runs.map DescRun.sat).sum
  let conv := ds.any Desc.convert
  let src := runs.flatMap DescRun.src
  { writes := runs.flatMap DescRun.writes
    reads := ds.flatMap Desc.reads
    status := if src.isEmpty then 0 else fenced
    details := if src.isEmpty then (if conv then [0, 0, 0, evWord nan sat] else []) else dataLossDetails p.ctx
    after := ((ds.zip runs).filter (fun x => Desc.convert x.1)).map (fun x =>
        .ops (48 + Desc.dstFmt x.1) (Desc.rows x.1 * Desc.elems x.1) 0 x.2.nan x.2.sat)
      ++ s.poisonAfters p.ctx src (poisonLeft runs) }

/-- Start a DMA transfer: remote sources are requested first, remote destinations are written with acknowledgement (R410). -/
def State.startDma (s : State) (e : Env) (ds : List Desc) : State :=
  match s.noRoute (ds.flatMap (fun d => [Desc.src d, Desc.dst d])) with
  | some r => s.done e r.1 r.2
  | none =>
    let rem := (ds.flatMap Desc.reads).filter (fun r => (remoteNode r.1).isSome)
    let s1 := s.notePeers e.p (ds.map Desc.dst)
    if rem.isEmpty then
      let w := s1.dmaWork e.p ds []
      let s2 := s1.startWork e { w with sent := true }
      if (s2.pkt? e.id).isSome then s2.sendWrites e.id e.p w.writes else s2
    else
      let w : Work := { writes := (ds.flatMap Desc.writes).map (fun r => ⟨r.1, List.replicate r.2 0⟩), reads := ds.flatMap Desc.reads, dma := ds }
      let s2 := s1.startWork e w
      if (s2.pkt? e.id).isSome then s2.sendReads e.id e.p rem else s2

def specDmaCopy : OpSpec where
  code := 0x0200
  masks := fun p =>
    if p.b 3 31 then [fm [(31, 31), (12, 0)]] ++ addrMasks
    else [fm [(31, 31), (12, 0)]] ++ descMasks ((List.range 12).map (fun i => p.word (4 + i)))
  params := fun e s => s.dmaParams e.p
  draft := some (fun e s => (s.descs e.p).all (fun d => (Desc.writes d).all (fun r => s.shadowed e.p.ctx r.1)))
  pre := fun e s =>
    match (s.descs e.p).zipIdx.find? (fun d => !s.dmaPortOk e.p.ctx (Desc.reads d.1 ++ Desc.writes d.1)) with
    | some d => some (if e.p.b 3 31 then (badState 17).atEntry d.2 else badState 17)
    | none => none
  run := fun e s => s.startDma e (s.descs e.p)

/-- DMA_COPY checks its descriptors, then copies and optionally converts rows (R177, R178). -/
def execDmaCopy (src : Src) (p : Packet) (s : State) : Res := .next (specDmaCopy.exec src p s)

/-- LENGTH of DMA_FILL. -/
def fillLen (p : Packet) : Nat := p.word 6 + p.f 7 7 0 * 2 ^ 32
/-- Pattern width in bytes. -/
def fillWidth (p : Packet) : Nat := 2 ^ p.f 3 1 0

def specDmaFill : OpSpec where
  code := 0x0201
  masks := fun p => [fm [(1, 0)]] ++ addrMasks ++ [full, fm [(7, 0)]] ++
    (match p.f 3 1 0 with | 0 => [0xFF, 0] | 1 => [0xFFFF, 0] | 2 => [full, 0] | _ => [full, full])
  params := fun e s =>
    let p := e.p
    firstFail [(p.addr 4 % fillWidth p ≠ 0, badParam 4), (fillLen p = 0 || fillLen p % fillWidth p ≠ 0, badParam 6),
      (!s.dmaAddr p.ctx (p.addr 4) (fillLen p) true, badAddr (p.addr 4))]
  draft := some (fun e s => s.shadowed e.p.ctx (e.p.addr 4))
  pre := fun e s => if s.dmaPortOk e.p.ctx [(e.p.addr 4, fillLen e.p)] then none else some (badState 17)
  run := fun e s =>
    let p := e.p
    let pat := leBytes (fillWidth p) (p.word 8 + p.word 9 * 2 ^ 32)
    let w : Work := { writes := [⟨p.addr 4, (List.range (fillLen p)).map (fun i => pat.getD (i % fillWidth p) 0)⟩], sent := true }
    match s.noRoute [p.addr 4] with
    | some r => s.done e r.1 r.2
    | none =>
      let s2 := (s.notePeers p [p.addr 4]).startWork e w
      if (s2.pkt? e.id).isSome then s2.sendWrites e.id p w.writes else s2

/-- DMA_FILL fills a range with a pattern of 1, 2, 4 or 8 bytes (Table 6.11). -/
def execDmaFill (src : Src) (p : Packet) (s : State) : Res := .next (specDmaFill.exec src p s)

/-! ### Die links -/

/-- A die-link flit fails its CRC and is retried (R180). Modules are named die × 16 + module (Table 19.11c). -/
def execFlitCrcFail (module : Nat) (s : State) : Res :=
  .next (s.whileUp (let m := NMap.getD s.ms.links module {}
    if m.fenced then s else { s with ms := { s.ms with links := NMap.put s.ms.links module { m with retries := m.retries + 1 } } }))

/-- A module's retry rate exceeds 1 in 10^6: a lane is repaired onto a redundant lane, or, where none is left, the module is fenced (R180). -/
def execDieLinkRetryThreshold (module : Nat) (laneLeft : Bool) (s : State) : Res :=
  .next <| s.whileUp <|
    let m := NMap.getD s.ms.links module {}
    if m.fenced then s
    else if laneLeft then
      ({ s with ms := { s.ms with links := NMap.put s.ms.links module { m with lanesUsed := m.lanesUsed + 1 } } }).logIt .laneRepair module
    else ({ s with ms := { s.ms with links := NMap.put s.ms.links module { m with fenced := true } } }).fence 0 0 0 6 module 1

end Sys2Proof.Machine
end

