-- ==== Sys2Proof/Machine/Cores.lean ====
section
/-! DEFINITION. Cores as shared operations: which cores a packet may use (R93, R103, R155), waiting and the 5 ms hold (R94, R95), the switch of a
core between contexts and the clearing between tenants (R96 to R98). -/

namespace Sys2Proof.Machine

/-- The logical core `k`. -/
def State.core (s : State) (k : Nat) : Core := s.dom.cores.getD k {}

/-- Change logical core `k`. -/
def State.setCore (s : State) (k : Nat) (f : Core → Core) : State :=
  { s with dom := { s.dom with cores := updAt s.dom.cores k f } }

/-- A core that some reservation holds (R100). -/
def State.inFixed (s : State) (k : Nat) : Bool := s.dom.reservations.any (fun r => bit r.2.coreMask k)

/-- A core that context `c` may run on: in its CORE_MASK, not fenced, in the fixed lane exactly when the context is, and then in the
context's reservation (R93, R155). -/
def State.eligible (s : State) (c k : Nat) : Bool :=
  match NMap.get? s.dom.contexts c with
  | none => false
  | some x =>
    bit x.coreMask k && decide (k < 16) && !(s.core k).fenced &&
    (if x.fixed then (match NMap.get? s.dom.reservations x.reservation with | some r => bit r.coreMask k | none => false)
     else !s.inFixed k)

/-- A waiting packet `w` comes before packet `id` at a core: it has waited 5 ms, and `id` has not, or began to wait later (R95). -/
def before (ws : List CoreWait) (id : Nat) (w : CoreWait) : Bool :=
  w.limit && w.pkt ≠ id &&
  (match ws.find? (fun x => x.pkt = id) with
   | some x => !x.limit || decide (w.since < x.since) || (w.since = x.since && decide (w.pkt < x.pkt))
   | none => true)

/-- Core `k` is free for packet `id`: nothing executes on it, it is not being spliced (R478), and it is not held for a packet that has waited 5 ms. -/
def State.freeFor (s : State) (id k : Nat) : Bool :=
  (s.core k).busy.isNone && !(s.spl.splices.any (fun x => x.logical = k)) && !(s.dom.waits.any (fun w => before s.dom.waits id w && w.want.contains k))

/-- Byte ranges of a core that belong to context `c`: its core-memory banks and its shadow banks (R168, R192). -/
def State.coreRanges (s : State) (c k : Nat) : List (Addr × Nat) :=
  match NMap.get? s.dom.contexts c with
  | none => []
  | some x => (x.coreBanks.map (fun (b : Nat × Nat) => b.1) ++ (List.range x.shadowMib).map (fun i => 15 - i)).map (fun (b : Nat) => (coreBase k + b * 0x100000, 0x100000))

/-- Operand buffers of a core (Table 6.2). -/
def bufferRange (k : Nat) : Addr × Nat := (coreBase k + 0x1000000, 0x200000)

/-- Listed bytes within ranges. -/
def cellsIn (m : List Host.Cell) (rs : List (Addr × Nat)) : List (Nat × Byte) :=
  m.filter (fun c => rs.any (fun r => decide (r.1 ≤ c.1) && decide (c.1 < r.1 + r.2)))

/-- Ranges of core `k` that context `h` has saved. -/
def State.savedRanges (s : State) (h k : Nat) : List (Addr × Nat) :=
  match NMap.get? s.dom.contexts h with
  | some x => (x.saved.filter (fun v => v.core = k)).flatMap (fun v => v.ranges)
  | none => []

/-- Save ranges of context `h` on core `k` to its save area (R82, R96), those already saved excepted. -/
def State.saveOff (s : State) (h k : Nat) (rs : List (Addr × Nat)) : State :=
  let todo := rs.filter (fun r => !(s.savedRanges h k).contains r)
  s.setCtx h (fun x => { x with saved := x.saved ++ [⟨k, todo, cellsIn s.mem todo⟩] })

/-- Bring back what a context saved of core `k`. -/
def State.restore (s : State) (c k : Nat) : State :=
  match NMap.get? s.dom.contexts c with
  | none => s
  | some x =>
    let vs := x.saved.filter (fun v => v.core = k)
    let s1 := (vs.flatMap (fun v => v.ranges)).foldl (fun y r => y.clear r.1 r.2) s
    let s2 : State := { s1 with mem := (vs.flatMap (fun v => v.cells)).foldl (fun m b => memPut m b.1 b.2) s1.mem }
    s2.setCtx c (fun y => { y with saved := y.saved.filter (fun z => z.core ≠ k) })

/-- The switch of one claimed core to context `c` (R96, R98, R168): other contexts' contents in the banks of its map and in the operand
buffers are saved; contents of another tenant are saved and cleared whole; the incoming context's own saved contents return. -/
def State.switchCore (s : State) (c k : Nat) : State :=
  let others := (s.core k).holders.filter (· ≠ c)
  let mine := s.coreRanges c k
  let last := (s.core k).lastCtx
  let foreign := others.filter (fun h => s.ctxTenant h ≠ s.ctxTenant c)
  let ranges (h : Nat) : List (Addr × Nat) :=
    (s.coreRanges h k).filter (fun r => foreign.contains h || mine.contains r) ++ (if last = some h then [bufferRange k] else [])
  let s1 := others.foldl (fun y h => y.saveOff h k (ranges h)) s
  let s2 := foreign.foldl (fun y h => (s.coreRanges h k).foldl (fun z r => z.clear r.1 r.2) y) s1
  let s3 := if foreign.isEmpty then s2 else (s2.clear (bufferRange k).1 (bufferRange k).2).setCore k (fun x => { x with resident := none })
  let s4 := s3.restore c k
  let s5 := if last = some c || last = none then s4 else
    s4.trace { type := 5, unitClass := 1, unit := k, ctx := c, tenant := some (s.ctxTenant c) }
  s5.setCore k (fun x => { x with holders := c :: others.filter (fun h => !foreign.contains h), lastCtx := some c })

/-- Packet `id` of context `c` claims cores; a core that is stopped in Doze restarts (R461). -/
def State.claim (s : State) (id c : Nat) (ks : List Nat) : State :=
  let s1 := ks.foldl (fun y k => ((y.restart (4 + y.spl.map.getD k k)).switchCore c k).setCore k (fun x => { x with busy := some id })) s
  { s1 with dom := { s1.dom with waits := s1.dom.waits.filter (fun w => w.pkt ≠ id) } }

/-- Claim all the cores if each of them is free for the packet (R93). -/
def State.claimFor (s : State) (e : Env) (ks : List Nat) : Option State :=
  if ks.all (s.freeFor e.id) then some (s.claim e.id e.p.ctx ks) else none

/-- The packet waits for cores (R94); `touches` is what it will read and write. -/
def State.waitCores (s : State) (e : Env) (want : List Nat) (need : Nat) (touches : List (Addr × Nat)) : State :=
  let s1 : State := { s with pkts := s.pkts.map (fun o => if o.id = e.id then { o with job := .cores, touches := touches } else o) }
  if s1.dom.waits.any (fun w => w.pkt = e.id) then s1
  else { s1 with dom := { s1.dom with waits := s1.dom.waits ++ [{ pkt := e.id, since := s.time.tick, want := want, need := need }] } }

/-- A packet has waited 5 ms for cores: from now on each core it wants that is free is held for it (R95). -/
def execCoreWaitLimit (id : Nat) (s : State) : Res :=
  .next (s.whileUp { s with dom := { s.dom with waits := s.dom.waits.map (fun w => if w.pkt = id then { w with limit := true } else w) } })

/-- Data consumed from poisoned lines ends the operation FENCED, and tears the context down where the data are its own (Table 6.14). -/
def State.consumePoison (s : State) (e : Env) (units : List Nat) : State :=
  if units.any (s.ownLine e.p.ctx) then s.tearDown e.p.ctx 3 else s.finish e.id fenced (dataLossDetails e.p.ctx)

/-- Age stamp of what lies in a list of ranges: the oldest capture time among the stamped bytes (R21). -/
def State.stampOf (s : State) (rs : List (Addr × Nat)) : Option Nat :=
  (s.ms.stamps.filter (fun x => rs.any (fun r => overlap x.1 x.2.1 r.1 r.2))).foldl
    (fun a x => match a with | none => some x.2.2 | some b => some (min b x.2.2)) none

/-- Stamps after writing a range: stamps of ranges it covers go, and its own is added. -/
def State.stampWrite (s : State) (a n : Nat) (t : Option Nat) : State :=
  let rest := s.ms.stamps.filter (fun x => !(decide (a ≤ x.1) && decide (x.1 + x.2.1 ≤ a + n)))
  { s with ms := { s.ms with stamps := rest ++ (match t with | some v => if n = 0 then [] else [(a, n, v)] | none => []) } }

/-- An operation's own addresses lie in one core's memory or operand buffers or in its die's shared memory (R155, precondition 11). -/
def nearCore (k a n : Nat) : Bool :=
  sameMemory a n &&
  match place a with
  | .coreMem j _ => j = k
  | .weightBuf j _ => j = k
  | .actBuf j _ => j = k
  | .accBuf j _ => j = k
  | .dieShared d _ => d = dieOf k
  | _ => false

/-- An address that an operation may name at all where its banks are a precondition of their own: as any packet, or in any scratchpad
(Table 2.12, R144, R157). -/
def State.scratchAddr (s : State) (c a n : Nat) (write : Bool) : Bool := (isBanked a && sameMemory a n) || s.addrOk c a n write

/-- An address that a compute packet may name at all: as above, or in an operand buffer (R155). -/
def State.computeAddr (s : State) (c a n : Nat) (write : Bool) : Bool :=
  (isOperandBuf a && sameMemory a n) || s.scratchAddr c a n write

/-- A range in banked memory lies in banks of the context under one of the ports; other memories have no ports (R144). -/
def State.portRange (s : State) (c a n : Nat) (ports : List Nat) : Bool := !isBanked a || s.portsOk c a n ports

/-! ### Units out of service -/

/-- Whether a unit of a class without a place of its own in the state is out of service. -/
def State.unitOut (s : State) (cls unit : Nat) : Bool := s.spl.out.contains (unitKey cls unit)
/-- Fenced units of a class. -/
def State.outCount (s : State) (cls : Nat) : Nat := (s.spl.out.filter (fun x => x / 65536 = cls)).length

/-- The healthy planner slices cover what is reserved. -/
def State.slicesWhole (s : State) : Bool := decide ((s.dom.reservations.map (fun r => r.2.planShare)).sum + s.outCount 0xC ≤ 32)

/-- Every core of every reservation is in service, and the planner slices and solve pipes that are healthy cover what is reserved (Table 19.2,
exit of cause 2). -/
def State.fixedWhole (s : State) : Bool :=
  s.dom.reservations.all (fun r => (maskList 16 r.2.coreMask).all (fun k => !(s.core k).fenced))
  && s.slicesWhole
  && decide ((s.dom.reservations.map (fun r => r.2.systems)).sum + s.outCount 0xD ≤ 8)

/-- End cause 2 where its exit condition holds. -/
def State.endFixed (s : State) : State := if s.fixedWhole then s.endCause 2 else s

end Sys2Proof.Machine
end

