-- ==== Sys2Proof/Machine/Kv.lean ====
section
/-! DEFINITION. Key-value pools (chapter 8): geometry (R214), the view of a draft (R194, R196), frames and drops (R223 to R225), the four actions of
KV_SCATTER (R213 to R222, R226), PAGE_PIN (R227), and what a twist does to pages (R203, R206). -/

namespace Sys2Proof.Machine

/-! ### Geometry -/

/-- Frames in one granule (R214). -/
def KvPool.perGranule (k : KvPool) : Nat := 0x200000 / k.frameBytes
/-- Bytes of one page-table copy. -/
def KvPool.tableBytes (k : KvPool) : Nat := 8 * k.maxSeq * k.layers * k.maxPages
/-- Directory bytes (R214). -/
def KvPool.dirBytes (k : KvPool) : Nat :=
  4096 + 64 * k.maxSeq + 2 * k.tableBytes + 8 * k.regions.length * k.granules * k.perGranule
/-- Directory granules of each region. -/
def KvPool.dirGranules (k : KvPool) : Nat := ceilDiv k.dirBytes 0x200000
/-- Frames the pool holds. -/
def KvPool.frameCount (k : KvPool) : Nat := k.regions.length * (k.granules - k.dirGranules) * k.perGranule
/-- Region of a frame. -/
def KvPool.regionOf (k : KvPool) (f : Nat) : Nat := f % k.regions.length
/-- Address of a frame (R214). -/
def KvPool.frameAddr (k : KvPool) (f : Nat) : Addr :=
  let g := f / k.regions.length
  k.regions.getD (k.regionOf f) 0 + (k.dirGranules + g / k.perGranule) * 0x200000 + g % k.perGranule * k.frameBytes
/-- Base of the directory. -/
def KvPool.dirBase (k : KvPool) : Addr := k.regions.getD 0 0
/-- Address of a page-table entry in copy `c` (Table 8.2). -/
def KvPool.entryAddr (k : KvPool) (c s l p : Nat) : Addr :=
  k.dirBase + 0x1000 + 64 * k.maxSeq + c * k.tableBytes + 8 * (((s * k.layers) + l) * k.maxPages + p)
/-- Address of a frame-table entry. -/
def KvPool.frameEntryAddr (k : KvPool) (f : Nat) : Addr :=
  k.dirBase + 0x1000 + 64 * k.maxSeq + 2 * k.tableBytes + 8 * f
/-- Bytes of one slot of one head's key or value block. -/
def KvPool.slotBytes (k : KvPool) : Nat := k.dim * k.elem
/-- Offset in a frame of slot `t` of head `h`, keys (0) or values (1). -/
def KvPool.slotOff (k : KvPool) (h kv t : Nat) : Nat := (2 * h + kv) * 256 * k.slotBytes + t * k.slotBytes
/-- Offset of the scale bytes of a slot. -/
def KvPool.scaleOff (k : KvPool) (h kv t : Nat) : Nat :=
  2 * k.heads * 256 * k.slotBytes + ((2 * h + kv) * 256 + t) * (k.dim / 32)
/-- Bytes of a source token row: elements, and scales. -/
def KvPool.rowElems (k : KvPool) : Nat := 2 * k.heads * k.slotBytes
def KvPool.rowScales (k : KvPool) : Nat := if k.scaled then 2 * k.heads * k.dim / 32 else 0

/-- Key of a page in a sequence's map. -/
def pageKey (layer page : Nat) : Nat := layer * 256 + page

/-- Pool of a packet's tenant. -/
def poolKey (s : State) (c pool : Nat) : Nat := s.ctxTenant c * 16 + pool
def State.pool? (s : State) (key : Nat) : Option KvPool := NMap.get? s.kv key
/-- The committed entry of a page. -/
def KvSeq.entry? (q : KvSeq) (l p : Nat) : Option KvEntry := NMap.get? q.pages (pageKey l p)

/-! ### The directory in memory (Tables 8.2, 8.3) -/

/-- The 64 bits of an entry. -/
def entryBits (k : KvPool) (e : KvEntry) : Nat :=
  e.frame % 2 ^ 24 + e.fill * 2 ^ 51 + (e.valid && decide (1 < (NMap.getD k.frames e.frame ⟨0, 0⟩).ref)).toNat * 2 ^ 60
    + e.pinned.toNat * 2 ^ 61 + e.dropped.toNat * 2 ^ 62 + e.valid.toNat * 2 ^ 63

/-- Directory bytes that changed between two versions of a pool: entries, frame table, use counter, active bit. The sequence table's entry
layout is not given, so a sequence that changed has unspecified bytes there. -/
def State.syncPool (s : State) (old new : KvPool) : State :=
  let seqIds := (old.seqs.map (fun q => q.1) ++ new.seqs.map (fun q => q.1)).eraseDups
  let s1 := seqIds.foldl (fun x i =>
    let a := (NMap.get? old.seqs i).getD ⟨0, 0, [], []⟩
    let b := (NMap.get? new.seqs i).getD ⟨0, 0, [], []⟩
    let keys := (a.pages.map (fun p => p.1) ++ b.pages.map (fun p => p.1)).eraseDups
    let x1 := keys.foldl (fun y key =>
      let bitsOf (k : KvPool) (q : KvSeq) : Nat := match NMap.get? q.pages key with | some e => entryBits k e | none => 0
      if bitsOf old a = bitsOf new b then y
      else [0, 1].foldl (fun z c => z.store (new.entryAddr c i (key / 256) (key % 256)) (leBytes 8 (bitsOf new b))) y) x
    if a.owner = b.owner && a.lens = b.lens && (NMap.has old.seqs i == NMap.has new.seqs i) then x1
    else x1.scramble (new.dirBase + 0x1000 + 64 * i) 64) s
  let frames := (old.frames.map (fun f => f.1) ++ new.frames.map (fun f => f.1)).eraseDups
  let s2 := frames.foldl (fun x f =>
    let w (k : KvPool) : Nat := match NMap.get? k.frames f with | some e => e.use % 2 ^ 32 + e.ref * 2 ^ 48 | none => 0
    if w old = w new then x else x.store (new.frameEntryAddr f) (leBytes 8 (w new))) s1
  let s3 := if old.useCtr = new.useCtr then s2 else s2.store (new.dirBase + 0x48) (leBytes 8 new.useCtr)
  if old.active = new.active then s3 else s3.store (new.dirBase + 0x40) [BitVec.ofNat 8 new.active.toNat]

/-- Replace a pool by a changed one: the inactive copy is written and the active bit swapped (R216). -/
def State.setPool (s : State) (key : Nat) (new : KvPool) : State :=
  match s.pool? key with
  | none => s
  | some old =>
    let n1 : KvPool := { new with active := if old.seqs = new.seqs then new.active else !old.active }
    let s1 : State := { s with kv := NMap.put s.kv key n1 }
    s1.syncPool old n1

/-! ### What a draft sees -/

/-- The length of a sequence in a layer as seen under a chain of drafts (R194, R196). -/
def seenLen (chain : List Draft) (pool i layer : Nat) (q : KvSeq) : Nat :=
  match chain.findSome? (fun d => d.appends.find? (fun a => a.pool = pool && a.seq = i && a.layer = layer)) with
  | some a => a.fill
  | none => q.lens.getD layer 0

/-- The frame of a page as seen under a chain of drafts. -/
def seenFrame (chain : List Draft) (pool i layer page : Nat) (q : KvSeq) : Option Nat :=
  match chain.findSome? (fun d => d.pages.find? (fun a => a.pool = pool && a.seq = i && a.layer = layer && a.page = page)) with
  | some a => some a.frame
  | none => match q.entry? layer page with
    | some e => if e.valid then some e.frame else none
    | none => none

/-- Whether a page is dropped: DROPPED set and no draft of the chain holds a frame for it. -/
def seenDropped (chain : List Draft) (pool i layer page : Nat) (q : KvSeq) : Bool :=
  (seenFrame chain pool i layer page q).isNone && (match q.entry? layer page with | some e => e.dropped | none => false)

/-- A draft appended to a page. -/
def Draft.appendedTo (d : Draft) (pool i layer page : Nat) : Bool :=
  d.appends.any (fun a => a.pool = pool && a.seq = i && a.layer = layer && decide (a.first / 256 ≤ page) && decide (page * 256 < a.fill))

/-- Whether some open draft holds a slot or a copy in page `page` of a sequence, in any layer (R224). -/
def Draft.inGroup (d : Draft) (pool i page : Nat) : Bool :=
  d.pages.any (fun a => a.pool = pool && a.seq = i && a.page = page)
  || d.appends.any (fun a => a.pool = pool && a.seq = i && decide (a.first / 256 ≤ page) && decide (page * 256 < a.fill))

/-- Drafts of a tenant. -/
def State.tenantDrafts (s : State) (t : Nat) : List Draft := s.dr.drafts.filter (fun d => s.ctxTenant d.ctx = t)

/-! ### Frames and drops -/

/-- Frames that operations in flight still read (R216, R232). -/
def State.frameInFlight (s : State) (key f : Nat) : Bool :=
  s.pkts.any (fun o => match o.job with | .work w => w.frames.contains (key, f) | _ => false)

/-- The lowest-numbered free frame that is not in `taken` (R214). -/
def State.freeFrame (s : State) (key : Nat) (k : KvPool) (taken : List Nat) : Option Nat :=
  (List.range k.frameCount).find? (fun f => !(NMap.has k.frames f) && !taken.contains f && !s.frameInFlight key f
    && !k.lostRegions.contains (k.regionOf f))

/-- A page group: sequence and page index. -/
abbrev PageGroup := Nat × Nat

/-- Frames of a group's valid pages. -/
def KvPool.groupFrames (k : KvPool) (g : PageGroup) : List Nat :=
  match NMap.get? k.seqs g.1 with
  | none => []
  | some q => q.pages.filterMap (fun p => if p.1 % 256 = g.2 && p.2.valid then some p.2.frame else none)

/-- Groups of a pool that hold a frame, by sequence and then page. -/
def KvPool.groups (k : KvPool) : List PageGroup :=
  k.seqs.flatMap (fun q =>
    (List.range k.maxPages).filterMap (fun p => if (k.groupFrames (q.1, p)).isEmpty then none else some (q.1, p)))

/-- A group with every group that shares a frame with it, repeatedly (R224). -/
def KvPool.closure (k : KvPool) (all : List PageGroup) : Nat → List PageGroup → List PageGroup
  | 0, gs => gs
  | n + 1, gs =>
    let fs := gs.flatMap k.groupFrames
    let more := all.filter (fun g => !gs.contains g && (k.groupFrames g).any fs.contains)
    if more.isEmpty then gs else KvPool.closure k all n (gs ++ more)

/-- Whether one group may be dropped (R224). -/
def State.groupOk (s : State) (key : Nat) (k : KvPool) (writes : List PageGroup) (g : PageGroup) : Bool :=
  !(match NMap.get? k.seqs g.1 with
    | some q => q.pages.any (fun p => p.1 % 256 = g.2 && p.2.pinned)
    | none => false)
  && !((k.groupFrames g).any (s.frameInFlight key))
  && !((s.tenantDrafts (key / 16)).any (fun d => d.inGroup (key % 16) g.1 g.2))
  && !writes.contains g

/-- Recency of a group: the largest USE among its frames. -/
def KvPool.recency (k : KvPool) (g : PageGroup) : Nat :=
  (k.groupFrames g).foldl (fun a f => max a (NMap.getD k.frames f ⟨0, 0⟩).use) 0

/-- Drop a set of groups in the directory: DROPPED set, VALID cleared, FILL kept, REFCOUNT lowered (R224). -/
def KvPool.drop (k : KvPool) (gs : List PageGroup) : KvPool :=
  let fs := gs.foldl (fun m g => (k.groupFrames g).foldl dropRef m) k.frames
  let seqs := k.seqs.map (fun q => (q.1, { q.2 with pages := q.2.pages.map (fun p =>
    if gs.contains (q.1, p.1 % 256) && p.2.valid then (p.1, { p.2 with valid := false, dropped := true }) else p) }))
  { k with frames := fs, seqs := seqs }

/-- Tokens a dropped page stands for: the largest fill over the layers. -/
def KvSeq.dropFill (q : KvSeq) (p : Nat) : Nat :=
  q.pages.foldl (fun a e => if e.1 % 256 = p && e.2.dropped then max a e.2.fill else a) 0
/-- Whether a page is dropped in some layer. -/
def KvSeq.isDropped (q : KvSeq) (p : Nat) : Bool := q.pages.any (fun e => e.1 % 256 = p && e.2.dropped)

/-- Contiguous runs of the pages that satisfy `f`, as (first page, pages). -/
def runsOf (f : Nat → Bool) (n : Nat) : List (Nat × Nat) :=
  (List.range n).foldl (fun acc p =>
    if !f p then acc else
    match acc.getLast? with
    | some (a, m) => if a + m = p then acc.dropLast ++ [(a, m + 1)] else acc ++ [(p, 1)]
    | none => [(p, 1)]) []

/-- DETAIL words of PAGE_DROPPED for a run (Table 8.8). -/
def droppedWords (pool i : Nat) (q : KvSeq) (run : Nat × Nat) : List Nat :=
  [pool * 2 ^ 28 + i, run.1 * 256, ((List.range run.2).map (fun j => q.dropFill (run.1 + j))).sum, q.lens.headD 0]

/-- PAGE_DROPPED (Table 2.15). -/
def pageDropped : Nat := 0x0203

/-- Drop groups: one PAGE_DROPPED event per run of dropped tokens that a sequence lost pages of (R225). -/
def State.dropGroups (s : State) (key : Nat) (gs : List PageGroup) : State :=
  match s.pool? key with
  | none => s
  | some k =>
    let k1 := k.drop gs
    let s1 := (s.setPool key k1).bump 3 (key / 16) 0 7 (gs.map (fun g => (k.groupFrames g).length)).sum
    k1.seqs.foldl (fun x q =>
      let mine := gs.filter (fun g => g.1 = q.1)
      if mine.isEmpty then x else
      (runsOf q.2.isDropped k1.maxPages).foldl (fun y r =>
        if mine.any (fun g => decide (r.1 ≤ g.2) && decide (g.2 < r.1 + r.2)) then
          y.event q.2.opener 0x0210 pageDropped q.2.owner (droppedWords (key % 16) q.1 q.2 r)
        else y) x) s1

/-- The eligible closure with the lowest recency; ties to the lowest sequence and page (R223, R224). -/
def State.victimGroup (s : State) (key : Nat) (k : KvPool) (writes : List PageGroup) : Option (List PageGroup) :=
  let all := k.groups
  let ok := all.filter (fun g => (k.closure all all.length [g]).all (s.groupOk key k writes))
  (ok.foldl (fun (a : Option PageGroup) g => match a with
    | none => some g
    | some b => if k.recency g < k.recency b then some g else some b) none).map (fun g => k.closure all all.length [g])

/-- What a write that needs a frame got (Table 8.7). -/
inductive Got where
  | frame (s : State) (f dropped : Nat)
  | noSpace (s : State)
  | self (s : State) (d : List Nat)
  | wait

/-- Whether a drafted write finds the context's page budget or its tenant's quota full (Table 7.2, R196). -/
def State.budgetFull (s : State) (c n : Nat) (k : KvPool) : Bool :=
  decide (s.capacity c .pages < s.held c .pages + n + 1)
  || (match s.tenant? (s.ctxTenant c) with
      | some t => decide (t.quotaBytes < s.hbmUsed (s.ctxTenant c) + (n + 1) * k.frameBytes)
      | none => false)

/-- Take a frame for a write of packet `e` (Table 8.7); `mine` frames are already taken for it, `fresh` of them against the page budget. -/
def State.needFrame (s : State) (e : Env) (key : Nat) (writes : List PageGroup) (mine : List Nat) (fresh : Nat) (drafted : Bool) (dropped : Nat) : Nat → Got
  | 0 => .wait
  | n + 1 =>
    match s.pool? key with
    | none => .noSpace s
    | some k =>
      let evictOne : Got :=
        match s.victim? e.p.ctx .pages with
        | none => if s.dr.drafts.any (fun d => d.ctx = e.p.ctx && !d.pages.isEmpty) then .wait else .noSpace s
        | some d =>
          let s1 := s.evict d 2 0 (some e.id)
          if (s.ownOrders e.p).contains d.order then .self s1 [evictWord d, 2, 0, 0]
          else State.needFrame s1 e key writes mine fresh drafted dropped n
      if drafted && s.budgetFull e.p.ctx fresh k then evictOne
      else match s.freeFrame key k mine with
        | some f => .frame s f dropped
        | none =>
          match s.victimGroup key k writes with
          | some gs => State.needFrame (s.dropGroups key gs) e key writes mine fresh drafted (dropped + gs.length) n
          | none => if drafted then evictOne else .noSpace s

/-! ### BIND -/

/-- The pool that a BIND packet describes. -/
def bindPool (p : Packet) : KvPool where
  ctx := p.ctx
  regions := (List.range (p.f 12 29 28 + 1)).map (fun i => p.addr (4 + 2 * i))
  granules := p.f 5 31 16
  fmt := p.f 12 27 24
  heads := p.f 12 23 16
  dim := p.f 12 8 0
  maxSeq := p.f 13 31 16
  layers := p.f 13 8 0
  maxPages := p.f 14 8 0

/-- First range check that a list of checks fails. -/
def paramCheck (l : List (Bool × Nat)) : Option Rej := firstFail (l.map (fun x => (x.1, badParam x.2)))

def specKvScatterBind : OpSpec where
  code := 0x0210
  masks := fun p =>
    let n := p.f 12 29 28
    let reg (i : Nat) : List Nat := if i ≤ n then addrMasks else [0, 0]
    [fm [(31, 30), (23, 20)], full, full] ++ reg 1 ++ reg 2 ++ reg 3 ++ [fm [(29, 16), (8, 0)], fm [(31, 16), (8, 0)], fm [(8, 0)], 0]
  params := fun e s =>
    let p := e.p
    let k := bindPool p
    let bases := k.regions.zipIdx
    let bad (b : Addr × Nat) : Bool × Nat := (b.1 % 0x200000 ≠ 0 || (k.regions.take b.2).contains b.1, 4 + 2 * b.2)
    (paramCheck ((bases.take 1).map bad ++ [(k.granules < 2 || 11904 < k.granules, 5)] ++ (bases.drop 1).map bad)).orElse (fun _ =>
    (paramCheck [
      (!([2, 3, 0xB, 0xC, 7, 8].contains k.fmt) || k.heads = 0 || 64 < k.heads || k.dim < 32 || 256 < k.dim || k.dim % 32 ≠ 0
        || 0x200000 < k.frameBytes, 12),
      (k.maxSeq = 0 || 4096 < k.maxSeq || k.layers = 0 || 256 < k.layers || (k.maxPages ≠ 0 && k.maxPages ≤ 256 && k.frameCount < k.layers), 13),
      (k.maxPages = 0 || 256 < k.maxPages, 14)]).orElse (fun _ =>
    (k.regions.find? (fun b => !(s.hbmOk p.ctx b (k.granules * 0x200000) true && s.hbmOk p.ctx b (k.granules * 0x200000) false))).map badAddr))
  pre := fun e s => if (s.pool? (poolKey s e.p.ctx (e.p.f 3 23 20))).isSome then some (badState 27) else none
  run := fun e s =>
    let k := bindPool e.p
    let key := poolKey s e.p.ctx (e.p.f 3 23 20)
    let s1 := (s.clear k.dirBase (k.dirGranules * 0x200000)).scramble k.dirBase 64
    let s2 := (s1.scramble (k.dirBase + 0x41) 7).scramble (k.dirBase + 0x50) (4096 - 0x50)
    ({ s2 with kv := NMap.put s2.kv key k }).done e 0 [k.frameCount, k.frameBytes, k.dirGranules]

/-- Force the ACTION field of a KV_SCATTER row. -/
def kvAction (p : Packet) (a : Nat) : Packet := p.withField 3 31 30 a

/-- KV_SCATTER with ACTION BIND binds a pool over one to four regions (R213, R214). -/
def execKvScatterBind (src : Src) (p : Packet) (s : State) : Res := .next (specKvScatterBind.exec src (kvAction p 3) s)

/-! ### OPEN and CLOSE -/

/-- First region of a pool that the context cannot use with both rights (R213). -/
def State.poolReach (s : State) (c : Nat) (k : KvPool) : Option Addr :=
  k.regions.zipIdx.findSome? (fun b =>
    if k.lostRegions.contains b.2 then none else
    match s.region? c b.1 (k.granules * 0x200000) with
    | some r => if r.read && r.write then none else some b.1
    | none => some b.1)

/-- Word 3 of KV_SCATTER without SEQ, and with it. -/
def kvWord (seq : Bool) : Nat := fm ([(31, 30), (23, 20)] ++ if seq then [(15, 0)] else [])

/-- Checks that every use of a bound pool makes: SEQ in range, regions within reach. -/
def State.poolParams (s : State) (c pool : Nat) (seq : Option Nat) : Option Rej :=
  match s.pool? (poolKey s c pool) with
  | none => none
  | some k =>
    match seq with
    | some i => if k.maxSeq ≤ i then some (badParam 3) else (s.poolReach c k).map badAddr
    | none => (s.poolReach c k).map badAddr

/-- A twist has frozen something of a sequence (R206). -/
def State.seqFrozen (s : State) (key i : Nat) : Bool :=
  (s.tenantDrafts (key / 16)).any (fun d => d.frozen && (d.pages.any (fun a => a.pool = key % 16 && a.seq = i) || d.appends.any (fun a => a.pool = key % 16 && a.seq = i)))

def specKvScatterOpen : OpSpec where
  code := 0x0210
  masks := fun _ => [kvWord true, fm [(31, 16)], full]
  params := fun e s =>
    (s.poolParams e.p.ctx (e.p.f 3 23 20) (some (e.p.f 3 15 0))).orElse (fun _ =>
      if e.p.f 4 31 16 = 0xFFFF && e.p.word 5 ≠ 0 then some (badParam 5) else none)
  pre := fun e s =>
    match s.pool? (poolKey s e.p.ctx (e.p.f 3 23 20)) with
    | none => some (badState 27)
    | some k =>
      if (NMap.get? k.seqs (e.p.f 3 15 0)).isSome then some (badState 28)
      else if e.p.f 4 31 16 = 0xFFFF then none
      else match NMap.get? k.seqs (e.p.f 4 31 16) with
        | none => some (badState 28)
        | some q => if (List.range k.layers).any (fun l => decide (q.lens.getD l 0 < e.p.word 5)) then some (badState 28) else none
  run := fun e s =>
    let p := e.p
    let key := poolKey s p.ctx (p.f 3 23 20)
    match s.pool? key with
    | none => s.done e
    | some k =>
      if s.seqFrozen key (p.f 4 31 16) then s.setJob e.id (.waits .retry) else
      let share := if p.f 4 31 16 = 0xFFFF then 0 else p.word 5
      let np := ceilDiv share 256
      let parent := NMap.get? k.seqs (p.f 4 31 16)
      let kept : List (Nat × KvEntry) := match parent with
        | none => []
        | some q => q.pages.filterMap (fun x =>
            if x.1 % 256 < np then some (x.1, { x.2 with pinned := false, fill := min 256 (share - 256 * (x.1 % 256)) }) else none)
      let frames := kept.foldl (fun m x => if x.2.valid then NMap.upd m x.2.frame (fun f => { f with ref := f.ref + 1 }) else m) k.frames
      let q : KvSeq := { owner := p.ctx, opener := e.bob, lens := List.replicate k.layers share, pages := kept }
      (s.setPool key { k with seqs := NMap.put k.seqs (p.f 3 15 0) q, frames := frames }).done e 0 [np]

/-- KV_SCATTER with ACTION OPEN opens a sequence, sharing a parent's prefix (R217, R218). -/
def execKvScatterOpen (src : Src) (p : Packet) (s : State) : Res := .next (specKvScatterOpen.exec src (kvAction p 1) s)

/-- Release every page of a sequence (R219): the pool without it, and how many frames returned to the free frames. -/
def KvPool.closeSeq (k : KvPool) (i : Nat) : KvPool × Nat :=
  match NMap.get? k.seqs i with
  | none => (k, 0)
  | some q =>
    let fs := q.pages.foldl (fun m p => if p.2.valid then dropRef m p.2.frame else m) k.frames
    ({ k with seqs := NMap.del k.seqs i, frames := fs }, k.frames.length - fs.length)

/-- An operation in flight reads or writes a sequence, or an open draft holds writes in it (precondition 29). -/
def State.seqBusy (s : State) (key i : Nat) : Bool :=
  s.pkts.any (fun o => match o.job with | .work w => w.seqs.contains (key, i) | _ => false)
  || (s.tenantDrafts (key / 16)).any (fun d => d.pages.any (fun a => a.pool = key % 16 && a.seq = i) || d.appends.any (fun a => a.pool = key % 16 && a.seq = i))

def specKvScatterClose : OpSpec where
  code := 0x0210
  masks := fun _ => [kvWord true]
  params := fun e s => s.poolParams e.p.ctx (e.p.f 3 23 20) (some (e.p.f 3 15 0))
  pre := fun e s =>
    let key := poolKey s e.p.ctx (e.p.f 3 23 20)
    match s.pool? key with
    | none => some (badState 27)
    | some k =>
      if (NMap.get? k.seqs (e.p.f 3 15 0)).isNone then some (badState 28)
      else if s.seqBusy key (e.p.f 3 15 0) then some (badState 29) else none
  run := fun e s =>
    let key := poolKey s e.p.ctx (e.p.f 3 23 20)
    match s.pool? key with
    | none => s.done e
    | some k =>
      let (k1, n) := k.closeSeq (e.p.f 3 15 0)
      (s.setPool key k1).done e 0 [n]

/-- KV_SCATTER with ACTION CLOSE closes a sequence and releases its pages (R219). -/
def execKvScatterClose (src : Src) (p : Packet) (s : State) : Res := .next (specKvScatterClose.exec src (kvAction p 2) s)

/-! ### Length tables and APPEND -/

/-- An entry of a length table (Table 8.5). -/
structure LenEntry where
  seq : Nat
  kvLen : Nat
  qLen : Nat
  qOff : Nat

/-- The entries of a length table as a packet sees them (R220). -/
def State.lenTable (s : State) (p : Packet) (a n : Nat) : List LenEntry :=
  (List.range n).map (fun i =>
    let x := s.seeNat p (a + 16 * i) 16
    { seq := bits x 111 96, kvLen := bits x 95 64, qLen := bits x 47 32, qOff := bits x 31 0 })

/-- Rows of entry `i` leave the packed tensor, or overlap those of another entry (R220). -/
def lenRowsBad (rows : Nat) (es : List LenEntry) (i : Nat) (x : LenEntry) : Bool :=
  decide (rows < x.qOff + x.qLen) || es.zipIdx.any (fun y => y.2 ≠ i && overlap x.qOff x.qLen y.1.qOff y.1.qLen && x.qLen ≠ 0 && y.1.qLen ≠ 0)

/-- Where an APPEND's or ATTENTION's side data may lie: core memory of the listed cores or shared memory of their dies (R220, R228). -/
def nearCores (ks : List Nat) (a n : Nat) : Bool :=
  sameMemory a n &&
  match place a with
  | .coreMem k _ => ks.contains k
  | .dieShared d _ => ks.any (fun k => dieOf k = d)
  | _ => false

/-- Cores of the die that an address belongs to. -/
def dieCores (a : Addr) : List Nat :=
  match place a with
  | .coreMem k _ => (List.range 8).map (· + 8 * dieOf k)
  | .dieShared d _ => (List.range 8).map (· + 8 * d)
  | _ => []

/-- Bytes of an APPEND's source: elements, then the scale array (R118). -/
def appendElems (k : KvPool) (p : Packet) : Nat := p.f 7 31 16 * k.rowElems
def appendScaleBase (k : KvPool) (p : Packet) : Addr := up64 (p.addr 6 + appendElems k p)
def appendSrcBytes (k : KvPool) (p : Packet) : Nat := appendScaleBase k p + p.f 7 31 16 * k.rowScales - p.addr 6

/-- First token and token count of a sequence's dropped run in a layer that starts at `t` (R226). -/
def KvSeq.runAt (q : KvSeq) (l t : Nat) : Option Nat :=
  let isD (p : Nat) : Bool := match q.entry? l p with | some e => e.dropped | none => false
  ((runsOf isD 256).find? (fun r => r.1 * 256 = t)).map (fun r =>
    ((List.range r.2).map (fun j => match q.entry? l (r.1 + j) with | some e => e.fill | none => 0)).sum)

/-- Pages that an append entry writes. -/
def LenEntry.pages (x : LenEntry) : List Nat :=
  if x.qLen = 0 then [] else (List.range ((x.kvLen + x.qLen - 1) / 256 + 1 - x.kvLen / 256)).map (· + x.kvLen / 256)

/-- Precondition 25 of one entry (R221). -/
def appendOk (chain : List Draft) (pool l : Nat) (drafted : Bool) (q : KvSeq) (x : LenEntry) : Bool :=
  if x.kvLen = seenLen chain pool x.seq l q then x.pages.all (fun p => !seenDropped chain pool x.seq l p q)
  else !drafted && (q.runAt l x.kvLen) = some x.qLen

/-- How one page of an append is written. -/
inductive PageWrite where
  /-- In place in a frame. -/
  | inPlace (f : Nat)
  /-- Into a copy of a frame. -/
  | copy (f : Nat)
  /-- Into a frame of its own. -/
  | fresh

/-- How an entry's page is written (R196, R218). -/
def State.pageWrite (s : State) (p : Packet) (chain : List Draft) (pool l : Nat) (k : KvPool) (q : KvSeq) (x : LenEntry) (pg : Nat) : PageWrite :=
  match seenFrame chain pool x.seq l pg q with
  | none => .fresh
  | some f =>
    let ref := (NMap.getD k.frames f ⟨0, 0⟩).ref
    if p.level = 0 then (if 1 < ref then .copy f else .inPlace f)
    else
      let others := (s.tenantDrafts (s.ctxTenant p.ctx)).any (fun d => !(chain.any (fun c => c.order = d.order)) && d.appendedTo pool x.seq l pg)
      if ref ≤ 1 && !others then .inPlace f else .copy f

/-- What an APPEND has prepared for one page: entry index, page, frame, the frame copied if any, whether the frame is new. -/
structure Prep where
  ix : Nat
  seq : Nat
  page : Nat
  frame : Nat
  copyOf : Option Nat
  isNew : Bool

/-- Take every frame that an APPEND needs (R221, R223), in entry and page order. -/
def State.prepare (s : State) (e : Env) (key l : Nat) (groups : List PageGroup) : List (Nat × LenEntry × Nat) → List Prep → Nat → Sum (State × List Prep × Nat) Got
  | [], acc, dropped => .inl (s, acc, dropped)
  | (i, x, pg) :: rest, acc, dropped =>
    match s.pool? key with
    | none => .inr (.noSpace s)
    | some k =>
      match NMap.get? k.seqs x.seq with
      | none => .inr (.noSpace s)
      | some q =>
        match acc.find? (fun a => a.seq = x.seq && a.page = pg) with
        | some a => State.prepare s e key l groups rest (acc ++ [{ a with ix := i, isNew := false, copyOf := none }]) dropped
        | none =>
          let chain := s.chain e.p.ctx e.p.level e.p.tag
          let take (cp : Option Nat) : Sum (State × List Prep × Nat) Got :=
            let news := acc.filter (fun a => a.isNew)
            match s.needFrame e key groups (news.map (fun a => a.frame)) (if e.p.level = 0 then 0 else news.length) (e.p.level ≠ 0) dropped (s.dr.drafts.length + k.groups.length + 2) with
            | .frame s1 f d => State.prepare s1 e key l groups rest (acc ++ [⟨i, x.seq, pg, f, cp, true⟩]) d
            | g => .inr g
          match s.pageWrite e.p chain (key % 16) l k q x pg with
          | .inPlace f => State.prepare s e key l groups rest (acc ++ [⟨i, x.seq, pg, f, none, false⟩]) dropped
          | .copy f => take (some f)
          | .fresh => take none

/-- Copy the slots of a frame below a fill into another frame (R218). -/
def State.copySlots (s : State) (k : KvPool) (src dst fill : Nat) : State :=
  (List.range (2 * k.heads)).foldl (fun x i =>
    let x1 := x.store (k.frameAddr dst + k.slotOff (i / 2) (i % 2) 0) (x.load (k.frameAddr src + k.slotOff (i / 2) (i % 2) 0) (fill * k.slotBytes))
    if k.scaled then x1.store (k.frameAddr dst + k.scaleOff (i / 2) (i % 2) 0) (x1.load (k.frameAddr src + k.scaleOff (i / 2) (i % 2) 0) (fill * (k.dim / 32)))
    else x1) s

/-- Write one token's keys and values into a slot of a frame (Table 8.6, R214). -/
def State.putToken (s : State) (k : KvPool) (f t : Nat) (elems scales : List Byte) : State :=
  (List.range (2 * k.heads)).foldl (fun x i =>
    -- a source row holds the keys of all heads, then the values of all heads
    let h := i % k.heads
    let kv := i / k.heads
    let x1 := x.store (k.frameAddr f + k.slotOff h kv t) ((elems.drop (i * k.slotBytes)).take k.slotBytes)
    if k.scaled then x1.store (k.frameAddr f + k.scaleOff h kv t) ((scales.drop (i * (k.dim / 32))).take (k.dim / 32)) else x1) s

/-- Write the tokens of an entry that fall in a prepared page. -/
def State.putPage (s : State) (p : Packet) (k : KvPool) (x : LenEntry) (a : Prep) : State :=
  (List.range x.qLen).foldl (fun y j =>
    let t := x.kvLen + j
    if t / 256 ≠ a.page then y else
    let row := x.qOff + j
    y.putToken k a.frame (t % 256) (s.see p (p.addr 6 + row * k.rowElems) k.rowElems) (s.see p (appendScaleBase k p + row * k.rowScales) k.rowScales)) s

/-- The directory after an undrafted append: entries, fills, lengths, reference counts, USE stamps (R218, R221, R224, R226). -/
def KvPool.afterAppend (k : KvPool) (l : Nat) (es : List LenEntry) (ps : List Prep) : KvPool :=
  let ctr := k.useCtr + 1
  let frames := ps.foldl (fun m a =>
    let m1 := match a.copyOf with | some f => dropRef m f | none => m
    if a.isNew then NMap.put m1 a.frame ⟨1, ctr⟩ else NMap.upd m1 a.frame (fun f => { f with use := ctr })) k.frames
  let seqs := ps.foldl (fun m a =>
    match es[a.ix]? with
    | none => m
    | some x => NMap.upd m a.seq (fun q =>
        let old := q.entry? l a.page
        let fill := min 256 (x.kvLen + x.qLen - 256 * a.page)
        let e : KvEntry := { valid := true, dropped := false, pinned := (match old with | some o => o.pinned | none => false)
                             fill := max fill (match old with | some o => o.fill | none => 0), frame := a.frame }
        { q with pages := NMap.put q.pages (pageKey l a.page) e })) k.seqs
  let seqs2 := es.foldl (fun m x => NMap.upd m x.seq (fun q => { q with lens := setAt q.lens l (max (q.lens.getD l 0) (x.kvLen + x.qLen)) })) seqs
  { k with frames := frames, seqs := seqs2, useCtr := ctr }

/-- What a drafted append records in its draft: fills, new pages and copies (R196). -/
def Draft.afterAppend (d : Draft) (pool l : Nat) (es : List LenEntry) (ps : List Prep) (lenBefore : Nat → Nat) : Draft :=
  let pages := ps.foldl (fun acc a =>
    if a.isNew then acc.filter (fun x => !(x.pool = pool && x.seq = a.seq && x.layer = l && x.page = a.page)) ++ [⟨pool, a.seq, l, a.page, a.frame, a.copyOf.isSome⟩] else acc) d.pages
  let appends := es.foldl (fun acc x =>
    if x.qLen = 0 then acc else
    match acc.find? (fun (y : DraftAppend) => y.pool = pool && y.seq = x.seq && y.layer = l) with
    | some y => acc.map (fun z => if z = y then { y with fill := x.kvLen + x.qLen } else z)
    | none => acc ++ [⟨pool, x.seq, l, lenBefore x.seq, x.kvLen + x.qLen⟩]) d.appends
  { d with pages := pages, appends := appends }

/-- Frames referenced once a draft has taken them (R196). -/
def KvPool.refFrames (k : KvPool) (ps : List Prep) : KvPool :=
  let ctr := k.useCtr + 1
  { k with useCtr := ctr, frames := ps.foldl (fun m a => if a.isNew then NMap.put m a.frame ⟨1, ctr⟩ else NMap.upd m a.frame (fun f => { f with use := ctr })) k.frames }

/-- Checks of an APPEND's length table against the pool, by kind and then by entry (R220, R221). -/
def State.appendEntryBad (s : State) (p : Packet) (k : KvPool) : Option Nat :=
  let es := s.lenTable p (p.addr 4) (p.f 5 31 16)
  (es.zipIdx.find? (fun x => lenRowsBad (p.f 7 31 16) es x.2 x.1 || decide (256 * k.maxPages < x.1.kvLen + x.1.qLen))).map (fun x => 0x100 + x.2)

def specKvScatterAppend : OpSpec where
  code := 0x0210
  masks := fun _ => [kvWord false, full, full, full, full, fm [(7, 0)]]
  params := fun e s =>
    let p := e.p
    let key := poolKey s p.ctx (p.f 3 23 20)
    (paramCheck [(p.addr 4 % 16 ≠ 0, 4), (p.f 5 31 16 = 0 || 4096 < p.f 5 31 16, 5), (p.addr 6 % 64 ≠ 0, 6), (p.f 7 31 16 = 0, 7),
      ((match s.pool? key with | some k => decide (k.layers ≤ p.f 8 7 0) | none => false), 8)]).orElse (fun _ =>
    let ltOk := s.addrOk p.ctx (p.addr 4) (16 * p.f 5 31 16) false
    match s.pool? key with
    | none => if ltOk then none else some (badAddr (p.addr 4))
    | some k =>
      match (if ltOk then s.appendEntryBad p k else none) with
      | some w => some (badParam w)
      | none =>
        if !ltOk then some (badAddr (p.addr 4))
        else if !s.addrOk p.ctx (p.addr 6) (appendSrcBytes k p) false then some (badAddr (p.addr 6))
        else (s.poolReach p.ctx k).map badAddr)
  draft := some (fun _ _ => true)
  pre := fun e s =>
    let p := e.p
    let key := poolKey s p.ctx (p.f 3 23 20)
    match s.pool? key with
    | none => some (badState 27)
    | some k =>
      let near := nearCores (dieCores (p.addr 6)) (p.addr 6) (appendSrcBytes k p) && nearCores (dieCores (p.addr 6)) (p.addr 4) (16 * p.f 5 31 16)
      let es := s.lenTable p (p.addr 4) (p.f 5 31 16)
      let ch := s.chain p.ctx p.level p.tag
      let bad25 := es.any (fun x => match NMap.get? k.seqs x.seq with | some q => !appendOk ch (key % 16) (p.f 8 7 0) (p.level ≠ 0) q x | none => false)
      let bad28 := es.any (fun x => match NMap.get? k.seqs x.seq with | some q => decide (seenLen ch (key % 16) x.seq (p.f 8 7 0) q < x.kvLen) | none => true)
      firstFail [(!near, badState 24), (bad25, badState 25), (bad28, badState 28)]
  run := fun e s =>
    let p := e.p
    let key := poolKey s p.ctx (p.f 3 23 20)
    let l := p.f 8 7 0
    let es := s.lenTable p (p.addr 4) (p.f 5 31 16)
    let poison := s.poisonIn ([(p.addr 4, 16 * p.f 5 31 16)] ++ (match s.pool? key with | some k => [(p.addr 6, appendSrcBytes k p)] | none => []))
    if es.any (fun x => s.seqFrozen key x.seq) then s.setJob e.id (.waits .retry)
    else if !poison.isEmpty then s.consumePoison e poison
    else
      let todo := es.zipIdx.flatMap (fun x => x.1.pages.map (fun pg => (x.2, x.1, pg)))
      match s.prepare e key l (todo.map (fun t => (t.2.1.seq, t.2.2))) todo [] 0 with
      | .inr (.noSpace s1) => s1.done e noSpace [0x10 + key % 16]
      | .inr (.self s1 d) => s1.finish e.id draftEvicted d
      | .inr .wait => s.setJob e.id (.waits .retry)
      | .inr (.frame s1 _ _) => s1.done e noSpace [0x10 + key % 16]
      | .inl (s1, ps, dropped) =>
        match s1.pool? key with
        | none => s1.done e
        | some k =>
          let ch := s1.chain p.ctx p.level p.tag
          let lenOf (i : Nat) : Nat := match NMap.get? k.seqs i with | some q => seenLen ch (key % 16) i l q | none => 0
          let copied := ps.foldl (fun x a => match a.copyOf with
            | some f => x.copySlots k f a.frame (min 256 (lenOf a.seq - 256 * a.page))
            | none => x) s1
          let wrote := ps.foldl (fun x a => match es[a.ix]? with | some y => x.putPage p k y a | none => x) copied
          let slots := (es.map (fun x => x.qLen)).sum
          let d := [slots, (ps.filter (fun a => a.isNew)).length, (ps.filter (fun a => a.copyOf.isSome)).length, dropped]
          let wrote := wrote.bump 3 (key / 16) 0 6 (d.getD 2 0)
          if p.level = 0 then (wrote.setPool key (k.afterAppend l es ps)).done e 0 d
          else match s1.draftOrder? p with
            | none => wrote.done e 0 d
            | some o => ((wrote.setPool key (k.refFrames ps)).setDraft o (fun dr => dr.afterAppend (key % 16) l es ps lenOf)).done e 0 d

/-- KV_SCATTER with ACTION APPEND writes keys and values (R221). -/
def execKvScatterAppend (src : Src) (p : Packet) (s : State) : Res := .next (specKvScatterAppend.exec src (kvAction p 0) s)

/-! ### PAGE_PIN -/

/-- The pages of a sequence that hold a token of a range, as keys, VALID or DROPPED (R227). -/
def KvSeq.rangePages (q : KvSeq) (first count : Nat) : List Nat :=
  q.pages.filterMap (fun e => if (e.2.valid || e.2.dropped) && overlap (e.1 % 256 * 256) e.2.fill first count && e.2.fill ≠ 0 then some e.1 else none)

/-- Pinned frames of a pool: a frame counts while any entry that references it is pinned. -/
def KvPool.pinnedFrames (k : KvPool) : Nat :=
  (k.frames.filter (fun f => k.seqs.any (fun q => q.2.pages.any (fun e => e.2.valid && e.2.pinned && e.2.frame = f.1)))).length

def specPagePin : OpSpec where
  code := 0x0211
  masks := fun _ => [fm [(31, 31), (23, 20), (15, 0)], full, full]
  params := fun e s =>
    let p := e.p
    let maxTok := match s.pool? (poolKey s p.ctx (p.f 3 23 20)) with | some k => 256 * k.maxPages | none => 2 ^ 33
    (firstFail [((match s.pool? (poolKey s p.ctx (p.f 3 23 20)) with | some k => decide (k.maxSeq ≤ p.f 3 15 0) | none => false), badParam 3),
      (maxTok < p.word 4 + p.word 5 && maxTok ≤ p.word 4, badParam 4), (p.word 5 = 0 || maxTok < p.word 4 + p.word 5, badParam 5)]).orElse (fun _ =>
      s.poolParams p.ctx (p.f 3 23 20) none)
  pre := fun e s =>
    match s.pool? (poolKey s e.p.ctx (e.p.f 3 23 20)) with
    | none => some (badState 27)
    | some k => if (NMap.get? k.seqs (e.p.f 3 15 0)).isNone then some (badState 28) else none
  run := fun e s =>
    let p := e.p
    let key := poolKey s p.ctx (p.f 3 23 20)
    match s.pool? key with
    | none => s.done e
    | some k =>
      if s.seqFrozen key (p.f 3 15 0) then s.setJob e.id (.waits .retry) else
      let k1 : KvPool := { k with seqs := NMap.upd k.seqs (p.f 3 15 0) (fun q =>
        let ks := q.rangePages (p.word 4) (p.word 5)
        { q with pages := q.pages.map (fun x => if ks.contains x.1 then (x.1, { x.2 with pinned := p.b 3 31 }) else x) }) }
      if p.b 3 31 && k.frameCount * 7 < k1.pinnedFrames * 8 then s.done e noSpace [0x20]
      else (s.setPool key k1).done e

/-- PAGE_PIN pins or unpins the pages of a token range (R227). -/
def execPagePin (src : Src) (p : Packet) (s : State) : Res := .next (specPagePin.exec src p s)

/-! ### What a twist does to pages (R203, R206) -/

/-- Trim one draft's appends to KEEP tokens past the committed fill of their sequence and layer (R203): appends beyond it are discarded, new
pages that hold only discarded slots are freed. -/
def Draft.trim (d : Draft) (committed : DraftAppend → Nat) (keep : Nat) : Draft × List DraftPage :=
  let appends := d.appends.map (fun a => { a with fill := max a.first (min a.fill (committed a + keep)) })
  let useless (g : DraftPage) : Bool := !g.copy &&
    appends.any (fun a => a.pool = g.pool && a.seq = g.seq && a.layer = g.layer && decide (a.fill ≤ g.page * 256))
  ({ d with appends := appends, pages := d.pages.filter (fun g => !useless g) }, d.pages.filter useless)

/-- A level-1 draft's pages and fills become the sequence's (R206). -/
def KvPool.applyDraft (k : KvPool) (pool : Nat) (d : Draft) : KvPool :=
  let k1 := (d.pages.filter (fun (g : DraftPage) => g.pool = pool)).foldl (fun (k : KvPool) (g : DraftPage) =>
    match NMap.get? k.seqs g.seq with
    | none => k
    | some q =>
      let old := q.entry? g.layer g.page
      let e : KvEntry := match old with
        | some o => { o with valid := true, dropped := false, frame := g.frame }
        | none => { valid := true, fill := 0, frame := g.frame }
      let fs := match old with | some o => if o.valid then dropRef k.frames o.frame else k.frames | none => k.frames
      { k with frames := fs, seqs := NMap.put k.seqs g.seq { q with pages := NMap.put q.pages (pageKey g.layer g.page) e } }) k
  (d.appends.filter (fun (a : DraftAppend) => a.pool = pool)).foldl (fun (k : KvPool) (a : DraftAppend) =>
    { k with seqs := NMap.upd k.seqs a.seq (fun q =>
        { q with
          lens := setAt q.lens a.layer (max (q.lens.getD a.layer 0) a.fill)
          pages := q.pages.map (fun e =>
            let pg := e.1 % 256
            if e.1 / 256 = a.layer && e.2.valid && decide (a.first / 256 ≤ pg) && decide (pg * 256 < a.fill)
            then (e.1, { e.2 with fill := max e.2.fill (min 256 (a.fill - pg * 256)) }) else e) }) }) k1

/-- Pages that hold a draft's slots, copies or new pages: p of R205, DETAIL1 of TWIST counts copies and new pages with the pages of slots. -/
def Draft.slotPages (d : Draft) : List (Nat × Nat × Nat × Nat) :=
  (d.pages.map (fun (g : DraftPage) => (g.pool, g.seq, g.layer, g.page))
   ++ d.appends.flatMap (fun (a : DraftAppend) => if a.fill ≤ a.first then [] else
        (List.range ((a.fill - 1) / 256 + 1 - a.first / 256)).map (fun i => (a.pool, a.seq, a.layer, a.first / 256 + i)))).eraseDups

end Sys2Proof.Machine
end

