-- ==== Sys2Proof/Machine/Fmt.lean ====
section
/-! DEFINITION. What the compute packets share: the format words (Tables 4.7, 4.8), stored tensors (R114, R118, R127), the array's
accumulation (R121 to R123), precision escalation (R132 to R134), the gate pipe with its side data (R145 to R149), and result rows. -/

namespace Sys2Proof.Machine

open Sys2Proof.Num (Val)

/-! ### Format words -/

/-- FMT, ESC, TOL and SEED (Tables 4.7, 4.8). -/
structure FmtW where
  out : Nat
  round : Nat
  sat : Bool
  sparse : Bool
  esc : Nat
  wf : Nat
  af : Nat
  cmp : Nat
  limit : Nat := 0
  tol : Nat := 0
  seed : Nat := 0

/-- The FMT word of a packet, with the words that follow it in a packet that carries all four (R154). -/
def fmtOf (p : Packet) : FmtW where
  out := p.f 3 27 24
  round := p.f 3 23 22
  sat := p.b 3 21
  sparse := p.b 3 20
  esc := p.f 3 19 18
  wf := p.f 3 15 12
  af := p.f 3 11 8
  cmp := p.f 3 7 4
  limit := p.f 4 31 16
  tol := p.word 5
  seed := p.word 6

/-- Masks of FMT, ESC, TOL and SEED. -/
def fmtMasks : List Nat := [fm [(27, 18), (15, 4)], fm [(31, 16)], full, full]

/-- The activation's compute format (R120). -/
def FmtW.comp (f : FmtW) : Nat := if f.cmp = 0xF then f.af else f.cmp

/-- Combinations of Table 4.3, and those with a sparse rate (R127). -/
def comboOk (a w : Nat) (sparse : Bool) : Bool :=
  if a = 0 then w = 0 || w = 1
  else if Num.isFp8 a || Num.isFp64th a then Num.isFp8 w || Num.isFp64th w
  else !sparse && (a = 7 || a = 8 || a = 9) && a = w

/-- TOL is a number from +0 to +∞ (Table 4.8). -/
def tolOk (t : Nat) : Bool := t ≤ 0x7F800000

/-- Field checks of FMT and TOL for an operation on the array (R111, R120, R124, R127, R130, R132): the faulty word. `escDest` tells whether
the destination lies in core or die shared memory, `fixed` whether the context is fixed-lane. -/
def FmtW.arrayBad (f : FmtW) (escDest fixed : Bool) : Option Nat :=
  if !Num.isOut f.out || f.round = 3 || f.esc = 3 || !Num.isWeight f.wf || !Num.isAct f.af || !([4, 5, 6, 0xF].contains f.cmp)
    || (f.cmp ≠ 0xF && !Num.isFp8 f.af) || !comboOk f.comp f.wf f.sparse
    || (f.esc ≠ 0 && (!Num.isFp8 f.af || f.cmp = 0xF || !Num.isFp64th f.wf || !escDest))
    || (f.esc = 2 && fixed && f.limit = 0) then some 3
  else if !tolOk f.tol then some 5 else none

/-- ESC and TOL must be 0 where escalation does not apply. -/
def FmtW.noEsc (f : FmtW) (p : Packet) : Option Nat :=
  if f.cmp ≠ 0xF || f.sparse || f.esc ≠ 0 then some 3 else if p.word 4 ≠ 0 then some 4 else if p.word 5 ≠ 0 then some 5 else none

/-! ### Stored tensors -/

/-- A reader of committed and drafted bytes. -/
abbrev Reader := Addr → Byte

/-- Bytes of an element array of `rows` × `cols` (R114, R118). -/
def tensorBytes (fmt rows cols : Nat) : Nat := rows * Num.rowBytes fmt cols
/-- Base of the scale array that follows it. -/
def scaleBase (fmt base rows cols : Nat) : Addr := up64 (base + tensorBytes fmt rows cols)
/-- All the bytes of a stored tensor, scales included. -/
def tensorSpan (fmt base rows cols : Nat) : Nat :=
  if Num.scaled fmt then scaleBase fmt base rows cols + rows * (cols / 32) - base else tensorBytes fmt rows cols

/-- Values of row `r` of a stored tensor (R114, R117, R118). -/
def tensorRow (rd : Reader) (fmt base rows cols r : Nat) : List Val :=
  let bs := readBytes rd (base + r * Num.rowBytes fmt cols) (Num.rowBytes fmt cols)
  if Num.scaled fmt then
    let sc := readBytes rd (scaleBase fmt base rows cols + r * (cols / 32)) (cols / 32)
    (List.range cols).map (fun i => Num.scaledVal fmt (Num.elemAt fmt bs i) (sc.getD (i / 32) 0).toNat)
  else (List.range cols).map (fun i => Num.plainVal fmt (Num.elemAt fmt bs i))

/-- Positions of a metadata nibble: the first and the second stored value's place in its group of four (R128). -/
def nibblePos (nb : Nat) : Nat × Option Nat :=
  let a := nb % 4
  let b := nb / 4 % 4
  if a = b then (a, none) else if a < b then (a, some b) else (b, some a)

/-- Where the 2:4 metadata of an N × K weight matrix begins: after the scales, or after the elements (Table 5.12). -/
def metaBase (fmt base n k : Nat) : Addr :=
  if Num.scaled fmt then up64 (scaleBase fmt base n (k / 2) + n * (k / 32)) else up64 (base + tensorBytes fmt n (k / 2))

/-- Bytes of a weight matrix of N rows and K dense positions with its scales and metadata. -/
def weightSpan (fmt : Nat) (sparse : Bool) (base n k : Nat) : Nat :=
  if sparse then metaBase fmt base n k + n * Num.rowBytes 1 (k / 4) - base else tensorSpan fmt base n k

/-- Dense values of row `r` of an N × K weight matrix (R127, R128): a block-scaled weight in 2:4 form keeps one scale per 32 dense positions. -/
def weightRow (rd : Reader) (fmt : Nat) (sparse : Bool) (base n k r : Nat) : List Val :=
  if !sparse then tensorRow rd fmt base n k r else
  let half := k / 2
  let bs := readBytes rd (base + r * Num.rowBytes fmt half) (Num.rowBytes fmt half)
  let sc := if Num.scaled fmt then readBytes rd (scaleBase fmt base n half + r * (k / 32)) (k / 32) else []
  let md := readBytes rd (metaBase fmt base n k + r * Num.rowBytes 1 (k / 4)) (Num.rowBytes 1 (k / 4))
  (List.range k).map (fun i =>
    let g := i / 4
    let (x, y) := nibblePos (Num.elemAt 1 md g)
    let val (j : Nat) : Val :=
      let e := Num.elemAt fmt bs (2 * g + j)
      if Num.scaled fmt then Num.scaledVal fmt e (sc.getD (i / 32) 0).toNat else Num.plainVal fmt e
    if i % 4 = x then val 0 else if some (i % 4) = y then val 1 else Num.zero)

/-! ### The array -/

/-- Split a reduction into groups of 32 (R121). -/
def groups32 (vs : List Val) : List (List Val) := Num.chunks 32 vs.length vs

/-- Exact sum of one group's products. -/
def groupSum (a w : List Val) : Val := (a.zip w).foldl (fun acc x => Num.add acc (Num.mul x.1 x.2)) Num.zero

/-- Floating-point accumulation: each group's exact sum is rounded once into the FP32 accumulator (R121, R123). -/
def accFp (ga gw : List (List Val)) : Val := (ga.zip gw).foldl (fun acc g => Num.r32 (Num.add acc (groupSum g.1 g.2))) Num.zero

/-- Value of an exact integer. -/
def intOfVal (v : Val) : Int := Num.nearest v

/-- Integer accumulation into INT32 with saturation: the sum and the saturation events (R121). -/
def accInt (ga gw : List (List Val)) : Int × Nat :=
  (ga.zip gw).foldl (fun acc g =>
    let x := acc.1 + intOfVal (groupSum g.1 g.2)
    if 2147483647 < x then (2147483647, acc.2 + 1) else if x < -2147483648 then (-2147483648, acc.2 + 1) else (x, acc.2)) (0, 0)

/-- One operation on the array: rows of grouped activations, columns of grouped weights. -/
structure ArrayOp where
  m : Nat
  n : Nat
  /-- MACs of one row and column. -/
  k : Nat
  act : Nat → List (List Val)
  wt : Nat → List (List Val)

/-- Narrowing on entry: a block becomes FP6 or FP4 with a scale (R119, R130). -/
def narrow (cmp : Nat) (g : List Val) : Num.Block := Num.toBlock (Num.fpOf cmp) (fun _ => .rne) true g
/-- The narrowed values of a block. -/
def blockVals (cmp : Nat) (b : Num.Block) : List Val := b.enc.map (fun x => Num.scaledVal cmp x b.scaleByte)

/-- Spacing h(x) of an element format at a_max / 2^s, times 2^s (R133). -/
def halfSpacing (f : Num.Fmt) (amax : Val) (s : Int) : Val :=
  match amax with
  | .fin _ m e =>
    if m = 0 then Num.zero else
    .fin false 1 (max ((Nat.log2 m : Int) + e - s) (1 - (f.bias : Int)) - f.mbits + s - 1)
  | _ => .inf false

/-- Round a value to FP32 upward (R133). -/
def up32 (v : Val) : Val := Num.dec32 (Num.toFp Num.fp32 .up false v).enc

/-- The bound E_m of a row (R133): `wmax` is W_j of each block. -/
def rowBound (cmp c : Nat) (groups : List (List Val)) (wmax : List Val) : Val :=
  let f := Num.fpOf cmp
  let bad := groups.any (fun g => g.any (· = .nan) || (Num.scaleExp f g).2 && (Num.scaleExp f g).1 = 127)
  if bad then .inf false else
  let sum := (groups.zip wmax).foldl (fun acc x =>
    up32 (Num.add acc (up32 (Num.mul (halfSpacing f (Num.amax x.1) (Num.scaleExp f x.1).1) x.2)))) Num.zero
  up32 (Num.mul (Num.ofNat c) sum)

/-- W_j: the largest weight magnitude of each block over all columns. -/
def ArrayOp.wmax (o : ArrayOp) : List Val :=
  let n := (o.wt 0).length
  (List.range n).map (fun j => (List.range o.n).foldl (fun a c => Num.maxV a (Num.amax ((o.wt c).getD j []))) Num.zero)

/-- One finished row before the gate pipe, with its array events. -/
structure ArrRow where
  sums : List Val
  nan : Nat := 0
  sat : Nat := 0

/-- A row at the compute format `cmp` (0xF: as stored). -/
def ArrayOp.row (o : ArrayOp) (intPair : Bool) (cmp m : Nat) : ArrRow :=
  let ga := o.act m
  if intPair then
    let xs := (List.range o.n).map (fun c => accInt ga (o.wt c))
    { sums := xs.map (fun x => Num.ofInt x.1), sat := (xs.map (fun x => x.2)).sum }
  else if cmp = 0xF then { sums := (List.range o.n).map (fun c => accFp ga (o.wt c)) }
  else
    let bs := ga.map (narrow cmp)
    let gn := bs.map (blockVals cmp)
    { sums := (List.range o.n).map (fun c => accFp gn (o.wt c)), nan := (bs.map (fun b => b.nan)).sum, sat := (bs.map (fun b => b.sat)).sum }

/-- The rows of an operation with what escalation decided: rows, rows escalated, rows over TOL left narrow, largest bound left narrow. -/
structure ArrOut where
  rows : List ArrRow
  escalated : Nat := 0
  beyond : Nat := 0
  maxBound : Nat := 0

/-- Rows that may escalate: none is no limit (Table 4.8). -/
def FmtW.budget (f : FmtW) : Option Nat := if f.limit = 0 then none else some f.limit

/-- Run an operation on the array with precision escalation (R133, R134); `budget` rows may escalate. -/
def ArrayOp.run (o : ArrayOp) (f : FmtW) (budget : Option Nat) : ArrOut :=
  let intPair := f.af = 0
  if f.esc = 0 then { rows := (List.range o.m).map (o.row intPair f.cmp) }
  else
    let wm := o.wmax
    let tol := Num.dec32 f.tol
    (List.range o.m).foldl (fun (acc : ArrOut) m =>
      let b := rowBound f.cmp (if f.sparse then 16 else 32) (o.act m) wm
      let narrowRow := o.row false f.cmp m
      let exceeds := Num.lt tol b
      if exceeds && f.esc = 2 && (match budget with | none => true | some b => decide (acc.escalated < b)) then
        let wide := o.row false 0xF m
        { acc with rows := acc.rows ++ [{ wide with nan := wide.nan + narrowRow.nan, sat := wide.sat + narrowRow.sat }], escalated := acc.escalated + 1 }
      else
        { acc with rows := acc.rows ++ [narrowRow], beyond := acc.beyond + (if exceeds then 1 else 0)
                   maxBound := Num.enc32 (Num.maxV (Num.dec32 acc.maxBound) b) })
      { rows := [] }

/-! ### The gate pipe -/

/-- The side descriptor (Table 5.7) with what it points to. -/
structure Side where
  c0 : Nat
  c1 : Nat
  c2 : Nat
  c3 : Nat
  c4 : Nat
  rf : Nat
  gf : Nat
  stats : Addr
  g : Addr
  r : Addr
  b : Addr
  sc : Addr

/-- Read a side descriptor from its 512 bits. -/
def sideOf (x : Nat) : Side where
  c4 := bits x 511 480
  c3 := bits x 479 448
  c2 := bits x 447 416
  c1 := bits x 415 384
  c0 := bits x 383 352
  rf := bits x 335 332
  gf := bits x 331 328
  stats := bits x 303 256
  g := bits x 255 208
  r := bits x 207 160
  b := bits x 159 112
  sc := bits x 111 64

/-- The gate program F0 to F3 of word 13. -/
def gatesOf (p : Packet) : List Nat := [p.f 13 13 8, p.f 13 19 14, p.f 13 25 20, p.f 13 31 26]

def usesR (c : Nat) : Bool := c = 4 || c = 0x12
def usesG (c : Nat) : Bool := c = 0xF || c = 0x10 || c = 0x11 || c = 0x12
def usesStats (c : Nat) : Bool := c = 0x13 || c = 0x14
/-- Whether a function needs a field of the side descriptor (R149). -/
def usesSide (c : Nat) : Bool := [1, 2, 3, 4, 6, 7, 0xF, 0x10, 0x11, 0x12, 0x13, 0x14].contains c

/-- A gate program that Table 5.6 does not allow, or whose side data are missing or ill-formed: word 13 (R111, R147, R149). -/
def gatesBad (fs : List Nat) (sideAddr : Addr) (sd : Side) (statsOk : Bool) : Bool :=
  fs.any (fun c => 0x16 < c)
  || (!statsOk && fs.any usesStats)
  || decide (1 < (fs.filter usesStats).length)
  || (sideAddr = 0 && fs.any usesSide)
  || sideAddr % 64 ≠ 0
  || (sideAddr ≠ 0 && (
      (fs.contains 1 && sd.sc = 0) || (fs.contains 3 && sd.b = 0) || (fs.any usesR && (sd.r = 0 || 12 < sd.rf))
      || (fs.any usesG && (sd.g = 0 || 12 < sd.gf)) || (fs.any usesStats && (sd.stats = 0 || sd.stats % 64 ≠ 0))))

/-- What the gate pipe reads for one output row. -/
structure SideRow where
  scol : List Val := []
  bias : List Val := []
  r : List Val := []
  g : List Val := []

/-- Side data of row `m` of an M × N output. -/
def sideRow (rd : Reader) (fs : List Nat) (sd : Side) (rows n m : Nat) : SideRow where
  scol := if fs.contains 1 then tensorRow rd 9 sd.sc 1 n 0 else []
  bias := if fs.contains 3 then tensorRow rd 9 sd.b 1 n 0 else []
  r := if fs.any usesR then (tensorRow rd sd.rf sd.r rows n m).map Num.r32 else []
  g := if fs.any usesG then (tensorRow rd sd.gf sd.g rows n m).map Num.r32 else []

/-- A function whose bits only its error bound limits, as an uninterpreted function of its FP32 inputs (R146). -/
def gateVal (code : Nat) (y b c : Val) : Val :=
  Num.dec32 (Config.gate code (BitVec.ofNat 32 (Num.enc32 y)) (BitVec.ofNat 32 (Num.enc32 b)) (BitVec.ofNat 32 (Num.enc32 c))).toNat

/-- One element through one gate-pipe function (Table 5.6), but for SOFTMAX_PART and NORM_STATS. -/
def gateElem (code : Nat) (sd : Side) (x : SideRow) (n : Nat) (y : Val) : Val :=
  let r := x.r.getD n Num.zero
  let g := x.g.getD n Num.zero
  match code with
  | 0x00 => y
  | 0x01 => Num.mul32 y (x.scol.getD n Num.zero)
  | 0x02 => Num.mul32 y (Num.dec32 sd.c0)
  | 0x03 => Num.add32 y (x.bias.getD n Num.zero)
  | 0x04 => Num.add32 y r
  | 0x05 => Num.maxV Num.zero y
  | 0x06 => if Num.le Num.zero y then y else Num.mul32 (Num.dec32 sd.c1) y
  | 0x07 => Num.minV (Num.maxV y (Num.dec32 sd.c2)) (Num.dec32 sd.c3)
  | 0x0F => Num.mul32 y g
  | 0x14 => y
  | c => gateVal c y g r

/-- Sum in ascending order, each step rounding to nearest, ties to even (R147). -/
def sum32 (vs : List Val) : Val := vs.foldl Num.add32 Num.zero

/-- A row after one function, with the stats pairs of its 256-column tiles (R147). -/
def gateRow (code : Nat) (sd : Side) (x : SideRow) (ys : List Val) : List Val × List (Val × Val) :=
  if code = 0x13 then
    let tiles := (Num.chunks 256 ys.length ys).map (fun t =>
      let z := t.map (fun y => Num.mul32 (Num.dec32 sd.c4) y)
      let mu := match z with | [] => Num.zero | a :: r => r.foldl Num.maxV a
      let out := z.map (fun v => gateVal 0x13 v mu Num.zero)
      (out, mu, sum32 out))
    (tiles.flatMap (fun t => t.1), tiles.map (fun t => (t.2.1, t.2.2)))
  else if code = 0x14 then
    (ys, (Num.chunks 256 ys.length ys).map (fun t => (sum32 t, t.foldl (fun a y => Num.fma32 y y a) Num.zero)))
  else (ys.zipIdx.map (fun y => gateElem code sd x y.2 y.1), [])

/-- A row through F0 to F3 (R145). -/
def gateProgram (fs : List Nat) (sd : Side) (x : SideRow) (ys : List Val) : List Val × List (Val × Val) :=
  fs.foldl (fun acc c => let r := gateRow c sd x acc.1; (r.1, acc.2 ++ r.2)) (ys, [])

/-! ### Result rows -/

/-- Result writes of an M × N output and its counts. -/
structure OutTensor where
  writes : List ResWrite
  nan : Nat := 0
  sat : Nat := 0

/-- Convert finished rows and lay them out: elements, then scales from the next 64-byte boundary (R148). -/
def outTensor (f : FmtW) (base n : Nat) (rows : List (List Val)) : OutTensor :=
  let rs := rows.zipIdx.map (fun r => convertRow f.out f.round f.seed r.2 0 f.sat r.1)
  let m := rows.length
  { writes := [⟨base, rs.flatMap (fun r => r.bytes)⟩]
      ++ (if Num.scaled f.out then [⟨scaleBase f.out base m n, rs.flatMap (fun r => r.scales)⟩] else [])
    nan := (rs.map (fun r => r.nan)).sum, sat := (rs.map (fun r => r.sat)).sum }

/-- The stats array: two FP32 values per row and tile (R147). -/
def statsWrite (base : Addr) (rows : List (List (Val × Val))) : List ResWrite :=
  let bs := rows.flatMap (fun r => r.flatMap (fun t => leBytes 4 (Num.enc32 t.1) ++ leBytes 4 (Num.enc32 t.2)))
  if bs.isEmpty then [] else [⟨base, bs⟩]

/-- Rows of array sums through the gate pipe into memory (R145): with no function and OUT_FMT INT32 integer sums pass unchanged. -/
def gateOut (rd : Reader) (f : FmtW) (fs : List Nat) (sd : Side) (base n : Nat) (rows : List (List Val)) : OutTensor :=
  let none_ := fs.all (· = 0)
  let m := rows.length
  let gs := rows.zipIdx.map (fun r =>
    if none_ && f.af = 0 && f.out = 0xA then (r.1, []) else gateProgram fs sd (sideRow rd fs sd m n r.2) (r.1.map Num.r32))
  let o := outTensor f base n (gs.map (fun g => g.1))
  { o with writes := o.writes ++ statsWrite sd.stats (gs.map (fun g => g.2)) }

/-- OUT_FMT against the gate program: INT32 with a function, or a block-scaled output whose N is no multiple of 32 (R145, R148): word 3. -/
def outBad (f : FmtW) (fs : List Nat) (n : Nat) : Bool := (f.out = 0xA && !fs.all (· = 0)) || (Num.scaled f.out && n % 32 ≠ 0)

/-- Ranges that the gate pipe reads and the stats range it writes. -/
def sideReads (fs : List Nat) (sd : Side) (m n : Nat) : List (Addr × Nat) :=
  (if fs.contains 1 then [(sd.sc, 4 * n)] else []) ++ (if fs.contains 3 then [(sd.b, 4 * n)] else [])
  ++ (if fs.any usesR then [(sd.r, tensorSpan sd.rf sd.r m n)] else []) ++ (if fs.any usesG then [(sd.g, tensorSpan sd.gf sd.g m n)] else [])
def statsRange (fs : List Nat) (sd : Side) (m n : Nat) : List (Addr × Nat) :=
  if fs.any usesStats then [(sd.stats, 8 * m * ceilDiv n 256)] else []

/-- R and G lie in the activation buffer or core memory (the text after R148). -/
def sideTensorOk (fs : List Nat) (sd : Side) : Bool :=
  let ok (a : Addr) : Bool := match place a with | .actBuf _ _ => true | .coreMem _ _ => true | _ => false
  (!fs.any usesR || ok sd.r) && (!fs.any usesG || ok sd.g)

/-- The core a packet names in word `w` [3:0] is one its context may run on (precondition 13). -/
def State.core13 (s : State) (c k : Nat) : Option Rej := if s.eligible c k then none else some (badState 13)

/-- First address of a list that the context may not name. -/
def State.firstBadAddr (s : State) (c : Nat) (reads writes : List (Addr × Nat)) : Option Rej :=
  match reads.find? (fun r => !s.computeAddr c r.1 r.2 false) with
  | some r => some (badAddr r.1)
  | none => (writes.find? (fun r => !s.computeAddr c r.1 r.2 true)).map (fun r => badAddr r.1)

/-- A drafted result's ranges have shadow storage (R190). -/
def State.allShadowed (s : State) (c : Nat) (ws : List (Addr × Nat)) : Bool := ws.all (fun r => s.shadowed c r.1)

/-- Ports that a side descriptor or a die-shared output may use: any engine port. -/
def anyPort : List Nat := [0, 1, 2, 3, 4]
/-- Output ports: activation in core memory; in die shared memory the write leaves through the mesh (Table 5.5, R255). -/
def outPorts (a : Addr) : List Nat := match place a with | .dieShared _ _ => anyPort | _ => [1]

/-- The counts of Table 4.9. -/
def countWords (esc beyond bound nan sat : Nat) : List Nat := [esc, beyond, bound, evWord nan sat]

end Sys2Proof.Machine
end

