-- ==== Sys2Proof/Machine/Compute.lean ====
section
/-! DEFINITION. MATMUL (R141, Table 5.12) and VECTOR_OP (R150, Table 5.13), and the start of an operation on one named core, which CONV, RECUR
and SORT share (R155). -/

namespace Sys2Proof.Machine

open Sys2Proof.Num (Val)

/-! ### One operation on one named core -/

/-- Ranges of an operation with the ports that may reach each (R144). -/
structure Ranges where
  reads : List (Addr × Nat × List Nat)
  writes : List (Addr × Nat × List Nat)

def Ranges.rd (r : Ranges) : List (Addr × Nat) := r.reads.map (fun x => (x.1, x.2.1))
def Ranges.wr (r : Ranges) : List (Addr × Nat) := r.writes.map (fun x => (x.1, x.2.1))
def Ranges.all (r : Ranges) : List (Addr × Nat) := r.rd ++ r.wr

/-- Ranges of a list under one set of ports. -/
def withPorts (ports : List Nat) (l : List (Addr × Nat)) : List (Addr × Nat × List Nat) := l.map (fun x => (x.1, x.2, ports))

/-- Preconditions 11, 12 and 13 of an operation on core `k` (R144, R155). -/
def State.corePre (s : State) (c k : Nat) (r : Ranges) (sideOk : Bool) : Option Rej :=
  firstFail [
    (!((r.rd ++ r.wr).all (fun x => nearCore k x.1 x.2)) || !sideOk, badState 11),
    (!((r.reads ++ r.writes).all (fun x => s.portRange c x.1 x.2.1 x.2.2)), badState 12),
    (!s.eligible c k, badState 13)]

/-- Run an operation on core `k` once it is free (R155): `f` computes the work from the state with the core claimed. -/
def State.runOn (s : State) (e : Env) (k : Nat) (r : Ranges) (f : State → Work) : State :=
  match s.claimFor e [k] with
  | none => s.waitCores e [k] 1 r.all
  | some s1 =>
    let bad := s1.poisonIn r.rd
    if bad.isEmpty then s1.startWork e { f s1 with reads := r.rd, cores := [k], stamp := s1.stampOf r.rd } else s1.consumePoison e bad

/-- The side descriptor at an address, where the context may read it. -/
def State.sideAt (s : State) (p : Packet) (a : Addr) : Option Side :=
  if a = 0 || !s.computeAddr p.ctx a 64 false then none else some (sideOf (s.seeNat p a 64))

/-- An empty side descriptor. -/
def noSide : Side := sideOf 0

/-- A gate program is refused (R147, R149): fields of a descriptor that cannot be read are not looked at. -/
def State.gateBad (s : State) (p : Packet) (a : Addr) (statsOk : Bool) : Bool :=
  match s.sideAt p a with
  | some sd => gatesBad (gatesOf p) a sd statsOk
  | none => (gatesOf p).any (fun c => 0x16 < c) || (!statsOk && (gatesOf p).any usesStats) || decide (1 < ((gatesOf p).filter usesStats).length)
      || (a = 0 && (gatesOf p).any usesSide) || a % 64 ≠ 0

/-- Ranges of the side data, all but the descriptor through the activation port. -/
def sideRanges (fs : List Nat) (sideAddr : Addr) (sd : Side) (m n : Nat) : Ranges where
  reads := (if sideAddr = 0 then [] else [(sideAddr, 64, anyPort)]) ++ withPorts [1] (sideReads fs sd m n)
  writes := (statsRange fs sd m n).map (fun r => (r.1, r.2, outPorts r.1))

def Ranges.add (a b : Ranges) : Ranges := ⟨a.reads ++ b.reads, a.writes ++ b.writes⟩

/-- Output ranges of an M × N result. -/
def outRanges (fmt base m n : Nat) : List (Addr × Nat × List Nat) := [(base, tensorSpan fmt base m n, outPorts base)]

/-- Address check of a set of ranges (Table 2.12). -/
def State.rangesBad (s : State) (c : Nat) (r : Ranges) : Option Rej := s.firstBadAddr c r.rd r.wr

/-! ### MATMUL -/

def mmSide (s : State) (p : Packet) : Side := (s.sideAt p (p.addr 14)).getD noSide

def mmRanges (s : State) (p : Packet) : Ranges :=
  let f := (fmtOf p)
  let m := p.f 8 31 16
  let k := p.f 10 31 16
  let n := p.f 12 31 16
  (Ranges.mk [(p.addr 7, tensorSpan f.af (p.addr 7) m k, [1]), (p.addr 9, weightSpan f.wf f.sparse (p.addr 9) n k, [0])]
    (outRanges f.out (p.addr 11) m n)).add (sideRanges (gatesOf p) (p.addr 14) (mmSide s p) m n)

/-- The array operation of a MATMUL as the packet sees memory. -/
def mmOp (s : State) (p : Packet) : ArrayOp :=
  let f := (fmtOf p)
  let m := p.f 8 31 16
  let k := p.f 10 31 16
  let n := p.f 12 31 16
  let rd := s.reader p []
  { m := m, n := n, k := k
    act := fun i => groups32 (tensorRow rd f.af (p.addr 7) m k i)
    wt := fun c => groups32 (weightRow rd f.wf f.sparse (p.addr 9) n k c) }

/-- Work of an array operation: result writes, counts (Table 4.9) and counters. -/
def arrayWork (s : State) (p : Packet) (f : FmtW) (o : ArrayOp) (sd : Side) (base : Addr) : Work :=
  let a := o.run f f.budget
  let t := gateOut (s.reader p []) f (gatesOf p) sd base o.n (a.rows.map (fun r => r.sums))
  let an := (a.rows.map (fun r => r.nan)).sum
  let as := (a.rows.map (fun r => r.sat)).sum
  { writes := t.writes, sent := true, esc := f.esc = 2
    details := countWords a.escalated a.beyond a.maxBound (an + t.nan) (as + t.sat)
    after := [.ops f.comp (o.m * o.n * o.k) a.escalated an as, .ops (16 + f.out) (o.m * o.n) 0 t.nan t.sat] }

/-- Whether a destination lies in core memory or die shared memory (R132). -/
def escPlace (a : Addr) : Bool := match place a with | .coreMem _ _ => true | .dieShared _ _ => true | _ => false

/-- An escalating operation needs shadow space for its destination (R136, R190). -/
def State.escShadow (s : State) (c : Nat) (f : FmtW) (ws : List (Addr × Nat)) : Option Rej :=
  if f.esc = 2 && !s.allShadowed c ws then some (badState 22) else none

def specMatmul : OpSpec where
  code := 0x0300
  masks := fun _ => fmtMasks ++ [full, full, full, full, full, full, fm [(31, 8), (3, 0)], full, fm [(15, 0)]]
  params := fun e s =>
    let p := e.p
    let f := (fmtOf p)
    let k := p.f 10 31 16
    let n := p.f 12 31 16
    let w := f.arrayBad (escPlace (p.addr 11)) (s.isFixed p.ctx)
    (paramCheck [
      (w = some 3 || outBad f (gatesOf p) n, 3), (w = some 5, 5), (p.addr 7 % 64 ≠ 0, 7), (p.f 8 31 16 = 0, 8), (p.addr 9 % 64 ≠ 0, 9),
      (k = 0 || ((Num.scaled f.af || Num.scaled f.wf) && k % 32 ≠ 0) || (f.sparse && k % 4 ≠ 0), 10),
      (p.addr 11 % 64 ≠ 0, 11), (n = 0, 12), (s.gateBad p (p.addr 14) true, 13)]).orElse (fun _ =>
    s.rangesBad p.ctx (mmRanges s p))
  draft := some (fun e s => s.allShadowed e.p.ctx (mmRanges s e.p).wr)
  pre := fun e s =>
    (s.escShadow e.p.ctx (fmtOf e.p) (mmRanges s e.p).wr).orElse (fun _ =>
      s.corePre e.p.ctx (e.p.f 13 3 0) (mmRanges s e.p) (sideTensorOk (gatesOf e.p) (mmSide s e.p)))
  run := fun e s =>
    let p := e.p
    s.runOn e (p.f 13 3 0) (mmRanges s p) (fun x => arrayWork x p (fmtOf p) (mmOp x p) (mmSide x p) (p.addr 11))

/-- MATMUL multiplies, accumulates, applies the gate program and writes Y (R141). -/
def execMatmul (src : Src) (p : Packet) (s : State) : Res := .next (specMatmul.exec src p s)

/-! ### VECTOR_OP -/

/-- Functions of Table 5.8: binary, unary element-wise, row functions. -/
def vecRow (c : Nat) : Bool := 0x10 ≤ c && c ≤ 0x16
def vecUnary (c : Nat) : Bool := 0x40 ≤ c && ([5, 6, 7, 8, 9, 0xA, 0xB, 0xC, 0xD, 0xE, 0x15, 0x16].contains (c - 0x40))
def vecKnown (c : Nat) : Bool := (1 ≤ c && c ≤ 7) || vecRow c || vecUnary c
/-- Functions that read Y. -/
def vecUsesY (c : Nat) : Bool := c = 1 || c = 2 || c = 3 || c = 5 || c = 6 || c = 0x14

/-- The FMT of a packet that carries FMT and SEED only (R129). -/
def fmtVOf (p : Packet) : FmtW := { (fmtOf p) with seed := p.word 4, limit := 0, tol := 0 }
/-- Mask of its FMT word: W_FMT, SPARSE, A_CMP and ESC_MODE are reserved (R129). -/
def fmtVMask : Nat := fm [(27, 21), (11, 8)]

def vecFunc (p : Packet) : Nat := p.f 5 31 24
def vecCount (p : Packet) : Nat := p.word 14
def vecLen (p : Packet) : Nat := p.f 7 31 16
/-- Rows and columns that X is read as: rows of ROW_LEN for a row function, else one row. -/
def vecRows (p : Packet) : Nat := if vecRow (vecFunc p) then vecCount p / vecLen p else 1
def vecCols (p : Packet) : Nat := if vecRow (vecFunc p) then vecLen p else vecCount p
/-- Elements of the result: one per row for the reductions. -/
def vecOut (p : Packet) : Nat × Nat :=
  let c := vecFunc p
  if c = 0x10 || c = 0x11 || c = 0x12 then (1, vecRows p) else (vecRows p, vecCols p)
/-- Bytes of the second operand. -/
def vecYBytes (p : Packet) : Nat :=
  if vecFunc p = 0x14 then vecRows p * ceilDiv (vecCols p) 256 * 8 else tensorSpan (fmtVOf p).af (p.addr 8) (vecRows p) (vecCols p)

def vecRanges (p : Packet) : Ranges where
  reads := [(p.addr 6, tensorSpan (fmtVOf p).af (p.addr 6) (vecRows p) (vecCols p), [2, 3])]
    ++ (if vecUsesY (vecFunc p) then [(p.addr 8, vecYBytes p, [2, 3])] else [])
  writes := [(p.addr 10, tensorSpan (fmtVOf p).out (p.addr 10) (vecOut p).1 (vecOut p).2, [2, 3])]

/-- Lowest index of the row maximum (Table 5.8); NaN elements do not count as larger. -/
def argmax (xs : List Val) : Nat :=
  (xs.zipIdx.foldl (fun (a : Val × Nat) x => if Num.lt a.1 x.1 then (x.1, x.2) else a) (xs.headD Num.zero, 0)).2

/-- A whole row through a function whose bits only error bounds limit: element `i` of a row, as an uninterpreted function of the row. -/
def rowFn (code : Nat) (c0 : Nat) (xs ys : List Val) (i : Nat) : Val :=
  Num.dec32 (Config.rowGate code (BitVec.ofNat 32 c0) (xs.map (fun v => BitVec.ofNat 32 (Num.enc32 v))) (ys.map (fun v => BitVec.ofNat 32 (Num.enc32 v))) i).toNat

/-- The result of a row of a VECTOR_OP in FP32 (Table 5.8). -/
def vecRowVals (code c0 c1 : Nat) (xs ys : List Val) : List Val :=
  let k0 := Num.dec32 c0
  let k1 := Num.dec32 c1
  let zip (f : Val → Val → Val) : List Val := (xs.zip ys).map (fun x => f x.1 x.2)
  match code with
  | 0x01 => zip Num.add32
  | 0x02 => zip Num.mul32
  | 0x03 => zip (fun x y => Num.fma32 k0 x y)
  | 0x04 => xs.map (fun x => Num.fma32 k0 x k1)
  | 0x05 => zip Num.maxV
  | 0x06 => zip Num.minV
  | 0x07 => xs
  | 0x10 => [sum32 xs]
  | 0x11 => [match xs with | [] => Num.zero | a :: r => r.foldl Num.maxV a]
  | 0x12 => [Num.ofNat (argmax xs)]
  | 0x13 => (List.range xs.length).map (rowFn 0x13 c0 xs [])
  | 0x14 => (List.range xs.length).map (rowFn 0x14 c0 xs ys)
  | 0x15 => (List.range xs.length).map (rowFn 0x15 c0 xs [])
  | 0x16 => (List.range xs.length).map (rowFn 0x16 c0 xs [])
  | c => xs.map (fun x => gateElem (c - 0x40) { noSide with c1 := c1, c2 := c0, c3 := c1 } {} 0 x)

/-- Values of an operand row as the vector units take them: INT8 and every other format widened to FP32. -/
def vecRowIn (rd : Reader) (fmt base rows cols r : Nat) : List Val := (tensorRow rd fmt base rows cols r).map Num.r32

/-- Work of a VECTOR_OP. Stochastic rounding is keyed by SEED and element index (R125, R150). -/
def vecWork (s : State) (p : Packet) : Work :=
  let f := (fmtVOf p)
  let rd := s.reader p []
  let rows := vecRows p
  let cols := vecCols p
  let c := vecFunc p
  let ins := (List.range rows).map (fun r =>
    let ys := if c = 0x14 then tensorRow rd 9 (p.addr 8) rows (2 * ceilDiv cols 256) r
      else if vecUsesY c then vecRowIn rd f.af (p.addr 8) rows cols r else []
    let xs := if c = 0x07 then tensorRow rd f.af (p.addr 6) rows cols r else vecRowIn rd f.af (p.addr 6) rows cols r
    vecRowVals c (p.word 12) (p.word 13) xs ys)
  let reduced := decide (0x10 ≤ c) && decide (c ≤ 0x12)
  let outRows := if reduced then [ins.flatMap id] else ins
  let width := (vecOut p).2
  let rs := outRows.zipIdx.map (fun r => convertRow f.out f.round f.seed 0 (r.2 * width) f.sat r.1)
  let nan := (rs.map (fun r => r.nan)).sum
  let sat := (rs.map (fun r => r.sat)).sum
  { writes := [⟨p.addr 10, rs.flatMap (fun r => r.bytes)⟩]
      ++ (if Num.scaled f.out then [⟨scaleBase f.out (p.addr 10) outRows.length width, rs.flatMap (fun r => r.scales)⟩] else [])
    sent := true
    details := countWords 0 0 0 nan sat
    after := [.ops (32 + f.out) (vecCount p) 0 nan sat] }

def specVectorOp : OpSpec where
  code := 0x0304
  masks := fun _ => [fmtVMask, full, fm [(31, 24), (3, 0)], full, full, full, fm [(15, 0)], full, fm [(15, 0)], full, full, full]
  params := fun e s =>
    let p := e.p
    let f := (fmtVOf p)
    let c := vecFunc p
    let scaledBad := (Num.scaled f.af && (vecCols p) % 32 ≠ 0) || (Num.scaled f.out && (vecOut p).2 % 32 ≠ 0)
    (paramCheck [
      (!Num.isOut f.out || 12 < f.af || f.round = 3, 3),
      (!vecKnown c, 5),
      ((vecRow c && vecLen p = 0) || (!vecRow c && vecLen p ≠ 0), 7),
      (vecCount p = 0 || (vecRow c && vecCount p % vecLen p ≠ 0) || scaledBad, 14)]).orElse (fun _ => s.rangesBad p.ctx (vecRanges p))
  draft := some (fun e s => s.allShadowed e.p.ctx (vecRanges e.p).wr)
  pre := fun e s => s.corePre e.p.ctx (e.p.f 5 3 0) (vecRanges e.p) true
  run := fun e s => s.runOn e (e.p.f 5 3 0) (vecRanges e.p) (fun x => vecWork x e.p)

/-- VECTOR_OP runs a function of Table 5.8 on the vector units (R150). -/
def execVectorOp (src : Src) (p : Packet) (s : State) : Res := .next (specVectorOp.exec src p s)

end Sys2Proof.Machine
end

