-- ==== Sys2Proof/Machine/Conv.lean ====
section
/-! DEFINITION. CONV (R253 to R262, Tables 10.1 to 10.3) and SORT (R264 to R268, Table 10.4). -/

namespace Sys2Proof.Machine

open Sys2Proof.Num (Val)

/-- The convolution descriptor (Table 10.2). -/
structure ConvD where
  x : Addr
  w : Addr
  hIn : Nat
  wIn : Nat
  cIn : Nat
  cOut : Nat
  kh : Nat
  kw : Nat
  sh : Nat
  sw : Nat
  dh : Nat
  dw : Nat
  padT : Nat
  padB : Nat
  padL : Nat
  padR : Nat
  groups : Nat

/-- A descriptor from its 512 bits. -/
def convDesc (v : Nat) : ConvD where
  x := bits v 511 464
  w := bits v 463 416
  hIn := bits v 415 400
  wIn := bits v 399 384
  cIn := bits v 383 368
  cOut := bits v 367 352
  kh := bits v 351 346 + 1
  kw := bits v 345 340 + 1
  sh := bits v 339 336 + 1
  sw := bits v 335 332 + 1
  dh := bits v 331 328 + 1
  dw := bits v 327 324 + 1
  padT := bits v 323 318
  padB := bits v 317 312
  padL := bits v 311 306
  padR := bits v 305 300
  groups := bits v 299 284

/-- The extents and the output size (R254); 0 where it is below 1. -/
def ConvD.hOut (d : ConvD) : Nat :=
  let e := (d.kh - 1) * d.dh + 1
  if d.hIn + d.padT + d.padB < e then 0 else (d.hIn + d.padT + d.padB - e) / d.sh + 1
def ConvD.wOut (d : ConvD) : Nat :=
  let e := (d.kw - 1) * d.dw + 1
  if d.wIn + d.padL + d.padR < e then 0 else (d.wIn + d.padL + d.padR - e) / d.sw + 1
/-- Output pixels. -/
def ConvD.pixels (d : ConvD) : Nat := d.hOut * d.wOut

def convOp (p : Packet) : Nat := p.f 8 31 30

/-- Input row of a tap at an output pixel, none in the padding (R254). -/
def ConvD.tap (d : ConvD) (pix kh kw : Nat) : Option Nat :=
  let i := pix / d.wOut * d.sh + kh * d.dh
  let j := pix % d.wOut * d.sw + kw * d.dw
  if i < d.padT || j < d.padL || d.hIn ≤ i - d.padT || d.wIn ≤ j - d.padL then none
  else some ((i - d.padT) * d.wIn + (j - d.padL))

/-- The passes of a filter as taps in order: bands of 7 rows and 7 columns, one band for a filter of 7 or less (R258). -/
def ConvD.passes (d : ConvD) : List (List (Nat × Nat)) :=
  (List.range (ceilDiv d.kh 7)).flatMap (fun i => (List.range (ceilDiv d.kw 7)).map (fun j =>
    (List.range (min 7 (d.kh - 7 * i))).flatMap (fun a => (List.range (min 7 (d.kw - 7 * j))).map (fun b => (7 * i + a, 7 * j + b)))))

/-- Base of each pass's weight matrix of each group, as (group, pass, base), and the end of the array (Table 10.3): each matrix begins at a
64-byte boundary. -/
def convLayout (f : FmtW) (d : ConvD) : List (Nat × Nat × Addr) × Addr :=
  let n := d.cOut / d.groups
  ((List.range d.groups).flatMap (fun g => (d.passes.zipIdx).map (fun ps => (g, ps.2, ps.1.length * (d.cIn / d.groups))))).foldl
    (fun acc x =>
      let b := up64 acc.2
      (acc.1 ++ [(x.1, x.2.1, b)], b + weightSpan f.wf f.sparse b n x.2.2)) (([] : List (Nat × Nat × Addr)), d.w)

/-- Values of the channels of group `g` at an input pixel; zeros in the padding. -/
def convPixel (rd : Reader) (f : FmtW) (d : ConvD) (g : Nat) (at_ : Option Nat) : List Val :=
  let cg := d.cIn / d.groups
  match at_ with
  | none => List.replicate cg Num.zero
  | some r => ((tensorRow rd f.af d.x (d.hIn * d.wIn) d.cIn r).drop (g * cg)).take cg

/-- Group `g` of a dense convolution as an array operation (R257, R258). -/
def convArray (rd : Reader) (f : FmtW) (d : ConvD) (g : Nat) : ArrayOp where
  m := d.pixels
  n := d.cOut / d.groups
  k := (d.passes.map (fun ps => ps.length)).sum * (d.cIn / d.groups)
  act := fun i => d.passes.flatMap (fun ps => groups32 (ps.flatMap (fun t => convPixel rd f d g (d.tap i t.1 t.2))))
  wt := fun c => d.passes.zipIdx.flatMap (fun ps =>
    let base := match ((convLayout f d).1.find? (fun x => x.1 = g && x.2.1 = ps.2)) with | some x => x.2.2 | none => d.w
    groups32 (weightRow rd f.wf f.sparse base (d.cOut / d.groups) (ps.1.length * (d.cIn / d.groups)) c))

/-- Run the groups of a dense convolution in order; ESC_LIMIT counts over all of them. -/
def convGroups (rd : Reader) (f : FmtW) (d : ConvD) : List ArrOut :=
  (List.range d.groups).foldl (fun (acc : List ArrOut) g =>
    let used := (acc.map (fun a => a.escalated)).sum
    acc ++ [(convArray rd f d g).run f (f.budget.map (fun b => b - used))]) []

/-- Taps inside the input at an output pixel, in ascending kh and then kw. -/
def ConvD.inside (d : ConvD) (pix : Nat) : List (Nat × Nat × Nat) :=
  (List.range d.kh).flatMap (fun kh => (List.range d.kw).filterMap (fun kw => (d.tap pix kh kw).map (fun r => (kh, kw, r))))

/-- Larger of two values, +0 above −0, NaN if either is (R261). -/
def poolMax (a b : Val) : Val :=
  match a, b with
  | .fin s 0 _, .fin t 0 _ => .fin (s && t) 0 0
  | _, _ => Num.maxV a b

/-- One row of a depthwise convolution or a pooling in FP32 (R260, R261). -/
def convVecRow (rd : Reader) (f : FmtW) (d : ConvD) (op : Nat) (countPad : Bool) (pix : Nat) : List Val :=
  let taps := d.inside pix
  let px := taps.map (fun t => (t, (tensorRow rd f.af d.x (d.hIn * d.wIn) d.cIn t.2.2).map Num.r32))
  (List.range d.cOut).map (fun o =>
    let c := if op = 1 then o / (d.cOut / d.cIn) else o
    let xs := px.map (fun t => (t.1, t.2.getD c Num.zero))
    if op = 1 then
      xs.foldl (fun acc t =>
        let w := Num.r32 ((tensorRow rd f.wf d.w (d.kh * d.kw) d.cOut (t.1.1 * d.kw + t.1.2.1)).getD o Num.zero)
        Num.fma32 w t.2 acc) Num.zero
    else if op = 2 then
      (match xs with | [] => Num.zero | a :: r => r.foldl (fun m t => poolMax m t.2) a.2)
    else if xs.isEmpty then Num.zero
    else
      let n := if countPad then d.kh * d.kw else xs.length
      Num.mul32 (sum32 (xs.map (fun t => t.2))) (Num.div32 (Num.ofNat 1) (Num.ofNat n)))

def convAt (s : State) (p : Packet) : Option ConvD :=
  if s.computeAddr p.ctx (p.addr 7) 64 false then some (convDesc (s.seeNat p (p.addr 7) 64)) else none

def convSide (s : State) (p : Packet) : Side := (s.sideAt p (p.addr 11)).getD noSide

/-- Ranges of a CONV (R255). -/
def convRanges (s : State) (p : Packet) (d : ConvD) : Ranges :=
  let f := fmtOf p
  let op := convOp p
  let xp := if op = 0 then [1] else [2, 3]
  let wEnd := if op = 0 then (convLayout f d).2 else d.w + tensorBytes f.wf (d.kh * d.kw) d.cOut
  (Ranges.mk ([(p.addr 7, 64, anyPort), (d.x, tensorSpan f.af d.x (d.hIn * d.wIn) d.cIn, xp)]
      ++ (if op < 2 then [(d.w, wEnd - d.w, if op = 0 then [0] else [2, 3])] else []))
    (outRanges f.out (p.addr 9) d.pixels d.cOut)).add (sideRanges (gatesOf p) (p.addr 11) (convSide s p) d.pixels d.cOut)

/-- Geometry that ends a CONV with BAD_PARAM, DETAIL0 7 (R254, R257, Table 10.2). -/
def convGeomBad (f : FmtW) (op : Nat) (d : ConvD) (r : Ranges) : Bool :=
  d.hIn = 0 || d.wIn = 0 || d.cIn = 0 || d.cOut = 0 || d.groups = 0
  || d.pixels = 0 || 65535 < d.pixels
  || (op < 2 && (31 < d.kh || 31 < d.kw))
  || d.cIn % d.groups ≠ 0 || d.cOut % d.groups ≠ 0
  || (op = 0 && d.cIn / d.groups = 1 && 1 < d.groups)
  || (op = 1 && (d.groups ≠ d.cIn || d.cOut % d.cIn ≠ 0 || 8 < d.cOut / d.cIn))
  || (2 ≤ op && (d.groups ≠ 1 || d.cOut ≠ d.cIn || d.w ≠ 0))
  || (op = 0 && (Num.scaled f.af || Num.scaled f.wf) && d.cIn / d.groups % 32 ≠ 0)
  || (op = 0 && f.sparse && d.cIn / d.groups % 4 ≠ 0)
  || d.x % 64 ≠ 0 || d.w % 64 ≠ 0
  || r.wr.any (fun y => r.rd.any (fun x => overlap y.1 y.2 x.1 x.2))

/-- The FMT, ESC and TOL words of a CONV (R256): the faulty word. -/
def convFmtBad (p : Packet) (fixed : Bool) : Option Nat :=
  let f := fmtOf p
  match convOp p with
  | 0 => f.arrayBad (escPlace (p.addr 9)) fixed
  | op =>
    if !Num.isAct f.af || !Num.isOut f.out || f.out = 0xA || f.round = 3 then some 3
    else if op = 1 && (!Num.isWeight f.wf || Num.scaled f.wf) then some 3
    else if 2 ≤ op && f.wf ≠ 9 then some 3
    else f.noEsc p

/-- Work of a CONV. -/
def convWork (s : State) (p : Packet) (d : ConvD) : Work :=
  let f := fmtOf p
  let rd := s.reader p []
  let sd := convSide s p
  match convOp p with
  | 0 =>
    let gs := convGroups rd f d
    let rows := (List.range d.pixels).map (fun m => gs.flatMap (fun g => (g.rows.getD m ⟨[], 0, 0⟩).sums))
    let t := gateOut rd f (gatesOf p) sd (p.addr 9) d.cOut rows
    let an := (gs.map (fun g => (g.rows.map (fun r => r.nan)).sum)).sum
    let as := (gs.map (fun g => (g.rows.map (fun r => r.sat)).sum)).sum
    let esc := (gs.map (fun g => g.escalated)).sum
    let bound := gs.foldl (fun a g => Num.enc32 (Num.maxV (Num.dec32 a) (Num.dec32 g.maxBound))) 0
    { writes := t.writes, sent := true, esc := f.esc = 2
      details := countWords esc (gs.map (fun g => g.beyond)).sum bound (an + t.nan) (as + t.sat)
      after := [.ops f.comp (d.pixels * d.cOut * (convArray rd f d 0).k) esc an as, .ops (16 + f.out) (d.pixels * d.cOut) 0 t.nan t.sat] }
  | op =>
    let rows := (List.range d.pixels).map (convVecRow rd f d op (p.b 8 29))
    let t := gateOut rd f (gatesOf p) sd (p.addr 9) d.cOut rows
    { writes := t.writes, sent := true, details := countWords 0 0 0 t.nan t.sat, after := [.ops (16 + f.out) (d.pixels * d.cOut) 0 t.nan t.sat] }

def specConv : OpSpec where
  code := 0x0301
  masks := fun _ => fmtMasks ++ [full, fm ([(31, 29), (15, 0)]), full, fm [(15, 0)], full, fm [(15, 0)], fm [(31, 8), (3, 0)]]

  params := fun e s =>
    let p := e.p
    let f := fmtOf p
    let w := convFmtBad p (s.isFixed p.ctx)
    let d? := convAt s p
    let geom := match d? with | some d => convGeomBad f (convOp p) d (convRanges s p d) | none => false
    let out3 := match d? with | some d => outBad f (gatesOf p) d.cOut | none => false
    (paramCheck [(w = some 3 || out3, 3), (w = some 4, 4), (w = some 5, 5), (p.addr 7 % 64 ≠ 0 || geom, 7),
      (convOp p ≠ 3 && p.b 8 29, 8), (p.addr 9 % 64 ≠ 0, 9), (s.gateBad p (p.addr 11) (convOp p = 0), 13)]).orElse (fun _ =>
    match d? with
    | none => some (badAddr (p.addr 7))
    | some d => s.rangesBad p.ctx (convRanges s p d))
  draft := some (fun e s => match convAt s e.p with | some d => s.allShadowed e.p.ctx (convRanges s e.p d).wr | none => true)
  pre := fun e s =>
    match convAt s e.p with
    | none => none
    | some d =>
      let r := convRanges s e.p d
      (s.escShadow e.p.ctx (fmtOf e.p) r.wr).orElse (fun _ =>
        s.corePre e.p.ctx (e.p.f 13 3 0) r (sideTensorOk (gatesOf e.p) (convSide s e.p)))
  run := fun e s =>
    match convAt s e.p with
    | none => s.done e
    | some d => s.runOn e (e.p.f 13 3 0) (convRanges s e.p d) (fun x => convWork x e.p d)

/-- CONV runs a dense, grouped or depthwise convolution or a pooling (R253). -/
def execConv (src : Src) (p : Packet) (s : State) : Res := .next (specConv.exec src p s)

/-! ### SORT -/

/-- A candidate: place, index, score. -/
structure Cand where
  pos : Nat
  index : Nat
  score : Val

/-- Insert in descending score; equal scores keep the order of insertion (R265). -/
def insertCand (c : Cand) : List Cand → List Cand
  | [] => [c]
  | x :: r => if Num.lt x.score c.score then c :: x :: r else x :: insertCand c r

/-- Sort by value, descending, ties in ascending place (R265, R267). −0 and +0 compare equal. -/
def sortCands (l : List Cand) : List Cand := l.foldl (fun acc c => insertCand c acc) []

/-- Candidates at or above the threshold and not NaN. -/
def admitted (t : Val) (l : List Cand) : List Cand := l.filter (fun c => Num.le t c.score)

def sortElems (p : Packet) : Nat := if p.f 5 31 30 = 0 then p.word 8 * p.f 9 31 16 else p.word 8
/-- Where the scores of a block of `n` entries begin (R266). -/
def scoreBase (a n : Nat) : Addr := up64 (a + 4 * n)
def sortOut (p : Packet) : Addr := p.word 11 + p.f 10 15 0 * 2 ^ 32
def sortBoxes (p : Packet) : Addr := p.word 12 + p.f 9 15 0 * 2 ^ 32
def boxBytes (p : Packet) : Nat := if p.f 5 29 28 = 0 then 16 else 32

def sortRanges (p : Packet) : Ranges where
  reads := withPorts [2, 3] (
    if p.f 5 31 30 = 0 then [(p.addr 6, tensorSpan (fmtVOf p).af (p.addr 6) 1 (sortElems p))]
    else [(p.addr 6, scoreBase (p.addr 6) (p.word 8) + tensorSpan (fmtVOf p).af 0 1 (p.word 8) - p.addr 6), (sortBoxes p, p.word 8 * boxBytes p)])
  writes := withPorts [2, 3] [(sortOut p, scoreBase (sortOut p) (p.f 10 31 16) + tensorBytes (fmtVOf p).out 1 (p.f 10 31 16) - sortOut p)]

/-- The candidates of a TOPK: score (i, c) is element i × ROW_STRIDE + c, its index i × CLASSES + c (R265). -/
def topkCands (rd : Reader) (p : Packet) : List Cand :=
  let vs := tensorRow rd (fmtVOf p).af (p.addr 6) 1 (sortElems p) 0
  let cl := p.f 7 31 16
  (List.range (p.word 8 * cl)).map (fun ix => ⟨ix, ix, vs.getD (ix / cl * p.f 9 31 16 + ix % cl) Num.zero⟩)

/-- The candidates of an NMS, read from a block (R266, R267). -/
def nmsCands (rd : Reader) (p : Packet) : List Cand :=
  let n := p.word 8
  let vs := tensorRow rd (fmtVOf p).af (scoreBase (p.addr 6) n) 1 n 0
  (List.range n).map (fun i => ⟨i, leNat (readBytes rd (p.addr 6 + 4 * i) 4), vs.getD i Num.zero⟩)

/-- The FP32 words of box `i`. -/
def boxWords (rd : Reader) (p : Packet) (i : Nat) : List Nat :=
  bytesWords (if p.f 5 29 28 = 0 then 4 else 5) (readBytes rd (sortBoxes p + i * boxBytes p) (boxBytes p))

def boxNan (b : List Nat) : Bool := b.any (fun x => Num.dec32 x = .nan)

/-- Intersection over union of two axis-aligned boxes (R268). -/
def iouAxis (a b : List Nat) : Val :=
  let v (l : List Nat) (i : Nat) : Val := Num.dec32 (l.getD i 0)
  let side (lo hi : Val) : Val := Num.maxV Num.zero (Num.sub32 hi lo)
  let area (l : List Nat) : Val := Num.mul32 (side (v l 0) (v l 2)) (side (v l 1) (v l 3))
  let inter := Num.mul32 (side (Num.maxV (v a 0) (v b 0)) (Num.minV (v a 2) (v b 2))) (side (Num.maxV (v a 1) (v b 1)) (Num.minV (v a 3) (v b 3)))
  let den := Num.sub32 (Num.add32 (area a) (area b)) inter
  if Num.lt Num.zero den then Num.div32 inter den else Num.zero

/-- IoU of boxes `i` and `j`; 0 where a coordinate is NaN (R268). -/
def iou (rd : Reader) (p : Packet) (i j : Nat) : Val :=
  let a := boxWords rd p i
  let b := boxWords rd p j
  if boxNan a || boxNan b then Num.zero
  else if p.f 5 29 28 = 0 then iouAxis a b
  else Num.dec32 (Config.rotatedIoU (a.map (BitVec.ofNat 32)) (b.map (BitVec.ofNat 32))).toNat

/-- Take candidates in order, dropping one that a kept candidate of its class overlaps, until `k` are kept (R267). -/
def nmsKeep (rd : Reader) (p : Packet) (t : Val) (k : Nat) (kept : List Cand) : List Cand → List Cand
  | [] => kept
  | c :: r =>
    if k ≤ kept.length then kept
    else if kept.any (fun x => x.index % p.f 7 31 16 = c.index % p.f 7 31 16 && Num.lt t (iou rd p x.pos c.pos)) then nmsKeep rd p t k kept r
    else nmsKeep rd p t k (kept ++ [c]) r

/-- Work of a SORT. -/
def sortWork (s : State) (p : Packet) : Work :=
  let f := fmtVOf p
  let rd := s.reader p []
  let k := p.f 10 31 16
  let t := Num.dec32 (p.word 13)
  let all := if p.f 5 31 30 = 0 then topkCands rd p else nmsCands rd p
  let adm := admitted t all
  let sorted := sortCands adm
  let out := if p.f 5 31 30 = 0 then sorted.take k else nmsKeep rd p (Num.dec32 (p.word 14)) k [] sorted
  let nanIn := (all.filter (fun c => c.score = .nan)).length
    + (if p.f 5 31 30 = 1 then (adm.filter (fun c => boxNan (boxWords rd p c.pos))).length else 0)
  let r := convertRow f.out f.round f.seed 0 0 f.sat (out.map (fun c => c.score))
  { writes := if out.isEmpty then [] else [⟨sortOut p, out.flatMap (fun c => leBytes 4 c.index)⟩, ⟨scoreBase (sortOut p) k, r.bytes⟩]
    sent := true
    details := [out.length, adm.length, 0, evWord (nanIn + r.nan) r.sat]
    after := [.ops (32 + f.out) out.length 0 (nanIn + r.nan) r.sat] }

def specSort : OpSpec where
  code := 0x0305
  masks := fun _ => [fmtVMask, full, fm [(31, 28), (3, 0)], full, full, full, full, full, full, full, full, full]
  params := fun e s =>
    let p := e.p
    let f := fmtVOf p
    let topk := p.f 5 31 30 = 0
    let cl := p.f 7 31 16
    let iouT := Num.dec32 (p.word 14)
    (paramCheck [
      (!Num.isOut f.out || Num.scaled f.out || f.out = 0xA || !Num.isAct f.af || f.round = 3 || (Num.scaled f.af && sortElems p % 32 ≠ 0), 3),
      (1 < p.f 5 31 30 || 1 < p.f 5 29 28 || (topk && p.f 5 29 28 ≠ 0), 5),
      (cl = 0 || 1024 < cl, 7),
      (p.word 8 = 0 || (topk && 16777216 < p.word 8 * cl) || (!topk && 4096 < p.word 8), 8),
      ((topk && (p.f 9 31 16 < cl || p.f 9 15 0 ≠ 0)) || (!topk && p.f 9 31 16 ≠ 0), 9),
      (p.f 10 31 16 = 0 || 4096 < p.f 10 31 16, 10), (p.word 11 % 64 ≠ 0, 11),
      ((topk && p.word 12 ≠ 0) || (!topk && p.word 12 % 16 ≠ 0), 12),
      (Num.dec32 (p.word 13) = .nan, 13),
      ((topk && p.word 14 ≠ 0) || (!topk && !(Num.le Num.zero iouT && Num.le iouT (Num.ofNat 1))), 14)]).orElse (fun _ =>
    s.rangesBad p.ctx (sortRanges p))
  draft := some (fun e s => s.allShadowed e.p.ctx (sortRanges e.p).wr)
  pre := fun e s => s.corePre e.p.ctx (e.p.f 5 3 0) (sortRanges e.p) true
  run := fun e s => s.runOn e (e.p.f 5 3 0) (sortRanges e.p) (fun x => sortWork x e.p)

/-- SORT selects top scores, or removes overlapping candidates (R265 to R267). -/
def execSort (src : Src) (p : Packet) (s : State) : Res := .next (specSort.exec src p s)

end Sys2Proof.Machine
end

