-- ==== Sys2Proof/Machine/Recur.lean ====
section
/-! DEFINITION. RECUR (chapter 9). -/

namespace Sys2Proof.Machine

open Sys2Proof.Num (Val)

/-- The recurrence descriptor (Table 9.3). -/
structure RecD where
  x : Addr
  dt : Addr
  bc : Addr
  state : Addr
  pstate : Addr
  pmap : Addr
  coef : Addr
  mask : Addr
  func : Nat

/-- A descriptor from its 512 bits. -/
def recDesc (v : Nat) : RecD where
  x := bits v 511 464
  dt := bits v 463 416
  bc := bits v 415 368
  state := bits v 367 320
  pstate := bits v 319 272
  pmap := bits v 271 224
  coef := bits v 223 176
  mask := bits v 175 128
  func := bits v 1 0

def recKind (p : Packet) : Nat := p.f 14 31 30
def recDir (p : Packet) : Nat := p.f 14 29 28
def recN (p : Packet) : Nat := p.f 14 22 16
def recCh (p : Packet) : Nat := p.f 15 16 0
def recRows (p : Packet) : Nat := p.f 12 31 24 + 1
def recSteps (p : Packet) : Nat := p.f 8 31 16
def recLook (p : Packet) : Nat := p.f 10 31 16
/-- State elements per channel (Table 9.1). -/
def recNs (p : Packet) : Nat := if recKind p = 1 then recN p else if recKind p = 2 then 2 else 1

/-- Privileged channels of a bitmap, ascending (R243). -/
def privileged (rd : Reader) (p : Packet) (d : RecD) : List Nat :=
  if d.pmap = 0 then [] else
  let bs := readBytes rd d.pmap (ceilDiv (recCh p) 8)
  (List.range (recCh p)).filter (fun c => bit (bs.getD (c / 8) 0).toNat (c % 8))

/-- Bytes of the coefficient arrays (Table 9.4): bases of A, D and DT_BIAS, and the end. -/
def coefBases (p : Packet) (d : RecD) : Addr × Addr × Addr × Addr :=
  let a := d.coef
  if recKind p = 1 then
    let b := up64 (a + 4 * recCh p * recN p)
    let c := up64 (b + 4 * recCh p)
    (a, b, c, c + 4 * recCh p)
  else if recKind p = 2 then (a, a, a, a + 20 * recCh p)
  else (a, a, a, a + 4 * recCh p)

def f32At (rd : Reader) (a : Addr) : Val := Num.dec32 (leNat (readBytes rd a 4))

/-- Ranges that one descriptor's arrays take in reading. -/
def recReads (p : Packet) (d : RecD) (first : Bool) : List (Addr × Nat) :=
  let f := fmtOf p
  let rows := recSteps p * recRows p
  [(d.x, tensorBytes f.af rows (recCh p)), (d.coef, (coefBases p d).2.2.2 - d.coef)]
  ++ (if recKind p = 1 then [(d.dt, tensorBytes f.af rows (recCh p)), (d.bc, tensorBytes f.af rows (2 * recN p))] else [])
  ++ (if first && d.pmap ≠ 0 then [(d.pmap, ceilDiv (recCh p) 8)] else [])
  ++ (if first && d.mask ≠ 0 then [(d.mask, ceilDiv (rows * 2) 8)] else [])


/-- STATE and PSTATE ranges of the first descriptor. -/
def recState (p : Packet) (d : RecD) (npriv : Nat) : List (Addr × Nat) :=
  [(d.state, tensorBytes (fmtOf p).af (recRows p) (recCh p * recNs p))]
  ++ (if d.pmap ≠ 0 then [(d.pstate, 4 * recRows p * npriv * recNs p)] else [])

def recAt (s : State) (p : Packet) (i : Nat) : Option RecD :=
  if s.computeAddr p.ctx (p.addr 7 + 64 * i) 64 false then some (recDesc (s.seeNat p (p.addr 7 + 64 * i) 64)) else none

def recDescs (s : State) (p : Packet) : Option (RecD × Option RecD) :=
  match recAt s p 0 with
  | none => none
  | some d => if recDir p = 2 then (recAt s p 1).map (fun d2 => (d, some d2)) else some (d, none)

def recSide (s : State) (p : Packet) : Side := (s.sideAt p (p.word 11 + p.f 12 15 0 * 2 ^ 32)).getD noSide
def recSideAddr (p : Packet) : Addr := p.word 11 + p.f 12 15 0 * 2 ^ 32

/-- Privileged channels that a context may count: read only where the bitmap is within reach. -/
def recPriv (s : State) (p : Packet) (d : RecD) : List Nat :=
  if d.pmap ≠ 0 && s.computeAddr p.ctx d.pmap (ceilDiv (recCh p) 8) false then privileged (s.reader p []) p d else []

/-- Ranges of a RECUR (R238). -/
def recRanges (s : State) (p : Packet) (ds : RecD × Option RecD) : Ranges :=
  let np := (recPriv s p ds.1).length
  let m := recSteps p * recRows p
  let st := recState p ds.1 np
  (Ranges.mk ([(p.addr 7, if ds.2.isSome then 128 else 64, anyPort)]
      ++ withPorts [2, 3] (recReads p ds.1 true ++ st ++ (match ds.2 with | some d2 => recReads p d2 false | none => [])))
    (withPorts [2, 3] st ++ outRanges (fmtOf p).out (p.addr 9) m (recCh p))).add
    (sideRanges (gatesOf p) (recSideAddr p) (recSide s p) m (recCh p))

/-- Rules a descriptor must keep (Table 9.3 and the text after it, R240, R243): DETAIL0 7. -/
def recDescBad (s : State) (p : Packet) (ds : RecD × Option RecD) : Bool :=
  let d := ds.1
  let sel := recKind p = 1
  let al (a : Addr) : Bool := a % 64 ≠ 0
  let one (d : RecD) : Bool :=
    al d.x || al d.dt || al d.bc || al d.state || al d.pstate || al d.pmap || al d.coef || al d.mask
    || (sel && 1 < d.func) || (!sel && d.func ≠ 0) || (!sel && (d.dt ≠ 0 || d.bc ≠ 0))
  let priv := recPriv s p d
  let groups := ceilDiv (recCh p) 256
  let crowded := (List.range groups).any (fun g =>
    let n := (priv.filter (fun c => c / 256 = g)).length
    decide ((if recCh p < 256 * (g + 1) then (recCh p - 256 * g) / 8 else 32) < n))
  let r := recRanges s p ds
  let st := recState p d priv.length
  let y := (p.addr 9, tensorSpan (fmtOf p).out (p.addr 9) (recSteps p * recRows p) (recCh p))
  let others := r.rd.filter (fun x => !st.contains x)
  let ws := y :: st
  let clash := ws.any (fun w => others.any (fun x => overlap w.1 w.2 x.1 x.2))
    || st.any (fun x => overlap y.1 y.2 x.1 x.2) || (match st with | [a, b] => overlap a.1 a.2 b.1 b.2 | _ => false)
  one d || (d.pmap = 0 && d.pstate ≠ 0) || crowded || clash
  || (match ds.2 with
      | some d2 => one d2 || d2.x ≠ d.x || d2.state ≠ 0 || d2.pstate ≠ 0 || d2.pmap ≠ 0 || d2.mask ≠ 0
      | none => false)

/-- One step of one channel (Table 9.5): the new state and the output. -/
def recStep (rd : Reader) (p : Packet) (d : RecD) (c : Nat) (h : List Val) (x dt : Val) (bc : List Val) : List Val × Val :=
  let (ca, cd, cb, _) := coefBases p d
  if recKind p = 1 then
    let n := recN p
    let z := Num.add32 dt (f32At rd (cb + 4 * c))
    let delta := if d.func = 1 then gateVal 0x0D z Num.zero Num.zero else z
    let h2 := (List.range n).map (fun i =>
      let a := gateVal 0x0E (Num.mul32 delta (f32At rd (ca + 4 * (c * n + i)))) Num.zero Num.zero
      let u := Num.mul32 delta (bc.getD i Num.zero)
      Num.fma32 a (h.getD i Num.zero) (Num.mul32 u x))
    let y := (List.range n).foldl (fun acc i => Num.fma32 (bc.getD (n + i) Num.zero) (h2.getD i Num.zero) acc) (Num.mul32 (f32At rd (cd + 4 * c)) x)
    (h2, y)
  else if recKind p = 2 then
    let k (i : Nat) : Val := f32At rd (ca + 20 * c + 4 * i)
    let y := Num.fma32 (k 0) x (h.getD 0 Num.zero)
    let s1 := Num.fma32 (k 1) x (Num.fma32 (Num.neg (k 3)) y (h.getD 1 Num.zero))
    let s2 := Num.fma32 (k 2) x (Num.mul32 (Num.neg (k 4)) y)
    ([s1, s2], y)
  else
    let h1 := Num.fma32 (f32At rd (ca + 4 * c)) (Num.sub32 (h.getD 0 Num.zero) x) x
    ([h1], h1)

/-- Reset code of a row and step (Table 9.6). -/
def recMask (rd : Reader) (p : Packet) (d : RecD) (t r : Nat) : Nat :=
  if d.mask = 0 then 0 else
  let i := (t * recRows p + r) * 2
  bits (rd (d.mask + i / 8)).toNat (i % 8 + 1) (i % 8)

/-- Run one row's channel over a list of steps: the state after, and the output of each step (none where it pauses). `back` is the reverse
pass; `d` gives arrays, `dm` the mask (Table 9.6). -/
def recRun (rd : Reader) (p : Packet) (d dm : RecD) (back : Bool) (r c : Nat) : List Nat → List Val → List (Nat × Option Val) → List Val × List (Nat × Option Val)
  | [], h, acc => (h, acc)
  | t :: ts, h, acc =>
    let zeros := List.replicate (recNs p) Num.zero
    let code := recMask rd p dm t r
    if code = 2 then recRun rd p d dm back r c ts h (acc ++ [(t, none)])
    else
      let before := if back then code = 3 else code = 1
      let after := if back then code = 1 else code = 3
      let row := t * recRows p + r
      let elem (a : Addr) (cols col : Nat) : Val :=
        let w := Num.width (fmtOf p).af / 8
        Num.plainVal (fmtOf p).af (leNat (readBytes rd (a + row * Num.rowBytes (fmtOf p).af cols + col * w) w)) |> Num.r32
      let x := elem d.x (recCh p) c
      let dt := if recKind p = 1 then elem d.dt (recCh p) c else Num.zero
      let bc := if recKind p = 1 then (List.range (2 * recN p)).map (elem d.bc (2 * recN p)) else []
      let (h2, y) := recStep rd p d c (if before then zeros else h) x dt bc
      recRun rd p d dm back r c ts (if after then zeros else h2) (acc ++ [(t, some y)])

/-- The initial state of a row's channel: widened from STATE, or read from PSTATE where it is privileged (R242, R243). -/
def recInit (rd : Reader) (p : Packet) (d : RecD) (priv : List Nat) (r c : Nat) : List Val :=
  let ns := recNs p
  match firstIx (fun x => x = c) priv with
  | some i => (List.range ns).map (fun j => f32At rd (d.pstate + 4 * ((r * priv.length + i) * ns + j)))
  | none =>
    let w := Num.width (fmtOf p).af / 8
    (List.range ns).map (fun j => Num.plainVal (fmtOf p).af (leNat (readBytes rd (d.state + w * ((r * recCh p + c) * ns + j)) w)))

/-- Final state and outputs of a row's channel over the whole packet (R246, R247). -/
def recChannel (rd : Reader) (p : Packet) (ds : RecD × Option RecD) (priv : List Nat) (r c : Nat) : List Val × List (Nat × Option Val) :=
  let steps := List.range (recSteps p)
  let h0 := recInit rd p ds.1 priv r c
  match ds.2 with
  | none => if recDir p = 1 then recRun rd p ds.1 ds.1 true r c steps.reverse h0 [] else recRun rd p ds.1 ds.1 false r c steps h0 []
  | some d2 =>
    let (h, fw) := recRun rd p ds.1 ds.1 false r c steps h0 []
    let blocks := Num.chunks (recLook p) steps.length steps
    let bw := blocks.flatMap (fun b => (recRun rd p d2 ds.1 true r c b.reverse (List.replicate (recNs p) Num.zero) []).2)
    (h, fw.map (fun y => (y.1, match y.2, bw.find? (fun z => z.1 = y.1) with
      | some a, some (_, some b) => some (Num.add32 a b)
      | _, _ => none)))

/-- Work of a RECUR (R241, R242). -/
def recWork (s : State) (p : Packet) (ds : RecD × Option RecD) : Work :=
  let f := fmtOf p
  let rd := s.reader p []
  let priv := recPriv s p ds.1
  let rows := recRows p
  let ch := recCh p
  let ns := recNs p
  let runs := (List.range rows).map (fun r => (List.range ch).map (recChannel rd p ds priv r))
  let m := recSteps p * rows
  let outs := (List.range m).map (fun row =>
    let t := row / rows
    let ys := (runs.getD (row % rows) []).map (fun x => match x.2.find? (fun z => z.1 = t) with | some z => z.2 | none => none)
    if ys.any (fun y => y.isNone) then ys.map (fun _ => Num.zero)
    else (gateProgram (gatesOf p) (recSide s p) (sideRow rd (gatesOf p) (recSide s p) m ch row) (ys.map (fun y => y.getD Num.zero))).1)
  let ro := outs.zipIdx.map (fun o => convertRow f.out f.round f.seed 0 (o.2 * ch) f.sat o.1)
  let states := runs.flatMap (fun r => r.flatMap (fun x => x.1))
  let rs := convertRow f.af f.round f.seed 0 (2 ^ 40) f.sat states
  let ps := runs.flatMap (fun r => priv.flatMap (fun c => (r.getD c ([], [])).1))
  let nan := (ro.map (fun x => x.nan)).sum + rs.nan
  let sat := (ro.map (fun x => x.sat)).sum + rs.sat
  { writes := [⟨p.addr 9, ro.flatMap (fun x => x.bytes)⟩]
      ++ (if Num.scaled f.out then [⟨scaleBase f.out (p.addr 9) m ch, ro.flatMap (fun x => x.scales)⟩] else [])
      ++ [⟨ds.1.state, rs.bytes⟩]
      ++ (if ps.isEmpty then [] else [⟨ds.1.pstate, (ps.map (fun v => leBytes 4 (Num.enc32 v))).flatMap id⟩])
    sent := true
    details := countWords 0 0 0 nan sat
    after := [.ops (16 + f.out) (m * ch) 0 nan sat, .ops (32 + f.af) (rows * ch * ns) 0 0 0] }

def specRecur : OpSpec where
  code := 0x0303
  masks := fun _ => fmtMasks ++ [full, full, full, full, full, fm [(31, 24), (15, 0)], fm [(31, 8), (3, 0)], fm [(31, 28), (22, 16)], fm [(16, 0)]]
  params := fun e s =>
    let p := e.p
    let f := fmtOf p
    let k := recKind p
    let ds := recDescs s p
    let badF := !([2, 3, 7, 8, 9].contains f.af) || f.wf ≠ 9 || f.cmp ≠ 0xF || f.sparse || f.esc ≠ 0 || !Num.isOut f.out || f.out = 0xA || f.round = 3
      || (Num.scaled f.out && recCh p % 32 ≠ 0)
    (paramCheck [
      (badF, 3), (p.word 4 ≠ 0, 4), (p.word 5 ≠ 0, 5),
      (p.addr 7 % 64 ≠ 0 || (match ds with | some d => recDescBad s p d | none => false), 7),
      (recSteps p = 0 || (recDir p = 2 && recLook p ≠ 0 && recSteps p % recLook p ≠ 0), 8), (p.addr 9 % 64 ≠ 0, 9),
      ((recDir p = 2 && recLook p = 0) || (recDir p ≠ 2 && recLook p ≠ 0), 10),
      (s.gateBad p (recSideAddr p) false, 13),
      (k = 0 || recDir p = 3 || (k = 1 && (recN p = 0 || 64 < recN p)) || (k ≠ 1 && recN p ≠ 0), 14),
      (recCh p = 0 || (k = 1 && 8192 < recCh p) || 65536 < recCh p, 15)]).orElse (fun _ =>
    match ds with
    | none => some (badAddr (p.addr 7))
    | some d => s.rangesBad p.ctx (recRanges s p d))
  draft := some (fun e s => match recDescs s e.p with | some d => s.allShadowed e.p.ctx (recRanges s e.p d).wr | none => true)
  pre := fun e s =>
    match recDescs s e.p with
    | none => none
    | some d => s.corePre e.p.ctx (e.p.f 13 3 0) (recRanges s e.p d) (sideTensorOk (gatesOf e.p) (recSide s e.p))
  run := fun e s =>
    match recDescs s e.p with
    | none => s.done e
    | some d => s.runOn e (e.p.f 13 3 0) (recRanges s e.p d) (fun x => recWork x e.p d)

/-- RECUR advances a state through a sequence of steps (R241). -/
def execRecur (src : Src) (p : Packet) (s : State) : Res := .next (specRecur.exec src p s)

end Sys2Proof.Machine
end

