-- ==== Sys2Proof/Machine/Attention.lean ====
section
/-! DEFINITION. ATTENTION (R228 to R234, Table 8.11). -/

namespace Sys2Proof.Machine

open Sys2Proof.Num (Val)

def attPool (s : State) (p : Packet) : Option KvPool := s.pool? (poolKey s p.ctx (p.f 13 3 0))
def attKey (s : State) (p : Packet) : Nat := poolKey s p.ctx (p.f 13 3 0)
def attG (p : Packet) : Nat := p.f 13 15 11
def attMask (p : Packet) : Nat := p.f 13 10 9
def attSplits (p : Packet) : Nat := p.f 13 8 4
def attLayer (p : Packet) : Nat := p.f 14 31 24
def attCount (p : Packet) : Nat := p.f 14 23 17
def attBase (p : Packet) : Nat := p.f 14 16 11
def attCores (p : Packet) : List Nat := maskList 16 (p.f 13 31 16)
def attTable (s : State) (p : Packet) : List LenEntry := s.lenTable p (p.addr 11) (p.f 12 31 16)
/-- Columns of a query row and of an output row. -/
def attCols (k : KvPool) (p : Packet) : Nat := k.heads * attG p * k.dim

/-- Ranges: queries, length table, output. -/
def attQ (k : KvPool) (p : Packet) : Addr × Nat := (p.addr 7, tensorSpan (fmtOf p).af (p.addr 7) (p.f 8 31 16) (attCols k p))
def attO (k : KvPool) (p : Packet) : Addr × Nat := (p.addr 9, tensorSpan (fmtOf p).out (p.addr 9) (p.f 8 31 16) (attCols k p))
def attT (p : Packet) : Addr × Nat := (p.addr 11, 16 * p.f 12 31 16)

/-- Slots a query may attend (R231): query `i` of a row at slot `t`. -/
def attends (p : Packet) (x : LenEntry) (i t : Nat) : Bool :=
  decide (t < x.kvLen) &&
  (match attMask p with
   | 1 => true
   | 2 => decide (t + x.qLen ≤ x.kvLen + i) && decide (x.kvLen + i < t + x.qLen + p.f 10 31 16)
   | _ => decide (t + x.qLen ≤ x.kvLen + i))

/-- Pages that hold a slot some query of a row attends (R230, R231). -/
def attPages (p : Packet) (x : LenEntry) : List Nat :=
  (List.range (ceilDiv x.kvLen 256)).filter (fun pg =>
    (List.range x.qLen).any (fun i => (List.range 256).any (fun t => attends p x i (pg * 256 + t))))

/-- Entries of the length table that fail R220: the first, by its index. -/
def attEntryBad (s : State) (p : Packet) (k : KvPool) : Option Nat :=
  let es := attTable s p
  (es.zipIdx.find? (fun x => lenRowsBad (p.f 8 31 16) es x.2 x.1 || decide (256 * k.maxPages < x.1.kvLen)
    || (attMask p ≠ 1 && decide (x.1.kvLen < x.1.qLen)))).map (fun x => 0x100 + x.2)

/-- One output element of a query head: uninterpreted beyond what it depends on (R229 fixes the order of evaluation, Table 5.6 and R119 the
accuracy of its functions, not its bits). -/
def attElem (s : State) (p : Packet) (k : KvPool) (frames : List (Nat × Nat)) (x : LenEntry) (i h : Nat) (q : List Byte) (e : Nat) : Val :=
  let flags := frames.map (fun f => (List.range 256).map (fun t => attends p x i (f.1 * 256 + t)))
  if !(flags.any (fun l => l.any id)) then Num.zero else
  let block (f kv : Nat) : List Byte :=
    s.load (k.frameAddr f + k.slotOff h kv 0) (256 * k.slotBytes)
      ++ (if k.scaled then s.load (k.frameAddr f + k.scaleOff h kv 0) (256 * (k.dim / 32)) else [])
  Num.dec32 (Config.attend [k.fmt, k.dim, attSplits p, p.word 15, (fmtOf p).af] q (frames.map (fun f => block f.2 0 ++ block f.2 1)) flags e).toNat

/-- Pages each entry reads with their frames as the packet sees them. -/
def attFrames (s : State) (p : Packet) (k : KvPool) (x : LenEntry) : List (Nat × Nat) :=
  match NMap.get? k.seqs x.seq with
  | none => []
  | some q => (attPages p x).filterMap (fun pg =>
      (seenFrame (s.chain p.ctx p.level p.tag) (p.f 13 3 0) x.seq (attLayer p) pg q).map (fun f => (pg, f)))

/-- First dropped run that an ATTENTION meets, lowest entry and then lowest token (R232). -/
def attDropped (s : State) (p : Packet) (k : KvPool) : Option (List Nat) :=
  (attTable s p).findSome? (fun x =>
    match NMap.get? k.seqs x.seq with
    | none => none
    | some q =>
      let bad := (attPages p x).filter (fun pg => seenDropped (s.chain p.ctx p.level p.tag) (p.f 13 3 0) x.seq (attLayer p) pg q)
      match bad with
      | [] => none
      | pg :: _ => ((runsOf q.isDropped k.maxPages).find? (fun r => decide (r.1 ≤ pg) && decide (pg < r.1 + r.2))).map
          (droppedWords (p.f 13 3 0) x.seq q))

/-- Work of an ATTENTION. -/
def attWork (s : State) (p : Packet) (k : KvPool) : Work :=
  let f := fmtOf p
  let rd := s.reader p []
  let cols := attCols k p
  let rows := p.f 8 31 16
  let outs := (attTable s p).flatMap (fun x =>
    let frames := attFrames s p k x
    (List.range x.qLen).flatMap (fun i =>
      (List.range (attCount p * attG p)).map (fun j0 =>
        let j := attBase p * attG p + j0
        let row := x.qOff + i
        let q := readBytes rd (p.addr 7 + row * Num.rowBytes f.af cols + Num.rowBytes f.af (j * k.dim)) (Num.rowBytes f.af k.dim)
          ++ (if Num.scaled f.af then readBytes rd (scaleBase f.af (p.addr 7) rows cols + row * (cols / 32) + j * k.dim / 32) (k.dim / 32) else [])
        let vs := (List.range k.dim).map (attElem s p k frames x i (j / attG p) q)
        (row, j, convertRow f.out f.round f.seed row (j * k.dim) f.sat vs))))
  let nan := (outs.map (fun o => o.2.2.nan)).sum
  let sat := (outs.map (fun o => o.2.2.sat)).sum
  let all := (attTable s p).flatMap (fun x => (attFrames s p k x).map (fun f => (attKey s p, f.2)))
  let macs := ((attTable s p).map (fun x => x.qLen * (attPages p x).length * 512 * k.dim * attCount p * attG p)).sum
  { writes := outs.flatMap (fun o =>
      [⟨p.addr 9 + o.1 * Num.rowBytes f.out cols + Num.rowBytes f.out (o.2.1 * k.dim), o.2.2.bytes⟩]
      ++ (if Num.scaled f.out then [⟨scaleBase f.out (p.addr 9) rows cols + o.1 * (cols / 32) + o.2.1 * k.dim / 32, o.2.2.scales⟩] else []))
    reads := [attQ k p, attT p]
    cores := attCores p
    frames := all.eraseDups
    seqs := ((attTable s p).map (fun x => (attKey s p, x.seq))).eraseDups
    sent := true
    details := countWords 0 0 0 nan sat
    after := [.ops f.af macs 0 nan sat, .ops (16 + f.out) (outs.length * k.dim) 0 nan sat] }

def specAttention : OpSpec where
  code := 0x0302
  masks := fun _ => fmtMasks ++ [full, full, full, full, full, full, full, fm [(31, 11)], full]
  params := fun e s =>
    let p := e.p
    let f := fmtOf p
    let k? := attPool s p
    let fmtBad := f.cmp ≠ 0xF || f.sparse || f.esc ≠ 0 || f.round = 3 || !Num.isOut f.out || !Num.isAct f.af || !Num.isWeight f.wf ||
      (match k? with
       | some k => f.wf ≠ k.fmt || (if Num.isFp8 k.fmt then !Num.isFp8 f.af else f.af ≠ k.fmt)
       | none => false)
    let headBad := attCount p = 0 || 64 < attCount p ||
      (match k? with
       | some k => decide (k.layers ≤ attLayer p) || decide (k.heads < attBase p + attCount p) || (s.isFixed p.ctx && (attBase p ≠ 0 || attCount p ≠ k.heads))
       | none => false)
    (paramCheck [
      (fmtBad, 3), (!tolOk f.tol, 5), (p.addr 7 % 64 ≠ 0, 7), (p.f 8 31 16 = 0, 8), (p.addr 9 % 64 ≠ 0, 9),
      ((attMask p = 2) != (p.f 10 31 16 ≠ 0), 10), (p.addr 11 % 16 ≠ 0, 11), (p.f 12 31 16 = 0 || 4096 < p.f 12 31 16, 12),
      (p.f 13 31 16 = 0 || attG p = 0 || 16 < attG p || attMask p = 3 || attSplits p = 0 || 16 < attSplits p, 13), (headBad, 14),
      (p.word 15 = 0 || 0x7F800000 ≤ p.word 15, 15)]).orElse (fun _ =>
    let tOk := s.addrOk p.ctx (attT p).1 (attT p).2 false
    match k? with
    | none => if tOk then none else some (badAddr (attT p).1)
    | some k =>
      match (if tOk then attEntryBad s p k else none) with
      | some w => some (badParam w)
      | none => (firstFail [(!s.addrOk p.ctx (attQ k p).1 (attQ k p).2 false, badAddr (attQ k p).1), (!tOk, badAddr (attT p).1),
        (!s.addrOk p.ctx (attO k p).1 (attO k p).2 true, badAddr (attO k p).1)]).orElse (fun _ => (s.poolReach p.ctx k).map badAddr))
  draft := some (fun e s => match attPool s e.p with | some k => s.allShadowed e.p.ctx [attO k e.p] | none => true)
  pre := fun e s =>
    let p := e.p
    match attPool s p with
    | none => if (attCores p).all (s.eligible p.ctx) then some (badState 27) else some (badState 26)
    | some k =>
      let es := attTable s p
      let ch := s.chain p.ctx p.level p.tag
      let closed := es.any (fun x => match NMap.get? k.seqs x.seq with
        | some q => decide (seenLen ch (p.f 13 3 0) x.seq (attLayer p) q < x.kvLen)
        | none => true)
      let pinned := es.all (fun x => match NMap.get? k.seqs x.seq with
        | some q => (attPages p x).all (fun pg => match q.entry? (attLayer p) pg with | some en => en.pinned | none => false)
        | none => true)
      firstFail [
        (!([attQ k p, attO k p, attT p].all (fun r => nearCores (attCores p) r.1 r.2)), badState 24),
        (!(attCores p).all (s.eligible p.ctx), badState 26), (closed, badState 28), (s.isFixed p.ctx && !pinned, badState 30)]
  run := fun e s =>
    let p := e.p
    match attPool s p with
    | none => s.done e
    | some k =>
      if (attTable s p).any (fun x => s.seqFrozen (attKey s p) x.seq) then s.setJob e.id (.waits .retry) else
      match s.claimFor e (attCores p) with
      | none => s.waitCores e (attCores p) (attCores p).length [attQ k p, attT p, attO k p]
      | some s1 =>
        match attDropped s1 p k with
        | some d => s1.finish e.id pageDropped d
        | none =>
          let bad := s1.poisonIn ([attQ k p, attT p] ++ (attTable s1 p).flatMap (fun x => (attFrames s1 p k x).map (fun f => (k.frameAddr f.2, k.frameBytes))))
          if !bad.isEmpty then s1.consumePoison e bad else
          let w := attWork s1 p k
          let ctr := k.useCtr + 1
          let s2 := s1.setPool (attKey s1 p) { k with
            useCtr := ctr
            frames := w.frames.foldl (fun m f => NMap.upd m f.2 (fun x => { x with use := ctr })) k.frames }
          s2.startWork e { w with stamp := s1.stampOf w.reads }

/-- ATTENTION attends the pages that its length table names (R229). -/
def execAttention (src : Src) (p : Packet) (s : State) : Res := .next (specAttention.exec src p s)

end Sys2Proof.Machine
end

