-- ==== Sys2Proof/Machine/Tension.lean ====
section
/-! DEFINITION. Chapter 18: the share and its caps (R426, R544, R557), the tension manager (R429 to R433), phase hints (R422, R423), power
measurement (R424, R425), the governor (R426, Table 18.5), droops and phases (R418, R421), thermal limits (R434, R435), tensioner steps (R158
to R160, R420). -/

namespace Sys2Proof.Machine

/-! ### Share, floor and limit -/

/-- Module floor in mW (R429). -/
def State.floorMw (s : State) : Nat := 110000 + (s.dom.reservations.map (fun (r : Nat × Reservation) => r.2.powerMw)).sum

/-- Thermal cap on the share in mW (Table 26.14), from the inlet temperature in tenths of a degree; 65 °C with a failed sensor. -/
def State.inletCap (s : State) : Nat :=
  let t := s.pwr.inlet.getD 650
  let (t0, k) := if s.dev.grade = 1 then (500, 800) else (550, 1000)
  480000 - ((max 0 (t - t0)) * k).toNat

/-- The share in force: the grant, lowered by the caps of Tables 26.8 and 26.14, and never below the floor (R544, R557). -/
def State.shareNow (s : State) : Nat :=
  max s.floorMw (min (min s.tens.share s.inletCap) (if s.pwr.lowBand then 400000 else 480000))

/-- Peak limit of a share (R426). -/
def peakLimit (share : Nat) : Nat := min 600000 (share + 120000)

/-- The limit in force on the draw of a millisecond (R426). -/
def State.limitNow (s : State) : Nat := if 0 < s.tens.reserve then peakLimit s.shareNow else s.shareNow

/-- This module is the tension manager (R429). -/
def State.isManager (s : State) : Bool := s.dev.role ≠ .member

/-- Nodes of the fabric, this one included. -/
def State.fabricNodes (s : State) : List Nat :=
  (NMap.put (s.ply.table.map (fun (r : Nat × Route) => (r.1, ()))) s.dev.node ()).map (fun (r : Nat × Unit) => r.1)

/-- The machine budget in force: the last one learned, or 480 W per node (R433). -/
def State.budgetNow (s : State) : Nat := if s.tens.learned then s.tens.budget else 480000 * s.fabricNodes.length

/-! ### Grants -/

/-- One node in a division of the budget: node, what it wants above its floor, what it has been given of that. -/
structure Claim where
  node : Nat
  floor : Nat
  want : Nat
  given : Nat := 0

/-- Divide `left` equally over the unmet wants, again and again, ties to the lowest node (R430). -/
def divide : Nat → Nat → List Claim → List Claim
  | 0, _, cs => cs
  | fuel + 1, left, cs =>
    let unmet := cs.filter (fun c => decide (c.given < c.want))
    if left = 0 || unmet.isEmpty then cs else
    let q := left / unmet.length
    if q = 0 then
      -- fewer milliwatts than nodes: one each to the lowest node IDs
      let lucky := (unmet.take left).map (fun c => c.node)
      cs.map (fun c => if lucky.contains c.node then { c with given := c.given + 1 } else c)
    else
      let cs1 := cs.map (fun c => { c with given := min c.want (c.given + q) })
      let used := (cs1.map (fun c => c.given)).sum - (cs.map (fun c => c.given)).sum
      divide fuel (left - used) cs1

/-- Grants of a machine budget for a list of reports (R430): every floor, then the division; at most 480 W each. -/
def grantsOf (budget : Nat) (rs : NMap TensReport) : NMap Nat :=
  let cs := rs.map (fun (r : Nat × TensReport) => ({ node := r.1, floor := r.2.floor, want := min r.2.want 480000 - r.2.floor } : Claim))
  let floors := (cs.map (fun c => c.floor)).sum
  (divide (2 * cs.length + 2) (budget - floors) cs).map (fun c => (c.node, min 480000 (c.floor + c.given)))

/-- This module's own report. -/
def State.ownReport (s : State) : TensReport := ⟨s.floorMw, s.tens.want, s.tens.draw⟩

/-- Reports of the nodes of the fabric, this module's own among them. -/
def State.allReports (s : State) : NMap TensReport :=
  NMap.put (s.tens.reports.filter (fun r => s.fabricNodes.contains r.1)) s.dev.node s.ownReport

/-- Sum of the floors that this module knows of. -/
def State.floorSum (s : State) : Nat := (s.allReports.map (fun r => r.2.floor)).sum

/-- BUDGET_DENIED. -/
def budgetDenied : Nat := 0x0204

/-- Packets that wait for a grant or a budget, with their OP. -/
def State.budgetWaits (s : State) (op : Nat) : List Nat :=
  (s.pkts.filter (fun o => (match o.job with | .waits .budget => true | _ => false) && o.pkt.f 3 31 30 = op)).map (fun o => o.id)

/-- A grant arrives: it is in force, and a waiting BUDGET_REQUEST ends (R431, R433). -/
def State.applyGrant (s : State) (mw : Nat) : State :=
  let s1 : State := { s with tens := { s.tens with share := mw } }
  (s.budgetWaits 0).foldl (fun x i => x.finish i (if mw < s.tens.want then budgetDenied else 0) [mw, x.budgetNow]) s1

/-- Send a grant to a node, this module's own applying at once. -/
def State.sendGrant (s : State) (node mw : Nat) : State :=
  let s1 : State := { s with tens := { s.tens with grants := NMap.put s.tens.grants node mw } }
  if node = s.dev.node then s1.applyGrant mw else s1.plySend node (.grant mw)

/-- Set or clear OVER_BUDGET here, with its cause 9 and a log record (R432, Table 19.2). -/
def State.setOver (s : State) (b : Bool) : State :=
  if s.tens.overBudget = b then s else
  let s1 := ({ s with tens := { s.tens with overBudget := b } }).logIt .tension 9 b.toNat
  if b then s1.raise 9 else s1.endCause 9

/-- Send every raised grant that waits (R431). -/
def State.sendRaised (s : State) : State :=
  s.tens.raised.foldl (fun x (g : Nat × Nat) => x.sendGrant g.1 g.2) { s with tens := { s.tens with raised := [], lowered := [] } }

/-- The manager computes grants anew: lowered grants go first, raised ones once the lowered modules have come down (R430 to R432). -/
def State.recompute (s : State) : State :=
  if !s.isManager || s.tens.collecting || s.dev.update = .activating then s else
  let beyond := decide (s.budgetNow < s.floorSum)
  let s0 := if beyond ≠ s.tens.overBudget then
      (s.fabricNodes.filter (· ≠ s.dev.node)).foldl (fun x n => x.plySend n (.overBudget beyond)) (s.setOver beyond) else s
  let gs := grantsOf s.budgetNow s.allReports
  let before (n : Nat) : Nat := NMap.getD s.tens.grants n (match NMap.get? s.allReports n with | some r => r.floor | none => 0)
  let low := gs.filter (fun (g : Nat × Nat) => decide (g.2 < before g.1))
  let same := gs.filter (fun (g : Nat × Nat) => g.2 = before g.1)
  let up := gs.filter (fun (g : Nat × Nat) => decide (before g.1 < g.2))
  let s1 := (low ++ same).foldl (fun x (g : Nat × Nat) => x.sendGrant g.1 g.2) s0
  let s2 : State := { s1 with tens := { s1.tens with
      raised := up, lowered := (low.map (fun g => g.1) ++ s1.tens.lowered).eraseDups, loweredAt := if low.isEmpty then s1.tens.loweredAt else s.now } }
  if s2.tens.lowered.isEmpty then s2.sendRaised else s2

/-- The manager takes a report (R430, R431). -/
def State.takeReport (s : State) (node : Nat) (r : TensReport) : State :=
  let old := NMap.get? s.tens.reports node
  let changed := (match old with | some o => decide (o.floor ≠ r.floor) || decide (o.want ≠ r.want) | none => true)
  let s1 : State := { s with tens := { s.tens with
      reports := NMap.put s.tens.reports node r
      lowered := s.tens.lowered.filter (fun n => !(n = node && decide (r.power ≤ NMap.getD s.tens.grants n 0))) } }
  if changed then s1.recompute
  else
    let s2 := if s1.tens.lowered.isEmpty then s1.sendRaised else s1
    -- every report is answered with the grant in force
    if s2.tens.collecting || s2.dev.update = .activating then s2 else
    match NMap.get? s2.tens.grants node with
    | some g => if NMap.has s2.tens.raised node then s2 else s2.sendGrant node g
    | none => s2

/-- Every 1 ms a module reports to the manager (R429): to itself where it is the manager. -/
def execTensionReportDue (s : State) : Res :=
  .next <|
    if s.pwr.phase ≠ .up then s
    else if s.isManager then s.takeReport s.dev.node s.ownReport
    else
      match s.fabricNodes.head? with
      | some c => s.plySend c (.report s.floorMw s.tens.want s.tens.draw)
      | none => s

/-- A report of a node reaches this module; only the manager of that node's fabric uses it (R430). -/
def execTensionReport (node floor want power : Nat) (s : State) : Res :=
  .next (if s.isManager && s.fabricNodes.contains node && s.pwr.phase = .up then s.takeReport node ⟨floor, want, power⟩ else s)

/-- A grant from the manager arrives and is applied (R431). -/
def execGrantReceived (mw : Nat) (s : State) : Res := .next (if s.pwr.phase = .up then s.applyGrant (min mw 480000) else s)

/-- 20 ms after a lowered grant was sent, the raised grants go (R431). -/
def execRaisedGrantTimeout (s : State) : Res :=
  .next (s.whileUp (if s.isManager && !s.tens.raised.isEmpty && s.tens.loweredAt + 20000000 ≤ s.now then s.sendRaised else s))

/-- A new Coordinator that has collected reports for 2 ms issues grants (Table 18.7). -/
def execCoordinatorCollectEnd (s : State) : Res :=
  .next (s.whileUp (if s.tens.collecting then ({ s with tens := { s.tens with collecting := false } }).recompute else s))

/-! ### BUDGET_REQUEST and POWER_QUERY -/

/-- The OP field of a BUDGET_REQUEST row. -/
def budgetOp (p : Packet) (op : Nat) : Packet := p.withField 3 31 30 op

def specBudgetWant : OpSpec where
  code := 0x0A01
  masks := fun _ => [fm [(31, 30)], full]
  params := fun e _ => if 480000 < e.p.word 4 then some (badParam 4) else none
  pre := fun e s => if e.p.word 4 < s.floorMw then some (badState 63) else none
  run := fun e s => ({ s with tens := { s.tens with want := e.p.word 4 } }).setJob e.id (.waits .budget)

/-- BUDGET_REQUEST with OP 0b00 sets this module's want; it ends when the next grant arrives (R433). -/
def execBudgetRequestWant (src : Src) (p : Packet) (s : State) : Res := .next (specBudgetWant.exec src (budgetOp p 0) s)

/-- The manager takes a new machine budget: the sum of the floors where it lies below it, else none, and the new state (R433). -/
def State.setBudget (s : State) (mw : Nat) : Option Nat × State :=
  if mw < s.floorSum then (some s.floorSum, s) else
  let s1 : State := { s with tens := { s.tens with budget := mw, learned := true } }
  let s2 := (s.fabricNodes.filter (· ≠ s.dev.node)).foldl (fun x n => x.plySend n (.machineBudget mw)) s1
  (none, s2.recompute)

def specBudgetMachine : OpSpec where
  code := 0x0A01
  masks := fun _ => [fm [(31, 30)], full]
  params := fun e _ => if e.p.word 4 < 100000 || 15360000 < e.p.word 4 then some (badParam 4) else none
  run := fun e s =>
    if s.isManager then
      match s.setBudget (e.p.word 4) with
      | (some f, s1) => s1.done e budgetDenied [f, s1.budgetNow]
      | (none, s1) => s1.done e 0 [s1.tens.share, s1.budgetNow]
    else
      let s1 := s.setJob e.id (.waits .budget)
      match s.fabricNodes.head? with
      | some c => s1.plySend c (.budgetRequest (e.p.word 4))
      | none => s1

/-- BUDGET_REQUEST with OP 0b01 sets the machine budget at the manager (R433). -/
def execBudgetRequestBudget (src : Src) (p : Packet) (s : State) : Res := .next (specBudgetMachine.exec src (budgetOp p 1) s)

/-- A machine budget flooded by the manager reaches this node; a request of this node for one is answered (R433). -/
def State.learnBudget (s : State) (mw : Nat) : State :=
  let s1 : State := { s with tens := { s.tens with budget := mw, learned := true } }
  (s.budgetWaits 1).foldl (fun x i => x.finish i 0 [x.tens.share, mw]) s1

/-- The manager denied this node's machine budget. -/
def State.budgetRefused (s : State) (floors : Nat) : State :=
  (s.budgetWaits 1).foldl (fun x i => x.finish i budgetDenied [floors, x.budgetNow]) s

/-- Hints in force on the device. -/
def State.hintsInForce (s : State) : List Hint := s.tens.hints.filter (fun h => h.stage ≠ .closed)

def specPowerQuery : OpSpec where
  code := 0x0A02
  masks := noParams
  run := fun e s =>
    let t := s.tens
    let deg (x : Int) : Nat := (x + 64).toNat % 256
    let d2 := t.reserve / 1000 * 2 ^ 21 + t.gov * 2 ^ 17 + (!t.throttled.isEmpty).toNat * 2 ^ 16 + t.overBudget.toNat * 2 ^ 15
      + t.sensorFault.toNat * 2 ^ 14 + min t.droops 0x3FFF
    let d3 := deg t.hotCore * 2 ^ 24 + deg t.hotHub * 2 ^ 16 + deg t.hotHbm * 2 ^ 8 + s.hintsInForce.length
    ({ s with tens := { t with droops := 0 } }).done e 0 [t.draw, s.shareNow, d2, d3]

/-- POWER_QUERY reports the draw, the share and the state of tension (Table 18.9). -/
def execPowerQuery (src : Src) (p : Packet) (s : State) : Res := .next (specPowerQuery.exec src p s)

/-! ### Phase hints -/

/-- TIME_PASSED. -/
def timePassed : Nat := 0x0401

/-- Cores a hint covers. -/
def hintCores (s : State) (p : Packet) : Nat :=
  if p.f 3 15 0 = 0 then (match NMap.get? s.dom.contexts p.ctx with | some x => x.coreMask | none => 0) else p.f 3 15 0

/-- Start of a hint in ns; none: at arming. -/
def hintStart (p : Packet) : Option Nat :=
  if p.word 6 = 0 && p.word 7 = 0 && p.f 8 15 0 = 0 then none
  else some ((p.word 7 + p.f 8 15 0 * 2 ^ 32) * 1000000000 + p.word 6)

def specPhaseHint : OpSpec where
  code := 0x0A00
  masks := fun _ => [fm [(31, 31), (15, 0)], full, full, full, full, fm [(15, 0)]]
  params := fun e _ =>
    let p := e.p
    firstFail [(p.word 4 = 0 || 480000 < p.word 4, badParam 4), (p.word 5 = 0 || 1000000 < p.word 5, badParam 5),
      (1000000000 ≤ p.word 6, badParam 6)]
  pre := fun e s =>
    let m := hintCores s e.p
    let x := match NMap.get? s.dom.contexts e.p.ctx with | some x => x.coreMask | none => 0
    if m &&& (x ^^^ 0xFFFF) ≠ 0 || (maskList 16 m).any (fun k => (s.dom.cores.getD k {}).fenced || NMap.has s.tens.throttled k)
    then some (badState 62) else none
  run := fun e s =>
    let p := e.p
    let late := match hintStart p with | some t => decide (t + p.word 5 * 1000 ≤ s.now) | none => false
    let others := s.hintsInForce.filter (fun h => h.ctx ≠ p.ctx)
    let limit := if p.word 5 ≤ 10000 then peakLimit s.shareNow else s.shareNow
    let room := limit - s.tens.draw - (others.map (fun h => h.powerMw)).sum
    if late then s.done e timePassed [((hintStart p).getD 0) % 2 ^ 32]
    else if 16 ≤ (s.tens.hints.filter (fun h => h.ctx ≠ p.ctx)).length then s.done e noSpace [0x26]
    else if room < p.word 4 then s.done e budgetDenied [room]
    else
      let open_ := max (s.now + 12000) ((hintStart p).getD 0)
      let h : Hint := { ctx := p.ctx, cores := hintCores s p, powerMw := p.word 4, durUs := p.word 5, start := (hintStart p).getD 0, openAt := open_ }
      let s1 := s.endHint p.ctx
      ({ s1 with tens := { s1.tens with hints := s1.tens.hints ++ [h] } }).done e 0
        [ts32 open_, ts32 (open_ + p.word 5 * 1000), room - p.word 4, 0]

/-- PHASE_HINT checks the headroom and arms the rails of the covered cores (R422). -/
def execPhaseHint (src : Src) (p : Packet) (s : State) : Res := .next (specPhaseHint.exec src (p.withField 3 31 31 0) s)

def specPhaseHintClear : OpSpec where
  code := 0x0A00
  masks := fun _ => [fm [(31, 31), (15, 0)], full, full, full, full, fm [(15, 0)]]
  params := fun e _ =>
    let p := e.p
    firstFail [(p.f 3 15 0 ≠ 0, badParam 3), (p.word 4 ≠ 0, badParam 4), (p.word 5 ≠ 0, badParam 5), (p.word 6 ≠ 0, badParam 6),
      (p.word 7 ≠ 0, badParam 7), (p.f 8 15 0 ≠ 0, badParam 8)]
  run := fun e s => (s.endHint e.p.ctx).done e

/-- PHASE_HINT with CLEAR ends the context's hint (Table 18.3). -/
def execPhaseHintClear (src : Src) (p : Packet) (s : State) : Res := .next (specPhaseHintClear.exec src (p.withField 3 31 31 1) s)

/-- Move a context's hint from one stage to another. -/
def State.hintStage (s : State) (c : Nat) (a b : HintStage) : State :=
  { s with tens := { s.tens with hints := s.tens.hints.map (fun h => if h.ctx = c && h.stage = a then { h with stage := b } else h) } }

/-- A hint's window opens: covered tensioners step at 100 ns (Table 18.4). -/
def execHintWindowOpen (ctx : Nat) (s : State) : Res := .next (s.whileUp (s.hintStage ctx .armed .opened))

/-- A hint's window closes: the spacing returns (Table 18.4, Table 5.18). -/
def execHintWindowClose (ctx : Nat) (s : State) : Res := .next (s.whileUp (s.hintStage ctx .opened .closed))

/-- 10 µs after its window closes, a hint's rails are disarmed (Table 18.4). -/
def execHintRailsDisarm (ctx : Nat) (s : State) : Res :=
  .next (s.whileUp { s with tens := { s.tens with hints := s.tens.hints.filter (fun h => !(h.ctx = ctx && h.stage = .closed)) } })

/-! ### Measurement and the governor -/

/-- Calibration factor: measured over estimated, clamped to 0.8 to 1.25, as an FP32 word (R424). -/
def calFactor (est meas : Nat) : Nat :=
  if est = 0 || est * 5 < meas * 4 then 0x3FA00000
  else if meas * 5 < est * 4 then 0x3F4CCCCD
  else Num.enc32 (Num.div32 (Num.ofNat meas) (Num.ofNat est))

/-- Every 1 ms: the draw, each rail's estimated and measured energy, the rails whose current sensors are implausible (R424, R425); the peak
reserve and the calm that lets the governor undo a step (R426). -/
def execPowerCalibration (draw : Nat) (energy : List (Nat × Nat)) (bad : List Nat) (s : State) : Res :=
  .next <|
    if s.pwr.phase ≠ .up then s else
    let t := s.tens
    let rails := t.rails.zipIdx.map (fun (r : Rail × Nat) =>
      if r.1.faulty then r.1
      else if bad.contains r.2 then { r.1 with faulty := true, factor := 0x3FA00000 }
      else match energy[r.2]? with
        | some (e, m) => { r.1 with factor := calFactor e m }
        | none => r.1)
    let share := s.shareNow
    let reserve := if share < draw then t.reserve - (draw - share) else min 1200000 (t.reserve + 24000)
    let calm := decide (draw * 100 ≤ s.limitNow * 95)
    let s1 : State := { s with tens := { t with
        draw := draw, rails := rails, reserve := reserve
        sensorFault := t.sensorFault || rails.any (fun r => r.faulty)
        calmSince := if calm then some (t.calmSince.getD s.now) else none } }
    (bad.filter (fun n => n < 64 && !(t.rails.getD n {}).faulty)).foldl (fun x n => x.logIt .sensorFault n) s1

/-- A core that the governor may slow: clocked, in the flexible lane (R427). -/
def State.slowable (s : State) (k : Nat) : Bool :=
  !(s.dom.reservations.any (fun r => bit r.2.coreMask k)) && !(s.dom.cores.getD k {}).fenced

/-- Flexible-lane core with the highest estimate whose clock can still be lowered (Table 18.5). -/
def State.hottest (s : State) (est : List Nat) : Option Nat :=
  ((List.range 16).filter (fun k => s.slowable k && decide (400 < s.tens.coreCap.getD k 1400))).foldl (fun a k => match a with
    | none => some k
    | some b => if est.getD b 0 < est.getD k 0 then some k else some b) none

/-- Lower one step of Table 18.5, in order. -/
def State.govDown (s : State) (est : List Nat) : State :=
  let t := s.tens
  let set (x : TensionUnit) (n : Nat) : State := ({ s with tens := { x with gov := max t.gov n, calmSince := none } }).trace { type := 9, arg := n * 2 ^ 92 }
  if t.acMhz.any (fun f => decide (1200 < f)) then set { t with acMhz := t.acMhz.map (fun f => max 1200 (f - 100)) } 1
  else match s.hottest est with
    | some k => set { t with coreCap := setAt t.coreCap k (t.coreCap.getD k 1400 - 100) } 2
    | none =>
      let flex := (List.range 16).filter s.slowable
      if !flex.all t.groupCap.contains then set { t with groupCap := (t.groupCap ++ flex).eraseDups } 3
      else if t.gov < 4 then set t 4 else s

/-- Undo one step, in reverse order. -/
def State.govUp (s : State) : State :=
  let t := s.tens
  let set (x : TensionUnit) (n : Nat) : State := ({ s with tens := { x with gov := n, calmSince := none } }).trace { type := 9, arg := n * 2 ^ 92 }
  let slow := (List.range 16).filter (fun k => decide (t.coreCap.getD k 1400 < 1400))
  if t.gov = 4 then set t 3
  else if t.gov = 3 then set { t with groupCap := t.groupCap.filter (fun k => (NMap.getD t.thermCap k 1400) ≤ 400) } (if slow.isEmpty then 1 else 2)
  else match slow with
    | k :: rest => set { t with coreCap := setAt t.coreCap k (t.coreCap.getD k 1400 + 100) } (if rest.isEmpty && decide (1300 ≤ t.coreCap.getD k 1400) then 1 else 2)
    | [] =>
      let up := t.acMhz.zipIdx.map (fun (f : Nat × Nat) => min (s.spl.acMhz.getD f.2 2800) (f.1 + 100))
      set { t with acMhz := up } (if up = s.spl.acMhz then 0 else 1)

/-- Every 10 µs the governor takes or undoes a step (R426): `est` is the calibrated estimate of the last 10 µs, `cores` the cores' estimates. -/
def execGovernorDecision (est : Nat) (cores : List Nat) (s : State) : Res :=
  .next <|
    if s.pwr.phase ≠ .up then s
    else if s.limitNow < est then s.govDown cores
    else match s.tens.calmSince with
      | some t => if 0 < s.tens.gov && t + 5000000 ≤ s.now then s.govUp else s
      | none => s

/-! ### Droops and phases -/

/-- A droop detector of a core rail or a VF rail sees its rail below −5 %, or back above −3 % (R421). -/
def execDroopDetect (rail : Nat) (recovered : Bool) (s : State) : Res :=
  .next <|
    if 44 ≤ rail || s.pwr.phase ≠ .up then s else
    let r := s.tens.rails.getD rail {}
    let put (x : State) (f : Rail → Rail) : State := { x with tens := { x.tens with rails := updAt x.tens.rails rail f } }
    if recovered then put s (fun r => { r with stretched := false })
    else if r.stretched then s
    else
      let s1 := put s (fun r => { r with stretched := true, droops := r.droops + 1 })
      (({ s1 with tens := { s1.tens with droops := s1.tens.droops + 1 } }).bump 6 0 rail 0 1 0xFFFFFFFF).logIt .droop rail

/-- Logical core that a core rail feeds, if it carries one (Table 18.1). -/
def State.railCore (s : State) (rail : Nat) : Option Nat :=
  if 36 ≤ rail then none else firstIx (fun (p : Nat) => p = rail % 18) s.spl.map

/-- Unit class, unit and cause of a fenced core (R477), with cause 2 where it is in the fixed lane. -/
def State.fenceCore (s : State) (k cause : Nat) : State :=
  let s1 : State := { s with dom := { s.dom with cores := updAt s.dom.cores k (fun c => { c with fenced := true }) } }
  let s2 := s1.fence 0 0 0 1 k cause
  if s.dom.reservations.any (fun r => bit r.2.coreMask k) then s2.raise 2 else s2

/-- A regulator phase fails (R418, Table 18.10): the spare is spliced in, or the rail is derated; `carries` tells whether a derated rail of a
fixed-lane core can still carry its load. -/
def execRegulatorPhaseFault (rail : Nat) (carries : Bool) (s : State) : Res :=
  .next <|
    if 64 ≤ rail then s else
    let r := s.tens.rails.getD rail {}
    let put (x : State) (f : Rail → Rail) : State := { x with tens := { x.tens with rails := updAt x.tens.rails rail f } }
    let s0 := (put s (fun r => { r with phaseFaults := r.phaseFaults + 1 })).bump 6 0 rail 3 1 0xFFFFFFFF
    if !r.spareUsed then
      ((put s0 (fun r => { r with spareUsed := true })).spliceRec { event := 1, cls := 0x0B, from_ := rail, to_ := rail, logical := rail, trigger := 3 }).fence 0 0 0 0x0B rail 1
    else
      let s1 := (((put s0 (fun r => { r with derated := r.derated + 1 })).spliceRec { event := 3, cls := 0x0B, from_ := rail, logical := rail, trigger := 3 }).fence 0 0 0 0x0B rail 2).raise 10
      match s.railCore rail with
      | none => s1
      | some k =>
        if s.slowable k then { s1 with tens := { s1.tens with groupCap := (s1.tens.groupCap ++ [k]).eraseDups } }
        else if carries then s1 else s1.fenceCore k 5

/-! ### Temperature -/

/-- Thresholds of Table 18.8 for a sensor number: throttle, release, Safe-hold, in °C. -/
def thermLimits (n : Nat) : Int × Int × Int :=
  if n ≤ 16 then (105, 100, 115) else if n ≤ 20 then (95, 90, 105) else (115, 110, 125)

/-- What a reading does to a sensor's throttle: set at the throttle threshold, lifted once below the release temperature for 10 ms (R434). -/
def throttleStep (now : Nat) (n : Nat) (t : Int) (m : NMap (Option Nat)) : NMap (Option Nat) :=
  let (hi, lo, _) := thermLimits n
  match NMap.get? m n with
  | none => if hi ≤ t then NMap.put m n none else m
  | some since =>
    if lo ≤ t then NMap.put m n none
    else match since with
      | none => NMap.put m n (some now)
      | some a => if a + 10000000 ≤ now then NMap.del m n else m

/-- Every 100 µs the sensors are read (R434): readings in °C by sensor number, 0 to 15 the logical cores' junctions, 16 the hub, 17 to 20 the
hbmStacks, 21 the regulators. Throttles are set and lifted, and a Safe-hold threshold raises cause 5 (R435, Table 19.2). -/
def State.thermalSample (s : State) (temps : List Int) : State :=
    if s.pwr.phase ≠ .up then s else
    let t := s.tens
    let rs := (temps.take 22).zipIdx
    let thr := rs.foldl (fun m (r : Int × Nat) => throttleStep s.now r.2 r.1 m) t.throttled
    let beyond := (rs.filter (fun (r : Int × Nat) => decide ((thermLimits r.2).2.2 ≤ r.1))).map (fun r => r.2)
    let cool := (rs.filter (fun (r : Int × Nat) => decide (r.1 < (thermLimits r.2).2.1))).map (fun r => r.2)
    let capped := (List.range 16).filter (fun k => NMap.has thr k && s.slowable k)
    let cap := capped.foldl (fun m k => NMap.put m k (max 400 (NMap.getD t.thermCap k 1400 - 100))) ([] : NMap Nat)
    let low := (cap.filter (fun (c : Nat × Nat) => NMap.getD t.thermCap c.1 1400 = 400)).map (fun c => c.1)
    let maxOf (l : List Int) : Int := l.foldl max (-64)
    let s1 : State := { s with tens := { t with
        throttled := thr, thermCap := cap, acThrottled := NMap.has thr 16
        groupCap := ((if t.gov < 3 then [] else t.groupCap) ++ low).eraseDups
        hot := (t.hot.filter (fun n => !cool.contains n) ++ beyond).eraseDups
        hotCore := maxOf (temps.take 16), hotHub := temps.getD 16 (-64), hotHbm := maxOf ((temps.drop 17).take 4)
        refresh2 := decide (85 < maxOf ((temps.drop 17).take 4)) } }
    if beyond.isEmpty || bit s.saf.causes 5 then s1
    else
      -- at a Safe-hold threshold every governor step is taken (R435)
      let flex := (List.range 16).filter s.slowable
      let s2 : State := { s1 with tens := { s1.tens with
          gov := 4, acMhz := [1200, 1200], groupCap := flex
          coreCap := s1.tens.coreCap.zipIdx.map (fun (c : Nat × Nat) => if flex.contains c.2 then 400 else c.1) } }
      (s2.logIt .thermal (beyond.headD 0)).raise 5

/-- A hardware trip removes all 64 rails (R435): no packet ends, Distaff and Whorl hold the SAFE lines low, and the module stays unpowered
until module reset. -/
def execThermalTrip (s : State) : Res :=
  .next (if s.pwr.phase = .up then { s with pwr := { s.pwr with phase := .tripped } } else s)

/-! ### The tensioner -/

/-- A hint whose window is open covers a core. -/
def State.hinted (s : State) (k : Nat) : Bool := s.tens.hints.any (fun h => h.stage = .opened && bit h.cores k)

/-- Nanoseconds from a core's last step to its next (R159): max(100 ns, i / A), A = 0.5 A/µs, or 100 ns under a hint. -/
def State.stepGap (s : State) (k : Nat) : Nat := if s.hinted k then 100 else max 100 ((s.dom.cores.getD k {}).lastMa * 2)

/-- Level that an engine of a core is heading for: its groups rise to 8, or to 4 where capped, while it has queued work, and fall to 0
otherwise (R158, R160). Engine 0 is the array, 1 and 2 the vector units. -/
def State.wantGroups (s : State) (k engine : Nat) : Nat :=
  let c := s.dom.cores.getD k {}
  let queued := c.busy.isSome || c.ops.any (fun o => if engine = 0 then o.queue ≤ 1 else o.queue = engine + 1)
  if s.dev.update = .activating then 0
  else if queued then (if s.tens.groupCap.contains k then 4 else 8) else 0

/-- Clock that a core is heading for in MHz (R420, Table 5.18): none while fenced or stopped in Doze, 1.0 GHz in the fixed lane, else what
governor and throttle leave of 1.4 GHz. -/
def State.wantMhz (s : State) (k : Nat) : Nat :=
  let c := s.dom.cores.getD k {}
  if c.fenced || s.pwr.stopped.contains (4 + s.spl.map.getD k k) || s.dev.update = .activating then 0
  else if s.dom.reservations.any (fun r => bit r.2.coreMask k) then 1000
  else min (s.tens.coreCap.getD k 1400) (NMap.getD s.tens.thermCap k 1400)

/-- One step towards a level. -/
def toward (a b unit : Nat) : Nat := if a < b then a + unit else if b < a then a - unit else a

/-- The engine whose queued operation was issued first, among those that want to rise (Table 5.18). -/
def State.firstEngine (s : State) (k : Nat) : Option Nat :=
  let c := s.dom.cores.getD k {}
  let level (e : Nat) : Nat := if e = 0 then c.g else if e = 1 then c.v0 else c.v1
  (c.ops.findSome? (fun o => if o.queue ≤ 1 then some 0 else if o.queue = 2 then some 1 else if o.queue = 3 then some 2 else none)).filter
    (fun e => decide (level e < s.wantGroups k e))

/-- One step of a core's tensioner, once the spacing has passed (R159): an array group (engine 0), a vector group (1, 2) or 100 MHz of clock (3). -/
def execTensionerStep (core engine : Nat) (s : State) : Res :=
  .next <|
    if 16 ≤ core || 4 ≤ engine || s.pwr.phase ≠ .up then s else
    let c := s.dom.cores.getD core {}
    let held := match s.firstEngine core with | some e => engine < 3 && e ≠ engine | none => false
    if c.lastMa ≠ 0 && (s.time.tick - c.lastStep) * 4 < s.stepGap core || held then s else
    let n : Core := match engine with
      | 0 => { c with g := toward c.g (s.wantGroups core 0) 1 }
      | 1 => { c with v0 := toward c.v0 (s.wantGroups core 1) 1 }
      | 2 => { c with v1 := toward c.v1 (s.wantGroups core 2) 1 }
      | _ => { c with mhz := toward c.mhz (s.wantMhz core) 100 }
    if n = c then s else
    let n1 : Core := { n with lastStep := s.time.tick, lastMa := if engine = 0 || engine = 3 then 600 else 300 }
    { s with dom := { s.dom with cores := setAt s.dom.cores core n1 } }

end Sys2Proof.Machine
end

