-- ==== Sys2Proof/Machine/Splices.lean ====
section
/-! DEFINITION. Splices and self-test (chapter 21), the memory events of chapter 6 (R174, R176, R182), and the loss of a flyer (R71, Table 2.21). -/

namespace Sys2Proof.Machine

/-! ### Units -/

/-- A splice finds no spare of its kind: cause 10, with a log record (R473). -/
def State.spareSpent (s : State) (cls unit logical trigger : Nat) : State :=
  (s.spliceRec { event := 3, cls := cls, from_ := unit, logical := logical, trigger := trigger }).raise 10

/-- Logical core that a physical core carries. -/
def State.logicalOf (s : State) (pc : Nat) : Option Nat := firstIx (fun (p : Nat) => p = pc) s.spl.map

/-- Die of a physical core (Table 5.20). -/
def pcDie (pc : Nat) : Nat := if pc < 9 then 0 else 1

/-- Self-test engine of a unit (R482): the die it lies on, or the hub. -/
def engineOf (cls unit : Nat) : Nat :=
  if cls = 1 then pcDie unit
  else if cls = 3 then unit / 5
  else if cls = 4 then unit / 64
  else if cls = 6 then unit / 16
  else if cls = 0x11 then min 2 (unit / 4)
  else 2

/-- Index of a die-link module in the state (Table 19.11c: die × 16 + module). -/
def linkIx (unit : Nat) : Nat := if unit % 16 < 6 then unit / 16 * 6 + unit % 16 else 12 + (unit % 16 - 6)

/-- Queue a self-test at its engine; a rotation's test goes before tests that wait (R482). -/
def State.addTest (s : State) (t : Test) : State :=
  let (same, other) := (s.spl.tests.filter (fun x => x.engine = t.engine), s.spl.tests.filter (fun x => x.engine ≠ t.engine))
  let l := if t.pkt.isSome then same ++ [t] else match same with
    | [] => [t]
    | r :: rest => r :: t :: rest
  { s with spl := { s.spl with tests := other ++ l } }

/-! ### Core splices -/

/-- A rotation holds the die's spare: its test will give one back (Table 21.9). -/
def State.spareInTest (s : State) (die : Nat) : Bool := s.spl.tests.any (fun t => t.cls = 1 && pcDie t.unit = die && t.pkt.isNone)

/-- Select a core for a splice (R475, R478); with the die's spare spent, cause 10 (R473). -/
def State.selectSplice (s : State) (k trigger : Nat) (immediate retire : Bool) : State :=
  if s.spl.splices.any (fun x => x.logical = k) then
    { s with spl := { s.spl with splices := s.spl.splices.map (fun x => if x.logical = k then { x with immediate := x.immediate || immediate, retire := x.retire || retire } else x) } }
  else
    let die := dieOf k
    let taken := s.spl.splices.any (fun x => dieOf x.logical = die)
    if ((s.spl.spare.getD die none).isSome && !taken) || s.spareInTest die then
      { s with spl := { s.spl with splices := s.spl.splices ++ [⟨k, trigger, immediate, retire⟩] } }
    else s.spareSpent 1 (s.spl.map.getD k k) k trigger

/-- Contexts whose live state lies on a core and nowhere else: those with contents there that no earlier switch saved (R478). -/
def State.lostOn (s : State) (k : Nat) : List Nat :=
  (s.core k).holders.filter (fun c => (s.coreRanges c k).any (fun r => !(s.savedRanges c k).contains r))

/-- Bytes that contexts hold on a core (R478). -/
def State.heldBytes (s : State) (k : Nat) : Nat :=
  (((s.core k).holders.flatMap (fun c => s.coreRanges c k)).eraseDups.map (fun r => r.2)).sum + (if (s.core k).lastCtx.isSome then 0x200000 else 0)

/-- The spare takes the logical number (R478): after a copy, or, for an immediate splice, without the contents, which tears down the contexts
whose only state they were. A core taken out for its age or by rotation is then tested. -/
def State.spliceCore (s : State) (x : CoreSplice) (spare : Nat) : State :=
  let k := x.logical
  let die := dieOf k
  let old := s.spl.map.getD k k
  let pause := if x.immediate then 6000 else 6000 + ceilDiv (s.heldBytes k * 1000) 180000
  let lost := if x.immediate then s.lostOn k else []
  let wasFenced := (s.core k).fenced
  let s1 := s.spliceRec { event := 2, cls := 1, from_ := old, to_ := spare, logical := k, trigger := x.trigger, host := 0x100 + die, pauseNs := pause }
  let s2 : State := { s1 with spl := { s1.spl with
      splices := s1.spl.splices.filter (fun y => y.logical ≠ k)
      map := setAt s1.spl.map k spare
      spare := setAt s1.spl.spare die none
      out := if wasFenced then (unitKey 1 old) :: s1.spl.out else s1.spl.out } }
  let s3 := s2.setCore k (fun c => { c with fenced := false, resident := if x.immediate then none else c.resident })
  let s4 := lost.foldl (fun y c => y.tearDown c 3) s3
  -- what the failed core held is gone; the spare's memory holds no data
  let s5 := if x.immediate then (s4.clear (coreBase k) 0x1200000).setCore k (fun c => { c with holders := c.holders.filter (fun h => !lost.contains h), lastCtx := none }) else s4
  let s6 := if x.retire || x.trigger = 4 then s5.addTest { engine := die, cls := 1, unit := old, kind := 2, pkt := none, retire := x.retire } else s5
  s6.endFixed

/-- A planned splice of a fixed-lane core waits for LANE_RELEASE or a machine-at-rest assertion (Table 1.4, R476). -/
def State.spliceDue (s : State) (x : CoreSplice) : Bool :=
  (s.core x.logical).busy.isNone && (x.immediate || !s.inFixed x.logical || s.isAtRest)

/-- The selected core `k` is free: its contents are copied and the die's spare takes its number. -/
def execCoreSplice (k : Nat) (s : State) : Res :=
  .next <| s.whileUp <|
    match s.spl.splices.find? (fun x => x.logical = k), s.spl.spare.getD (dieOf k) none with
    | some x, some sp => if s.spliceDue x then s.spliceCore x sp else s
    | _, _ => s

/-- Fence a core at once and splice it immediately (R475, R476): what executes on it ends with the contexts that lose data. -/
def State.failCore (s : State) (k cause trigger : Nat) : State :=
  let s1 := if (s.core k).fenced then s else s.fenceCore k cause
  let s2 := match (s1.core k).busy with
    | some id => (match s1.pkt? id with
      | some o => (s1.dropEsc id).endPkt o fenced [1, k, cause, 0]
      | none => s1)
    | none => s1
  s2.selectSplice k trigger true false

/-- A column of the array of a physical core is flagged: a spare column takes its place, or the core is fenced and spliced (Table 5.21). Answers
whether a spare column was left. -/
def State.flagColumn (s : State) (pc col : Nat) : State × Bool :=
  let used := s.spl.cols.getD pc 2
  if used < 2 then
    (({ s with spl := { s.spl with cols := setAt s.spl.cols pc (used + 1) } }).spliceRec
      { event := 2, cls := 0x22, from_ := col, to_ := 256 + used, logical := (s.logicalOf pc).getD 0xFFFF, trigger := 3, host := pc }, true)
  else (s.spareSpent 0x22 col ((s.logicalOf pc).getD 0xFFFF) 3, false)

/-! ### Flyers -/

/-- Fence a flyer (R71, Table 2.21): its outstanding packets end FENCED, the die's spare takes its roles and its bobbins; without a spare they
stay Stopped. The spare itself serves nothing that would have to move. -/
def State.fenceFlyer (s : State) (f cause : Nat) : State :=
  if s.dev.flyersFenced.contains f then s else
  let die := f / 5
  let ids := (s.pkts.filter (fun o => o.flyer = f && !s.twistCommitted o.id)).map (fun o => o.id)
  let s1 := ids.foldl (fun y i => ((y.collAborted i).dropEsc i).finish i fenced [3, f, cause, 0]) s
  let s2 : State := { s1 with dev := { s1.dev with flyersFenced := f :: s1.dev.flyersFenced } }
  let s3 :=
    if !s2.flyerServes f then s2 else
    match s2.spareFlyer die with
    | some sp =>
      let roles := (List.range 10).filter (fun r => s2.flyerFor r = f)
      let s3 : State := { s2 with
        dev := { s2.dev with flyerRole := roles.foldl (fun m r => NMap.put m r sp) s2.dev.flyerRole }
        q := { s2.q with
          bobbins := s2.q.bobbins.map (fun (b : Nat × Bobbin) => (b.1, if b.2.flyer = f then { b.2 with flyer := sp } else b.2))
          stops := s2.q.stops.map (fun (o : StopOrder) => if o.flyer = f then { o with flyer := sp } else o) }
        dbg := { s2.dbg with haltedFl := s2.dbg.haltedFl - (if bit s2.dbg.haltedFl f then 2 ^ f else 0) } }
      s3.spliceRec { event := 2, cls := 3, from_ := f, to_ := sp, logical := roles.headD f, trigger := 5, host := 0x100 + die }
    | none =>
      let mine := (s2.q.bobbins.filter (fun (b : Nat × Bobbin) => b.2.flyer = f && b.2.mode = .running)).map (fun (b : Nat × Bobbin) => b.1)
      (mine.foldl (fun y n => y.setBob n { (y.bob n) with mode := .stopped }) s2).spareSpent 3 f f 5
  s3.fence 0 0 0 3 f cause

/-- A flyer that has not reported to Distaff within 100 µs is fenced (R71, Table 19.11b), but not while it is halted (R494). -/
def execFlyerReportTimeout (flyer : Nat) (s : State) : Res :=
  .next (s.whileUp (if bit s.dbg.haltedFl flyer then s else s.fenceFlyer flyer 1))

/-! ### Monitors -/

/-- A monitored unit below a threshold takes a planned splice (R475). A flyer is replaced once it owns no packet. -/
def State.plannedSplice (s : State) (cls unit trigger : Nat) : State :=
  if cls = 1 then
    match s.logicalOf unit with
    | some k => s.selectSplice k trigger false true
    | none =>
      -- the die's spare itself: it is tested and then retired
      if s.spl.spare.getD (pcDie unit) none = some unit then
        ({ s with spl := { s.spl with spare := setAt s.spl.spare (pcDie unit) none } }).addTest
          { engine := pcDie unit, cls := 1, unit := unit, kind := 2, pkt := none, retire := true }
      else s
  else if cls = 3 then (if s.pkts.any (fun o => o.flyer = unit) then s else s.fenceFlyer unit 3)
  else s.logIt .splice cls unit trigger

/-- A unit below the immediate threshold (R475). -/
def State.immediateSplice (s : State) (cls unit trigger : Nat) : State :=
  if cls = 1 then
    match s.logicalOf unit with
    | some k => s.failCore k 1 trigger
    | none =>
      if s.spl.spare.getD (pcDie unit) none = some unit then
        ({ s with spl := { s.spl with spare := setAt s.spl.spare (pcDie unit) none, out := unitKey 1 unit :: s.spl.out } }).fence 0 0 0 1 (0x100 + unit) 1
      else s
  else if cls = 3 then s.fenceFlyer unit 3
  else
    -- a domain without a spare: cause 10, and an application-core cluster loses 100 MHz
    let s1 := s.raise 10
    if cls = 9 then
      { s1 with spl := { s1.spl with acMhz := updAt s1.spl.acMhz unit (fun f => f - 100) }
                tens := { s1.tens with acMhz := updAt s1.tens.acMhz unit (fun f => min f (s1.spl.acMhz.getD unit 2800 - 100)) } }
    else s1

/-- A path-delay monitor measures `slack` in tenths of a percent of the cycle (R475): class 1 a physical core, 3 a flyer, 9 an application-core
cluster, others a domain without a spare; class 0x22 a gate-lane parity error, which flags column `slack` of physical core `unit`. -/
def execPathDelayCheck (cls unit slack : Nat) (s : State) : Res :=
  .next <|
    if s.pwr.phase ≠ .up then s
    else if cls = 0x22 then
      let (s1, ok) := s.flagColumn unit slack
      if ok then s1 else (match s1.logicalOf unit with
        | some k => s1.failCore k 3 3
        | none => s1)
    else if slack < 30 then s.immediateSplice cls unit 1
    else if slack < 80 then s.plannedSplice cls unit 1
    else s

/-- A ring oscillator runs `drop` tenths of a percent below its baseline (R475). -/
def execRingOscCheck (cls unit drop : Nat) (s : State) : Res :=
  .next (if s.pwr.phase ≠ .up || drop < 60 then s else s.plannedSplice cls unit 2)

/-! ### Rotation and self-test -/

/-- Next physical core of a die in ascending order after `last`, wrapping (R480). -/
def pcOrder (die last : Nat) : List Nat :=
  let all := (List.range 9).map (· + die * 9)
  all.filter (fun p => decide (last < p)) ++ all.filter (fun p => decide (p ≤ last))

/-- Rotation selects nothing on this die now (R480, R485). -/
def State.rotationHeld (s : State) (die : Nat) : Bool :=
  !s.spl.rotEn || s.pwr.phase ≠ .up || s.dev.update = .activating || s.dbg.haltedFl ≠ 0 || s.dbg.haltedAc ≠ 0
  || (s.spl.spare.getD die none).isNone || decide (4 ≤ s.tens.gov)
  || (List.range 8).any (fun i => NMap.has s.tens.throttled (die * 8 + i))
  || s.spl.tests.any (fun t => t.engine = die) || s.spl.splices.any (fun x => dieOf x.logical = die)

/-- ROT_PERIOD_S after a die's last rotation, its next core is selected for self-test (R480); a Doze core restarts first. -/
def execRotationSelect (die : Nat) (s : State) : Res :=
  .next <| s.whileUp <|
    if s.rotationHeld die then s else
    let ok (pc : Nat) : Option Nat := match s.logicalOf pc with
      | some k => if s.spl.retired.contains pc || (s.core k).fenced || (s.inFixed k && !s.isAtRest) then none else some k
      | none => none
    match (pcOrder die (s.spl.lastRot.getD die 0)).findSome? (fun pc => (ok pc).map (fun k => (pc, k))) with
    | none => s
    | some (pc, k) =>
      ({ s with spl := { s.spl with lastRot := setAt s.spl.lastRot die pc }, pwr := { s.pwr with stopped := s.pwr.stopped.filter (· ≠ 4 + pc) } }).selectSplice k 4 false false

/-- Units of each class of Table 21.7 and the kinds it has. -/
def testable (cls unit kind : Nat) : Bool :=
  match cls with
  | 1 => decide (unit < 18) && kind ≤ 2
  | 3 => decide (unit < 10) && kind ≤ 2
  | 4 => decide (unit < 128) && kind = 1
  | 6 => decide (unit < 32) && decide (unit % 16 < 14) && kind = 0
  | 0xC => decide (unit < 32) && kind ≤ 2
  | 0xD => decide (unit < 8) && kind ≤ 2
  | 0x11 => decide (unit < 12) && kind = 0
  | _ => false

/-- A unit is fenced, retired or a spare out of service (precondition 67). -/
def State.idleUnit (s : State) (cls unit : Nat) : Bool :=
  (match cls with
   | 1 => (match s.logicalOf unit with | some k => (s.core k).fenced | none => true)
   | 3 => s.dev.flyersFenced.contains unit || !s.flyerServes unit
   | 4 => (s.ms.hbmStacks.getD (unit / 32) {}).withdrawn || (s.ms.hbmStacks.getD (unit / 32) {}).remapped = some (unit % 32)
   | 6 => (NMap.getD s.ms.links (linkIx unit) {}).fenced
   | _ => s.unitOut cls unit)
  && !s.spl.tests.any (fun t => t.cls = cls && t.unit = unit)

def specBistRun : OpSpec where
  code := 0x0C00
  masks := fun _ => [fm [(31, 30), (23, 0)]]
  params := fun e _ => if testable (e.p.f 3 23 16) (e.p.f 3 15 0) (e.p.f 3 31 30) then none else some (badParam 3)
  pre := fun e s => if s.idleUnit (e.p.f 3 23 16) (e.p.f 3 15 0) then none else some (badState 67)
  run := fun e s =>
    let (c, u) := (e.p.f 3 23 16, e.p.f 3 15 0)
    (s.setJob e.id (.waits (.bist u))).addTest { engine := engineOf c u, cls := c, unit := u, kind := e.p.f 3 31 30, pkt := some e.id }

/-- BIST_RUN queues a self-test at its die's engine (R482); its completion follows with the test. -/
def execBistRun (src : Src) (p : Packet) (s : State) : Res := .next (specBistRun.exec src p s)

/-- A unit passes: it returns to service, or becomes its die's spare where the die has none; a retired unit stays retired (R481, R483). -/
def State.unitPasses (s : State) (t : Test) : State :=
  let retired := s.spl.outRetired.contains (unitKey t.cls t.unit) || (t.cls = 1 && s.spl.retired.contains t.unit)
  if retired then s else
  let s1 : State := { s with spl := { s.spl with out := s.spl.out.filter (fun x => x ≠ unitKey t.cls t.unit) } }
  match t.cls with
  | 1 =>
    let die := pcDie t.unit
    (match s1.logicalOf t.unit with
     | some k => (s1.setCore k (fun c => { c with fenced := false })).endFixed
     | none => if (s1.spl.spare.getD die none).isNone then { s1 with spl := { s1.spl with spare := setAt s1.spl.spare die (some t.unit) } } else s1)
  | 3 =>
    { s1 with dev := { s1.dev with flyersFenced := s1.dev.flyersFenced.filter (· ≠ t.unit) } }
  | 4 => s1
  | 6 => s1
  | _ => s1.endFixed

/-- A unit fails or has aged: it is retired (R481, R483). -/
def State.unitRetired (s : State) (t : Test) : State :=
  if t.cls = 4 || t.cls = 6 then s else
  { s with spl := { s.spl with
      retired := if t.cls = 1 && !s.spl.retired.contains t.unit then t.unit :: s.spl.retired else s.spl.retired
      outRetired := if s.spl.outRetired.contains (unitKey t.cls t.unit) then s.spl.outRetired else unitKey t.cls t.unit :: s.spl.outRetired } }

/-- The test that engine `engine` runs ends after `us` microseconds, with its signature, its first failing address and the array columns it found
failing (R481, R483). -/
def execSelfTestDone (engine us : Nat) (pass : Bool) (sig failAddr : Nat) (cols : List Nat) (s : State) : Res :=
  .next <|
    match s.spl.tests.find? (fun t => t.engine = engine) with
    | none => s
    | some t =>
      -- Sleep ends a test without a verdict
      if s.pwr.phase ≠ .up then s else
      let rest := (s.spl.tests.filter (fun x => x.engine = engine)).drop 1 ++ s.spl.tests.filter (fun x => x.engine ≠ engine)
      let s0 : State := { s with spl := { s.spl with tests := rest } }
      let (s1, colsOk) := (if t.cls = 1 then cols else []).foldl (fun (a : State × Bool) c =>
        let (y, ok) := a.1.flagColumn t.unit c
        (y, a.2 && ok)) (s0, true)
      let ok := pass && colsOk
      let zero := match t.cls, s1.logicalOf t.unit with
        | 1, some k => if t.kind = 0 then s1 else s1.clear (coreBase k) 0x1200000
        | _, _ => s1
      let s2 := zero.spliceRec { event := if ok then 4 else 5, cls := t.cls, from_ := t.unit, trigger := if t.pkt.isSome then 6 else 4
                                 host := if engine = 2 then 0x200 else 0x100 + engine, durUs := us, sig := sig, addr := failAddr }
      let s3 :=
        if ok && t.retire then (s2.unitRetired t).spliceRec { event := 6, cls := t.cls, from_ := t.unit, trigger := 1, host := 0x100 + engine }
        else if ok then s2.unitPasses t
        else if t.cls = 1 && t.pkt.isNone then (s2.unitRetired t).fence 0 0 0 1 (0x100 + t.unit) 4
        else s2.unitRetired t
      -- a failed core that waited for this spare and gets none keeps its fence, with cause 10 (Table 21.9)
      let s4 := if t.cls = 1 && (s3.spl.spare.getD engine none).isNone && !s3.spareInTest engine then
          (s3.spl.splices.filter (fun x => dieOf x.logical = engine)).foldl (fun y x =>
            ({ y with spl := { y.spl with splices := y.spl.splices.filter (fun z => z.logical ≠ x.logical) } }).spareSpent 1 (y.spl.map.getD x.logical 0) x.logical x.trigger) s3
        else s3
      match t.pkt with
      | some id => s4.finish id 0 [ok.toNat * 2 ^ 31 + (s2.spl.seq + 65535) % 65536, us, 0, 0]
      | none => s4

/-! ### Memory -/

/-- The logical core whose core memory or operand buffers hold an address. -/
def coreHolding (a : Addr) : Option Nat :=
  match place a with | .coreMem k _ => some k | .weightBuf k _ => some k | .actBuf k _ => some k | .accBuf k _ => some k | _ => none

/-- A row of an SRAM needs repair (R473, R479): a spare row, else the bank's spare, else the memory unit is fenced. Operand buffers have spare rows
and no spare bank (Table 21.1). -/
def State.repairRow (s : State) (a : Addr) : State :=
  let key := s.memEntry a
  let limit := match place a with | .coreMem _ _ => 16 | .dieShared _ _ => 32 | .hub _ => 32 | _ => 8
  let used := NMap.getD s.spl.rows key 0
  let unit : Nat × Nat := match place a with
    | .coreMem k _ => (s.spl.map.getD k k, 1)
    | .dieShared d _ => (0x100 + d, 2)
    | .hub _ => (0x200, 1)
    | _ => ((coreHolding a).elim 0x200 (fun k => s.spl.map.getD k k), 0)
  let log := (s.logicalOf unit.1).getD 0xFFFF
  if used < limit then
    (({ s with spl := { s.spl with rows := NMap.put s.spl.rows key (used + 1) } }).bump 4 0 key 3 1 0xFFFFFFFF).spliceRec
      { event := 1, cls := 0x20, from_ := a / 64 % 65536, to_ := used, logical := key, trigger := 3, host := unit.1 }
  else if NMap.getD s.spl.banks unit.1 0 < unit.2 then
    ({ s with spl := { s.spl with banks := NMap.put s.spl.banks unit.1 (NMap.getD s.spl.banks unit.1 0 + 1), rows := NMap.put s.spl.rows key 0 } }).spliceRec
      { event := 1, cls := 0x21, from_ := key, to_ := NMap.getD s.spl.banks unit.1 0, logical := log, trigger := 3, host := unit.1 }
  else
    let s1 := s.spareSpent 0x21 key log 3
    match coreHolding a, bankOf a with
    | some k, _ => s1.failCore k 2 3
    | _, some (m, b) =>
      (match NMap.get? s1.ms.banks ((m - 1) * 64 + b) with
       | some o =>
         ({ s1 with ms := { s1.ms with banks := NMap.del s1.ms.banks ((m - 1) * 64 + b) } }).fence
           (match NMap.get? s1.dom.contexts o.ctx with | some x => x.opener | none => 0) 0x0202 o.ctx 2 o.ctx 3
       | none => s1)
    | _, _ => s1

/-- Patrol scrub finds an error at an address (R182, Table 6.14): correctable, counted, with `trig` its third scrub pass; or uncorrectable,
poisoned and logged. `slot` names the hot-set slot whose HBM copy the line belongs to, `flyer` the flyer whose memory it is. -/
def execPatrolScrub (addr : Nat) (bad trig : Bool) (slot flyer : Option Nat) (s : State) : Res :=
  .next <|
    if s.pwr.phase ≠ .up then s else
    match flyer with
    | some f => if bad then s.fenceFlyer f 2 else s
    | none =>
      if !(match place addr with | .mgmt _ => false | .remote _ _ => false | .none_ => false | _ => true) then s else
      let key := s.memEntry addr
      let sram := match place addr with | .hbm _ _ => false | _ => true
      let s1 := s.bump 4 0 key (if bad then 1 else 0) 1 0xFFFFFFFF
      let s2 : State := if bad then ({ s1 with ms := { s1.ms with poison := if s1.ms.poison.contains (eccUnit addr) then s1.ms.poison else s1.ms.poison ++ [eccUnit addr] } }).logIt .poisonFound addr else s1
      let s3 := match slot with
        | some n => if bad then { s2 with dom := { s2.dom with hot := NMap.upd s2.dom.hot n (fun m => { m with invalid := true }) } } else s2
        | none => s2
      if sram && (bad || trig) then s3.repairRow addr else s3

/-- Withdraw an HBM stack (R176): owners of regions and pools in it hear of it, models there become invalid, cause 3. -/
def State.withdrawStack (s : State) (k : Nat) : State :=
  let inK (a : Addr) : Bool := a / 0x000600000000 = k
  let s1 : State := { s with
    ms := { s.ms with hbmStacks := updAt s.ms.hbmStacks k (fun x => { x with withdrawn := true }) }
    dom := { s.dom with hot := s.dom.hot.map (fun (m : Nat × HotModel) => (m.1, if m.2.stack = k then { m.2 with invalid := true } else m.2)) } }
  let owners := ((s.ms.regions.filter (fun r => inK r.base)).map (fun r => r.ctx)).eraseDups
  let opener (c : Nat) : Nat := match NMap.get? s.dom.contexts c with | some x => x.opener | none => 0
  let s2 := owners.foldl (fun y c => y.fence (opener c) 0x0203 c 5 k 1) s1
  -- pools (Table 8.10)
  let s3 := s.kv.foldl (fun y (q : Nat × KvPool) =>
    if inK (q.2.regions.headD 0) then
      let seqOwners := (q.2.seqs.map (fun (x : Nat × KvSeq) => (x.2.owner, x.2.opener))).eraseDups
      seqOwners.foldl (fun z o => z.fence o.2 0x0210 o.1 5 k 1) { y with kv := NMap.del y.kv q.1 }
    else
      let lost := (List.range q.2.regions.length).filter (fun i => inK (q.2.regions.getD i 0))
      if lost.isEmpty then y else
      let gs := q.2.groups.filter (fun g => (q.2.groupFrames g).any (fun f => lost.contains (q.2.regionOf f)))
      let z := y.dropGroups q.1 gs
      { z with kv := NMap.upd z.kv q.1 (fun p => { p with lostRegions := (p.lostRegions ++ lost).eraseDups }) }) s2
  (s3.fence 0 0 0 5 k 1).raise 3

/-- A pseudo-channel is flagged (R174, R176): the stack's first is remapped into the reserve; a second withdraws the stack. -/
def execPseudoChannelFlagged (stack pc : Nat) (s : State) : Res :=
  .next <| s.whileUp <|
    let k := s.ms.hbmStacks.getD stack {}
    if 4 ≤ stack || 32 ≤ pc || k.withdrawn || k.remapped = some pc then s
    else match k.remapped with
      | none =>
        (({ s with ms := { s.ms with hbmStacks := updAt s.ms.hbmStacks stack (fun x => { x with remapped := some pc, copying := true }) } }).spliceRec
          { event := 1, cls := 4, from_ := stack * 32 + pc, logical := stack * 32 + pc, trigger := 3, host := stack }).fence 0 0 0 4 (stack * 32 + pc) 1
      | some _ => (s.spareSpent 4 (stack * 32 + pc) (stack * 32 + pc) 3).withdrawStack stack

/-- The remap copy ends: every address of the pseudo-channel is served from the reserve (R174). -/
def execRemapCopyEnd (stack : Nat) (s : State) : Res :=
  .next <| s.whileUp <|
    if (s.ms.hbmStacks.getD stack {}).copying then
      ({ s with ms := { s.ms with hbmStacks := updAt s.ms.hbmStacks stack (fun x => { x with copying := false }) } }).logIt .remap stack
    else s

/-! ### Clocks -/

/-- A reference oscillator (`what` 0) or a PLL of SD0, SD1 or the hub (1 to 3) fails (R295, R473, R479): its spare takes over within a cycle, or
cause 13 rises, or the domains of the PLL are fenced. -/
def State.clockFails (s : State) (what : Nat) : State :=
  if what = 0 then
    if s.pwr.spareRef then (s.spareSpent 0x25 1 0xFFFF 3).raise 13
    else ({ s with pwr := { s.pwr with spareRef := true }, time := { s.time with spareOsc := true } }).spliceRec
      { event := 1, cls := 0x25, from_ := 0, to_ := 1, trigger := 3, host := 0x200 }
  else if 3 < what then s
  else
    let left := s.spl.plls.getD (what - 1) 0
    if 0 < left then
      let s1 : State := { s with spl := { s.spl with plls := setAt s.spl.plls (what - 1) (left - 1) }
                                 pwr := { s.pwr with sparePll := s.pwr.sparePll || what = 3 }
                                 time := { s.time with spareOsc := s.time.spareOsc || what = 3 } }
      s1.spliceRec { event := 1, cls := 0x24, from_ := what - 1, to_ := left, trigger := 3, host := if what = 3 then 0x200 else 0x100 + (what - 1) }
    else
      let s1 := s.spareSpent 0x24 (what - 1) 0xFFFF 3
      if what = 3 then s1.raise 13
      else
        let cores := (List.range 8).map (· + (what - 1) * 8)
        let s2 := cores.foldl (fun y k => if (y.core k).fenced then y else y.failCore k 5 5) s1
        [0, 1, 2, 3, 4].foldl (fun y f => y.fenceFlyer (f + (what - 1) * 5) 3) s2

end Sys2Proof.Machine
end

