-- ==== Sys2Proof/Machine/Carding.lean ====
section
/-! DEFINITION. Carding (chapter 13): group records (R311 to R313), windows (R314 to R316), release (R317), starting and stopping (R318), the three
levels of fusion (R319 to R322), cross-checks and voting (R323 to R326), pairs (R327). -/

namespace Sys2Proof.Machine

open Sys2Proof.Num (Val)

/-! ### Fields of the record -/

def Group.origin (g : Group) : Nat := g.head 511 464 * 10 ^ 9 + g.head 463 432
def Group.period (g : Group) : Nat := g.head 431 400
/-- Nominal time of window `k` (R313). -/
def Group.time (g : Group) (k : Nat) : Nat := g.origin + k * g.period
def Group.outAddr (g : Group) : Addr := g.head 351 304
def Group.outBytes (g : Group) : Nat := g.head 303 272
def Group.outSlots (g : Group) : Nat := g.head 271 268 + 1
def Group.supplyNs (g : Group) : Nat := g.head 367 352 * 1000
def Group.paired (g : Group) : Bool := g.head 257 257 = 1
def Group.policyDrop (g : Group) : Bool := g.head 258 258 = 1
def Group.stream (g : Group) (i : Nat) : Nat := g.mem i 255 249
def Group.role (g : Group) (i : Nat) : Nat := g.mem i 248 247
def Group.check (g : Group) (i : Nat) : Nat := g.mem i 246 245
def Group.depth (g : Group) (i : Nat) : Bool := g.mem i 244 244 = 1
def Group.decim (g : Group) (i : Nat) : Nat := g.mem i 243 242
def Group.fmt (g : Group) (i : Nat) : Nat := g.mem i 241 238
/-- OFFSET_NS of member `i`. -/
def Group.offset (g : Group) (i : Nat) : Int := sext 32 (g.mem i 223 192)
def Group.ix (g : Group) : List Nat := List.range g.count
def Group.nx (g : Group) : Nat := g.grid 351 342 + 1
def Group.ny (g : Group) : Nat := g.grid 341 332 + 1

/-- Bits per pixel and components of a data type (Table 11.2, R319). -/
def dtBits (dt : Nat) : Nat × Nat × Nat :=
  match dt with
  | 0x1E => (16, 8, 3) | 0x24 => (24, 8, 3) | 0x2A => (8, 8, 1) | 0x2B => (10, 10, 1) | 0x2C => (12, 12, 1)
  | 0x2D => (14, 14, 1) | 0x2E => (16, 16, 1) | 0x2F => (20, 20, 1) | _ => (8, 8, 1)

/-- Width of an image stream in pixels. -/
def Stream.width (t : Stream) : Nat := t.lineBytes * 8 / (dtBits t.dt).1
/-- Components of a pixel of an image member, its depth included. -/
def Group.chans (g : Group) (i : Nat) (t : Stream) : Nat := (dtBits t.dt).2.2 + (g.depth i).toNat
/-- Bytes of an image member's output for `lines` lines: the tensor, and the row bitmap where damaged lines are masked (R319). -/
def Group.imageBytes (g : Group) (i : Nat) (t : Stream) (lines : Nat) : Nat :=
  let d := 2 ^ g.decim i
  let body := (lines / d) * Num.rowBytes (g.fmt i) ((t.width / d) * g.chans i t)
  if g.policyDrop then body else up64 body + ceilDiv (lines / d) 8

/-! ### Checks of a record -/

/-- Members that a stream has in the groups but `skip`. -/
def State.memberships (s : State) (skip : Option Nat) (stream : Nat) : Nat :=
  (s.sen.groups.filter (fun (g : Nat × Group) => skip ≠ some g.1 && g.2.ix.any (fun i => g.2.stream i = stream))).length

/-- Faults of a member entry with the byte offset of the field (Table 13.3, R313). -/
def State.memberFaults (s : State) (c : Nat) (skip : Option Nat) (g : Group) (i : Nat) : List (Bool × Nat) :=
  let b := 192 + 32 * i
  let st := NMap.get? s.sen.streams (g.stream i)
  let img := g.role i = 0
  let o := g.mem i 143 112
  let n := g.mem i 111 80
  [ ((match st with | some t => t.ctx ≠ c | none => true) || decide (4 ≤ s.memberships skip (g.stream i)), b + 31),
    (g.role i = 3 || (match st with | some t => (img && t.kind ≠ 0) || (g.role i = 1 && t.kind ≠ 1) | none => false)
      || g.check i = 3 || (g.check i = 1 && (g.role i ≠ 1 || !g.lev 1)) || (g.depth i && !img) || (img && g.decim i = 3), b + 30),
    (img && (!([0, 2, 3, 7, 8, 9].contains (g.fmt i)) || (g.depth i && g.fmt i = 0)), b + 29),
    (g.mem i 191 144 % 64 ≠ 0 || (g.role i = 2 && g.mem i 191 144 ≠ 0), b + 18),
    (o % 64 ≠ 0 || decide (g.outBytes < o + n) || (List.range i).any (fun j => overlap o n (g.mem j 143 112) (g.mem j 111 80)), b + 14),
    (img && g.lev 0 && (match st with | some t => decide (n < g.imageBytes i t t.lines) | none => false), b + 10) ]

/-- Faults of header, grid and track block with the byte offset of the field (Tables 13.2, 13.7, 13.8). -/
def Group.headFaults (g : Group) : List (Bool × Nat) :=
  let supplied := g.ix.any (fun i => g.check i = 2)
  let p := g.period
  let gr (hi lo : Nat) : Val := Num.dec32 (g.grid hi lo)
  let tr (hi lo : Nat) : Val := Num.dec32 (g.track hi lo)
  ([ (decide (10 ^ 9 ≤ g.head 463 432), 54), (decide (p < 1000000) || decide (10 ^ 9 < p), 50),
    (decide (g.head 399 384 < 1000) || decide (50000 < g.head 399 384) || decide (8 * p ≤ g.head 399 384 * 1000), 48),
    (g.head 383 368 = 0 || decide (p < g.head 383 368 * 2000), 46), (decide (g.head 367 352 < g.head 399 384), 44), (g.outAddr % 64 ≠ 0, 38),
    (g.outBytes % 64 ≠ 0 || decide (g.outBytes < 64 + 16 * g.count), 34), (decide (g.outSlots < 2), 33), (decide (32 < g.count), 32),
    (!g.paired && g.head 199 184 ≠ 0, 23), (!supplied && !g.lev 2 && g.head 183 136 ≠ 0, 17),
    (g.head 135 104 % 64 ≠ 0, 13), ((supplied || g.lev 2) && g.head 103 100 = 0, 12) ] : List (Bool × Nat))
  ++ (if g.lev 1 then
      ([ (!Num.le (Num.ofNat 1) (Num.mul (gr 447 416) (Num.ofNat 20)) || !Num.le (gr 447 416) (Num.ofNat 10), 64 + 52),
        (!Num.lt (gr 415 384) (gr 383 352), 64 + 44), (decide (512 < g.nx), 64 + 42), (decide (512 < g.ny), 64 + 41),
        (g.grid 319 288 % 64 ≠ 0 || decide (g.outBytes < g.grid 319 288 + g.nx * g.ny * 16), 64 + 36) ] : List (Bool × Nat)) else [])
  ++ (if g.lev 2 then
      ([ (!Num.le Num.zero (tr 479 448) || !Num.le (tr 479 448) (Num.ofNat 1), 128 + 56),
        (!Num.le Num.zero (tr 447 416) || !Num.le (tr 447 416) (Num.ofNat 2), 128 + 52),
        (g.track 383 376 = 0, 128 + 47), (g.track 375 365 = 0 || decide (1024 < g.track 375 365), 128 + 45), (g.track 247 244 = 0, 128 + 30) ] : List (Bool × Nat)) else [])

/-- Byte offset of the first faulty field of a record. -/
def State.recordFault (s : State) (c : Nat) (skip : Option Nat) (g : Group) : Option Nat :=
  ((g.headFaults ++ (if g.count ≤ 32 then g.ix.flatMap (s.memberFaults c skip g) else [])).filter (fun x => x.1)).foldl
    (fun a x => match a with | none => some x.2 | some b => some (min b x.2)) none

/-- First address of a record that lies outside what the context may use, with what each range is for. -/
def State.recordAddr (s : State) (c : Nat) (g : Group) : Option Addr :=
  let rd : List (Addr × Nat) := (g.head 255 208, 64 * g.outSlots) :: (if g.head 183 136 = 0 then [] else [(g.head 183 136, g.head 135 104 * (g.head 103 100 + 1))])
    ++ (if g.lev 2 then [(g.track 303 256, 64 * (g.track 247 244 + 1))] else [])
    ++ g.ix.filterMap (fun i => if g.mem i 191 144 = 0 then none else some (g.mem i 191 144, 112))
  let wr : List (Addr × Nat) := (g.outAddr, g.outBytes * g.outSlots) :: (if g.lev 2 then [(g.track 351 304, (64 + 32 * g.track 375 365) * (g.track 247 244 + 1))] else [])
  ((rd.find? (fun x => !s.addrOk c x.1 x.2 false)).orElse (fun _ => wr.find? (fun x => !s.addrOk c x.1 x.2 true))).map (fun x => x.1)

/-- The group that a record at an address spells, as the context's opener reads it. -/
def State.readGroup (s : State) (e : Env) : Group :=
  let a := e.p.addr 4
  let n := bits (s.loadNat a 64) 267 262 + 1
  let g : Group := { ctx := e.p.ctx, opener := e.bob, record := s.load a (192 + 32 * n) }
  { g with calib := g.ix.filterMap (fun i => if g.mem i 191 144 = 0 then none else some (i, s.load (g.mem i 191 144) 112)) }

/-- Record checks: alignment, reach, fields, the record's own addresses. -/
def State.groupParams (s : State) (e : Env) (skip : Option Nat) : Option Rej :=
  let a := e.p.addr 4
  if a % 64 ≠ 0 then some (badParam 4) else
  let g := s.readGroup e
  if !s.addrOk e.p.ctx a 192 false || !s.addrOk e.p.ctx a g.record.length false then some (badAddr a) else
  match s.recordFault e.p.ctx skip g with
  | some o => some ⟨0x0106, [4, o]⟩
  | none => (s.recordAddr e.p.ctx g).map badAddr

/-- A stopped group of the issuing context (precondition 36). -/
def State.stoppedGroup (s : State) (p : Packet) : Bool :=
  match NMap.get? s.sen.groups (p.f 3 3 0) with
  | some g => g.ctx = p.ctx && !g.started
  | none => false

/-- Replace group `n`. -/
def State.setGroup (s : State) (n : Nat) (f : Group → Group) : State :=
  { s with sen := { s.sen with groups := NMap.upd s.sen.groups n f } }

def groupMasks (del : Bool) : Packet → List Nat := fun _ => fm [(31, 30), (3, 0)] :: (if del then [] else addrMasks)

def specGroupCreate : OpSpec where
  code := 0x0601
  masks := groupMasks false
  params := fun e s => if e.p.f 3 3 0 ≠ 0 then some (badParam 3) else s.groupParams e none
  run := fun e s =>
    match (List.range 16).find? (fun n => !(NMap.has s.sen.groups n)) with
    | none => s.done e noSpace [0xD]
    | some n =>
      let g := s.readGroup e
      ({ s with sen := { s.sen with groups := NMap.put s.sen.groups n g } }).done e 0 [n, g.record.length]

/-- GROUP_CONFIG create copies a group record into the lowest free group (R312). -/
def execGroupConfigCreate (src : Src) (p : Packet) (s : State) : Res := .next (specGroupCreate.exec src (p.withField 3 31 30 0) s)

def specGroupReconfigure : OpSpec where
  code := 0x0601
  masks := groupMasks false
  params := fun e s => s.groupParams e (some (e.p.f 3 3 0))
  pre := fun e s => if s.stoppedGroup e.p then none else some (badState 36)
  run := fun e s =>
    let g := s.readGroup e
    (s.setGroup (e.p.f 3 3 0) (fun o => { g with opener := o.opener, n := o.n, m := o.m, thresh := o.thresh, minCells := o.minCells })).done e 0
      [e.p.f 3 3 0, g.record.length]

/-- GROUP_CONFIG reconfigure replaces a stopped group's record and clears its fence, vote counters and voted-out set (R312). -/
def execGroupConfigReconfigure (src : Src) (p : Packet) (s : State) : Res := .next (specGroupReconfigure.exec src (p.withField 3 31 30 1) s)

def specGroupDelete : OpSpec where
  code := 0x0601
  masks := groupMasks true
  pre := fun e s => if s.stoppedGroup e.p then none else some (badState 36)
  run := fun e s => ({ s with sen := { s.sen with groups := NMap.del s.sen.groups (e.p.f 3 3 0) } }).done e 0 [e.p.f 3 3 0, 0]

/-- GROUP_CONFIG delete removes a stopped group (R312). -/
def execGroupConfigDelete (src : Src) (p : Packet) (s : State) : Res := .next (specGroupDelete.exec src (p.withField 3 31 30 2) s)

/-! ### Starting and stopping -/

/-- Windows, decisions and landing slots of a group are dropped (R318). -/
def Group.halt (g : Group) : Group := { g with started := false, windows := [], past := [], lastSample := [], health := [] }

/-- Precondition 37. -/
def State.groupReady (s : State) (p : Packet) : Bool :=
  match NMap.get? s.sen.groups (p.f 3 3 0) with
  | some g => g.ctx = p.ctx && !g.started && !g.fenced && g.ix.all (fun i => NMap.has s.sen.streams (g.stream i))
  | none => false

/-- Precondition 38. -/
def State.groupBobbins (s : State) (p : Packet) : Bool :=
  match NMap.get? s.sen.groups (p.f 3 3 0), s.ctx? p.ctx with
  | some g, some x => g.bobbins.all (fun n =>
      let b := s.bob n
      b.mode = .running && !b.control && b.tenant = x.tenant && b.fixed = x.fixed && !s.cardBobbin n)
  | _, _ => false

/-- First window of a group started now: the lowest k with t_k + min OFFSET later than now (R318). -/
def Group.firstWindow (g : Group) (now : Nat) : Nat :=
  let m := g.ix.foldl (fun a i => min a (g.offset i)) (g.offset 0)
  let d : Int := (now : Int) - g.origin - m
  if d < 0 then 0 else (d / (max 1 g.period : Nat)).toNat + 1

def specGroupStart : OpSpec where
  code := 0x0602
  masks := fun _ => [fm [(3, 0)]]
  pre := fun e s => firstFail [(!s.groupReady e.p, badState 37), (!s.groupBobbins e.p, badState 38)]
  run := fun e s => (s.setGroup (e.p.f 3 3 0) (fun g => { g.halt with started := true, next := g.firstWindow s.now, unpaired := false })).done e

/-- GROUP_START starts a group at its first window after completion (R318). -/
def execGroupStart (src : Src) (p : Packet) (s : State) : Res := .next (specGroupStart.exec src p s)

def State.ownGroup (s : State) (p : Packet) : Bool :=
  match NMap.get? s.sen.groups (p.f 3 3 0) with | some g => g.ctx = p.ctx | none => false

def specGroupStop : OpSpec where
  code := 0x0603
  masks := fun _ => [fm [(3, 0)]]
  params := fun e s => if s.ownGroup e.p then none else some (badParam 3)
  run := fun e s => (s.setGroup (e.p.f 3 3 0) Group.halt).done e

/-- GROUP_STOP discards a group's open windows and returns its landing slots; counts and the voted-out set survive (R318). -/
def execGroupStop (src : Src) (p : Packet) (s : State) : Res := .next (specGroupStop.exec src p s)

def specVoteConfig : OpSpec where
  code := 0x0604
  masks := fun _ => [fm [(3, 0)], fm [(31, 8)], fm [(11, 0)]]
  params := fun e s => paramCheck [
    (!s.ownGroup e.p, 3), (e.p.f 4 31 24 = 0 || e.p.f 4 23 16 = 0 || e.p.f 4 15 8 = 0, 4), (e.p.f 5 11 0 = 0, 5)]
  run := fun e s =>
    (s.setGroup (e.p.f 3 3 0) (fun g => { g with n := e.p.f 4 31 24, m := e.p.f 4 23 16, thresh := e.p.f 4 15 8, minCells := e.p.f 5 11 0 })).done e

/-- VOTE_CONFIG sets a group's vote parameters from the next decision and keeps the counts (R326). -/
def execVoteConfig (src : Src) (p : Packet) (s : State) : Res := .next (specVoteConfig.exec src p s)

/-- Fence a group (R330): cause 1 member lost, 2 output lost. -/
def State.fenceGroup (s : State) (n cause : Nat) : State :=
  match NMap.get? s.sen.groups n with
  | none => s
  | some g =>
    if g.fenced then s else
    (s.setGroup n (fun g => { g.halt with fenced := true })).fence g.opener 0x0601 g.ctx 7 n cause

/-! ### Points and images -/

/-- Payload of a slot (Table 11.3). -/
def Stream.payload (t : Stream) (slot : Nat) : Addr := t.land + slot * t.slotBytes + 64 + 64 * ceilDiv t.lines 512

/-- FP32 words of a byte string. -/
def f32s (bs : List Byte) (n : Nat) : List Nat := bytesWords n bs

/-- Points of the packets of a batch, in vehicle frame: x, y, z and intensity as FP32 words (R313). -/
def State.framePoints (s : State) (g : Group) (i : Nat) (f : FrameRef) : List (List Nat) :=
  match NMap.get? s.sen.streams f.stream with
  | none => []
  | some t =>
    let e := f32s ((NMap.getD g.calib i []).drop 48) 16
    let base := t.payload f.slot
    (f.pkts.foldl (fun (a : Nat × List (List Nat)) n =>
      let skip := g.mem i 79 72
      let recs := (List.range ((n - skip) / 16)).map (fun j =>
        let w := f32s (s.load (base + a.1 + skip + 16 * j) 16) 4
        (List.range 3).map (fun r => (Config.mapPoint e w r).toNat) ++ [w.getD 3 0])
      (a.1 + n, a.2 ++ recs)) (0, [])).2

/-- Floor of an exact quotient of two finite values; none where it is not a number or the divisor is not positive. -/
def floorDiv (a b : Val) : Option Int :=
  match a, b with
  | .fin na ma ea, .fin nb mb eb =>
    if mb = 0 || nb then none else
    let num : Int := (if na then -1 else 1) * (ma : Int)
    if eb ≤ ea then some (num * 2 ^ (ea - eb).toNat / (mb : Int)) else some (num / ((mb : Int) * 2 ^ (eb - ea).toNat))
  | _, _ => none

/-- Cell of a point, where it lies inside the grid (R320). -/
def Group.cellOf (g : Group) (w : List Nat) : Option (Nat × Nat) :=
  let v (i : Nat) : Val := Num.dec32 (w.getD i 0)
  let c := Num.dec32 (g.grid 447 416)
  if !(Num.le (Num.dec32 (g.grid 415 384)) (v 2) && Num.le (v 2) (Num.dec32 (g.grid 383 352))) then none else
  match floorDiv (Num.sub (v 0) (Num.dec32 (g.grid 511 480))) c, floorDiv (Num.sub (v 1) (Num.dec32 (g.grid 479 448))) c with
  | some x, some y => if 0 ≤ x && x < g.nx && 0 ≤ y && y < g.ny then some (x.toNat, y.toNat) else none
  | _, _ => none

/-- FP16 encoding of a value. -/
def enc16 (v : Val) : Nat := (Num.toFp Num.fp16 .rne false v).enc

/-- The 16 bytes of a grid cell from its points in order (R320). -/
def Group.cellBytes (g : Group) (ix iy : Nat) (pts : List (List Nat)) : List Byte :=
  if pts.isEmpty then List.replicate 16 0 else
  let use := pts.take (g.grid 331 326 + 1)
  let col (i : Nat) : List Val := use.map (fun w => Num.dec32 (w.getD i 0))
  let sum (l : List Val) : Val := match l with | [] => Num.zero | x :: r => r.foldl Num.add32 x
  let mean (l : List Val) : Val := Num.div32 (sum l) (Num.ofNat use.length)
  let mx (l : List Val) : Val := match l with | [] => Num.zero | x :: r => r.foldl Num.maxV x
  let mn (l : List Val) : Val := match l with | [] => Num.zero | x :: r => r.foldl Num.minV x
  let c := Num.dec32 (g.grid 447 416)
  let centre (o : Val) (i : Nat) : Val := Num.r32 (Num.add o (Num.mul c (Num.scale (-1) (Num.ofNat (2 * i + 1)))))
  let off (k i : Nat) (o : Val) : Val := mean ((col k).map (fun x => Num.sub32 x (centre o i)))
  leBytes 2 (min 0xFFFF pts.length) ++ ([mx (col 2), mn (col 2), mean (col 2), mean (col 3), mx (col 3),
    off 0 ix (Num.dec32 (g.grid 511 480)), off 1 iy (Num.dec32 (g.grid 479 448))].flatMap (fun v => leBytes 2 (enc16 v)))

/-- The grid output (R320). -/
def Group.gridBytes (g : Group) (pts : List (List Nat)) : List Byte :=
  let cells := pts.filterMap (fun w => (g.cellOf w).map (fun c => (c, w)))
  (List.range g.ny).flatMap (fun y => (List.range g.nx).flatMap (fun x =>
    g.cellBytes x y ((cells.filter (fun (c : (Nat × Nat) × List Nat) => c.1 = (x, y))).map (fun c => c.2))))

/-- Check cell of a grid cell (R323). -/
def Group.checkCell (g : Group) (c : Nat × Nat) : Nat × Nat := (c.1 * 64 / g.nx, c.2 * 64 / g.ny)

/-- A segment passes through the inside of a rectangle: their extents overlap and the corners do not all lie on one side of its line. -/
def crosses (ox oy px py xa xb ya yb : Val) : Bool :=
  Num.lt (Num.minV ox px) xb && Num.lt xa (Num.maxV ox px) && Num.lt (Num.minV oy py) yb && Num.lt ya (Num.maxV oy py) &&
  (let side (x y : Val) : Val := Num.sub (Num.mul (Num.sub px ox) (Num.sub y oy)) (Num.mul (Num.sub py oy) (Num.sub x ox))
   let cs := [side xa ya, side xa yb, side xb ya, side xb yb]
   cs.any (fun v => Num.lt Num.zero v) && cs.any (fun v => Num.lt v Num.zero))

/-- The check grid of a derived member from its points (R323): 4,096 codes of Table 13.10. -/
def Group.derived (g : Group) (i : Nat) (pts : List (List Nat)) : List Nat :=
  let e := f32s ((NMap.getD g.calib i []).drop 48) 16
  let (ox, oy) := (Num.dec32 (e.getD 3 0), Num.dec32 (e.getD 7 0))
  let hits := pts.filterMap (fun w => (g.cellOf w).map (fun c => (g.checkCell c, w)))
  let c := Num.dec32 (g.grid 447 416)
  let edge (o : Val) (n k : Nat) : Val := Num.add o (Num.mul c (Num.ofNat (ceilDiv (k * n) 64)))
  let (x0, y0) := (Num.dec32 (g.grid 511 480), Num.dec32 (g.grid 479 448))
  (List.range 4096).map (fun q =>
    let (cx, cy) := (q % 64, q / 64)
    if hits.any (fun (h : (Nat × Nat) × List Nat) => h.1 = (cx, cy)) then 2
    else if hits.any (fun (h : (Nat × Nat) × List Nat) => crosses ox oy (Num.dec32 (h.2.getD 0 0)) (Num.dec32 (h.2.getD 1 0))
        (edge x0 g.nx cx) (edge x0 g.nx (cx + 1)) (edge y0 g.ny cy) (edge y0 g.ny (cy + 1))) then 1
    else 0)

/-- Codes of a supplied check grid: four cells to a byte; 0b11 reads as not seen (Table 13.10). -/
def codesOf (bs : List Byte) : List Nat :=
  bs.flatMap (fun b => [b.toNat % 4, b.toNat / 4 % 4, b.toNat / 16 % 4, b.toNat / 64]) |>.map (fun c => if c = 3 then 0 else c)

/-- Level-1 components of an image member, averaged over blocks, as FP32 words, and its damaged output rows (R319). -/
def State.imageOf (s : State) (g : Group) (i : Nat) (f : FrameRef) : List Nat × List Bool :=
  match NMap.get? s.sen.streams f.stream with
  | none => ([], [])
  | some t =>
    let d := 2 ^ g.decim i
    let (_, depth, ch) := dtBits t.dt
    let keep := (List.range f.lines).filter (fun l => !f.embedded.contains l)
    let line (r : Nat) : List Byte := s.load (t.payload f.slot + (keep.getD r 0) * t.lineBytes) t.lineBytes
    let comp (bs : List Byte) (x c : Nat) : Val := Num.div32 (Num.ofNat (Config.csiPixel t.dt bs x c % 2 ^ depth)) (Num.ofNat (2 ^ depth - 1))
    let px := (List.range (keep.length / d)).flatMap (fun y =>
      let rows := (List.range d).map (fun j => line (y * d + j))
      (List.range (t.width / d)).flatMap (fun x => (List.range ch).map (fun c =>
        let vs := rows.flatMap (fun bs => (List.range d).map (fun j => comp bs (x * d + j) c))
        let sum := match vs with | [] => Num.zero | v :: r => r.foldl Num.add32 v
        Num.enc32 (Num.div32 sum (Num.ofNat (d * d))))))
    (px, (List.range (keep.length / d)).map (fun y => (List.range d).any (fun j => f.damaged.contains (keep.getD (y * d + j) 0))))

/-- Depth of output pixel (`px`, `py`): the smallest w of the points that fall in it, 0 with none (R319). -/
def depthAt (hits : List ((Int × Int) × Val)) (px py : Nat) : Val :=
  match hits.filter (fun (h : (Int × Int) × Val) => h.1 = ((px : Int), (py : Int))) with
  | [] => Num.zero
  | h :: r => r.foldl (fun a x => Num.minV a x.2) h.2

/-- The bytes of an image member's output (R319): components and depth in OUT_FMT, then the row bitmap. -/
def Group.imageOut (g : Group) (i : Nat) (t : Stream) (img : List Nat × List Bool) (pts : List (List Nat)) : List Byte :=
  let d := 2 ^ g.decim i
  let ch := (dtBits t.dt).2.2
  let w := t.width / d
  let fmt := g.fmt i
  let enc (v : Val) : Nat :=
    match Num.elem fmt with
    | some (.int n) => trunc n (Num.nearest (Num.mul (Num.ofNat 255) v) - 128)
    | some e => (Num.toElem e .rne false v).enc
    | none => 0
  let p := f32s (NMap.getD g.calib i []) 12
  let hits : List ((Int × Int) × Val) := if !g.depth i then [] else pts.filterMap (fun q =>
    let m (r : Nat) : Val := Num.dec32 (Config.mapPoint p (q.take 3 ++ [0x3F800000]) r).toNat
    let wv := m 2
    if !Num.lt Num.zero wv then none else
    match floorDiv (m 0) (Num.scale (g.decim i : Int) wv), floorDiv (m 1) (Num.scale (g.decim i : Int) wv) with
    | some u, some v => some ((u, v), wv)
    | _, _ => none)
  let rows := (List.range img.2.length).flatMap (fun y =>
    Num.pack fmt ((List.range w).flatMap (fun x =>
      (List.range ch).map (fun c => enc (Num.dec32 (img.1.getD ((y * w + x) * ch + c) 0))) ++ (if g.depth i then [enc (depthAt hits x y)] else []))))
  if g.policyDrop then rows else
  let n := listMask ((List.range img.2.length).filter (fun y => img.2.getD y false))
  rows ++ List.replicate (up64 rows.length - rows.length) 0 ++ leBytes (ceilDiv img.2.length 8) n

/-! ### Release -/

/-- A posted packet has not ended: its ring slot is unfetched, or it is outstanding (R317). -/
def State.postedBusy (s : State) (bob : Nat) (ix : Index) : Bool :=
  let b := s.bob bob
  decide ((ix - b.cmdHead).toNat < (b.tail - b.cmdHead).toNat) || s.pkts.any (fun o => o.src == .bobbin bob && o.ix = some ix)

/-- Post a template to a bobbin (R317): its 64 bytes with REQUEST_TAG `k` at the ring's tail. Answers the ring index used. -/
def State.postTemplate (s : State) (bob : Nat) (a : Addr) (k : Nat) : State × Option Index :=
  let b := s.bob bob
  if b.mode ≠ .running || 2 ^ b.sizeLog2 ≤ (b.tail - b.cmdHead).toNat then (s, none)
  else
    let slot := b.cmdBase + 64 * (b.tail.toNat % 2 ^ b.sizeLog2)
    let bytes := s.load a 8 ++ leBytes 4 k ++ s.load (a + 12) 52
    ((s.store slot bytes).doorbell bob (b.tail + 1), some b.tail)

/-- Bits of a mask of members. -/
def memMask (l : List Nat) : Nat := listMask l

/-- A member's frame takes part in a window: complete, and not dropped for its damage (Table 13.5). -/
def Group.present (g : Group) (w : Window) (i : Nat) : Bool :=
  w.complete.contains i && w.frames.any (fun f => f.member = i && !(g.policyDrop && !f.frame.damaged.isEmpty))

/-- Completeness of a samples member follows its latest sample (R314). -/
def Group.sampleDone (g : Group) (i k : Nat) : Bool :=
  g.role i = 2 && (match NMap.get? g.lastSample i with
    | some c => decide ((g.time k : Int) + g.offset i + g.period ≤ c)
    | none => false)

/-- Members complete for a window. -/
def Group.done (g : Group) (w : Window) : List Nat := g.ix.filter (fun i => w.complete.contains i || g.sampleDone i w.k)

/-- The 64-byte descriptor of a slot (Table 13.6). -/
def descriptor (k : Nat) (stamp : Nat) (present damaged voted : Nat) (flags count : Nat) : List Byte :=
  leBytes 64 (k % 2 ^ 64 * 2 ^ 448 + stamp / 10 ^ 9 % 2 ^ 48 * 2 ^ 400 + stamp % 10 ^ 9 * 2 ^ 368 + present * 2 ^ 336 + damaged * 2 ^ 304
    + voted * 2 ^ 272 + flags * 2 ^ 269 + count * 2 ^ 248)

/-- Earliest of a list of times. -/
def earliest (l : List Nat) : Option Nat := l.foldl (fun (a : Option Nat) t => match a with | none => some t | some b => some (min b t)) none

/-- Write one member's 16-byte entry (R317). -/
def memberEntry (g : Group) (w : Window) (i : Nat) : List Byte :=
  if !g.present w i then List.replicate 16 0 else
  match w.frames.find? (fun f => f.member = i) with
  | some f => leBytes 6 (f.frame.capture / 10 ^ 9) ++ leBytes 4 (f.frame.capture % 10 ^ 9) ++ leBytes 4 f.frame.seq ++ [0, 0]
  | none => List.replicate 16 0

/-- Outputs of a window in output slot `slot` (R317, R319, R320). -/
def State.writeWindow (s : State) (g : Group) (w : Window) (slot : Nat) (atDeadline : Bool) (pts : NMap (List (List Nat))) (stamp : Option Nat) : State :=
  let base := g.outAddr + slot * g.outBytes
  let all := g.ix.flatMap (fun i => if g.voted.contains i then [] else NMap.getD pts i [])
  let s1 := if !g.lev 0 then s else g.ix.foldl (fun y i =>
    if !g.present w i then y else
    match w.frames.find? (fun f => f.member = i), NMap.get? s.sen.streams (g.stream i) with
    | some f, some t => (match f.image with
      | some img => y.store (base + g.mem i 143 112) (g.imageOut i t img all)
      | none => y)
    | _, _ => y) s
  let s2 := if g.lev 1 then s1.store (base + g.grid 319 288) (g.gridBytes all) else s1
  let pres := g.ix.filter (g.present w)
  let dmg := pres.filter (fun i => w.frames.any (fun f => f.member = i && !f.frame.damaged.isEmpty))
  -- with no member present the age stamp is not stated: a free value
  let (t, s3) := match stamp with
    | some t => (t, s2)
    | none => (Config.freeNat s2.free % (2 ^ 48 * 10 ^ 9), s2.drawn 1)
  let flags := (g.lev 1).toNat + g.unpaired.toNat * 2 + atDeadline.toNat * 4
  let s4 := s3.store base (descriptor w.k t (memMask pres) (memMask dmg) (memMask g.voted) flags 0 ++ g.ix.flatMap (memberEntry g w))
  s4.stampWrite base g.outBytes stamp

/-- The output ring can be written. -/
def State.outReach (s : State) (g : Group) : Bool := s.addrOk g.ctx g.outAddr (g.outBytes * g.outSlots) true

/-- Release the lowest window of a group that is not released yet (R315, R317): its outputs are written to the next output slot and the slot's
template posted; a busy slot drops the window, a full ring counts a release miss. -/
def State.releaseWindow (s : State) (n : Nat) (atDeadline : Bool) : State :=
  match NMap.get? s.sen.groups n with
  | none => s
  | some g0 =>
    if !g0.started then s
    else if !s.outReach g0 then s.fenceGroup n 2
    else
      let k := g0.next
      let w0 := (g0.windows.find? (fun w => w.k = k)).getD { k := k }
      let w := { w0 with complete := g0.done w0 }
      let pts : NMap (List (List Nat)) := g0.ix.filterMap (fun i => if g0.role i = 1 && g0.present w i then
        (w.frames.find? (fun f => f.member = i)).map (fun f => (i, s.framePoints g0 i f.frame)) else none)
      let pres := g0.ix.filter (g0.present w)
      let stamp := earliest (pres.filterMap (fun i => (w.frames.find? (fun f => f.member = i)).map (fun f => f.frame.capture)))
      let frac (f : FrameRef) : Bool := f.lines < 4 * f.damaged.length
      let frameOf (i : Nat) : Option FrameRef := if w.complete.contains i then (w.frames.find? (fun f => f.member = i)).map (fun f => f.frame) else none
      let past : Past := {
        k := k
        missing := g0.ix.filter (fun i => (frameOf i).isNone)
        bad := g0.ix.filter (fun i => match frameOf i with | some f => frac f | none => false)
        damaged := g0.ix.filter (fun i => match frameOf i with | some f => !f.damaged.isEmpty && !frac f | none => false)
        grids := g0.ix.filterMap (fun i => if g0.check i = 1 && g0.present w i then some (i, g0.derived i (NMap.getD pts i [])) else none)
        stamp := stamp }
      let slot := g0.outNext % g0.outSlots
      let adv (g : Group) : Group := { g with next := k + 1, windows := g.windows.filter (fun x => x.k ≠ k), past := g.past ++ [past] }
      let busy := g0.posted.any (fun (x : Nat × Index) => x.1 = slot && s.postedBusy (g0.head 207 200) x.2)
      if busy then (s.setGroup n (fun g => { adv g with overruns := g.overruns + 1 })).bump 7 0 0 6 1
      else
        let s1 := s.writeWindow g0 w slot atDeadline pts stamp
        let (s2, ix) := s1.postTemplate (g0.head 207 200) (g0.head 255 208 + 64 * slot) k
        match ix with
        | some i => s2.setGroup n (fun g => { adv g with outNext := slot + 1, posted := g.posted.filter (fun x => x.1 ≠ slot) ++ [(slot, i)] })
        | none => (s2.setGroup n (fun g => { adv g with outNext := slot + 1, misses := g.misses + 1, posted := g.posted.filter (fun x => x.1 ≠ slot) })).bump 7 0 0 7 1

/-- Release windows up to and including `k` (R315: in ascending order). -/
def State.releaseTo (s : State) (n k : Nat) : Nat → State
  | 0 => s
  | fuel + 1 =>
    match NMap.get? s.sen.groups n with
    | some g => if g.started && g.next ≤ k then State.releaseTo (s.releaseWindow n true) n k fuel else s
    | none => s

/-- Release windows that are complete in every member that is not voted out (R315). -/
def State.releaseReady (s : State) (n : Nat) : Nat → State
  | 0 => s
  | fuel + 1 =>
    match NMap.get? s.sen.groups n with
    | none => s
    | some g =>
      let w := (g.windows.find? (fun w => w.k = g.next)).getD { k := g.next }
      if g.started && (g.ix.filter (fun i => !g.voted.contains i)).all (fun i => (g.done w).contains i) && g.ix.any (fun i => (g.done w).contains i) then
        State.releaseReady (s.releaseWindow n false) n fuel
      else s

/-! ### Admission -/

/-- Window and skew of a capture time (R314); none before window 0. -/
def Group.windowOf (g : Group) (i c : Nat) : Option (Nat × Nat) :=
  let q : Int := (c : Int) - g.origin - g.offset i
  let p : Int := (max 1 g.period : Nat)
  let k : Int := if g.role i = 2 then q / p else (2 * q + p) / (2 * p)
  if k < 0 then none else some (k.toNat, (q - k * p).natAbs)

/-- Count an event of a stream (R279, Table 13.5) in COUNTER_READ group 2. -/
def State.bumpStream (s : State) (n field : Nat) (by_ : Nat := 1) : State :=
  match NMap.get? s.sen.streams n with
  | some t => s.bump 2 (s.ctxTenant t.ctx) n field by_ 0xFFFFFFFF
  | none => s

/-- Open a window, releasing the oldest open one when it would be the ninth (Table 13.5). -/
def State.openWindow (s : State) (n k : Nat) : State :=
  match NMap.get? s.sen.groups n with
  | none => s
  | some g =>
    if g.windows.any (fun w => w.k = k) then s else
    let s1 := if g.windows.length < 8 then s else
      let oldest := g.windows.foldl (fun a w => min a w.k) k
      s.releaseTo n oldest (oldest + 1 - g.next)
    s1.setGroup n (fun g => if g.next ≤ k then { g with windows := g.windows ++ [{ k := k }] } else g)

/-- A closed frame meets member `i` of group `n` (R314, Table 13.5). -/
def State.cardMember (s : State) (f : FrameRef) (n i : Nat) : State :=
  match NMap.get? s.sen.groups n with
  | none => s
  | some g =>
    let s0 := if g.role i = 2 then s.setGroup n (fun g => { g with lastSample := NMap.put g.lastSample i (max f.capture (NMap.getD g.lastSample i 0)) }) else s
    let s3 :=
      match g.windowOf i f.capture with
      | none => s0.bumpStream f.stream 4
      | some (k, skew) =>
        if g.role i ≠ 2 && g.head 383 368 * 1000 < skew then s0.bumpStream f.stream 4
        else if k < g.next then s0.bumpStream f.stream 5
        else
          let s1 := s0.openWindow n k
          let img := if g.role i = 0 && g.lev 0 then some (s1.imageOf g i f) else none
          let mf : MemberFrame := ⟨i, f, skew, img⟩
          let old := ((NMap.get? s1.sen.groups n).bind (fun (g : Group) => (g.windows.find? (fun (w : Window) => w.k = k)).bind (fun w => w.frames.find? (fun (x : MemberFrame) => x.member = i))))
          let put (keepOld : Bool) : State := s1.setGroup n (fun g => { g with windows := g.windows.map (fun (w : Window) =>
            if w.k ≠ k then w
            else if g.role i = 2 then { w with frames := w.frames ++ [mf] }
            else if keepOld then w
            else { w with frames := w.frames.filter (fun (x : MemberFrame) => x.member ≠ i) ++ [mf], complete := if w.complete.contains i then w.complete else w.complete ++ [i] }) })
          match old with
          | some o => if g.role i = 2 then put false else (put (o.skew ≤ skew)).bumpStream f.stream 6
          | none => put false
    s3.releaseReady n 9

/-- A closed frame is handed to every started group that has its stream as a member (R278). -/
def State.cardFrame (s : State) (f : FrameRef) : State :=
  (s.sen.groups.filter (fun (g : Nat × Group) => g.2.started)).foldl (fun y (g : Nat × Group) =>
    (g.2.ix.filter (fun i => g.2.stream i = f.stream)).foldl (fun z i => z.cardMember f g.1 i) y) s

/-- A landing slot is in use: a frame is landing in it, or a window holds its frame (R279, R316). -/
def State.slotUsed (s : State) (stream slot : Nat) : Bool :=
  (match NMap.get? s.sen.streams stream with
   | some t => (match t.frame with | some f => f.slot = slot | none => false)
   | none => false)
  || s.sen.groups.any (fun (g : Nat × Group) => g.2.windows.any (fun w => w.frames.any (fun f => f.frame.stream = stream && f.frame.slot = slot && f.image.isNone)))

/-- The deadline of a group's lowest window passes: it is released without the members that are missing (R315). -/
def execWindowDeadline (group : Nat) (s : State) : Res :=
  .next (if s.pwr.phase ≠ .up then s else (s.releaseWindow group true).releaseReady group 9)

/-! ### Tracks -/

/-- An object entry of a supply slot (Table 13.9) as a track without an ID. -/
def objectOf (x : Nat) : Track :=
  { id := 0, cls := bits x 255 240, x := bits x 223 192, y := bits x 191 160, vx := bits x 159 128, vy := bits x 127 96, yaw := bits x 95 80
    score := bits x 79 64, len := bits x 63 48, wid := bits x 47 32, misses := 0 }

/-- A track entry (Table 13.9). -/
def Track.bytes (t : Track) : List Byte :=
  leBytes 32 (t.cls * 2 ^ 240 + t.id * 2 ^ 224 + t.x * 2 ^ 192 + t.y * 2 ^ 160 + t.vx * 2 ^ 128 + t.vy * 2 ^ 96 + t.yaw * 2 ^ 80 + t.score * 2 ^ 64
    + t.len * 2 ^ 48 + t.wid * 2 ^ 32 + min 0xFFFF t.misses * 2 ^ 16)

/-- Insert an object by descending score, ties by index (R322). -/
def insScore (o : Track) : List Track → List Track
  | [] => [o]
  | y :: r => if Num.lt (Num.decode Num.fp16 y.score) (Num.decode Num.fp16 o.score) then o :: y :: r else y :: insScore o r

/-- Tracks with their predicted positions (R322). -/
abbrev Pred := Track × Val × Val

/-- The unassociated track nearest to an object, of its class and within the gate; ties to the lowest ID. -/
def nearest (gate : Val) (ps : List Pred) (used : List Nat) (o : Track) : Option Pred :=
  let d (q : Pred) : Val × Val := (Num.sub32 (Num.dec32 o.x) q.2.1, Num.sub32 (Num.dec32 o.y) q.2.2)
  let sq (q : Pred) : Val := Num.add32 (Num.mul32 (d q).1 (d q).1) (Num.mul32 (d q).2 (d q).2)
  (ps.filter (fun q => !used.contains q.1.id && q.1.cls = o.cls && Num.le (Num.abs (d q).1) gate && Num.le (Num.abs (d q).2) gate)).foldl
    (fun a q => match a with | none => some q | some b => if Num.lt (sq q) (sq b) then some q else some b) none

/-- Tracks after the objects of a window (R322), and how many objects found no free ID. -/
def Group.updateTracks (g : Group) (objs : List Track) : List Track × Nat :=
  let tr (hi lo : Nat) : Val := Num.dec32 (g.track hi lo)
  let per := Num.div32 (Num.ofNat g.period) (Num.ofNat (10 ^ 9))
  let ps : List Pred := g.tracks.map (fun t =>
    (t, Num.add32 (Num.dec32 t.x) (Num.mul32 (Num.dec32 t.vx) per), Num.add32 (Num.dec32 t.y) (Num.mul32 (Num.dec32 t.vy) per)))
  let order := objs.foldl (fun l o => insScore o l) []
  let (used, moved, fresh, lost) := order.foldl (fun (a : List Nat × List Track × List Track × Nat) o =>
    match nearest (tr 511 480) ps a.1 o with
    | some q =>
      let dx := Num.sub32 (Num.dec32 o.x) q.2.1
      let dy := Num.sub32 (Num.dec32 o.y) q.2.2
      let pos (p d : Val) : Nat := Num.enc32 (Num.add32 p (Num.mul32 (tr 479 448) d))
      let vel (v : Nat) (d : Val) : Nat := Num.enc32 (Num.add32 (Num.dec32 v) (Num.div32 (Num.mul32 (tr 447 416) d) per))
      let t := { q.1 with x := pos q.2.1 dx, y := pos q.2.2 dy, vx := vel q.1.vx dx, vy := vel q.1.vy dy, yaw := o.yaw, score := o.score
                          len := o.len, wid := o.wid, misses := 0 }
      (q.1.id :: a.1, a.2.1 ++ [t], a.2.2)
    | none =>
      if !Num.le (tr 415 384) (Num.decode Num.fp16 o.score) then a else
      match (List.range (g.track 375 365)).find? (fun j => !(g.tracks.any (fun t => t.id = j + 1)) && !(a.2.2.1.any (fun t => t.id = j + 1))) with
      | some j => (a.1, a.2.1, a.2.2.1 ++ [{ o with id := j + 1 }], a.2.2.2)
      | none => (a.1, a.2.1, a.2.2.1, a.2.2.2 + 1)) ([], [], [], 0)
  let rest := (ps.filter (fun q => !used.contains q.1.id)).filterMap (fun q =>
    let t := { q.1 with x := Num.enc32 q.2.1, y := Num.enc32 q.2.2, misses := q.1.misses + 1 }
    if g.track 383 376 < t.misses then none else some t)
  let all := moved ++ fresh ++ rest
  ((List.range (g.track 375 365 + 1)).filterMap (fun j => all.find? (fun t => t.id = j)), lost)

/-- Write the tracks to the next track slot and post its template (R322, R328). -/
def State.writeTracks (s : State) (n k : Nat) (stamp : Option Nat) : State :=
  match NMap.get? s.sen.groups n with
  | none => s
  | some g =>
    let slots := g.track 247 244 + 1
    let size := 64 + 32 * g.track 375 365
    let slot := g.trackNext % slots
    let bob := g.track 255 248
    if g.trackPosted.any (fun (x : Nat × Index) => x.1 = slot && s.postedBusy bob x.2) then
      (s.setGroup n (fun g => { g with overruns := g.overruns + 1 })).bump 7 0 0 6 1
    else
      let base := g.track 351 304 + slot * size
      let (t, s0) := match stamp with
        | some t => (t, s)
        | none => (Config.freeNat s.free % (2 ^ 48 * 10 ^ 9), s.drawn 1)
      let s1 := (s0.store base (descriptor k t 0 0 0 0 g.tracks.length ++ g.tracks.flatMap Track.bytes)).stampWrite base size stamp
      let (s2, ix) := s1.postTemplate bob (g.track 303 256 + 64 * slot) k
      match ix with
      | some i => s2.setGroup n (fun g => { g with trackNext := slot + 1, trackPosted := g.trackPosted.filter (fun x => x.1 ≠ slot) ++ [(slot, i)] })
      | none => (s2.setGroup n (fun g => { g with trackNext := slot + 1, misses := g.misses + 1 })).bump 7 0 0 7 1

/-! ### Voting -/

/-- Two members' grids: compared, and disagreeing (R323). -/
def Group.compareGrids (g : Group) (a b : List Nat) : Bool × Bool :=
  let both := (a.zip b).filter (fun (x : Nat × Nat) => x.1 ≠ 0 && x.2 ≠ 0)
  let dis := (both.filter (fun (x : Nat × Nat) => x.1 ≠ x.2)).length
  (decide (g.minCells ≤ both.length), decide (g.minCells ≤ both.length) && decide (both.length * g.thresh < dis * 256))

/-- Per member, the members that it is compared with and those it disagrees with, from this module's grids. -/
def Group.ownSets (g : Group) (p : Past) (grids : NMap (List Nat)) : List Nat × List Nat :=
  let active (i : Nat) : Bool := !p.missing.contains i && !g.voted.contains i && NMap.has grids i
  let row (f : Bool × Bool → Bool) (i : Nat) : Nat := listMask (g.ix.filter (fun j => j ≠ i && active j && NMap.has grids i
    && f (g.compareGrids (NMap.getD grids i []) (NMap.getD grids j []))))
  (g.ix.map (row (fun x => x.1)), g.ix.map (row (fun x => x.2)))

/-- Verdict of a member for a window (Table 13.11): true D, false C, none U. -/
def verdict (missing bad damaged hasGrid : Bool) (compared disagree : Nat) : Option Bool :=
  if missing || bad then some true
  else if damaged then none
  else if compared < 2 || !hasGrid then none
  else if 2 ≤ disagree then some true
  else some false

/-- CRC-32C of a group's header and member entries (Table 13.13). -/
def Group.crc (g : Group) : Nat := crc32c (g.record.take 64 ++ g.record.drop 192)

/-- This module's health record for a window (R327), from the grids it has. -/
def Group.healthOf (g : Group) (p : Past) (grids : NMap (List Nat)) : Health :=
  let (c, d) := g.ownSets p grids
  { key := g.head 199 184, k := p.k, missing := listMask p.missing, bad := listMask p.bad, compared := c, disagree := d, voted := listMask g.voted, crc := g.crc }

/-- Nodes that a paired group exchanges health with: the others of the active routing table. -/
def State.partners (s : State) : List Nat := (s.ply.table.map (fun (r : Nat × Route) => r.1)).filter (· ≠ s.dev.node)

/-- The supply slot of window `k`, where it carries that window: check grids of the supplied members, objects, age stamp (R321). -/
def State.supply? (s : State) (g : Group) (k : Nat) : Option (NMap (List Nat) × List Track × Nat) :=
  if g.head 183 136 = 0 then none else
  let base := g.head 183 136 + k % (g.head 103 100 + 1) * g.head 135 104
  if !s.addrOk g.ctx base (g.head 135 104) false then none else
  let h := s.loadNat base 64
  if bits h 511 448 ≠ k then none else
  let who := g.ix.filter (fun i => g.check i = 2)
  let grids := (List.range who.length).map (fun j => (who.getD j 0, codesOf (s.load (base + 64 + 1024 * j) 1024)))
  let o := base + 64 + 1024 * who.length
  let n := min (bits h 263 248) ((g.head 135 104 - (o - base)) / 32)
  some (grids, (List.range n).map (fun j => objectOf (s.loadNat (o + 32 * j) 32)), bits h 447 400 * 10 ^ 9 + bits h 399 368)

/-- The vote decision of a window (R324, R325, R327). -/
def State.decide_ (s : State) (n : Nat) (g : Group) (p : Past) (grids : NMap (List Nat)) : State :=
  let pairing := g.paired && s.dev.role ≠ .solo && !g.mismatch
  let theirs := if pairing then g.health.find? (fun h => h.k = p.k) else none
  let (oc, od) := g.ownSets p grids
  let pick (own : List Nat) (f : Health → List Nat) (i : Nat) : Nat :=
    own.getD i 0 ||| (match theirs with | some h => (f h).getD i 0 | none => 0)
  let both (own : Bool) (f : Health → Nat) (i : Nat) : Bool := own && (match theirs with | some h => bit (f h) i | none => true)
  let verdictOf (i : Nat) : Option Bool :=
    if g.check i = 0 then none else
    verdict (both (p.missing.contains i) (fun h => h.missing) i) (both (p.bad.contains i) (fun h => h.bad) i) (p.damaged.contains i)
      (NMap.has grids i || pick oc (fun h => h.compared) i ≠ 0) (popcount 32 (pick oc (fun h => h.compared) i)) (popcount 32 (pick od (fun h => h.disagree) i))
  let vs := g.ix.map (fun i => (i, verdictOf i))
  let dis := vs.foldl (fun m (v : Nat × Option Bool) => match v.2 with
    | some true => NMap.put m v.1 (NMap.getD g.dis v.1 0 + 1)
    | some false => NMap.put m v.1 0
    | none => m) g.dis
  let con := vs.foldl (fun m (v : Nat × Option Bool) => match v.2 with
    | some true => NMap.put m v.1 0
    | some false => NMap.put m v.1 (NMap.getD g.con v.1 0 + 1)
    | none => m) g.con
  let back := g.voted.filter (fun i => g.m ≤ NMap.getD con i 0)
  let out := (g.ix.filter (fun i => g.check i ≠ 0 && !g.voted.contains i && g.n ≤ NMap.getD dis i 0)).foldl (fun (a : Option Nat) i => match a with
    | none => some i
    | some b => if NMap.getD dis b 0 < NMap.getD dis i 0 then some i else some b) none
  let theirOut := match theirs with | some h => (maskList 32 h.voted).filter (fun i => i < g.count && !g.voted.contains i && out ≠ some i) | none => []
  let newOut := (match out with | some i => [i] | none => []) ++ theirOut
  let zero (m : NMap Nat) : NMap Nat := back.foldl (fun m i => NMap.put m i 0) m
  let s1 := s.setGroup n (fun g => { g with
    dis := zero dis, con := zero con, voted := (g.voted.filter (fun i => !back.contains i)) ++ newOut
    health := g.health.filter (fun h => p.k < h.k)
    unpaired := g.paired && theirs.isNone
    pairMisses := if pairing && theirs.isNone then g.pairMisses + 1 else g.pairMisses })
  let s2 := back.foldl (fun y i => y.logIt .voted (g.stream i) 0) s1
  newOut.foldl (fun y i => y.event g.opener 0x0601 0x0305 g.ctx [g.stream i]) s2

/-- At t_k + SUPPLY_US the supply slot of a group's oldest undecided window is read, tracks are updated, and its members' verdicts and votes are
decided (R322, R324). -/
def execSupplyDeadline (group : Nat) (s : State) : Res :=
  .next <|
    if s.pwr.phase ≠ .up then s else
    match NMap.get? s.sen.groups group with
    | none => s
    | some g =>
      match g.past with
      | [] => s
      | p :: rest =>
        let sup := s.supply? g p.k
        let grids := p.grids ++ (match sup with | some (gs, _, _) => gs.filter (fun (x : Nat × List Nat) => !p.missing.contains x.1) | none => [])
        let (tracks, lost) := if g.lev 2 then g.updateTracks (match sup with | some (_, os, _) => os | none => []) else ([], 0)
        let s1 := s.setGroup group (fun g => { g with past := rest, tracks := tracks, dropped := g.dropped + lost })
        let stamp := earliest ((match sup with | some (_, _, t) => [t] | none => []) ++ p.stamp.toList)
        let s2 := if g.lev 2 then s1.writeTracks group p.k stamp else s1
        s2.decide_ group g p grids

/-- A paired group's health record for its oldest window not yet sent goes to the partner (R327); the supply slot is not read before its time. -/
def execHealthRecordDue (group : Nat) (s : State) : Res :=
  .next <| s.whileUp <|
    match NMap.get? s.sen.groups group with
    | none => s
    | some g =>
      if !g.paired || s.dev.role = .solo || !g.started || g.mismatch then s else
      match g.past.find? (fun p => !p.sent) with
      | none => s
      | some p =>
        let s1 := s.partners.foldl (fun y n => y.plySend n (.health (g.healthOf p p.grids))) s
        s1.setGroup group (fun g => { g with past := g.past.map (fun x => if x.k = p.k then { x with sent := true } else x) })

/-- A partner's health record arrives (Table 13.13). -/
def State.takeHealth (s : State) (h : Health) : State :=
  match s.sen.groups.find? (fun (g : Nat × Group) => g.2.paired && g.2.head 199 184 = h.key) with
  | none => s.logIt .pairMismatch h.key h.k
  | some (n, g) =>
    if h.crc ≠ g.crc then (s.setGroup n (fun g => { g with mismatch := true, unpaired := true })).logIt .pairMismatch h.key h.k 1
    else s.setGroup n (fun g => { g with health := g.health ++ [h] })

end Sys2Proof.Machine
end

