-- ==== Sys2Proof/Machine/Models.lean ====
section
/-! DEFINITION. Contexts, the hot set and the fixed lane (chapter 3): CONTEXT_CREATE (R81 to R83), MODEL_STORE (R91), MODEL_LOAD (R86, R92),
MODEL_PIN and MODEL_EVICT (R88, R89), LANE_RESERVE and LANE_RELEASE (R100 to R102). -/

namespace Sys2Proof.Machine

/-! ### CONTEXT_CREATE -/

/-- Tenant that a new context belongs to (R81). -/
def State.newCtxTenant (s : State) (src : Src) (c : Nat) : Option Nat :=
  match s.issuerTenant src with
  | some t => some t
  | none => (s.dom.tenants.find? (fun t => decide (t.2.ctxBase ≤ c) && decide (c < t.2.ctxBase + t.2.ctxCount))).map (fun t => t.1)

def specContextCreate : OpSpec where
  code := 0x0500
  masks := fun _ => [fm [(28, 24), (17, 0)], fm [(4, 0)]]
  params := fun e _ =>
    let p := e.p
    let sh := p.f 3 27 24
    firstFail [(p.f 3 15 0 = 0 || sh = 1 || 8 < sh || (!p.b 3 28 && p.f 3 17 16 ≠ 0), badParam 3),
      (p.f 4 4 0 = 0 || 16 < p.f 4 4 0 || popcount 16 (p.f 3 15 0) < p.f 4 4 0, badParam 4)]
  pre := fun e s =>
    let p := e.p
    if !p.b 3 28 then none else
    match s.newCtxTenant e.src p.ctx with
    | none => some (badState 5)
    | some t =>
      let perm := match s.tenant? t with | some x => x.fixedOk | none => false
      match NMap.get? s.dom.reservations (p.f 3 17 16) with
      | some r => if perm && r.tenant = t && !r.draining && p.f 3 15 0 &&& (r.coreMask ^^^ 0xFFFF) = 0 then none else some (badState 5)
      | none => some (badState 5)
  run := fun e s =>
    let p := e.p
    match s.newCtxTenant e.src p.ctx with
    | none => s.done e 0x0104
    | some t =>
      let quota := match s.tenant? t with | some x => x.quotaBytes | none => 0
      if 4096 ≤ s.dom.contexts.length then s.done e noSpace [5]
      else if quota < s.hbmUsed t + p.f 4 4 0 * 18 * 2 ^ 20 then s.done e noSpace [3]
      else
        let x : Context := { tenant := t, fixed := p.b 3 28, shadowMib := if p.f 3 27 24 = 0 then 2 else p.f 3 27 24
                             reservation := p.f 3 17 16, coreMask := p.f 3 15 0, maxCores := p.f 4 4 0, opener := e.bob }
        ({ s with dom := { s.dom with contexts := NMap.put s.dom.contexts p.ctx x } }).done e

/-- CONTEXT_CREATE creates a context with its save area (R82). -/
def execContextCreate (src : Src) (p : Packet) (s : State) : Res := .next (specContextCreate.exec src p s)

/-! ### MODEL_STORE -/

/-- Tenant that a MODEL_STORE acts for (R91). -/
def State.storeTenant (s : State) (src : Src) (p : Packet) : Nat := (s.issuerTenant src).getD (p.f 3 23 20)

/-- The object of a tenant with an IMAGE_ID. -/
def State.object? (s : State) (t id : Nat) : Option ModelObject := s.dom.objects.find? (fun o => o.tenant = t && o.imageId = id)

/-- Blocks of an object. -/
def ModelObject.count (o : ModelObject) : Nat := ceilDiv o.bytes 65536

/-- Change an object. -/
def State.setObject (s : State) (t id : Nat) (f : ModelObject → ModelObject) : State :=
  { s with dom := { s.dom with objects := s.dom.objects.map (fun o => if o.tenant = t && o.imageId = id then f o else o) } }

/-- Byte `i` and on of an object as stored: missing blocks read 0. -/
def ModelObject.body (o : ModelObject) : List Byte :=
  ((List.range o.count).flatMap (fun i => NMap.getD o.blocks i (List.replicate 65536 0))).take o.bytes

/-- Fields of a model image header (Table 3.12). -/
structure ImageHeader where
  magic : Nat
  format : Nat
  enc : Bool
  keySlot : Nat
  part : Nat
  minStepping : Nat
  schedules : Nat
  cores : Nat
  resident : Nat
  bodyBytes : Nat

/-- Read a header from the first 64 bytes. -/
def headerOf (bs : List Byte) : ImageHeader :=
  let h := leNat (bs.take 64)
  { magic := bits h 511 480, format := bits h 479 472, enc := bit h 471, keySlot := bits h 470 466, part := bits h 463 448
    minStepping := bits h 447 440, schedules := bits h 439 432, cores := bits h 431 427, resident := bits h 423 392, bodyBytes := bits h 391 352 }

/-- Reply of MODEL_STORE (Table 3.11). -/
def State.storeReply (s : State) (t id : Nat) : List Nat :=
  let (a, b) := match s.object? t id with | some o => (o.blocks.length, o.count) | none => (0, 0)
  [a, b, (s.dom.objects.filter (fun o => o.tenant = t)).length, 0]

/-- The field map and the checks of a MODEL_STORE operation (Table 3.11): fields that its OP does not use are 0. -/
def storeMasks : Packet → List Nat := fun _ => [fm [(31, 30), (23, 0)], full, full, fm [(15, 0)], full, full, fm [(4, 0)]]

/-- Object bytes of an open. -/
def storeBytes (p : Packet) : Nat := p.word 8 + p.f 9 4 0 * 2 ^ 32

/-- Parameter checks shared by the operations: `isWrite` and `isOpen` tell which fields are used. -/
def storeParams (isWrite isOpen : Bool) (e : Env) (s : State) : Option Rej :=
  let p := e.p
  let t := s.storeTenant e.src p
  let own := (s.issuerTenant e.src).isSome
  let inHbm := s.served (p.addr 5) 65536 && s.ms.regions.any (fun r => r.tenant = t && decide (r.base ≤ p.addr 5) && decide (p.addr 5 + 65536 ≤ r.base + r.size))
  let inHub := !own && s.served (p.addr 5) 65536 && (match place (p.addr 5) with | .hub _ => true | _ => false)
  firstFail [
    ((own && p.f 3 23 20 ≠ 0) || (s.tenant? t).isNone || (!isWrite && p.f 3 19 0 ≠ 0)
      || (isWrite && (match s.object? t (p.word 4) with | some o => decide (o.count ≤ p.f 3 19 0) | none => false)), badParam 3),
    (if isWrite then p.addr 5 % 64 ≠ 0 else p.word 5 ≠ 0, badParam 5),
    (!isWrite && p.f 6 15 0 ≠ 0, badParam 6), (!isWrite && p.word 7 ≠ 0, badParam 7),
    (if isOpen then storeBytes p < 4160 || 2 ^ 36 < storeBytes p else p.word 8 ≠ 0, badParam 8), (!isOpen && p.f 9 4 0 ≠ 0, badParam 9),
    (isWrite && !inHbm && !inHub, badAddr (p.addr 5))]

def specStoreOpen : OpSpec where
  code := 0x0506
  masks := storeMasks
  params := storeParams false true
  pre := fun e s => if (s.object? (s.storeTenant e.src e.p) (e.p.word 4)).isSome then some (badState 80) else none
  run := fun e s =>
    let t := s.storeTenant e.src e.p
    let used := (s.dom.objects.map (fun o => o.bytes)).sum
    if 448 * 10 ^ 9 < used + storeBytes e.p then s.done e noSpace [0xA]
    else if 256 ≤ (s.dom.objects.filter (fun o => o.tenant = t)).length then s.done e noSpace [0xB]
    else
      let s1 : State := { s with dom := { s.dom with objects := s.dom.objects ++ [{ tenant := t, imageId := e.p.word 4, bytes := storeBytes e.p }] } }
      s1.done e 0 (s1.storeReply t (e.p.word 4))

/-- MODEL_STORE open creates an object (R91). -/
def execModelStoreOpen (src : Src) (p : Packet) (s : State) : Res := .next (specStoreOpen.exec src (p.withField 3 31 30 0) s)

/-- CHECK_FAILED. -/
def checkFailed : Nat := 0x0503

/-- The object is open and not sealed (precondition 80). -/
def openObject (e : Env) (s : State) : Option Rej :=
  match s.object? (s.storeTenant e.src e.p) (e.p.word 4) with
  | some o => if o.isSealed then some (badState 80) else none
  | none => some (badState 80)

def specStoreWrite : OpSpec where
  code := 0x0506
  masks := storeMasks
  params := storeParams true false
  pre := openObject
  run := fun e s =>
    let p := e.p
    let t := s.storeTenant e.src p
    let bs := s.load (p.addr 5) 65536
    let n := p.f 3 19 0
    if crc32c bs ≠ p.word 7 then s.done e checkFailed [n]
    else
      let s1 := s.setObject t (p.word 4) (fun o =>
        { o with blocks := NMap.put o.blocks n (bs.zipIdx.map (fun (b : Byte × Nat) => if n * 65536 + b.2 < o.bytes then b.1 else 0)) })
      s1.done e 0 (s1.storeReply t (p.word 4))

/-- MODEL_STORE write stores one block whose CRC-32C matches (R91). -/
def execModelStoreWrite (src : Src) (p : Packet) (s : State) : Res := .next (specStoreWrite.exec src (p.withField 3 31 30 1) s)

def specStoreSeal : OpSpec where
  code := 0x0506
  masks := storeMasks
  params := storeParams false false
  pre := fun e s => (openObject e s).orElse (fun _ =>
    match s.object? (s.storeTenant e.src e.p) (e.p.word 4) with
    | some o => if o.blocks.length < o.count then some (badState 81) else none
    | none => none)
  run := fun e s =>
    let t := s.storeTenant e.src e.p
    match s.object? t (e.p.word 4) with
    | none => s.done e 0x0108 [80]
    | some o =>
      let h := headerOf (NMap.getD o.blocks 0 [])
      if h.magic ≠ 0x4D444C31 || h.format ≠ 1 || h.part ≠ 0x4800 then s.done e 0x0106 [3]
      else
        let s1 := s.setObject t (e.p.word 4) (fun o => { o with isSealed := true })
        s1.done e 0 (s1.storeReply t (e.p.word 4))

/-- MODEL_STORE seal makes a complete object loadable (R91). -/
def execModelStoreSeal (src : Src) (p : Packet) (s : State) : Res := .next (specStoreSeal.exec src (p.withField 3 31 30 2) s)

/-- A MODEL_LOAD of the object is in flight (precondition 80). -/
def State.loading (s : State) (t id : Nat) : Bool :=
  s.pkts.any (fun o => o.pkt.opcode = 0x0503 && s.ctxTenant o.pkt.ctx = t && o.pkt.word 3 = id && (match o.job with | .work _ => true | _ => false))

def specStoreDelete : OpSpec where
  code := 0x0506
  masks := storeMasks
  params := storeParams false false
  pre := fun e s =>
    let t := s.storeTenant e.src e.p
    if (s.object? t (e.p.word 4)).isNone || s.loading t (e.p.word 4) then some (badState 80) else none
  run := fun e s =>
    let t := s.storeTenant e.src e.p
    let s1 : State := { s with dom := { s.dom with objects := s.dom.objects.filter (fun o => !(o.tenant = t && o.imageId = e.p.word 4)) } }
    s1.done e 0 (s1.storeReply t (e.p.word 4))

/-- MODEL_STORE delete removes an object; a loaded copy stays (R91). -/
def execModelStoreDelete (src : Src) (p : Packet) (s : State) : Res := .next (specStoreDelete.exec src (p.withField 3 31 30 3) s)

/-! ### The hot set -/

/-- A SCHEDULE_RUN fetched since the swap that brought a slot's model in names that slot (R90). -/
def State.namesModel (s : State) (o : OutPkt) (slot : Nat) : Bool :=
  o.pkt.opcode = 0x0310 && o.pkt.f 7 4 0 = slot &&
  (match NMap.get? s.dom.hot slot with | some m => m.tenant = s.ctxTenant o.pkt.ctx && decide (m.since ≤ o.id) | none => false)

/-- A packet outstanding uses the model of a slot: a run started on it, or one fetched that has not started. -/
def State.modelBusy (s : State) (slot gen : Nat) : Bool :=
  s.pkts.any (fun o => match o.job with
    | .work w => w.slot = some (slot, gen)
    | .cores => s.namesModel o slot
    | .held => s.namesModel o slot
    | _ => false)

/-- The slot that a MODEL_LOAD in flight will fill. -/
def Work.target (w : Work) : Option Nat := w.after.findSome? (fun a => match a with | .swap n _ _ => some n | _ => none)
def State.loadTargets (s : State) : List Nat := s.pkts.filterMap (fun o => match o.job with | .work w => w.target | _ => none)

/-- Models of a tenant, by slot. -/
def State.tenantModels (s : State) (t : Nat) : List (Nat × HotModel) := s.dom.hot.filter (fun m => m.2.tenant = t)

/-- Slot for a load and the slot evicted for it (R86). -/
def State.chooseSlot (s : State) (t id : Nat) : Option (Nat × Option Nat) :=
  let mine := s.tenantModels t
  match mine.find? (fun m => m.2.imageId = id) with
  | some m => some (m.1, none)
  | none =>
    let loads := s.pkts.filter (fun o => s.ctxTenant o.pkt.ctx = t && (match o.job with
      | .work w => (match w.target with | some n => !(mine.any (fun m => m.1 = n)) | none => false) | _ => false))
    let slots := match s.tenant? t with | some x => x.hotSlots | none => 0
    if mine.length + loads.length < slots then
      ((List.range 24).find? (fun n => !(NMap.has s.dom.hot n) && !s.loadTargets.contains n)).map (fun n => (n, none))
    else
      let cands := mine.filter (fun m => !m.2.pinned && !s.modelBusy m.1 m.2.gen && !s.loadTargets.contains m.1)
      (cands.foldl (fun (a : Option (Nat × HotModel)) m => match a with
        | none => some m
        | some b => if m.2.recency < b.2.recency then some m else some b) none).map (fun m => (m.1, some m.1))

/-- Pinning the model of `slot` would leave a tenant of two or more slots with pinned models only (R88). -/
def State.pinFull (s : State) (t slot : Nat) : Bool :=
  let slots := match s.tenant? t with | some x => x.hotSlots | none => 0
  let others := ((s.tenantModels t).filter (fun m => m.2.pinned && m.1 ≠ slot)).length
  decide (2 ≤ slots) && decide (slots ≤ others + 1)

/-- One entry of a section table (Table 3.14). -/
def sectionAt (body : List Byte) (i : Nat) : Nat × Nat × Nat × Nat :=
  let x := leNat ((body.drop (32 + 32 * i)).take 32)
  (bits x 255 248, bits x 247 240, bits x 191 128, bits x 127 64)

/-- Sections of a plain body, or none where the table or an entry leaves the body (R92, check 6). -/
def sectionsOf (body : List Byte) (n : Nat) : Option (List Section) :=
  let count := leNat (body.take 4)
  if n < 32 + 32 * count then none else
  let es := (List.range count).map (sectionAt body)
  if es.any (fun e => decide (n < e.2.2.1 + e.2.2.2)) then none
  else some ((es.filter (fun e => decide (1 ≤ e.1) && decide (e.1 ≤ 6))).map (fun e =>
    ({ kind := e.1, sched := e.2.1, offset := e.2.2.1, bytes := (body.drop e.2.2.1).take e.2.2.2 } : Section)))

/-- Bytes of the section of a kind for schedule `n` (Table 3.14). -/
def sectOf (l : List Section) (kind n : Nat) : List Byte :=
  match l.find? (fun x => x.kind = kind && x.sched = n) with
  | some x => x.bytes
  | none => []

/-- What the sections of a model state of schedule `n`: 1 to 16 cores, bindings of ports 0 to 4, marks, ESC_LIMIT. Their layout is Niddy's own. -/
def niddySched (l : List Section) (n : Nat) : SchedInfo :=
  let code := sectOf l 2 n
  let b := sectOf l 4 n
  let k := sectOf l 5 n
  { need := Config.niddy code 0 % 16 + 1
    oneDie := Config.niddy code 1 % 2 = 1
    bindings := (List.range (Config.niddy b 0 % 257)).map (fun i =>
      ⟨Config.niddy b (1 + 4 * i), Config.niddy b (2 + 4 * i), Config.niddy b (3 + 4 * i) % 2 = 1, Config.niddy b (4 + 4 * i) % 5⟩)
    marks := (List.range (Config.niddy k 0 % 65536)).map (fun i => (Config.niddy k (1 + 2 * i) % 65536, Config.niddy k (2 + 2 * i)))
    escLimit := Config.niddy (sectOf l 6 n) 1 }

/-- The checks of R92 in their order: a status with details, or the sections. -/
def State.checkImage (s : State) (obj : List Byte) : Sum (Nat × List Nat) (List Section) :=
  let h := headerOf obj
  let f := s.sigFails none (obj.take 128) ((obj.drop 128).take 96) ((obj.drop 224).take 3309)
  let body := (obj.drop 4096).take h.bodyBytes
  let plain := Config.gcmOpen (s.slot h.keySlot).key ((obj.drop 112).take 12) (obj.take 128) body ((obj.drop 3533).take 16)
  if f ≠ 0 then .inl (signatureInvalid, [f])
  else if h.part ≠ 0x4800 || s.dev.stepping < h.minStepping then .inl (0x0106, [3])
  else if leNat ((obj.drop 64).take 48) ≠ Config.sha384 body then .inl (checkFailed, [0xFFFFFFFF])
  else if h.enc && ((s.slot h.keySlot).type ≠ 1 || !bit (s.slot h.keySlot).use 1) then .inl (0x0108, [71])
  else match (if h.enc then plain else some body) with
    | none => .inl (signatureInvalid, [0])
    | some b => match sectionsOf b h.bodyBytes with
      | none => .inl (0x0106, [3])
      | some l => .inr l

def specModelLoad : OpSpec where
  code := 0x0503
  masks := fun _ => [full, fm [(0, 0)]]
  params := fun e s =>
    match s.object? (s.ctxTenant e.p.ctx) (e.p.word 3) with
    | some o => if o.isSealed then none else some (badParam 3)
    | none => some (badParam 3)
  run := fun e s =>
    let p := e.p
    let t := s.ctxTenant p.ctx
    match s.chooseSlot t (p.word 3), s.object? t (p.word 3) with
    | some (slot, ev), some o =>
      if p.b 4 0 && s.pinFull t slot then s.done e noSpace [0xC] else
      let h := headerOf o.body
      (match s.checkImage o.body with
       | .inl (st, d) => s.done e st d
       | .inr secs =>
         let old := NMap.get? s.dom.hot slot
         -- the manual does not say in which stack a copy lies: a free choice among those in service
         let live := (List.range 4).filter (fun k => !(s.ms.hbmStacks.getD k {}).withdrawn)
         let keep := match old with | some m => ev.isNone && m.pinned | none => false
         let m : HotModel := { tenant := t, imageId := p.word 3, pinned := p.b 4 0 || keep, resident := h.resident, cores := h.cores
                               schedules := h.schedules, sections := secs
                               scheds := (List.range h.schedules).map (niddySched secs), recency := 0, gen := s.dom.nextGen
                               stack := live.getD (Config.freeNat s.free % max 1 live.length) 0
                               fixedBy := if keep || ev.isNone then (match old with | some m => m.fixedBy | none => []) else [] }
         let s1 : State := { s with dom := { s.dom with nextGen := s.dom.nextGen + 1 }, free := s.free + 1 }
         s1.startWork e { after := [.swap slot m ev], keys := if h.enc then [h.keySlot] else []
                          details := [slot, ev.getD 0xFFFFFFFF, h.resident, h.cores] })
    | _, _ => s.done e noSpace [2]

/-- MODEL_LOAD verifies an image and brings it into the hot set (R86, R92). -/
def execModelLoad (src : Src) (p : Packet) (s : State) : Res := .next (specModelLoad.exec src p s)

/-- The swap of a loaded model into the table at its commit point (R90). -/
def State.swapModel (s : State) (slot : Nat) (m : HotModel) : State :=
  let since := match NMap.get? s.dom.hot slot with
    | some o => if o.tenant = m.tenant && o.imageId = m.imageId then o.since else s.q.nextId
    | none => s.q.nextId
  { s with dom := { s.dom with hot := NMap.put s.dom.hot slot { m with recency := s.now, since := since } } }

/-- The model of a slot that belongs to the context's tenant. -/
def State.ownModel? (s : State) (p : Packet) : Option HotModel :=
  match NMap.get? s.dom.hot (p.f 3 4 0) with
  | some m => if m.tenant = s.ctxTenant p.ctx then some m else none
  | none => none

/-- A model is bound to a fixed-lane context: one that exists and has run it (R89). -/
def State.boundFixed (s : State) (m : HotModel) : Bool := m.fixedBy.any (fun c => s.isFixed c)

def specModelPin : OpSpec where
  code := 0x0504
  masks := fun _ => [fm [(8, 8), (4, 0)]]
  params := fun e s => if (s.ownModel? e.p).isNone then some (badParam 3) else none
  pre := fun e s =>
    match s.ownModel? e.p with
    | some m => if !e.p.b 3 8 && s.boundFixed m then some (badState 6) else none
    | none => none
  run := fun e s =>
    let slot := e.p.f 3 4 0
    if e.p.b 3 8 && s.pinFull (s.ctxTenant e.p.ctx) slot then s.done e noSpace [0xC]
    else ({ s with dom := { s.dom with hot := NMap.upd s.dom.hot slot (fun m => { m with pinned := e.p.b 3 8 }) } }).done e

/-- MODEL_PIN pins or unpins a model (R88). -/
def execModelPin (src : Src) (p : Packet) (s : State) : Res := .next (specModelPin.exec src p s)

def specModelEvict : OpSpec where
  code := 0x0505
  masks := fun _ => [fm [(4, 0)]]
  params := fun e s => if (s.ownModel? e.p).isNone then some (badParam 3) else none
  pre := fun e s =>
    match s.ownModel? e.p with
    | some m => if m.pinned || s.modelBusy (e.p.f 3 4 0) m.gen || s.boundFixed m then some (badState 6) else none
    | none => none
  run := fun e s => ({ s with dom := { s.dom with hot := NMap.del s.dom.hot (e.p.f 3 4 0) } }).done e

/-- MODEL_EVICT takes an idle, unpinned model out of the hot set (R89). -/
def execModelEvict (src : Src) (p : Packet) (s : State) : Res := .next (specModelEvict.exec src p s)

/-! ### The fixed lane -/

/-- The checks of R100 on a reservation. -/
def State.laneOk (s : State) (p : Packet) : Bool :=
  let rs := s.dom.reservations.map (fun (r : Nat × Reservation) => r.2)
  let sum (f : Reservation → Nat) : Nat := (rs.map f).sum
  let mask := p.f 3 15 0
  (match s.tenant? (p.f 3 19 16) with | some t => t.fixedOk | none => false)
  && (maskList 16 mask).all (fun k => !(s.core k).fenced && !s.inFixed k)
  && sum (fun r => popcount 16 r.coreMask) + popcount 16 mask ≤ 4
  && (sum (fun r => r.planShare) + p.f 4 29 24) * 256 ≤ 8192
  && sum (fun r => r.systems) + p.f 4 19 16 ≤ 8
  && sum (fun r => r.loops) + p.f 4 15 8 ≤ 128
  && sum (fun r => r.hbmBw) + p.f 6 15 0 ≤ 1000
  && rs.length < 4

/-- Power in mW that a new reservation can still be given (R27): what the machine budget leaves above the floors, within 480 W per module. -/
def State.laneRoom (s : State) : Nat := min (s.budgetNow - s.floorSum) (480000 - s.floorMw)

/-- The cores of a reservation are drained: nothing executes on them and none is being spliced (R101, Table 21.9). -/
def State.laneDrained (s : State) (mask : Nat) : Bool :=
  (maskList 16 mask).all (fun k => (s.core k).busy.isNone && !(s.spl.splices.any (fun x => x.logical = k)))

/-- Save what lies on a reserved core and clear what belongs to other tenants (R101). -/
def State.freeLaneCore (s : State) (t k : Nat) : State :=
  let hs := (s.core k).holders
  let last := (s.core k).lastCtx
  let foreign := hs.filter (fun h => s.ctxTenant h ≠ t)
  let s1 := hs.foldl (fun y h => y.saveOff h k (s.coreRanges h k ++ (if last = some h then [bufferRange k] else []))) s
  let s2 := foreign.foldl (fun y h => (s.coreRanges h k).foldl (fun z r => z.clear r.1 r.2) y) s1
  let s3 := if foreign.isEmpty then s2 else (s2.clear (bufferRange k).1 (bufferRange k).2).setCore k (fun x => { x with resident := none })
  s3.setCore k (fun x => { x with holders := [], lastCtx := none })

/-- LANE_RESERVE completes where its cores are drained (R101). -/
def State.endLane (s : State) (id handle : Nat) : State :=
  match NMap.get? s.dom.reservations handle with
  | none => s.finish id 0 [handle]
  | some r =>
    if !s.laneDrained r.coreMask then s else
    let s1 := (maskList 16 r.coreMask).foldl (fun x k => x.freeLaneCore r.tenant k) s
    ({ s1 with dom := { s1.dom with reservations := NMap.upd s1.dom.reservations handle (fun r => { r with draining := false }) } }).finish id 0 [handle]

def specLaneReserve : OpSpec where
  code := 0x0508
  masks := fun _ => [fm [(19, 0)], fm [(29, 24), (19, 8)], full, fm [(15, 0)]]
  params := fun e s =>
    let p := e.p
    firstFail [((s.tenant? (p.f 3 19 16)).isNone || 4 < popcount 16 (p.f 3 15 0), badParam 3), (32 < p.f 4 29 24 || 8 < p.f 4 19 16 || 128 < p.f 4 15 8, badParam 4),
      (1000 < p.f 6 15 0, badParam 6)]
  pre := fun e s => if s.laneOk e.p then none else some (badState 7)
  run := fun e s =>
    let p := e.p
    if s.laneRoom < p.word 5 then s.done e budgetDenied [s.laneRoom]
    else match (List.range 4).find? (fun h => !(NMap.has s.dom.reservations h)) with
      | none => s.done e 0x0108 [7]
      | some h =>
        let r : Reservation := { tenant := p.f 3 19 16, coreMask := p.f 3 15 0, planShare := p.f 4 29 24, systems := p.f 4 19 16
                                 loops := p.f 4 15 8, powerMw := p.word 5, hbmBw := p.f 6 15 0, draining := true }
        -- a reservation leaves Doze: every stopped domain restarts (R461)
        let s1 : State := { s with dom := { s.dom with reservations := NMap.put s.dom.reservations h r }, pwr := { s.pwr with stopped := [] } }
        if s1.laneDrained r.coreMask then s1.endLane e.id h else s1.setJob e.id (.waits (.lane h))

/-- LANE_RESERVE takes cores and engine shares for a tenant's fixed lane (R100, R101). -/
def execLaneReserve (src : Src) (p : Packet) (s : State) : Res := .next (specLaneReserve.exec src p s)

def specLaneRelease : OpSpec where
  code := 0x0509
  masks := fun _ => [fm [(1, 0)]]
  params := fun e s => if NMap.has s.dom.reservations (e.p.f 3 1 0) then none else some (badParam 3)
  pre := fun e s =>
    if s.dom.contexts.any (fun c => c.2.fixed && c.2.reservation = e.p.f 3 1 0) then some (badState 8) else none
  run := fun e s => ({ s with dom := { s.dom with reservations := NMap.del s.dom.reservations (e.p.f 3 1 0) } }).endFixed.done e

/-- LANE_RELEASE returns a reservation's cores and shares (R102). -/
def execLaneRelease (src : Src) (p : Packet) (s : State) : Res := .next (specLaneRelease.exec src p s)

end Sys2Proof.Machine
end

