-- ==== Sys2Proof/Machine/TimeUnit.lean ====
section
/-! DEFINITION. Device time, host network queues, triggers and captures (chapter 12). -/

namespace Sys2Proof.Machine

/-! ### Step and rate -/

/-- Precondition 32 (Table 12.14). -/
def State.timeFree (s : State) : Bool :=
  !(s.sen.groups.any (fun (g : Nat × Group) => g.2.started)) && !(s.eng.loops.any (fun (l : Nat × Loop) => l.2.mode ≠ .stopped))
  && s.time.triggers.isEmpty && !(s.time.captures.any (fun (c : Capture) => c.ctx.isSome))
  && !(s.time.queues.any (fun (q : Nat × HostQueue) => q.1 / 8 % 2 = 0 &&
      (List.range (q.2.tail - q.2.head).toNat).any (fun i =>
        bit (s.loadNat (q.2.ring + 32 * ((q.2.head.toNat + i) % 2 ^ q.2.sizeLog2) + 8) 4) 31)))
  && s.upd.sched.isNone

/-- Device time after a TIME_STEP, where it lies in range (R293). -/
def State.stepTo (s : State) (p : Packet) : Option Nat :=
  let top := 2 ^ 48 * 10 ^ 9
  if p.b 3 31 then
    let t : Int := s.now + sext 64 (p.word 4 + p.word 5 * 2 ^ 32)
    if 0 ≤ t && t < top then some t.toNat else none
  else if p.word 4 < 10 ^ 9 then some ((p.word 5 + p.f 6 15 0 * 2 ^ 32) * 10 ^ 9 + p.word 4)
  else none

def specTimeStep : OpSpec where
  code := 0x0800
  masks := fun _ => [fm [(31, 31)], full, full, fm [(15, 0)]]
  params := fun e s =>
    if e.p.b 3 31 && e.p.f 6 15 0 ≠ 0 then some (badParam 6)
    else if (s.stepTo e.p).isNone then some (badParam 4)
    else none
  pre := fun _ s => if !s.timeFree then some (badState 32) else if s.time.stepUsed then some ⟨0x0402, []⟩ else none
  run := fun e s =>
    match s.stepTo e.p with
    | none => s
    | some t =>
      let s1 : State := { s with time := { s.time with ns := t, frac := if e.p.b 3 31 then s.time.frac else 0, stepUsed := true } }
      s1.done e 0 [ts32 s.now, ts32 t]

/-- TIME_STEP MODE 0 sets device time. -/
def execTimeStepSet (src : Src) (p : Packet) (s : State) : Res := .next (specTimeStep.exec src (p.withField 3 31 31 0) s)
/-- TIME_STEP MODE 1 adds an offset. -/
def execTimeStepAdd (src : Src) (p : Packet) (s : State) : Res := .next (specTimeStep.exec src (p.withField 3 31 31 1) s)

/-- The increment per tick in units of 2^-32 ns: 4 ns (1 + rho 10^-9) rounded once to nearest, ties to even (R290). -/
def tickInc (rho : Int) : Nat :=
  let num := 4 * 2 ^ 32 * (10 ^ 9 + rho).toNat
  let q := num / 10 ^ 9
  let r := num % 10 ^ 9
  if 10 ^ 9 < 2 * r || (2 * r = 10 ^ 9 && q % 2 = 1) then q + 1 else q

/-- The rate of a TIME_RATE packet. -/
def rateOf (p : Packet) : Int := sext 32 (p.word 3)

def specTimeRate : OpSpec where
  code := 0x0801
  masks := fun _ => [full]
  params := fun e _ => if rateOf e.p < -500000 || 500000 < rateOf e.p then some (badParam 3) else none
  run := fun e s =>
    let s1 : State := { s with time := { s.time with rho := rateOf e.p, inc := tickInc (rateOf e.p) } }
    s1.done e 0 [(s.time.rho % 2 ^ 32).toNat]

/-- TIME_RATE applies a rate from the next tick and reports the previous one (R294). -/
def execTimeRate (src : Src) (p : Packet) (s : State) : Res := .next (specTimeRate.exec src p s)

/-- A read of TIME_N latches S and TS32 of the same tick (Table 12.2). -/
def execTimeNRead (who : Accessor) (s : State) : Res :=
  .next (s.paged who (fun s =>
    let sec := s.now / 10 ^ 9
    { s with time := { s.time with sLo := BitVec.ofNat 32 sec, sHi := BitVec.ofNat 32 (sec / 2 ^ 32), ts32 := BitVec.ofNat 32 (ts32 s.now) } }))

/-! ### Timestamp queues -/

/-- Write an entry to the timestamp queue of a port (R305). -/
def State.pushTs (s : State) (port : Nat) (x : TsEntry) : State :=
  let q := NMap.getD s.time.tsq port {}
  let q1 : TsQueue := if 64 ≤ q.entries.length then { q with overflow := true, lost := satAdd 0xFFFF q.lost 1 } else { q with entries := q.entries ++ [x] }
  { s with time := { s.time with tsq := NMap.put s.time.tsq port q1 } }

/-- A read of bytes 4 to 7 of TSQ_ENTRY pops the entry (R305). -/
def execTsqPop (who : Accessor) (port : Nat) (s : State) : Res :=
  .next (s.paged who (fun s =>
    let q := NMap.getD s.time.tsq port {}
    { s with time := { s.time with tsq := NMap.put s.time.tsq port { q with entries := q.entries.drop 1 } } }))

/-! ### Host network queues -/

/-- Key of queue `q` in direction `d` (0 transmit) of port `p`. -/
def queueKey (p d q : Nat) : Nat := p * 16 + d * 8 + q

/-- A range a context may use for hub engines that work on its rings: an HBM region, or hub-SRAM banks owned by its DMA port (Tables 11.1, 12.5). -/
def State.ringOk (s : State) (c a n : Nat) (write : Bool) : Bool :=
  match place a with
  | .hbm _ _ => s.hbmOk c a n write
  | .hub _ => s.served a n && s.portsOk c a n [4]
  | _ => false

/-- Whether port `p` (codes of R296) can send: its link is up. -/
def State.portUp (s : State) (p : Nat) : Bool :=
  if p < 12 then s.sen.t1Up.getD p false else decide (p < 18) && (s.ply.ports.getD (p - 12) {}).mode = .up

/-- A frame leaves a port: Ethernet, or a ply frame of type ETHERNET to the neighbour (Table 17.3). -/
def State.sendEth (s : State) (port : Nat) (bytes : List Byte) : State :=
  if port < 12 then s.emit (.eth port bytes) else s.plyOut (port - 12) 0x3F (.ethernet bytes)

def State.setQueue (s : State) (k : Nat) (q : HostQueue) : State := { s with time := { s.time with queues := NMap.put s.time.queues k q } }

/-- A transmit descriptor that is skipped as malformed (R304). -/
def malformed (launch : Bool) (d : Nat) : Bool :=
  bits d 93 80 ≠ 0 || bits d 191 176 ≠ 0 || bits d 255 192 ≠ 0 || decide (bits d 63 48 < 60) || decide (2044 < bits d 63 48)
  || decide (10 ^ 9 ≤ bits d 127 96) || (bit d 95 && !launch)

/-- Take the head of transmit queue `q` of a port, where it may go now (R304): none where the queue is empty or its frame waits for its time. -/
def State.txOne (s : State) (port q : Nat) : Option State :=
  let k := queueKey port 0 q
  match NMap.get? s.time.queues k with
  | none => none
  | some h =>
    if h.tail = h.head then none else
    let a := h.ring + 32 * (h.head.toNat % 2 ^ h.sizeLog2)
    let gone (x : HostQueue) : HostQueue := { x with head := x.head + 1 }
    if !s.ringOk h.ctx a 32 false then some ((s.setQueue k (gone h)).tearDown h.ctx 2) else
    let d := s.loadNat a 32
    if malformed h.launch d then some (s.setQueue k (gone { h with malformed := satAdd 0xFFFFFFFF h.malformed 1 })) else
    let buf := bits d 47 0
    let launch := bit d 95
    let due := (bits d 159 128 + bits d 175 160 * 2 ^ 32) * 10 ^ 9 + bits d 127 96
    if launch && decide (s.now < due) then none
    else if !s.ringOk h.ctx buf (bits d 63 48) false then some ((s.setQueue k (gone h)).tearDown h.ctx 2)
    else
      let late := launch && decide (due + 1000 < s.now)
      let s1 := s.setQueue k (gone h)
      let stamp (kind : Nat) (x : State) : State := if launch || bit d 94 then x.pushTs port ⟨kind, bits d 79 64, ts32 s.now⟩ else x
      if late && h.late = 0 then some (stamp 2 s1)
      else some (stamp late.toNat (s1.sendEth port (s.load buf (bits d 63 48))))

/-- Serve the transmit queues of a port in strict priority, at most `fuel` descriptors. -/
def State.servePort (s : State) (port : Nat) : Nat → State
  | 0 => s
  | fuel + 1 =>
    if !s.portUp port then s else
    match [7, 6, 5, 4, 3, 2, 1, 0].findSome? (fun q => s.txOne port q) with
    | some s1 => State.servePort s1 port fuel
    | none => s

/-- Descriptors waiting in the transmit queues of a port. -/
def State.txWaiting (s : State) (port : Nat) : Nat :=
  (List.range 8).foldl (fun a q => a + (match NMap.get? s.time.queues (queueKey port 0 q) with | some h => (h.tail - h.head).toNat | none => 0)) 0

def launchMasks : Packet → List Nat := fun _ => [fm [(31, 23), (12, 8), (2, 0)], full, fm [(15, 0)]]

def launchKey (p : Packet) : Nat := queueKey (p.f 3 12 8) (p.f 3 28 28) (p.f 3 2 0)

/-- Precondition 34 (Table 12.14). -/
def State.queueHeld (s : State) (p : Packet) : Bool :=
  (match NMap.get? s.time.queues (launchKey p) with | some h => h.ctx ≠ p.ctx | none => false)
  || (p.f 3 28 28 = 0 && [10, 11].contains (p.f 3 12 8) && decide (6 ≤ p.f 3 2 0))

def specLaunchConfig : OpSpec where
  code := 0x0802
  masks := launchMasks
  params := fun e s =>
    let p := e.p
    let rel := p.b 3 23
    firstFail [(decide (17 < p.f 3 12 8), badParam 3), (decide (2 ≤ p.f 3 31 30), badParam 3), (p.b 3 28 && p.f 3 31 29 ≠ 0, badParam 3),
      (rel && (p.f 3 31 29 ≠ 0 || p.f 3 27 24 ≠ 0), badParam 3), (rel && p.word 4 ≠ 0, badParam 4), (rel && p.word 5 ≠ 0, badParam 5),
      (!rel && (decide (p.f 3 27 24 < 4) || decide (12 < p.f 3 27 24)), badParam 3), (!rel && p.addr 4 % 4096 ≠ 0, badParam 4),
      (!rel && !s.ringOk p.ctx (p.addr 4) (32 * 2 ^ p.f 3 27 24) (p.b 3 28), badAddr (p.addr 4))]
  pre := fun e s => if s.queueHeld e.p then some (badState 34) else none
  run := fun e s =>
    if e.p.b 3 23 then
      ({ s with time := { s.time with queues := NMap.del s.time.queues (launchKey e.p) } }).done e
    else
      (s.setQueue (launchKey e.p) { ctx := e.p.ctx, ring := e.p.addr 4, sizeLog2 := e.p.f 3 27 24, launch := e.p.b 3 29, late := e.p.f 3 31 30 }).done e

/-- LAUNCH_CONFIG gives a host network queue its ring (R303). -/
def execLaunchConfigConfigure (src : Src) (p : Packet) (s : State) : Res := .next (specLaunchConfig.exec src (p.withField 3 23 23 0) s)
/-- LAUNCH_CONFIG RELEASE discards the frames still queued, without entries (R303). -/
def execLaunchConfigRelease (src : Src) (p : Packet) (s : State) : Res := .next (specLaunchConfig.exec src (p.withField 3 23 23 1) s)

/-- A write to a queue's DOORBELL makes descriptors available up to the index written; one beyond the ring's entries is ignored and logged. -/
def State.queueBell (s : State) (port dir queue v : Nat) : State :=
  match NMap.get? s.time.queues (queueKey port dir queue) with
  | none => s
  | some h =>
    let x : Index := BitVec.ofNat 16 v
    if 2 ^ h.sizeLog2 < (x - h.head).toNat then s.logIt .refused (queueKey port dir queue) x.toNat else
    let s1 := s.setQueue (queueKey port dir queue) { h with tail := x }
    if dir = 0 then s1.servePort port (s1.txWaiting port) else s1

def execHostQueueDoorbell (who : Accessor) (port dir queue : Nat) (v : Word) (s : State) : Res :=
  .next (s.paged who (fun s => s.queueBell port dir queue v.toNat))

/-- A held frame meets its launch time: it is sent, sent late, or dropped (R304, Table 12.12). -/
def execLaunchTime (port queue : Nat) (s : State) : Res :=
  .next (s.whileUp (match NMap.get? s.time.queues (queueKey port 0 queue) with
    | some _ => s.servePort port (s.txWaiting port)
    | none => s))

/-- EtherType of a frame, the offset of its payload, its VLAN ID (0 untagged) and its priority code point. -/
def ethHead (f : List Byte) : Nat × Nat × Nat × Nat :=
  let w (i : Nat) : Nat := (f.getD i 0).toNat * 256 + (f.getD (i + 1) 0).toNat
  if w 12 = 0x8100 then (w 16, 18, w 14 % 4096, w 14 / 8192) else (w 12, 14, 0, 0)

/-- UDP destination port of a frame in IPv4 or IPv6, and where the UDP payload starts. -/
def udpPort (f : List Byte) : Option (Nat × Nat) :=
  let (ty, o, _) := ethHead f
  let b (i : Nat) : Nat := (f.getD (o + i) 0).toNat
  if ty = 0x0800 && b 9 = 17 then
    let h := b 0 % 16 * 4
    some (b (h + 2) * 256 + b (h + 3), o + h + 8)
  else if ty = 0x86DD && b 6 = 17 then some (b 42 * 256 + b 43, o + 48)
  else none

/-- A recognised PTP event message: EtherType 0x88F7, or UDP port 319, with message type 0 to 3 (R297). -/
def ptpEvent (f : List Byte) : Bool :=
  let (ty, o, _) := ethHead f
  if ty = 0x88F7 then decide ((f.getD o 0).toNat % 16 < 4)
  else match udpPort f with
    | some (319, o) => decide ((f.getD o 0).toNat % 16 < 4)
    | _ => false

/-- A frame that no stream matches lands in the receive queue of its priority with its completion (Table 12.6); without a descriptor it is lost. -/
def State.hostReceive (s : State) (port : Nat) (f : List Byte) : State :=
  let k := queueKey port 1 (ethHead f).2.2.2
  match NMap.get? s.time.queues k with
  | none => s.logIt .dropped port 1
  | some h =>
    if h.tail = h.head then s.logIt .dropped port 1 else
    let a := h.ring + 32 * (h.head.toNat % 2 ^ h.sizeLog2)
    let s1 := s.setQueue k { h with head := h.head + 1 }
    let buf := bits (s.loadNat a 32) 47 0
    if !s.ringOk h.ctx a 32 true || !s.ringOk h.ctx buf f.length true then s1.tearDown h.ctx 2
    else (s1.store buf f).store a (leBytes 32 (f.length % 2 ^ 16 * 2 ^ 48 + (ptpEvent f).toNat * 2 ^ 95 + ts32 s.now * 2 ^ 96))

/-- A frame arrives at a timed port and no stream takes it (R275). -/
def execHostFrameReceive (port : Nat) (frame : List Byte) (s : State) : Res :=
  .next (if s.pwr.phase ≠ .up || !s.portUp port then s else s.hostReceive port frame)

/-! ### Triggers -/

/-- Lamp strobes that make a pulse per trigger of an output (Table 11.11). -/
def State.tiedLamps (s : State) (output : Nat) : List Nat :=
  (List.range 8).filter (fun n => let w := s.pwm (16 + n); w.mode = 1 && decide (output < 24) && bits w.cfg.toNat 25 21 = output)

/-- Lead that an occurrence of an output needs (R306). -/
def State.triggerLead (s : State) (output : Nat) : Nat :=
  (s.tiedLamps output).foldl (fun a n => max a (bits (s.pwm (16 + n)).cfg.toNat 15 0 * 4 + 1000)) (if output < 24 then 20000 else 1000)

/-- Time of occurrence `k`. -/
def Trigger.due (t : Trigger) (k : Nat) : Nat := t.first + k * t.period

/-- Number of occurrences, where there is a limit. -/
def Trigger.limit (t : Trigger) : Option Nat := if t.period = 0 then some 1 else if t.count = 0 then none else some t.count

/-- First occurrence at or after a time. -/
def Trigger.from_ (t : Trigger) (at_ : Nat) : Nat :=
  if at_ ≤ t.first then 0 else if t.period = 0 then 1 else (at_ - t.first + t.period - 1) / t.period

def triggerOutput (p : Packet) : Nat := if p.b 3 30 then 24 + p.f 3 4 0 else p.f 3 4 0

def specTriggerSet : OpSpec where
  code := 0x0803
  masks := fun _ => [fm [(31, 30), (4, 0)], full, full, fm [(15, 0)], full, fm [(19, 0)], full]
  params := fun e _ =>
    let p := e.p
    let c := p.b 3 31
    firstFail ([((if p.b 3 30 then decide (15 < p.f 3 4 0) else decide (23 < p.f 3 4 0)), badParam 3)]
      ++ (if c then (List.range 6).map (fun i => (decide (p.word (4 + i) ≠ 0), badParam (4 + i)))
          else [(decide (10 ^ 9 ≤ p.word 4), badParam 4), (p.word 7 ≠ 0 && decide (p.word 7 < 100000), badParam 7),
                (decide (p.f 8 19 0 < 1000) || decide (1000000 < p.f 8 19 0), badParam 8)]))
  pre := fun e s =>
    let n := triggerOutput e.p
    if (match NMap.get? s.time.triggers n with | some t => t.ctx ≠ e.p.ctx | none => false) || (decide (24 ≤ n) && (s.pwm (n - 24)).mode ≠ 2)
    then some (badState 33) else none
  run := fun e s =>
    let p := e.p
    let n := triggerOutput p
    if p.b 3 31 then ({ s with time := { s.time with triggers := NMap.del s.time.triggers n } }).done e else
    let t : Trigger := { ctx := p.ctx, first := (p.word 5 + p.f 6 15 0 * 2 ^ 32) * 10 ^ 9 + p.word 4, period := p.word 7, width := p.f 8 19 0, count := p.word 9, since := s.now }
    let k := t.from_ (s.now + s.triggerLead n)
    let st := NMap.getD s.time.trigStat n {}
    match (match t.limit with | some m => if m ≤ k then some m else none | none => none) with
    | some m =>
      let s1 : State := { s with time := { s.time with triggers := NMap.del s.time.triggers n, trigStat := NMap.put s.time.trigStat n { st with skipped := min m 0xFFFF } } }
      (s1.drawn 1).done e 0 [m, (Config.freeWord s.free).toNat]
    | none =>
      let s1 : State := { s with time := { s.time with triggers := NMap.put s.time.triggers n { t with next := k }, trigStat := NMap.put s.time.trigStat n { st with skipped := min k 0xFFFF } } }
      s1.done e 0 [k, ts32 (t.due k)]

/-- TRIGGER_SET replaces an output's trigger; occurrences that lack their lead are skipped (R306). -/
def execTriggerSet (src : Src) (p : Packet) (s : State) : Res := .next (specTriggerSet.exec src (p.withField 3 31 31 0) s)
/-- TRIGGER_SET with CANCEL. -/
def execTriggerCancel (src : Src) (p : Packet) (s : State) : Res := .next (specTriggerSet.exec src (p.withField 3 31 31 1) s)

/-- The next occurrence of an output falls due: it fires, with the pulses of the lamps tied to it, unless it lacked its lead (R306, Table 12.12). -/
def State.occur (s : State) (n : Nat) : State :=
  match NMap.get? s.time.triggers n with
  | none => s
  | some t =>
    let due := t.due t.next
    let fires := decide (t.since + s.triggerLead n ≤ due)
    let st := NMap.getD s.time.trigStat n {}
    let st1 : TrigStat := if fires then { st with fired := (st.fired + 1) % 65536, times := (due :: st.times).take 8 } else { st with skipped := satAdd 0xFFFF st.skipped 1 }
    let beyond := (match t.limit with | some m => decide (m ≤ t.next + 1) | none => false)
    let s1 : State := { s with time := { s.time with
      trigStat := NMap.put s.time.trigStat n st1
      triggers := if beyond then NMap.del s.time.triggers n else NMap.put s.time.triggers n { t with next := t.next + 1 } } }
    if !fires then s1 else
    (s.tiedLamps n).foldl (fun y i =>
      let w := y.pwm (16 + i)
      if w.enabled && !y.sen.highZ && (y.sen.channels.getD (24 + i) {}).on then y.setPwm (16 + i) (w.nextPeriod y.time.tick) else y) s1

def execTriggerOccurrence (output : Nat) (s : State) : Res := .next (s.whileUp (s.occur output))

/-! ### Edge capture -/

def specCaptureArm : OpSpec where
  code := 0x0804
  masks := fun _ => [fm [(31, 29), (1, 0)]]
  params := fun e _ => if !e.p.b 3 31 && e.p.f 3 30 29 = 0 then some (badParam 3) else none
  pre := fun e s => match (s.time.captures.getD (e.p.f 3 1 0) {}).ctx with
    | some c => if c ≠ e.p.ctx then some (badState 35) else none
    | none => none
  run := fun e s =>
    let i := e.p.f 3 1 0
    let c := s.time.captures.getD i {}
    let c1 : Capture := if e.p.b 3 31 then { c with ctx := none } else { c with ctx := some e.p.ctx, edge := e.p.f 3 30 29, seq := 0 }
    ({ s with time := { s.time with captures := setAt s.time.captures i c1 } }).done e

/-- CAPTURE_ARM arms an edge input (R307). -/
def execCaptureArm (src : Src) (p : Packet) (s : State) : Res := .next (specCaptureArm.exec src (p.withField 3 31 31 0) s)
/-- CAPTURE_ARM with DISARM. -/
def execCaptureDisarm (src : Src) (p : Packet) (s : State) : Res := .next (specCaptureArm.exec src (p.withField 3 31 31 1) s)

/-- An edge that the input's filter passes: an armed input captures an edge of its kind; a full queue loses it (R307). -/
def execEdgeCapture (input : Nat) (rising : Bool) (s : State) : Res :=
  .next <| s.whileUp <|
    let c := s.time.captures.getD input {}
    if c.ctx.isNone || 4 ≤ input || !(bit c.edge (if rising then 0 else 1)) then s else
    let seq := (c.seq + 1) % 65536
    let c1 : Capture := if 16 ≤ c.entries.length then { c with seq := seq, overflow := true, lost := satAdd 0xFFFF c.lost 1 }
      else { c with seq := seq, entries := c.entries ++ [⟨rising, seq, ts32 s.now⟩] }
    { s with time := { s.time with captures := setAt s.time.captures input c1 } }

/-- A read of bytes 4 to 7 of CAP_ENTRY pops the edge. -/
def execCapPop (who : Accessor) (input : Nat) (s : State) : Res :=
  .next (s.paged who (fun s =>
    let c := s.time.captures.getD input {}
    { s with time := { s.time with captures := setAt s.time.captures input { c with entries := c.entries.drop 1 } } }))

/-- Cancel triggers and captures and release the queues of the contexts that `who` names, without entries (Table 12.13). -/
def State.dropTimed (s : State) (who : Nat → Bool) : State :=
  { s with time := { s.time with
    queues := s.time.queues.filter (fun (q : Nat × HostQueue) => !who q.2.ctx)
    triggers := s.time.triggers.filter (fun (t : Nat × Trigger) => !who t.2.ctx)
    captures := s.time.captures.map (fun (c : Capture) => match c.ctx with | some x => if who x then { c with ctx := none } else c | none => c) } }

end Sys2Proof.Machine
end

