-- ==== Sys2Proof/Machine/Loops.lean ====
section
/-! DEFINITION. The loop engine (chapter 16): configuration (R371), ticks (R369, R370), compensator (R372, R373), set-points (R374 to R376), feedback and
plausibility (R377, R378), fences (R379), frames and outputs (R380 to R383), start, stop and hold (R384, R385). -/

namespace Sys2Proof.Machine

open Sys2Proof.Num (Val)

/-! ### The record -/

def Loop.period (l : Loop) : Nat := l.hd 511 480
def Loop.kind (l : Loop) : Nat := l.hd 479 478
def Loop.fbKind (l : Loop) : Nat := l.hd 477 476
def Loop.outKind (l : Loop) : Nat := l.hd 475 474
def Loop.spKind (l : Loop) : Nat := l.hd 473 472
/-- Outer loop of a loop with SP_KIND 0b01 (R376). -/
def Loop.outer? (l : Loop) : Option Nat := if l.spKind = 1 then some (l.hd 465 459) else none
def Loop.div (l : Loop) : Nat := l.hd 458 451 + 1
def Loop.launchOfs (l : Loop) : Nat := l.hd 396 381
/-- FP32 word `i` of bytes 64 to 127 (Table 16.3). -/
def Loop.w (l : Loop) (i : Nat) : Nat := leNat ((l.record.drop (64 + 4 * i)).take 4)
def Loop.val (l : Loop) (i : Nat) : Val := Num.dec32 (l.w i)
def Loop.safeVal (l : Loop) : Nat := l.w 11
def Loop.holdVal (l : Loop) : Nat := l.w 12

/-- Faults of a loop record with the byte offset of each field (Tables 16.2, 16.3). -/
def Loop.faults (l : Loop) : List (Bool × Nat) :=
  let p := l.period
  let can := l.fbKind = 1 || l.outKind = 1
  let nest : Bool := l.spKind = 1
  let fin (i : Nat) : Bool := Num.isFinite (l.val i)
  let inOut (i : Nat) : Bool := Num.le (l.val 8) (l.val i) && Num.le (l.val i) (l.val 9)
  ([ (decide (p < 20000) || decide (100000000 < p) || p % 1000 ≠ 0 || (can && decide (p < 500000)), 60),
     (decide (2 ≤ l.kind) || decide (2 ≤ l.fbKind) || l.spKind = 3, 59),
     (if nest then false else l.hd 465 459 ≠ 0, 57), (if nest then l.hd 458 451 = 0 else l.hd 458 451 ≠ 0, 56),
     (l.outKind = 0 && l.hd 450 446 = 0, 55), (l.fbKind = 0 && l.hd 441 437 = 0, 54),
     (l.hd 404 401 = 0, 50), (l.hd 400 397 = 0, 49), (decide (l.launchOfs < 500), 47) ] : List (Bool × Nat))
  ++ (List.range 16).map (fun i => (!fin i, 64 + 4 * i))
  ++ ([ (l.kind = 0 && l.w 3 ≠ 0, 64 + 12), (l.kind = 0 && l.w 6 ≠ 0, 64 + 24), (!Num.lt (l.val 8) (l.val 9), 64 + 32),
     (!Num.lt Num.zero (l.val 10), 64 + 40), (!inOut 11, 64 + 44), (!inOut 12, 64 + 48),
     (!Num.lt Num.zero (l.val 13) || !Num.lt (l.val 13) (Num.ofNat 1), 64 + 52), (!Num.lt Num.zero (l.val 15), 64 + 60) ] : List (Bool × Nat))

/-- Loop `n`. -/
def State.loop? (s : State) (n : Nat) : Option Loop := NMap.get? s.eng.loops n
def State.setLoop (s : State) (n : Nat) (f : Loop → Loop) : State := { s with eng := { s.eng with loops := NMap.upd s.eng.loops n f } }

/-- Outer loops above a loop, nearest first, at most `fuel` (R376). -/
def outersOf (ls : NMap Loop) (l : Loop) : Nat → List Nat
  | 0 => []
  | fuel + 1 =>
    match l.outer? with
    | none => []
    | some o => o :: (match NMap.get? ls o with | some x => outersOf ls x fuel | none => [])

/-- Nesting depth, up to 5 for one that is too deep. -/
def loopDepth (ls : NMap Loop) (l : Loop) : Nat := (outersOf ls l 4).length + 1

/-- Loops that loop `n` feeds directly. -/
def feeds (ls : NMap Loop) (n : Nat) : List Nat := (ls.filter (fun (x : Nat × Loop) => x.2.outer? = some n)).map (fun (x : Nat × Loop) => x.1)

/-- Every loop that loop `n` feeds, directly or through others. -/
def feedsAll (ls : NMap Loop) (n : Nat) : Nat → List Nat
  | 0 => []
  | fuel + 1 => (feeds ls n).flatMap (fun i => i :: feedsAll ls i fuel)

/-- The reservation that a context's loops count for. -/
def State.resOf (s : State) (c : Nat) : Option Nat := match NMap.get? s.dom.contexts c with | some x => if x.fixed then some x.reservation else none | none => none

/-! ### LOOP_CONFIG -/

def loopMasks (p : Packet) : List Nat := fm [(31, 30), (6, 0)] :: (if p.f 3 31 30 = 2 then [] else addrMasks)

/-- The loop that a LOOP_CONFIG record spells. -/
def State.readLoop (s : State) (e : Env) : Loop := { ctx := e.p.ctx, opener := e.bob, record := s.load (e.p.addr 4) 128 }

/-- Alignment, reach and fields of a loop record (R371). -/
def State.loopParams (s : State) (e : Env) : Option Rej :=
  let a := e.p.addr 4
  if a % 64 ≠ 0 then some (badParam 4)
  else if !s.addrOk e.p.ctx a 128 false then some (badAddr a)
  else
    let l := s.readLoop e
    let deep := if l.outer? = some (e.p.f 3 6 0) || 5 ≤ loopDepth s.eng.loops l then [57] else []
    match (((l.faults.filter (fun (x : Bool × Nat) => x.1)).map (fun (x : Bool × Nat) => x.2)) ++ deep).foldl
        (fun (a : Option Nat) o => match a with | none => some o | some b => some (min b o)) none with
    | some o => some ⟨0x0106, [4, o]⟩
    | none => none

/-- An outer loop must be configured; a fixed-lane reservation holds at most LOOPS loops (R369, precondition 53). -/
def State.loopFits (s : State) (e : Env) : Bool :=
  let l := s.readLoop e
  (match l.outer? with | some o => (s.loop? o).isSome | none => true) &&
  (match s.resOf e.p.ctx with
    | none => true
    | some r =>
      let used := (s.eng.loops.filter (fun (x : Nat × Loop) => x.1 ≠ e.p.f 3 6 0 && s.resOf x.2.ctx = some r)).length
      (match NMap.get? s.dom.reservations r with | some v => decide (used < v.loops) | none => false))

/-- The loop exists and is the context's (precondition 50). -/
def State.ownLoop (s : State) (p : Packet) : Option Loop :=
  match s.loop? (p.f 3 6 0) with
  | some l => if l.ctx = p.ctx then some l else none
  | none => none

def State.putLoop (s : State) (e : Env) : State :=
  let l := s.readLoop e
  let n := e.p.f 3 6 0
  let l1 : Loop := { l with out := l.safeVal, outSafe := true }
  ({ s with eng := { s.eng with loops := NMap.put s.eng.loops n l1 } }).done e 0 [n, loopDepth s.eng.loops l, 0, 0]

def specLoopCreate : OpSpec where
  code := 0x0720
  masks := loopMasks
  params := fun e s => s.loopParams e
  pre := fun e s => if (s.loop? (e.p.f 3 6 0)).isSome then some (badState 50) else if !s.loopFits e then some (badState 53) else none
  run := fun e s => s.putLoop e

/-- LOOP_CONFIG create (R371). -/
def execLoopConfigCreate (src : Src) (p : Packet) (s : State) : Res := .next (specLoopCreate.exec src (p.withField 3 31 30 0) s)

/-- Preconditions 50 and 51. -/
def State.loopIdle (s : State) (p : Packet) : Option Rej :=
  match s.ownLoop p with
  | none => some (badState 50)
  | some l => if l.mode ≠ .stopped || l.fenced then some (badState 51) else none

def specLoopReconfigure : OpSpec where
  code := 0x0720
  masks := loopMasks
  params := fun e s => s.loopParams e
  pre := fun e s => match s.loopIdle e.p with | some r => some r | none => if !s.loopFits e then some (badState 53) else none
  run := fun e s => s.putLoop e

/-- LOOP_CONFIG reconfigure, of a stopped, unfenced loop. -/
def execLoopConfigReconfigure (src : Src) (p : Packet) (s : State) : Res := .next (specLoopReconfigure.exec src (p.withField 3 31 30 1) s)

def specLoopDelete : OpSpec where
  code := 0x0720
  masks := loopMasks
  pre := fun e s => s.loopIdle e.p
  run := fun e s => ({ s with eng := { s.eng with loops := NMap.del s.eng.loops (e.p.f 3 6 0) } }).done e 0 [e.p.f 3 6 0]

/-- LOOP_CONFIG delete. -/
def execLoopConfigDelete (src : Src) (p : Packet) (s : State) : Res := .next (specLoopDelete.exec src (p.withField 3 31 30 2) s)

def specLoopRing : OpSpec where
  code := 0x0720
  masks := loopMasks
  params := fun e s =>
    let a := e.p.addr 4
    if e.p.f 3 6 0 ≠ 0 then some (badParam 3)
    else if a % 64 ≠ 0 then some (badParam 4)
    else if !s.addrOk e.p.ctx a 320 false then some (badAddr a)
    else
      let r := s.load a 320
      if 4096 ≤ leNat (r.take 2) then some ⟨0x0106, [4, 0]⟩ else none
  pre := fun e s =>
    if e.src ≠ .bobbin 0 || s.eng.loops.any (fun (l : Nat × Loop) => l.2.mode ≠ .stopped) then some (badState 52) else none
  run := fun e s => ({ s with eng := { s.eng with ring := some (s.load (e.p.addr 4) 320) } }).done e

/-- LOOP_CONFIG OP 0b11 configures the drive ring: VLAN ID and station addresses (R371). -/
def execLoopConfigRing (src : Src) (p : Packet) (s : State) : Res := .next (specLoopRing.exec src (p.withField 3 31 30 3) s)

/-! ### Frames and outputs -/

/-- Payload of a command frame (Table 16.4): station, counter, launch time, and the loops' slots as loop, SAFE and value. -/
def loopPayload (station seq launch : Nat) (slots : List (Nat × Bool × Nat)) : List Byte :=
  let n := slots.foldl (fun a (x : Nat × Bool × Nat) => max a (x.1 + 1)) 1
  let slot (i : Nat) : List Byte :=
    match slots.find? (fun (x : Nat × Bool × Nat) => x.1 = i) with
    | some x => leBytes 1 0 ++ leBytes 1 (1 + 2 * x.2.1.toNat) ++ leBytes 2 0 ++ leBytes 4 x.2.2
    | none => List.replicate 8 0
  let body := leBytes 1 1 ++ leBytes 1 1 ++ leBytes 1 station ++ leBytes 1 n ++ leBytes 2 seq ++ leBytes 4 (ts32 launch) ++ leBytes 2 0 ++ (List.range n).flatMap slot
  body ++ leBytes 4 (crc32c body)

/-- Ethernet frame of a ring command: the station's address, the ring's VLAN with priority code point 7, EtherType 0x88B6 (Table 16.4). -/
def ringFrame (ring : List Byte) (station : Nat) (payload : List Byte) : List Byte :=
  let vlan := leNat (ring.take 2)
  (ring.drop (64 + 8 * station)).take 6 ++ (List.range 6).map Config.ownMac
    ++ [0x81, 0x00, BitVec.ofNat 8 (7 * 32 + vlan / 256), BitVec.ofNat 8 vlan, 0x88, 0xB6] ++ payload

/-- Next SEQ of a sender key (Table 16.4). -/
def State.nextSeq (s : State) (k : Nat) : Nat × State :=
  let n := NMap.getD s.eng.ringSeq k 0
  (n, { s with eng := { s.eng with ringSeq := NMap.put s.eng.ringSeq k ((n + 1) % 65536) } })

/-- Send the outputs of the loops `ns` of a tick at time `t`: one frame a ring station on both ports, one a CAN XL identifier, and PWM writes (R380,
R382, R383). -/
def State.sendLoops (s : State) (t : Nat) (ns : List Nat) : State :=
  let ls := ns.filterMap (fun n => (s.loop? n).map (fun l => (n, l)))
  let of (k : Nat) : List (Nat × Loop) := ls.filter (fun (x : Nat × Loop) => x.2.outKind = k)
  let slots (g : List (Nat × Loop)) : List (Nat × Bool × Nat) := g.map (fun (x : Nat × Loop) => (x.2.hd 445 442, x.2.outSafe, x.2.out))
  let launch (g : List (Nat × Loop)) : Nat := t + g.foldl (fun a (x : Nat × Loop) => max a x.2.launchOfs) 0
  let stations := ((of 0).map (fun (x : Nat × Loop) => x.2.hd 450 446)).eraseDups
  let s1 := stations.foldl (fun (y : State) st =>
    let g := (of 0).filter (fun (x : Nat × Loop) => x.2.hd 450 446 = st)
    let (q, z) := y.nextSeq st
    let f := ringFrame (z.eng.ring.getD []) st (loopPayload st q (launch g) (slots g))
    let z1 := if z.portUp 10 then z.emit (.eth 10 f) else z
    if z.portUp 11 then z1.emit (.eth 11 f) else z1) s
  let ids := ((of 1).map (fun (x : Nat × Loop) => x.2.hd 432 431 * 2048 + x.2.hd 430 420)).eraseDups
  let s2 := ids.foldl (fun (y : State) k =>
    let g := (of 1).filter (fun (x : Nat × Loop) => x.2.hd 432 431 * 2048 + x.2.hd 430 420 = k)
    let (q, z) := y.nextSeq (64 + k)
    let st := (g.head?.map (fun (x : Nat × Loop) => x.2.hd 450 446)).getD 0
    z.emit (.can (k / 2048) (k % 2048) (loopPayload st q (launch g) (slots g)))) s1
  (of 2).foldl (fun (y : State) (x : Nat × Loop) =>
    let n := x.2.hd 408 405
    let w := y.pwm n
    if w.mode ≠ 1 then y else
    let duty := min w.period (Num.nearest (Num.mul (Num.dec32 x.2.out) (Num.ofNat w.period))).toNat
    y.setPwm n (w.arm y.time.tick (bits w.active 55 32 * 2 ^ 32 + duty))) s2

/-! ### Fences -/

/-- Fence a started loop (R379): SAFE_VAL from this tick on, the FENCED event; upward always (cause 5), downward where OUTER_FENCE_ACT is 1 (cause 4).
Nests have at most four levels, so eight rounds reach every loop of one. -/
def State.fenceLoop (s : State) (n cause : Nat) : Nat → State
  | 0 => s
  | fuel + 1 =>
    match s.loop? n with
    | none => s
    | some l =>
      if l.fenced || l.mode = .stopped then s else
      let s1 := (s.setLoop n (fun l => { l with fenced := true, out := l.safeVal, outSafe := true })).fence l.opener 0x0720 l.ctx 0xE n cause
      let s2 := s1.bump 7 0 0 5 1
      let s3 := match l.outer? with | some o => State.fenceLoop s2 o 5 fuel | none => s2
      (feeds s3.eng.loops n).foldl (fun (y : State) i =>
        match y.loop? i with
        | some x => if x.hd 380 380 = 1 then State.fenceLoop y i 4 fuel else y
        | none => y) s3

/-! ### One loop step -/

/-- Key of a loop's feedback source and slot. -/
def Loop.fbKey (l : Loop) : Nat := if l.fbKind = 0 then l.hd 441 437 * 16 + l.hd 436 433 else 512 + (l.hd 432 431 * 2048 + l.hd 419 409) * 16 + l.hd 436 433

/-- Extend a TS32 from a reference time (R299). -/
def extend (x ref : Nat) : Int := (ref : Int) + ((((x : Int) - ((ref % 2 ^ 32 : Nat) : Int) + 2 ^ 31) % 2 ^ 32) - 2 ^ 31)

/-- The feedback value that counts for a tick at time `t` (R377). -/
def State.sample (s : State) (l : Loop) (t : Nat) : Option Nat :=
  let fs := (NMap.getD s.eng.feedback l.fbKey []).filter (fun (f : Feedback) =>
    f.valid && decide (t ≤ f.arrival + 1000 + l.period) && decide (f.arrival + 1000 ≤ t))
  match fs.foldl (fun (a : Option Feedback) f => match a with | none => some f | some g => if g.arrival ≤ f.arrival then some f else some g) none with
  | none => none
  | some f => if (t : Int) - 2 * l.period ≤ extend f.ts t && extend f.ts t ≤ (t : Int) + 2 * l.period then some f.value else none

/-- Whether an FP32 word is finite. -/
def finite32 (w : Nat) : Bool := Num.isFinite (Num.dec32 w)

/-- Plausibility of a valid sample (R378): the loop with its model and count, and whether it is fenced. -/
def Loop.plausible (l : Loop) (f : Nat) : Loop × Bool :=
  let fv := Num.dec32 f
  match l.model with
  | none => ({ l with model := some (Num.enc64 fv) }, false)
  | some m =>
    let pole := l.val 13
    let pred := Num.add64 (Num.mul64 pole (Num.dec64 m))
      (Num.mul64 (Num.mul64 (Num.sub64 (Num.ofNat 1) pole) (l.val 14)) (Num.dec64 (l.v.getD (l.hd 469 466) 0)))
    if Num.le (Num.abs (Num.sub64 fv pred)) (l.val 15) then ({ l with model := some (Num.enc64 fv), implausible := 0 }, false)
    else ({ l with model := some (Num.enc64 pred), implausible := l.implausible + 1 }, decide (l.hd 404 401 ≤ l.implausible + 1))

/-- The set-point of a loop at this tick (R374 to R376): its word, and whether it is valid. -/
def State.setPoint (s : State) (l : Loop) : Option Nat :=
  let hand : Option Nat :=
    match (match l.sp with | some x => if x.2.2 = s.time.tick then l.spOld else some x | none => none) with
    | some x => if s.isValid x.2.1 then some x.1 else none
    | none => none
  let r := match l.spKind with
    | 1 => (match l.outer? with | some o => (s.loop? o).map (fun x => x.out) | none => none)
    | 2 => some (l.w 7)
    | _ => if s.safety = .safeHold && l.spSafe.isSome then l.spSafe else hand
  match r with
  | some w => if finite32 w then some w else none
  | none => none

/-- The compensator (R372): loop with its new history and output. -/
def Loop.compensate (l : Loop) (sp : Nat) : Loop :=
  let ek := Num.enc32 (Num.sub32 (Num.dec32 sp) (Num.dec32 l.f))
  let es := ek :: l.e
  let acc0 := (List.range 4).foldl (fun a i => Num.fma64 (l.val i) (Num.dec32 (es.getD i 0)) a) Num.zero
  let acc := (List.range 3).foldl (fun a i => Num.fma64 (Num.neg (l.val (4 + i))) (Num.dec64 (l.v.getD i 0)) a) acc0
  let v1 := Num.dec64 (l.v.getD 0 0)
  let lo := Num.maxV (Num.maxV acc (l.val 8)) (Num.sub64 v1 (l.val 10))
  let vk := Num.enc64 (Num.minV (Num.minV lo (l.val 9)) (Num.add64 v1 (l.val 10)))
  { l with e := es.take 3, v := (vk :: l.v).take 17, out := Num.enc32 (Num.dec64 vk), outSafe := false, spValid := some sp }

/-- The stage of an activation's pause: 0 none, 1 outputs frozen, 2 HOLD_VAL sent (Table 16.5). -/
def State.pauseStage (s : State) : Nat :=
  match s.upd.act with
  | some a => (match a.stage with | .drain => 0 | .paused => 1 | _ => 2)
  | none => 0

/-- Step loop `n` at its tick at time `t` (R372 to R379, Table 16.5). -/
def State.stepLoop (s : State) (n t : Nat) : State :=
  match s.loop? n with
  | none => s
  | some l0 =>
    let keep (l : Loop) : State := s.setLoop n (fun _ => l)
    if s.pauseStage = 1 then s
    else if s.pauseStage = 2 || l0.mode = .held then
      keep { l0 with out := if l0.stuck || l0.fenced then l0.safeVal else l0.holdVal, outSafe := true }
    else if l0.fenced then keep { l0 with out := l0.safeVal, outSafe := true }
    else
      -- feedback: missing, not finite, or checked for plausibility
      let (l1, cause) : Loop × Option Nat :=
        match s.sample l0 t with
        | none => ({ l0 with missing := l0.missing + 1 }, if l0.hd 400 397 ≤ l0.missing + 1 then some 2 else none)
        | some f =>
          if !finite32 f then ({ l0 with missing := 0 }, some 3)
          else
            let (l, bad) := ({ l0 with missing := 0, f := f } : Loop).plausible f
            (l, if bad then some 1 else none)
      let s1 := keep l1
      match cause with
      | some c => s1.fenceLoop n c 8
      | none =>
        if l1.stuck then keep { l1 with out := l1.safeVal, outSafe := true } else
        match s.setPoint l1 with
        | some w => keep (l1.compensate w)
        | none =>
          if l1.hd 471 471 = 1 then keep { l1 with out := l1.safeVal, outSafe := true }
          else keep (l1.compensate (l1.spValid.getD 0))

/-- Sort key of the loops due at one time: fixed lane first, outer before inner, ascending number (R370). -/
def State.loopRank (s : State) (n : Nat) : Nat :=
  match s.loop? n with
  | some l => (if s.isFixed l.ctx then 0 else 8) * 128 + loopDepth s.eng.loops l * 128 + n
  | none => 0

def insRank (s : State) (n : Nat) : List Nat → List Nat
  | [] => [n]
  | x :: r => if s.loopRank n ≤ s.loopRank x then n :: x :: r else x :: insRank s n r

/-- Carry out the LOOP_STOPs of loop `n` that a tick at time `t` meets (R385); answers the loops they touch. -/
def State.endLoop (s : State) (n t : Nat) : State × List Nat :=
  match s.loop? n with
  | none => (s, [])
  | some l =>
    match l.ending.filter (fun (x : LoopEnd) => decide (x.due ≤ t)) with
    | [] => (s, [])
    | x :: more =>
      let hold := (x :: more).all (fun (y : LoopEnd) => y.hold)
      let all := n :: feedsAll s.eng.loops n 4
      let act (l : Loop) : Loop := { l with
        mode := if hold then .held else .stopped, fenced := false, stuck := false, out := if hold then l.holdVal else l.safeVal, outSafe := true
        ending := if hold then l.ending.filter (fun (y : LoopEnd) => decide (t < y.due)) else [] }
      let live := all.filter (fun i => match s.loop? i with | some z => z.mode ≠ .stopped | none => false)
      let pkts := if hold then (x :: more).filterMap (fun (y : LoopEnd) => y.pkt)
        else live.flatMap (fun i => match s.loop? i with | some z => z.ending.filterMap (fun (y : LoopEnd) => y.pkt) | none => [])
      let s1 := live.foldl (fun (y : State) i => y.setLoop i act) s
      (pkts.foldl (fun (y : State) i => y.finish i 0) s1, live)

/-- A compute tick: every loop due at the earliest device time that has come is stepped in the order of R370; LOOP_STOPs take effect after fences
(Table 16.5); then the outputs are sent. -/
def State.loopTick (s : State) : State :=
  let on := s.eng.loops.filter (fun (l : Nat × Loop) => l.2.mode ≠ .stopped)
  let time (l : Loop) : Nat := l.start + l.tick * l.period
  let dueAll := on.filter (fun (l : Nat × Loop) => decide (time l.2 ≤ s.now))
  match dueAll.foldl (fun (a : Option Nat) (l : Nat × Loop) => match a with | none => some (time l.2) | some t => some (min t (time l.2))) none with
  | none => s
  | some t =>
    let due := ((dueAll.filter (fun (l : Nat × Loop) => time l.2 = t)).map (fun (l : Nat × Loop) => l.1)).foldl (fun a n => insRank s n a) []
    let s1 := due.foldl (fun (y : State) n => y.stepLoop n t) s
    let s2 := due.foldl (fun (y : State) n => y.setLoop n (fun l => { l with tick := l.tick + 1 })) s1
    let (s3, sent) := due.foldl (fun (a : State × List Nat) n => let r := a.1.endLoop n t; (r.1, a.2 ++ r.2)) (s2, [])
    s3.sendLoops t (due ++ sent.filter (fun i => !due.contains i)).eraseDups

/-- Device time reaches a compute tick (R369, R370). -/
def execLoopTick (s : State) : Res := .next (match s.pwr.phase with | .up => s.loopTick | _ => s)

/-! ### Feedback -/

/-- A feedback frame arrives: on the drive ring (`can` false, port 0 or 1), or with an identifier on CAN XL; its payload is that of Table 16.4. One whose
form or CRC fails is missing, and the second copy by SEQ is discarded (R377, R380). -/
def execLoopFeedbackFrame (can : Bool) (port id : Nat) (payload : List Byte) (s : State) : Res :=
  .next <|
    let b (i : Nat) : Nat := (payload.getD i 0).toNat
    let n := b 3
    let len := 16 + 8 * n
    let ok := b 0 = 1 && b 1 = 2 && decide (1 ≤ n) && decide (n ≤ 16) && decide (len ≤ payload.length)
      && leNat ((payload.drop (12 + 8 * n)).take 4) = crc32c (payload.take (12 + 8 * n)) && (can || (decide (1 ≤ b 2) && decide (b 2 ≤ 31)))
    if !ok || s.pwr.phase ≠ .up || (!can && (2 ≤ port || !s.portUp (10 + port))) then s else
    let seq := b 4 + b 5 * 256
    let base := if can then 512 + (port * 2048 + id) * 16 else b 2 * 16
    if NMap.get? s.eng.ringRx base = some seq then { s with eng := { s.eng with copies := s.eng.copies + 1 } } else
    let fb := (List.range n).foldl (fun (m : NMap (List Feedback)) i =>
      let o := 12 + 8 * i
      let f : Feedback := { arrival := s.now, ts := leNat ((payload.drop 6).take 4), valid := bit (b (o + 1)) 0, value := leNat ((payload.drop (o + 4)).take 4) }
      NMap.put m (base + i) ((NMap.getD m (base + i) []).filter (fun (x : Feedback) => decide (s.now ≤ x.arrival + 200002000)) ++ [f])) s.eng.feedback
    { s with eng := { s.eng with feedback := fb, ringRx := NMap.put s.eng.ringRx base seq } }

/-! ### Hand-offs, start and stop -/

/-- A set-point is handed off to a loop that the context has configured; false where there is none (R365, R374). In Safe-hold a loop with SH_ACT 1
takes none (Table 16.5). -/
def State.handOff (s : State) (c stream n word : Nat) : State × Bool :=
  match s.loop? n with
  | none => (s, false)
  | some l =>
    if l.ctx ≠ c then (s, false)
    else if s.safety = .safeHold && l.hd 470 470 = 1 && l.mode ≠ .stopped then (s, true)
    else (s.setLoop n (fun l =>
      let old := match l.sp with | some x => if x.2.2 = s.time.tick then l.spOld else some x | none => none
      { l with sp := some (word, stream, s.time.tick), spOld := old }), true)

/-- Loops that LOOP_START starts: the loop and, with WITH_OUTER, the stopped or held outer loops above it (R384). -/
def State.startGroup (s : State) (n : Nat) (withOuter : Bool) : List Nat :=
  match s.loop? n with
  | none => []
  | some l => n :: (if withOuter then (outersOf s.eng.loops l 4).filter (fun o => match s.loop? o with | some x => x.mode ≠ .running | none => false) else [])

/-- START of a LOOP_START packet. -/
def startTime (p : Packet) : Nat := (p.word 5 + p.f 6 15 0 * 2 ^ 32) * 10 ^ 9 + p.word 4

/-- Outer loops, PWM outputs and reservations of a start (precondition 53). -/
def State.outersOk (s : State) (p : Packet) (l : Loop) : Bool :=
  let start := startTime p
  let group := s.startGroup (p.f 3 6 0) (p.b 3 31)
  let os := outersOf s.eng.loops l 4
  os.all (fun o => match s.loop? o with
    | none => false
    | some x => (x.mode = .stopped || ((x.start : Int) - start) % l.period = 0) && !(x.fenced) && s.resOf x.ctx = s.resOf l.ctx)
  && (((p.f 3 6 0) :: os).zip os).all (fun (a : Nat × Nat) => match s.loop? a.1, s.loop? a.2 with
    | some i, some o => o.period = i.div * i.period
    | _, _ => false)
  && group.all (fun n => match s.loop? n with | some x => x.outKind ≠ 2 || (s.pwm (x.hd 408 405)).mode = 1 | none => false)

/-- The loops that run after a start, with their START and period. -/
def State.gridsAfter (s : State) (group : List Nat) (start : Nat) : List (Nat × Loop × Nat) :=
  (s.eng.loops.filter (fun (x : Nat × Loop) => group.contains x.1 || x.2.mode ≠ .stopped)).map (fun (x : Nat × Loop) =>
    (x.1, x.2, if group.contains x.1 then start else x.2.start))

/-- LAUNCH_OFS of the fixed-lane loops covers the compute bound (R384). -/
def State.launchFits (s : State) (group : List Nat) (start : Nat) : Bool :=
  let all := (s.gridsAfter group start).filter (fun (x : Nat × Loop × Nat) => s.isFixed x.2.1.ctx)
  (all.filter (fun (x : Nat × Loop × Nat) => group.contains x.1)).all (fun (x : Nat × Loop × Nat) =>
    let n := (all.filter (fun (y : Nat × Loop × Nat) => ((y.2.2 : Int) - x.2.2) % (Nat.gcd y.2.1.period x.2.1.period) = 0)).length
    decide (500 + 60 * n ≤ x.2.1.launchOfs))

/-- Frames by station and tick time with their slots, for loops of the ring (R381). -/
def wireFrames (gs : List (Nat × Loop × Nat)) (start span : Nat) : List (Nat × Nat × Nat) :=
  gs.foldl (fun acc (x : Nat × Loop × Nat) =>
    let p := x.2.1.period
    let first := start + (((x.2.2 : Int) - start) % p).toNat
    (List.range (span / p + 1)).foldl (fun (a : List (Nat × Nat × Nat)) i =>
      let t := first + i * p
      let st := x.2.1.hd 450 446
      let n := x.2.1.hd 445 442 + 1
      if start + span ≤ t then a
      else if a.any (fun (f : Nat × Nat × Nat) => f.1 = st && f.2.1 = t) then
        a.map (fun (f : Nat × Nat × Nat) => if f.1 = st && f.2.1 = t then (f.1, f.2.1, max f.2.2 n) else f)
      else (st, t, n) :: a) acc) []

/-- The loop frames of any one period take at most 60 % of it (R381). -/
def State.wireFits (s : State) (group : List Nat) (start : Nat) : Bool :=
  let ring := (s.gridsAfter group start).filter (fun (x : Nat × Loop × Nat) => x.2.1.outKind = 0)
  if !(ring.any (fun (x : Nat × Loop × Nat) => group.contains x.1)) then true else
  ((ring.map (fun (x : Nat × Loop × Nat) => x.2.1.period)).eraseDups).all (fun w =>
    decide (((wireFrames ring start w).foldl (fun a (f : Nat × Nat × Nat) => a + (f.2.2 * 8 + 58) * 8) 0) * 10 ≤ 6 * w))

/-- Start or resume a loop (R373): histories cleared to the output in force, model and counts anew, ticks with less than 20 µs lead skipped. Feedback and
set-point before the first valid one are free values. -/
def State.startLoop (s : State) (n start : Nat) : State :=
  let f0 := (Config.freeWord s.free).toNat
  let r0 := (Config.freeWord (s.free + 1)).toNat
  (s.drawn 2).setLoop n (fun l =>
    let force := if l.mode = .held then l.holdVal else l.safeVal
    let at_ := s.now + 20000
    let k := if at_ ≤ start then 0 else (at_ - start + l.period - 1) / l.period
    { l with mode := .running, fenced := false, stuck := false, start := start, tick := k, e := [0, 0, 0]
             v := List.replicate 17 (Num.enc64 (Num.dec32 force)), out := force, outSafe := true, f := f0, model := none, implausible := 0, missing := 0
             ending := [], spValid := some (l.spValid.getD r0) })

def specLoopStart : OpSpec where
  code := 0x0721
  masks := fun _ => [fm [(31, 31), (6, 0)], full, full, fm [(15, 0)]]
  params := fun e _ => if 10 ^ 9 ≤ e.p.word 4 then some (badParam 4) else none
  pre := fun e s =>
    match s.ownLoop e.p with
    | none => some (badState 50)
    | some l =>
      let group := s.startGroup (e.p.f 3 6 0) (e.p.b 3 31)
      let ring := group.any (fun n => match s.loop? n with | some x => x.fbKind = 0 || x.outKind = 0 | none => false)
      firstFail [(l.mode = .running || l.fenced, badState 51), (ring && s.eng.ring.isNone, badState 52), (!s.outersOk e.p l, badState 53),
        (!s.launchFits group (startTime e.p) || !s.wireFits group (startTime e.p), badState 54)]
  run := fun e s =>
    let n := e.p.f 3 6 0
    let s1 := (s.startGroup n (e.p.b 3 31)).foldl (fun (y : State) i => y.startLoop i (startTime e.p)) s
    match s1.loop? n with
    | some l => s1.done e 0 [l.tick, ts32 (l.start + l.tick * l.period)]
    | none => s1.done e

/-- LOOP_START starts a loop, with WITH_OUTER the outer loops above it too (R384). -/
def execLoopStart (src : Src) (p : Packet) (s : State) : Res := .next (specLoopStart.exec src p s)

def specLoopStop : OpSpec where
  code := 0x0722
  masks := fun _ => [fm [(31, 30), (6, 0)]]
  params := fun e _ => if 2 ≤ e.p.f 3 31 30 then some (badParam 3) else none
  pre := fun e s => if (s.ownLoop e.p).isNone then some (badState 50) else none
  run := fun e s =>
    let n := e.p.f 3 6 0
    match s.loop? n with
    | some l =>
      if l.mode = .stopped then s.done e
      else (s.setJob e.id (.waits (.loopStop n))).setLoop n (fun l => { l with ending := l.ending ++ [⟨some e.id, e.p.f 3 31 30 = 1, s.now + 2000⟩] })
    | none => s.done e

/-- LOOP_STOP stop (R385). -/
def execLoopStopStop (src : Src) (p : Packet) (s : State) : Res := .next (specLoopStop.exec src (p.withField 3 31 30 0) s)
/-- LOOP_STOP hold. -/
def execLoopStopHold (src : Src) (p : Packet) (s : State) : Res := .next (specLoopStop.exec src (p.withField 3 31 30 1) s)

/-- Stop started loops at once, with one last SAFE_VAL, and delete them where asked (Table 16.5: CONTEXT_DESTROY, Sleep). -/
def State.stopLoops (s : State) (who : Loop → Bool) (delete : Bool) : State :=
  let ns := (s.eng.loops.filter (fun (l : Nat × Loop) => who l.2)).map (fun (l : Nat × Loop) => l.1)
  let live := ns.filter (fun n => match s.loop? n with | some l => l.mode ≠ .stopped | none => false)
  let pkts := live.flatMap (fun n => match s.loop? n with | some l => l.ending.filterMap (fun (x : LoopEnd) => x.pkt) | none => [])
  let s1 := live.foldl (fun (y : State) n => y.setLoop n (fun l => { l with mode := .stopped, fenced := false, stuck := false, out := l.safeVal, outSafe := true, ending := [] })) s
  let s2 := pkts.foldl (fun (y : State) i => y.finish i 0) (s1.sendLoops s1.now live)
  if delete then { s2 with eng := { s2.eng with loops := s2.eng.loops.filter (fun (l : Nat × Loop) => !who l.2) } } else s2

/-- Every started loop resumes at the end of a pause, as after a hold (R373, Table 16.5). -/
def State.resumeLoops (s : State) : State :=
  { s with eng := { s.eng with loops := s.eng.loops.map (fun (x : Nat × Loop) =>
    (x.1, if x.2.mode = .running && !x.2.fenced then { x.2 with e := [0, 0, 0], v := List.replicate 17 (Num.enc64 (Num.dec32 x.2.holdVal)) } else x.2)) } }

end Sys2Proof.Machine
end

