-- ==== Sys2Proof/Machine/Solve.lean ====
section
/-! DEFINITION. The solve engine (chapter 15): systems (R353 to R356), the front stage (R357 to R359), linear solves (R360, R361), ADMM (R362 to R364),
results and hand-off (R365), times (R366). FP32 and FP64 values are words. -/

namespace Sys2Proof.Machine

open Sys2Proof.Num (Val)

/-! ### The record -/

def SolveSys.h (y : SolveSys) (hi lo : Nat) : Nat := bits (leNat (y.record.take 64)) hi lo
def SolveSys.g (y : SolveSys) (hi lo : Nat) : Nat := bits (leNat ((y.record.drop 64).take 64)) hi lo
/-- FP32 value `i` of bytes 128 to 159: TOL, INNER_TOL, RHO, SIGMA, ALPHA, EPS_ABS, EPS_REL, EPS_INF. -/
def SolveSys.w (y : SolveSys) (i : Nat) : Nat := leNat ((y.record.drop (128 + 4 * i)).take 4)
def SolveSys.val (y : SolveSys) (i : Nat) : Val := Num.dec32 (y.w i)
def SolveSys.n (y : SolveSys) : Nat := y.g 511 495
def SolveSys.m (y : SolveSys) : Nat := y.g 494 478
def SolveSys.nnzP (y : SolveSys) : Nat := y.g 477 457
def SolveSys.nnzA (y : SolveSys) : Nat := y.g 456 436
def SolveSys.nTerms (y : SolveSys) : Nat := y.g 435 413
def SolveSys.nParam (y : SolveSys) : Nat := y.g 412 397
def SolveSys.solver (y : SolveSys) : Nat := y.g 396 395
def SolveSys.precond (y : SolveSys) : Nat := y.g 394 393
def SolveSys.block (y : SolveSys) : Nat := y.g 392 389 + 1
def SolveSys.planBase (y : SolveSys) : Nat := y.g 388 373
def SolveSys.usePlan (y : SolveSys) : Bool := y.g 372 372 = 1
def SolveSys.iterMax (y : SolveSys) : Nat := y.g 353 338
def SolveSys.innerMax (y : SolveSys) : Nat := y.g 337 330
def SolveSys.refineMax (y : SolveSys) : Nat := y.g 329 326
def SolveSys.checkEvery (y : SolveSys) : Nat := y.g 325 318
def SolveSys.admm (y : SolveSys) : Bool := y.solver = 2
def SolveSys.outSlots (y : SolveSys) : Nat := y.h 127 124 + 1

/-- Faults of a system record with the byte offset of each field (Tables 15.2, 15.3). -/
def SolveSys.faults (y : SolveSys) : List (Bool × Nat) :=
  let q := y.admm
  let val (i : Nat) : Bool := Num.isFinite (y.val i) && Num.lt Num.zero (y.val i)
  ([ (!q && y.h 415 368 ≠ 0, 46), (!q && y.h 367 320 ≠ 0, 40), (y.h 223 176 % 64 ≠ 0, 22), (if q then y.h 175 128 % 64 ≠ 0 else y.h 175 128 ≠ 0, 16),
     (y.h 127 124 = 0, 15), (y.n = 0 || decide (65536 < y.n), 64 + 61), (if q then y.m = 0 || decide (65536 < y.m) else y.m ≠ 0, 64 + 59),
     (y.nnzP = 0 || decide (1048576 < y.nnzP + y.nnzA), 64 + 57), (!q && y.nnzA ≠ 0, 64 + 54), (y.nTerms = 0 || decide (4194304 < y.nTerms), 64 + 51),
     (y.nParam = 0, 64 + 49), (y.solver = 3 || y.precond = 3 || (y.precond = 2 && y.solver ≠ 0), 64 + 49),
     (if y.precond = 2 then y.block < 2 else y.block ≠ 1, 64 + 48),
     (decide (128 < y.g 369 362), 64 + 45), (y.iterMax = 0 && q, 64 + 42), (y.innerMax = 0, 64 + 41), (decide (8 < y.refineMax), 64 + 40), (y.checkEvery = 0 && q, 64 + 39) ]
    : List (Bool × Nat))
  ++ (List.range 8).map (fun i => (if i = 4 then !(val 4) || !Num.lt (y.val 4) (Num.ofNat 2) else !val i, 128 + 4 * i))

/-- 32-bit entries of an array. -/
def State.words (s : State) (a n : Nat) : List Nat := (List.range n).map (fun i => s.loadNat (a + 4 * i) 4)

/-- Row pointers and column indices of a CSR structure are well formed (R354). -/
def csrOk (ptr idx : List Nat) (rows cols nnz : Nat) : Bool × Bool :=
  let p := ptr.getD 0 1 = 0 && ptr.getD rows 0 = nnz && (List.range rows).all (fun i => decide (ptr.getD i 0 ≤ ptr.getD (i + 1) 0))
  let c := (List.range rows).all (fun i =>
    let r := (idx.drop (ptr.getD i 0)).take (ptr.getD (i + 1) 0 - ptr.getD i 0)
    r.all (fun x => decide (x < cols)) && (r.zip (r.drop 1)).all (fun (x : Nat × Nat) => decide (x.1 < x.2)))
  (p, c)

/-- Values of a class of term (Table 15.4). -/
def SolveSys.classCount (y : SolveSys) (c : Nat) : Nat :=
  match c with | 0 => y.nnzP | 1 => y.nnzA | 2 => y.n | _ => y.m

/-- A term record is well formed (Table 15.4). -/
def SolveSys.termOk (y : SolveSys) (t : Nat) : Bool :=
  let c := bits t 63 61
  let ix (x : Nat) : Bool := x = 0xFFFF || decide (x < y.nParam)
  decide (c ≤ 4) && decide (bits t 60 40 < y.classCount c) && ix (bits t 95 80) && ix (bits t 79 64)
  && (match Num.dec32 (bits t 127 96) with | .nan => false | .inf _ => decide (3 ≤ c) | _ => true)

/-- The system that a SOLVE_CONFIG packet and its record spell. -/
def State.readSystem (s : State) (e : Env) : SolveSys :=
  let p := e.p
  let a := p.addr 4
  let k := bits (leNat (s.load (a + 64) 64)) 369 362
  let y : SolveSys := { ctx := p.ctx, opener := e.bob, record := s.load a (192 + 16 * min k 128), banks := p.f 5 31 16,
                        hbm := if p.b 3 29 then some (p.word 6 + p.f 7 15 0 * 2 ^ 32) else none,
                        pPtr := [], pIdx := [], aPtr := [], aIdx := [], terms := [], params := [], pipe := p.f 3 2 0 }
  if y.faults.any (fun (x : Bool × Nat) => x.1) then y else
  { y with
    pPtr := s.words (y.h 511 464) (y.n + 1), pIdx := s.words (y.h 463 416) y.nnzP
    aPtr := if y.admm then s.words (y.h 415 368) (y.m + 1) else [], aIdx := if y.admm then s.words (y.h 367 320) y.nnzA else []
    terms := (List.range y.nTerms).map (fun i => s.loadNat (y.h 319 272 + 16 * i) 16), params := s.words (y.h 271 224) y.nParam }

/-- Ranges that a record names: what is read, and what the system later writes. -/
def SolveSys.reads (y : SolveSys) : List (Addr × Nat) :=
  [(y.h 511 464, 4 * (y.n + 1)), (y.h 463 416, 4 * y.nnzP)] ++ (if y.admm then [(y.h 415 368, 4 * (y.m + 1)), (y.h 367 320, 4 * y.nnzA)] else [])
  ++ [(y.h 319 272, 16 * y.nTerms), (y.h 271 224, 4 * y.nParam)]

/-- Bytes of an output slot (R365) and of the certificate block (R364). -/
def SolveSys.slotBytes (y : SolveSys) : Nat := 64 + (if y.g 370 370 = 1 then 8 else 4) * (y.n + (if y.admm then y.m else 0))
def SolveSys.writes (y : SolveSys) : List (Addr × Nat) :=
  (y.h 223 176, y.slotBytes * y.outSlots) :: (if y.admm then [(y.h 175 128, 64 + 8 * max y.n y.m)] else [])

/-- Byte offset of the first faulty array's address field (R355). -/
def SolveSys.arrayFault (y : SolveSys) : Option Nat :=
  let p := csrOk y.pPtr y.pIdx y.n y.n y.nnzP
  let a := if y.admm then csrOk y.aPtr y.aIdx y.m y.n y.nnzA else (true, true)
  ((([(!a.2, 40), (!a.1, 46), (!p.2, 52), (!p.1, 58), (!(y.terms.all y.termOk), 34)] : List (Bool × Nat)).filter (fun x => x.1)).map (fun x => x.2)).foldl
    (fun (m : Option Nat) o => match m with | none => some o | some b => some (min b o)) none

/-- Store bytes B_S (R356). -/
def SolveSys.storeBytes (y : SolveSys) : Nat :=
  4096 + 4 * (2 * y.n + y.m + 3) + 8 * (y.nnzP + 2 * y.nnzA) + 16 * y.nTerms + 8 * y.nParam + 64 * (y.n + y.m)

/-! ### Times (Tables 15.8, 15.9, R366) -/

def SolveSys.hub (y : SolveSys) : Bool := y.hbm.isNone
def SolveSys.sp (y : SolveSys) (k : Nat) : Nat := if y.hub then ceilDiv k 32 + 40 else ceilDiv k 8 + 200
def SolveSys.sp64 (y : SolveSys) (k : Nat) : Nat := if y.hub then ceilDiv k 16 + 40 else ceilDiv k 8 + 200
def vCost (k : Nat) : Nat := ceilDiv k 32 + 8
def dCost (k : Nat) : Nat := ceilDiv k 32 + 24
def SolveSys.wCost (y : SolveSys) : Nat := if y.precond = 2 then ceilDiv (y.n * y.block) 32 + 16 else vCost y.n
def SolveSys.tAsm (y : SolveSys) : Nat :=
  ceilDiv y.nTerms 32 + 100 + (if y.admm then y.sp y.nnzA + vCost y.n else 0) + (if y.precond = 2 then ceilDiv (y.n * y.block * y.block) 32 + 100 else 0)
/-- T_S for a measurement block of `k` values. -/
def SolveSys.bound (y : SolveSys) (k : Nat) : Nat :=
  let base := 3000 + ceilDiv (64 + 4 * k) 32 + y.tAsm
  if y.admm then
    let tIn := y.sp y.nnzP + 2 * y.sp y.nnzA + 2 * dCost y.n + 4 * vCost y.n + y.wCost
    let tOut := 3 * y.sp y.nnzA + 6 * vCost y.m + 3 * vCost y.n
    let tChk := y.sp64 y.nnzP + 2 * y.sp64 y.nnzA + 4 * dCost (max y.n y.m)
    base + y.iterMax * (tOut + y.innerMax * tIn) + ceilDiv y.iterMax y.checkEvery * tChk
  else
    let inner := y.sp y.nnzP + 2 * dCost y.n + (if y.solver = 0 then 3 else 6) * vCost y.n + y.wCost
    let r := y.sp64 y.nnzP + vCost y.n + dCost y.n
    base + (y.refineMax + 1) * r + y.refineMax * y.innerMax * inner

/-! ### SOLVE_CONFIG -/

def solveMasks (p : Packet) : List Nat :=
  fm [(31, 29), (2, 0)] :: (if p.f 3 31 30 = 2 then [] else [full, full, full, fm [(15, 0)]])

/-- Hub-SRAM banks of a mask are held by the context and owned by its hub port, and hold at least `n` bytes (preconditions 43, 49). -/
def State.hubBanksOk (s : State) (c mask n : Nat) : Bool :=
  let bs := maskList 16 mask
  bs.all (fun b => match NMap.get? s.ms.banks (128 + b) with | some o => o.ctx = c && o.port = 5 | none => false) && decide (n ≤ bs.length * 0x200000)

/-- Parameters, record and arrays of a configuration (R355). -/
def State.solveParams (s : State) (e : Env) : Option Rej :=
  let p := e.p
  let a := p.addr 4
  let hbm := p.b 3 29
  match firstFail [(a % 64 ≠ 0, badParam 4), (hbm && p.f 5 31 16 ≠ 0, badParam 5), (!hbm && p.word 6 ≠ 0, badParam 6), (!hbm && p.word 7 ≠ 0, badParam 7),
    (!s.addrOk p.ctx a 192 false, badAddr a)] with
  | some r => some r
  | none =>
    let y := s.readSystem e
    if !s.addrOk p.ctx a y.record.length false then some (badAddr a) else
    match ((y.faults.filter (fun (x : Bool × Nat) => x.1)).map (fun (x : Bool × Nat) => x.2)).foldl
        (fun (m : Option Nat) o => match m with | none => some o | some b => some (min b o)) none with
    | some o => some ⟨0x0106, [4, o]⟩
    | none =>
      match (y.reads.find? (fun (r : Addr × Nat) => !s.addrOk p.ctx r.1 r.2 false)).orElse (fun _ => y.writes.find? (fun (r : Addr × Nat) => !s.addrOk p.ctx r.1 r.2 true)) with
      | some r => some (badAddr r.1)
      | none => y.arrayFault.map (fun o => ⟨0x0106, [4, o]⟩)

/-- Preconditions 48 and 49. -/
def State.solveFits (s : State) (e : Env) : Option Rej :=
  let y := s.readSystem e
  let c := e.p.ctx
  let others := (s.eng.solves.filter (fun (x : Nat × SolveSys) => x.1 ≠ e.p.f 3 2 0 && s.resOf x.2.ctx = s.resOf c)).length
  let lane := match s.resOf c with
    | none => true
    | some r => y.hub && (match NMap.get? s.dom.reservations r with | some v => decide (others < v.systems) | none => false)
  let store := match y.hbm with
    | none => s.hubBanksOk c y.banks y.storeBytes
    | some a => s.hbmOk c a y.storeBytes true && s.hbmOk c a y.storeBytes false
  firstFail [(!lane, badState 48), (!store, badState 49)]

/-- SYS is configured by the issuing context (precondition 44). -/
def State.ownSystem (s : State) (p : Packet) : Option SolveSys :=
  match NMap.get? s.eng.solves (p.f 3 2 0) with
  | some y => if y.ctx = p.ctx then some y else none
  | none => none

def State.setSystem (s : State) (n : Nat) (f : SolveSys → SolveSys) : State := { s with eng := { s.eng with solves := NMap.upd s.eng.solves n f } }

/-- SOLVEs of a system in flight, oldest first. -/
def State.solvesOf (s : State) (n : Nat) : List OutPkt :=
  s.pkts.filter (fun o => o.pkt.opcode = 0x0711 && o.pkt.f 3 2 0 = n && o.job ≠ .held)

/-- A healthy pipe for system `n`: its own, or the lowest of an unconfigured system (R353, Table 15.11). -/
def State.freePipe (s : State) (n : Nat) : Option Nat :=
  let busy (k : Nat) : Bool := s.unitOut 0xD k || s.eng.solves.any (fun (x : Nat × SolveSys) => x.1 ≠ n && x.2.pipe = k && x.2.fenced.isNone)
  if !busy n then some n else (List.range 8).find? (fun k => !busy k && !NMap.has s.eng.solves k)

def State.putSystem (s : State) (e : Env) (create : Bool) : State :=
  let n := e.p.f 3 2 0
  let y := s.readSystem e
  if create && decide (8 ≤ s.eng.solves.length) then s.done e noSpace [0x23] else
  let y1 : SolveSys := match s.freePipe n with | some k => { y with pipe := k } | none => { y with fenced := some 1 }
  let s1 : State := { s with eng := { s.eng with solves := NMap.put s.eng.solves n y1 } }
  -- the manual does not say which MEAS_COUNT the reported bound takes
  let t := if (s.resOf e.p.ctx).isSome then y.bound (Config.freeNat s.free % (y.nParam + 1)) else 0xFFFFFFFF
  (s1.drawn 1).done e 0 [y.storeBytes, y.tAsm, t, 0]

def specSolveCreate : OpSpec where
  code := 0x0710
  masks := solveMasks
  params := fun e s => if e.p.f 3 31 30 = 3 then some (badParam 3) else s.solveParams e
  pre := fun e s => if NMap.has s.eng.solves (e.p.f 3 2 0) then some (badState 44) else s.solveFits e
  run := fun e s => s.putSystem e true

/-- SOLVE_CONFIG create reads the record and its arrays once (R355). -/
def execSolveConfigCreate (src : Src) (p : Packet) (s : State) : Res := .next (specSolveCreate.exec src (p.withField 3 31 30 0) s)

def specSolveReconfigure : OpSpec where
  code := 0x0710
  masks := solveMasks
  params := fun e s => s.solveParams e
  pre := fun e s =>
    if (s.ownSystem e.p).isNone then some (badState 44)
    else if !(s.solvesOf (e.p.f 3 2 0)).isEmpty then some (badState 47) else s.solveFits e
  run := fun e s => s.putSystem e false

/-- SOLVE_CONFIG reconfigure discards the warm start and the plan copy. -/
def execSolveConfigReconfigure (src : Src) (p : Packet) (s : State) : Res := .next (specSolveReconfigure.exec src (p.withField 3 31 30 1) s)

def specSolveDelete : OpSpec where
  code := 0x0710
  masks := solveMasks
  pre := fun e s =>
    if (s.ownSystem e.p).isNone then some (badState 44)
    else if !(s.solvesOf (e.p.f 3 2 0)).isEmpty then some (badState 47) else none
  run := fun e s => ({ s with eng := { s.eng with solves := NMap.del s.eng.solves (e.p.f 3 2 0) } }).done e

/-- SOLVE_CONFIG delete. -/
def execSolveConfigDelete (src : Src) (p : Packet) (s : State) : Res := .next (specSolveDelete.exec src (p.withField 3 31 30 2) s)

/-! ### The front stage -/

/-- A parameter: 0xFFFF stands for 1.0. -/
def param (ps : List Nat) (i : Nat) : Val := if i = 0xFFFF then Num.ofNat 1 else Num.dec32 (ps.getD i 0)

/-- Assembled value `k` of a class (R357): +0, then its term records in list order. -/
def SolveSys.assemble (y : SolveSys) (ps : List Nat) (c k : Nat) : Nat :=
  Num.enc32 ((y.terms.filter (fun t => bits t 63 61 = c && bits t 60 40 = k)).foldl (fun a t =>
    Num.fma32 (Num.mul32 (Num.dec32 (bits t 127 96)) (param ps (bits t 95 80))) (param ps (bits t 79 64)) a) Num.zero)

/-- All values of a class. -/
def SolveSys.values (y : SolveSys) (ps : List Nat) (c : Nat) : List Nat := (List.range (y.classCount c)).map (y.assemble ps c)

/-- An FP32 word as an FP64 word. -/
def widen (w : Nat) : Nat := Num.enc64 (Num.dec32 w)
def isNan (v : Val) : Bool := match v with | .nan => true | _ => false

/-- Bytes `b` to `b + 9` of an age header as a time; none for the value that stands for no age stamp (R565). -/
def ageOf (bs : List Byte) : Option Nat :=
  let sec := leNat (bs.take 6)
  let ns := leNat ((bs.drop 6).take 4)
  if sec = 0 && ns = 0xFFFFFFFF then none else some (sec * 10 ^ 9 + ns)

/-- An age header's 16 bytes, or the first ten of them, for a stamp. -/
def ageHeader (t : Option Nat) : List Byte :=
  match t with
  | some t => leBytes 6 (t / 10 ^ 9) ++ leBytes 4 (t % 10 ^ 9)
  | none => leBytes 6 0 ++ leBytes 4 0xFFFFFFFF

/-- AGE_S and AGE_N in a 64-byte header's top 80 bits (Table 14.8). -/
def ageBits (t : Option Nat) : Nat :=
  match t with
  | some t => t / 10 ^ 9 % 2 ^ 48 * 2 ^ 464 + t % 10 ^ 9 * 2 ^ 432
  | none => 0xFFFFFFFF * 2 ^ 432

/-- The older of two stamps, where there is one (R21, R565). -/
def older (a b : Option Nat) : Option Nat :=
  match a, b with | some x, some y => some (min x y) | some x, none => some x | none, b => b

/-! ### Linear solves -/

/-- Row `i` of a CSR matrix times a vector. -/
def rowDot (ptr idx vals x : List Nat) (i : Nat) : Nat :=
  let lo := ptr.getD i 0
  let n := ptr.getD (i + 1) 0 - lo
  Config.dot64 (((vals.drop lo).take n).map widen) (((idx.drop lo).take n).map (fun j => x.getD j 0))

/-- Transposed product, column `j` of a CSR matrix times a vector over its rows. -/
def colDot (ptr idx vals y : List Nat) (rows j : Nat) : Nat :=
  let es := (List.range rows).flatMap (fun i => ((List.range (ptr.getD (i + 1) 0 - ptr.getD i 0)).filterMap (fun k =>
    let p := ptr.getD i 0 + k
    if idx.getD p 0 = j then some (widen (vals.getD p 0), y.getD i 0) else none)))
  Config.dot64 (es.map (fun (e : Nat × Nat) => e.1)) (es.map (fun (e : Nat × Nat) => e.2))

/-- b − Kx, each operation rounded. -/
def SolveSys.residual (y : SolveSys) (kv b x : List Nat) : List Nat :=
  (List.range y.n).map (fun i => Num.enc64 (Num.sub64 (Num.dec64 (b.getD i 0)) (Num.dec64 (rowDot y.pPtr y.pIdx kv x i))))

/-- The end of a linear solve at `x`: outcome and relative residual (R360). -/
def SolveSys.close (y : SolveSys) (kv b : List Nat) (nb : Val) (steps inner : Nat) (x : List Nat) : Solution :=
  let nr := Num.dec64 (Config.norm64 (y.residual kv b x))
  { outcome := if Num.le nr (Num.mul64 (y.val 0) nb) then 0 else 1, refines := steps, inner := inner
    residual := Num.enc32 (Num.div64 nr nb), it := { x := x } }

/-- Refinement (R360): steps taken, inner iterations, x, r, and the outcome where it is settled. -/
def SolveSys.refine (y : SolveSys) (kv b : List Nat) (nb : Val) : Nat → Nat → Nat → List Nat → Solution
  | 0, steps, inner, x => y.close kv b nb steps inner x
  | fuel + 1, steps, inner, x =>
    let r := y.residual kv b x
    if Num.le (Num.dec64 (Config.norm64 r)) (Num.mul64 (y.val 0) nb) then y.close kv b nb steps inner x else
    let (k, bad, d) := Config.innerLinear [y.solver, y.precond, y.block, y.w 1, y.innerMax] (y.pPtr ++ y.pIdx) kv r
    let x1 := (x.zip d).map (fun (v : Nat × Nat) => Num.enc64 (Num.add64 (Num.dec64 v.1) (Num.dec64 v.2)))
    let inner1 := inner + min k y.innerMax
    if bad || x1.any (fun v => isNan (Num.dec64 v)) then { outcome := 2, refines := steps, inner := inner1 }
    else SolveSys.refine y kv b nb fuel (steps + 1) inner1 x1

/-- PCG and MINRES (R360). -/
def SolveSys.linear (y : SolveSys) (ps : List Nat) (warm : Option Iterates) : Solution :=
  let kv := y.values ps 0
  let b := (y.values ps 2).map widen
  let zero := List.replicate y.n 0
  -- block-Jacobi factors its blocks at assembly (R361)
  if y.precond = 2 && Config.pivotFails y.block (y.pPtr ++ y.pIdx) kv then { outcome := 2 }
  else if b.all (fun v => Num.isZero (Num.dec64 v)) then { it := { x := zero } }
  else y.refine kv b (Num.dec64 (Config.norm64 b)) y.refineMax 0 0 (match warm with | some w => w.x | none => zero)

/-! ### ADMM -/

/-- What an ADMM run carries from iteration to iteration: iterates, the last x-tilde, and x and y of the last check. -/
structure AdmmState where
  it : Iterates
  xt : List Nat
  xc : List Nat
  yc : List Nat
  inner : Nat

/-- The assembled data of a quadratic programme: values of P and A, and q, l, u. -/
structure QpData where
  pv : List Nat
  av : List Nat
  q : List Nat
  l : List Nat
  u : List Nat

/-- Largest magnitude of a vector of FP64 words. -/
def normInf (x : List Nat) : Val := Num.amax (x.map Num.dec64)

/-- One FP64 operation over two vectors. -/
def vec2 (f : Val → Val → Val) (a b : List Nat) : List Nat := (a.zip b).map (fun (v : Nat × Nat) => Num.enc64 (f (Num.dec64 v.1) (Num.dec64 v.2)))

/-- One ADMM iteration (R362); none on a breakdown or a NaN. -/
def SolveSys.iterate (y : SolveSys) (d : QpData) (a : AdmmState) : Option AdmmState :=
  let rho (i : Nat) : Val := if d.l.getD i 0 = d.u.getD i 0 then Num.mul64 (Num.ofNat 1000) (y.val 2) else y.val 2
  let eqs := (List.range y.m).map (fun i => (decide (d.l.getD i 0 = d.u.getD i 0)).toNat)
  let (k, bad, xt) := Config.innerAdmm ([y.precond, y.w 1, y.innerMax, y.w 2, y.w 3] ++ eqs) (y.pPtr ++ y.pIdx ++ y.aPtr ++ y.aIdx) (d.pv ++ d.av ++ d.q) (a.it.x ++ a.it.z ++ a.it.y ++ a.xt)
  let al := y.val 4
  let mix (p q : Val) : Val := Num.add64 (Num.mul64 al p) (Num.mul64 (Num.sub64 (Num.ofNat 1) al) q)
  let zt := (List.range y.m).map (rowDot y.aPtr y.aIdx d.av xt)
  let x1 := vec2 mix xt a.it.x
  let zh := vec2 mix zt a.it.z
  let z1 := (List.range y.m).map (fun i =>
    let v := Num.add64 (Num.dec64 (zh.getD i 0)) (Num.div64 (Num.dec64 (a.it.y.getD i 0)) (rho i))
    Num.enc64 (Num.minV (Num.maxV v (Num.dec32 (d.l.getD i 0))) (Num.dec32 (d.u.getD i 0))))
  let y1 := (List.range y.m).map (fun i => Num.enc64 (Num.add64 (Num.dec64 (a.it.y.getD i 0))
    (Num.mul64 (rho i) (Num.sub64 (Num.dec64 (zh.getD i 0)) (Num.dec64 (z1.getD i 0))))))
  if bad || (xt ++ x1 ++ z1 ++ y1).any (fun v => isNan (Num.dec64 v)) then none
  else some { a with it := { x := x1, z := z1, y := y1 }, xt := xt, inner := a.inner + min k y.innerMax }

/-- A check of the iterates (R363): the solution where it ends the run. -/
def SolveSys.check (y : SolveSys) (d : QpData) (a : AdmmState) (iter : Nat) : Option Solution :=
  let x := a.it.x
  let ax := (List.range y.m).map (rowDot y.aPtr y.aIdx d.av x)
  let px := (List.range y.n).map (rowDot y.pPtr y.pIdx d.pv x)
  let aty := (List.range y.n).map (colDot y.aPtr y.aIdx d.av a.it.y y.m)
  let q := d.q.map widen
  let tol (big : Val) : Val := Num.add64 (y.val 5) (Num.mul64 (y.val 6) big)
  let prim := normInf (vec2 Num.sub64 ax a.it.z)
  let dual := normInf (vec2 Num.add64 (vec2 Num.add64 px q) aty)
  let base : Solution := { inner := a.inner, outer := iter, residual := Num.enc32 prim, it := a.it }
  if Num.le prim (tol (Num.maxV (normInf ax) (normInf a.it.z))) && Num.le dual (tol (Num.maxV (Num.maxV (normInf px) (normInf aty)) (normInf q))) then some base
  else
    let dy := vec2 Num.sub64 a.it.y a.yc
    let dx := vec2 Num.sub64 x a.xc
    let small (w : List Nat) : Val := Num.mul64 (y.val 7) (normInf w)
    let pos (w : Nat) : Val := Num.maxV (Num.dec64 w) Num.zero
    let negp (w : Nat) : Val := Num.minV (Num.dec64 w) Num.zero
    -- terms of infinite bounds count as 0 where their factor is 0 and fail the test otherwise
    let terms := (List.range y.m).flatMap (fun i => [(Num.dec32 (d.u.getD i 0), pos (dy.getD i 0)), (Num.dec32 (d.l.getD i 0), negp (dy.getD i 0))])
    let fails := terms.any (fun (t : Val × Val) => !Num.isFinite t.1 && !Num.isZero t.2)
    let sum := Num.dec64 (Config.dot64 ((terms.filter (fun (t : Val × Val) => Num.isFinite t.1)).map (fun t => Num.enc64 t.1)) ((terms.filter (fun (t : Val × Val) => Num.isFinite t.1)).map (fun t => Num.enc64 t.2)))
    let atdy := (List.range y.n).map (colDot y.aPtr y.aIdx d.av dy y.m)
    if Num.le (normInf atdy) (small dy) && !fails && Num.lt sum (Num.neg (small dy)) then some { base with infeasible := some 1, cert := dy }
    else
      let pdx := (List.range y.n).map (rowDot y.pPtr y.pIdx d.pv dx)
      let adx := (List.range y.m).map (rowDot y.aPtr y.aIdx d.av dx)
      let rows := (List.range y.m).all (fun i =>
        let v := Num.dec64 (adx.getD i 0)
        let lf := Num.isFinite (Num.dec32 (d.l.getD i 0))
        let uf := Num.isFinite (Num.dec32 (d.u.getD i 0))
        (!lf || Num.le (Num.neg (small dx)) v) && (!uf || Num.le v (small dx)))
      if Num.le (normInf pdx) (small dx) && Num.lt (Num.dec64 (Config.dot64 q dx)) (Num.neg (small dx)) && rows then some { base with infeasible := some 2, cert := dx }
      else if iter = y.iterMax then some { base with outcome := 1 } else none

/-- ADMM iterations with a check after every CHECK_EVERY and after ITER_MAX (R363). -/
def SolveSys.admmRun (y : SolveSys) (d : QpData) : Nat → Nat → AdmmState → Solution
  | 0, iter, a => { outcome := 1, inner := a.inner, outer := iter, it := a.it }
  | fuel + 1, iter, a =>
    match y.iterate d a with
    | none => { outcome := 2, inner := a.inner, outer := iter }
    | some b =>
      if (iter + 1) % y.checkEvery = 0 || iter + 1 = y.iterMax then
        match y.check d b (iter + 1) with
        | some r => r
        | none => SolveSys.admmRun y d fuel (iter + 1) { b with xc := b.it.x, yc := b.it.y }
      else SolveSys.admmRun y d fuel (iter + 1) b

/-- One SOLVE of the working parameters (R357 to R363). -/
def SolveSys.solve (y : SolveSys) (ps : List Nat) (warm : Bool) : Solution :=
  let d : QpData := { pv := y.values ps 0, av := y.values ps 1, q := y.values ps 2, l := y.values ps 3, u := y.values ps 4 }
  let bad := (d.pv ++ d.av ++ d.q).any (fun w => !Num.isFinite (Num.dec32 w)) || (d.l ++ d.u).any (fun w => isNan (Num.dec32 w))
  if bad then { outcome := 2 }
  else match (List.range y.m).find? (fun i => Num.lt (Num.dec32 (d.u.getD i 0)) (Num.dec32 (d.l.getD i 0))) with
    | some i => { infeasible := some 3, row := i }
    | none =>
      let w := if warm then y.warm else none
      if !y.admm then y.linear ps w else
      let it := w.getD { x := List.replicate y.n 0, z := List.replicate y.m 0, y := List.replicate y.m 0 }
      y.admmRun d y.iterMax 0 { it := it, xt := List.replicate y.n 0, xc := it.x, yc := it.y, inner := 0 }

/-! ### SOLVE -/

/-- A hub-port range of a context, or an HBM region of it (R340, R358). -/
def State.inputOk (s : State) (c a n : Nat) : Bool :=
  match place a with
  | .hbm _ _ => s.hbmOk c a n false
  | .hub _ => s.served a n && s.portsOk c a n [5]
  | _ => false

/-- The measurement block of a SOLVE. -/
def measAddr (p : Packet) : Addr := p.word 4 + p.f 5 15 0 * 2 ^ 32

/-- Something is poisoned in a system's store. -/
def State.storePoison (s : State) (y : SolveSys) : Bool :=
  let rs : List (Addr × Nat) := match y.hbm with | some a => [(a, y.storeBytes)] | none => (maskList 16 y.banks).map (fun b => (hubBase + b * 0x200000, 0x200000))
  s.ms.poison.any (fun u => rs.any (fun (r : Addr × Nat) => overlap u (eccSize u) r.1 r.2))

def specSolve : OpSpec where
  code := 0x0711
  masks := fun _ => [fm [(31, 31), (2, 0)], full, full, fm [(15, 0)]]
  params := fun e s =>
    let p := e.p
    let k := p.f 5 31 16
    let np := match NMap.get? s.eng.solves (p.f 3 2 0) with | some y => y.nParam | none => 0xFFFFFFFF
    firstFail [(measAddr p % 64 ≠ 0 || (k = 0 && p.word 4 ≠ 0), badParam 4), (k = 0 && p.f 5 15 0 ≠ 0, badParam 5), (decide (np < p.f 6 15 0 + k), badParam 6),
      (k ≠ 0 && !s.inputOk p.ctx (measAddr p) (64 + 4 * k), badAddr (measAddr p))]
  pre := fun e s =>
    match s.ownSystem e.p with
    | none => some (badState 44)
    | some y => if !y.valid then some (badState 45) else if y.usePlan && !y.planned then some (badState 46) else none
  run := fun e s =>
    let n := e.p.f 3 2 0
    match NMap.get? s.eng.solves n with
    | none => s
    | some y =>
      -- a pipe takes one SOLVE at a time, in the order they reach it (R366)
      if (s.solvesOf n).any (fun o => decide (o.id < e.id)) then s.setJob e.id (.waits .retry)
      else match y.fenced with
      | some c => s.done e fenced [0xD, y.pipe, c, 0]
      | none =>
        if s.storePoison y then (s.setSystem n (fun y => { y with valid := false })).done e fenced (dataLossDetails e.p.ctx)
        else
          let k := e.p.f 5 31 16
          let a := measAddr e.p
          let meas := s.words (a + 64) k
          let b := e.p.f 6 15 0
          let ps := (List.range y.nParam).map (fun i => if b ≤ i && i < b + k then meas.getD (i - b) 0 else y.params.getD i 0)
          let stamp := older (if k = 0 then none else ageOf (s.load a 16)) (if y.usePlan then y.planStamp else none)
          let r := { y.solve ps (e.p.b 3 31) with stamp := stamp }
          let live (i : Nat) : Bool := (s.pkt? i).isSome
          let s1 := s.setSystem n (fun y => { y with found := NMap.put (y.found.filter (fun (x : Nat × Solution) => live x.1)) e.id r })
          s1.startWork e { reads := if k = 0 then [] else [(a, 64 + 4 * k)], after := [.solve n e.id] }

/-- SOLVE assembles and solves the system; its results follow at its commit point (R365). -/
def execSolve (src : Src) (p : Packet) (s : State) : Res := .next (specSolve.exec src p s)

/-- Bytes of a vector in FP32 or FP64. -/
def vecBytes (wide : Bool) (v : List Nat) : List Byte := v.flatMap (fun w => if wide then leBytes 8 w else leBytes 4 (Num.enc32 (Num.dec64 w)))

/-- Commit what packet `pkt` found for system `n` (R364, R365): the status and details of its reply. -/
def State.commitSolve (s : State) (n pkt : Nat) : State × Nat × List Nat :=
  match NMap.get? s.eng.solves n, s.pkt? pkt with
  | some y, some o =>
    match NMap.get? y.found pkt with
    | none => (s, 0, [])
    | some r =>
      let time := (s.time.tick - o.start) * 4
      let clean (y : SolveSys) : SolveSys := { y with found := NMap.del y.found pkt }
      match r.infeasible with
      | some k =>
        let cert := y.h 175 128
        let hdr := leBytes 4 k ++ leBytes 4 o.pkt.reqTag ++ ageHeader r.stamp ++ leBytes 2 0 ++ (if k = 3 then leBytes 4 r.row else leBytes 4 0) ++ List.replicate 40 0
        let s1 := ((s.setSystem n clean).store cert (hdr ++ vecBytes true r.cert)).bump 7 0 0 4 1
        (s1, 0x0306, [cert % 2 ^ 32, k * 2 ^ 16 + cert / 2 ^ 32, r.outer, time])
      | none =>
        let d0 := r.outcome * 2 ^ 28 + r.refines * 2 ^ 24 + r.inner % 2 ^ 24
        if r.outcome = 2 then
          -- no residual is stated for a breakdown
          (((s.setSystem n clean).bump 7 0 0 4 1).drawn 1, 0, [d0, r.outer * 2 ^ 16 + 0xFFFF, (Config.freeWord s.free).toNat, time])
        else
          let seq := y.seq + 1
          let slot := seq % y.outSlots
          let base := y.h 223 176 + slot * y.slotBytes
          let hdr := leBytes 64 (ageBits r.stamp + seq % 2 ^ 32 * 2 ^ 400 + d0 * 2 ^ 368)
          let body := vecBytes (y.g 370 370 = 1) (r.it.x ++ (if y.admm then r.it.y else []))
          let s1 := (s.store base (hdr ++ body)).stampWrite base (hdr ++ body).length r.stamp
          let hand := r.outcome = 0 || y.g 371 371 = 1
          let stream := y.g 361 354
          let entries := (List.range (y.g 369 362)).map (fun i => leNat ((y.record.drop (192 + 16 * i)).take 16))
          let sp (t : Nat) : Nat := Num.enc32 (Num.add (Num.dec32 (bits t 63 32)) (Num.mul (Num.dec32 (bits t 95 64)) (Num.dec64 (r.it.x.getD (bits t 120 104) 0))))
          let s2 := if hand then s1.ageResult stream r.stamp (wordBytes (entries.map sp)) else s1
          let (s3, skipped) := if hand then entries.foldl (fun (a : State × Nat) t =>
              let z := a.1.handOff y.ctx stream (bits t 127 121) (sp t)
              (z.1, a.2 + (!z.2).toNat)) (s2, 0) else (s2, 0)
          let s4 := s3.setSystem n (fun y => { clean y with seq := seq, warm := some r.it, skipped := y.skipped + skipped })
          -- with b = 0 the quotient of the norms is not stated
          let res := if !y.admm && r.refines = 0 && r.inner = 0 && r.residual = 0 then (Config.freeWord s4.free).toNat else r.residual
          ((s4.drawn 1).bump 7 0 0 (2 + r.outcome) 1, 0, [d0, r.outer * 2 ^ 16 + slot, res, time])
  | _, _ => (s, 0, [])

/-- A planner hand-off (R358): trajectory and stopping manoeuvre, as seven words a sample, go into the parameters of a system that takes plans. -/
def State.planHandOff (s : State) (c n : Nat) (traj stop : List (List Nat)) (stopActive : Bool) (stamp : Option Nat) : State :=
  match NMap.get? s.eng.solves n with
  | none => s
  | some y =>
    if !y.usePlan then s
    else if y.ctx ≠ c || y.nParam ≤ y.planBase + 16 * traj.length then s.logIt .refused 0x0701 n
    else
      let ws := (traj ++ stop).flatMap (fun x => x.take 7 ++ [0]) ++ [if stopActive then 0x3F800000 else 0]
      s.setSystem n (fun y => { y with
        params := (List.range y.nParam).map (fun i => if y.planBase ≤ i && i < y.planBase + ws.length then ws.getD (i - y.planBase) 0 else y.params.getD i 0)
        planned := true, planStamp := stamp })

/-- A solve pipe fails: 1 self-test, 2 uncorrectable error. It is fenced, the SOLVE on it ends FENCED, and its system moves to the lowest free pipe of an
unconfigured system, or stays fenced, which raises cause 2 for a fixed-lane system (Table 15.11). -/
def execSolvePipeFault (pipe cause : Nat) (s : State) : Res :=
  .next <| s.whileUp <|
    if 8 ≤ pipe || cause = 0 || 2 < cause || s.unitOut 0xD pipe then s else
    let s1 : State := { s with spl := { s.spl with out := s.spl.out ++ [unitKey 0xD pipe] } }
    match s.eng.solves.find? (fun (x : Nat × SolveSys) => x.2.pipe = pipe && x.2.fenced.isNone) with
    | none => s1.fence 0 0 0 0xD pipe cause
    | some (n, y) =>
      let s2 := s1.fence 0 0 y.ctx 0xD pipe cause
      let s3 := match (s2.solvesOf n).find? (fun o => match o.job with | .work _ => true | _ => false) with
        | some o => s2.finish o.id fenced [0xD, pipe, cause, 0]
        | none => s2
      match (List.range 8).find? (fun k => !s3.unitOut 0xD k && !NMap.has s3.eng.solves k && !(s3.eng.solves.any (fun (x : Nat × SolveSys) => x.2.pipe = k))) with
      | some k => s3.setSystem n (fun y => { y with pipe := k })
      | none =>
        let s4 := s3.setSystem n (fun y => { y with fenced := some cause })
        if s4.isFixed y.ctx then s4.raise 2 else s4

end Sys2Proof.Machine
end

