-- ==== Sys2Proof/Machine/Planner.lean ====
section
/-! DEFINITION. The skein planner (chapter 14): configurations (R333 to R335), the map (R336 to R339), cycles (R340 to R347), repair (R348), the
deviation check (R349). The geometry that the manual states without a formula is opaque (Config). A configuration is keyed by its context. -/

namespace Sys2Proof.Machine

open Sys2Proof.Num (Val)

/-! ### The record -/

def PlanConfig.h (g : PlanConfig) (hi lo : Nat) : Nat := bits (leNat (g.record.take 64)) hi lo
/-- FP32 value `i` from byte 64 on: V_MAX, A_MAX, D_MAX, A_LAT, J_MAX, W_MAX, A_STOP, MARGIN, CLEAR_M, LAT_STEP, W_PROG, W_LAT, W_CURV, W_ACC, W_JERK,
W_CLEAR, W_SUP, DEV_POS, DEV_YAW, DEV_V (Table 14.3). -/
def PlanConfig.w (g : PlanConfig) (i : Nat) : Nat := leNat ((g.record.drop (64 + 4 * i)).take 4)
def PlanConfig.val (g : PlanConfig) (i : Nat) : Val := Num.dec32 (g.w i)
def PlanConfig.nx (g : PlanConfig) : Nat := g.h 383 375 + 1
def PlanConfig.ny (g : PlanConfig) : Nat := g.h 374 366 + 1
def PlanConfig.nz (g : PlanConfig) : Nat := g.h 365 360 + 1
def PlanConfig.samples (g : PlanConfig) : Nat := 16 * (g.h 359 357 + 1)
def PlanConfig.cands (g : PlanConfig) : Nat := 256 * (g.h 356 352 + 1)
def PlanConfig.dtUs (g : PlanConfig) : Nat := g.h 351 336
def PlanConfig.gens (g : PlanConfig) : Nat := (g.h 335 330 + 1) * (g.h 329 325 + 1)
def PlanConfig.seeds (g : PlanConfig) : Nat := g.h 324 318
def PlanConfig.boxes (g : PlanConfig) : Nat := g.h 317 315 + 1
def PlanConfig.smooth (g : PlanConfig) : Nat := g.h 314 311
def PlanConfig.solveSys (g : PlanConfig) : Nat := g.h 310 307
def PlanConfig.stream (g : PlanConfig) : Nat := g.h 306 299
def PlanConfig.slots (g : PlanConfig) : Nat := g.h 298 295 + 1
def PlanConfig.repairW (g : PlanConfig) : Nat := g.h 294 290
def PlanConfig.primMax (g : PlanConfig) : Nat := g.h 289 277
def PlanConfig.ring (g : PlanConfig) : Nat := g.h 255 208
def PlanConfig.slotBytes (g : PlanConfig) : Nat := 64 + 64 * g.samples

/-- FP16 value `j` (HL, HW, Z_LO, Z_HI) and FP32 value `j` (CX, CY) of footprint box `b`. -/
def PlanConfig.box16 (g : PlanConfig) (b j : Nat) : Val := Num.decode Num.fp16 (leNat ((g.record.drop (168 + 16 * b + 2 * j)).take 2))
def PlanConfig.box32 (g : PlanConfig) (b j : Nat) : Val := Num.dec32 (leNat ((g.record.drop (160 + 16 * b + 4 * j)).take 4))

/-- The square of R_FP (R335), taken in the plane in which W_MAX turns the vehicle. -/
def PlanConfig.reach2 (g : PlanConfig) : Val :=
  (List.range g.boxes).foldl (fun a b =>
    let x := Num.add (Num.abs (g.box32 b 0)) (Num.abs (g.box16 b 0))
    let y := Num.add (Num.abs (g.box32 b 1)) (Num.abs (g.box16 b 1))
    Num.maxV a (Num.add (Num.mul x x) (Num.mul y y))) Num.zero

/-- (V_MAX + R_FP × W_MAX) × DT is at most `q` × CELL / 2, exactly. -/
def PlanConfig.substepsOk (g : PlanConfig) (q : Nat) : Bool :=
  let left := Num.sub (Num.mul (Num.scale (-1) (g.val 20)) (Num.ofNat (q * 1000000))) (Num.mul (g.val 0) (Num.ofNat g.dtUs))
  let turn := Num.mul (g.val 5) (Num.ofNat g.dtUs)
  Num.le Num.zero left && Num.le (Num.mul g.reach2 (Num.mul turn turn)) (Num.mul left left)

/-- The record with CELL beside the other FP32 values, as value 20. -/
def PlanConfig.withCell (g : PlanConfig) : PlanConfig := { g with record := g.record.take 144 ++ leBytes 4 (g.h 511 480) ++ g.record.drop 148 }

/-- Sub-steps Q (R335); none above 16. -/
def PlanConfig.substeps (g : PlanConfig) : Option Nat := ((List.range 16).map (· + 1)).find? g.withCell.substepsOk

/-- A full stop, jerk ramp included, stays inside the horizon (R335). -/
def PlanConfig.stopFits (g : PlanConfig) : Bool :=
  let a := g.val 6
  let j := g.val 4
  Num.le (Num.mul (Num.add (Num.mul (g.val 0) j) (Num.mul a a)) (Num.ofNat 1000000)) (Num.mul (Num.ofNat ((g.samples - 1) * g.dtUs)) (Num.mul a j))

/-- Faults of a plan record with the byte offset of each field (Tables 14.2, 14.3). -/
def PlanConfig.faults (g : PlanConfig) : List (Bool × Nat) :=
  let cell := Num.dec32 (g.h 511 480)
  let pos (i : Nat) : Bool := Num.isFinite (g.val i) && Num.lt Num.zero (g.val i)
  let nn (i : Nat) : Bool := Num.isFinite (g.val i) && Num.le Num.zero (g.val i)
  ([ (g.ring % 64 ≠ 0, 26), (decide (4096 < g.primMax), 34), (decide (g.repairW < 2), 36), (g.slots = 1, 36), (decide (8 ≤ g.solveSys && g.solveSys ≤ 14), 38),
     (decide (64 < g.seeds), 39), (decide (g.dtUs < 1000), 42), (!(Num.le (Num.ofNat 1) (Num.mul cell (Num.ofNat 20)) && Num.le cell (Num.ofNat 2)), 60) ] : List (Bool × Nat))
  ++ (List.range 7).map (fun i => (!pos i || (i = 6 && !Num.le (g.val 6) (g.val 2)), 64 + 4 * i))
  ++ [(!nn 7, 92), (!(nn 8 && Num.le (g.val 7) (g.val 8)), 96)]
  ++ (List.range 7).map (fun i => (!nn (10 + i), 104 + 4 * i))

/-- Bytes of the planner store, B_S (R334). -/
def PlanConfig.storeBytes (g : PlanConfig) : Nat :=
  2 * ceilDiv (g.nx * g.ny * g.nz * 9) 64 + 64 * g.primMax + 5 * (64 + 1088 * g.samples)

/-- u of Table 14.9 for `q` sub-steps; T_P for a number of slices and T_R, in ns. -/
def PlanConfig.stepNs (g : PlanConfig) (q : Nat) : Nat := 6 + q * (4 + g.boxes * (64 + ceilDiv g.primMax 4))
def PlanConfig.cycleNs (g : PlanConfig) (q slices : Nat) : Nat :=
  3500 + (ceilDiv g.cands (256 * slices) * g.samples + g.smooth + 1) * g.stepNs q + 4 * g.samples
def PlanConfig.repairNs (g : PlanConfig) (q : Nat) : Nat := 1000 + (2 * g.repairW + 3) * g.stepNs q + 4 * g.samples

/-! ### PLAN_CONFIG -/

def planMasks (p : Packet) : List Nat := fm [(31, 30)] :: (if p.f 3 31 30 = 2 then [] else [full, full])

/-- The configuration that a PLAN_CONFIG packet and its record spell. -/
def State.readPlan (s : State) (e : Env) : PlanConfig :=
  let a := e.p.addr 4
  { ctx := e.p.ctx, opener := e.bob, record := s.load a (160 + 16 * (bits (leNat (s.load a 64)) 317 315 + 1)), banks := e.p.f 5 31 16 }

def State.planParams (s : State) (e : Env) : Option Rej :=
  let a := e.p.addr 4
  let g := s.readPlan e
  match firstFail [(a % 64 ≠ 0, badParam 4), (!s.addrOk e.p.ctx a 160 false, badAddr a), (!s.addrOk e.p.ctx a g.record.length false, badAddr a)] with
  | some r => some r
  | none =>
    match ((g.faults.filter (fun (x : Bool × Nat) => x.1)).map (fun (x : Bool × Nat) => x.2)).foldl
        (fun (m : Option Nat) o => match m with | none => some o | some b => some (min b o)) none with
    | some o => some ⟨0x0106, [4, o]⟩
    | none =>
      -- the manual names no field for the conditions of R335
      if g.substeps.isNone || decide (g.cands < g.gens + g.seeds) || !g.stopFits then some ⟨0x0106, [4, (Config.freeWord s.free).toNat]⟩
      else if !s.addrOk e.p.ctx g.ring (g.slotBytes * g.slots) true then some (badAddr g.ring) else none

/-- Slices of a context's reservation. -/
def State.planShare (s : State) (c : Nat) : Option Nat :=
  match s.resOf c with
  | some r => (match NMap.get? s.dom.reservations r with | some v => some v.planShare | none => some 0)
  | none => none

/-- Preconditions 41 and 43. -/
def State.planFits (s : State) (e : Env) : List (Bool × Rej) :=
  let g := s.readPlan e
  [(match s.planShare e.p.ctx with | some k => decide (256 * k < g.cands) | none => false, badState 41)]

def State.planBanks (s : State) (e : Env) : Bool × Rej :=
  (!s.hubBanksOk e.p.ctx (e.p.f 5 31 16) (s.readPlan e).storeBytes, badState 43)

/-- Started planner packets of a context, oldest first. -/
def State.plannerOf (s : State) (c : Nat) : List OutPkt :=
  s.pkts.filter (fun o => (o.pkt.opcode = 0x0701 || o.pkt.opcode = 0x0702) && o.pkt.ctx = c && o.job ≠ .held)

def State.setPlan (s : State) (c : Nat) (f : PlanConfig → PlanConfig) : State := { s with eng := { s.eng with plans := NMap.upd s.eng.plans c f } }

/-- Drafts of a context hold no shadow plan set from now on: their configuration is new or gone. -/
def State.dropShadows (s : State) (c : Nat) : State :=
  { s with dr := { s.dr with drafts := s.dr.drafts.map (fun d => if d.ctx = c && d.node.isNone then { d with plans := [] } else d) } }

def State.putPlan (s : State) (e : Env) (create : Bool) : State :=
  let g := s.readPlan e
  if create && decide (8 ≤ s.eng.plans.length) then s.done e noSpace [0x21] else
  let q := g.substeps.getD 16
  let s1 : State := { s with eng := { s.eng with plans := NMap.put s.eng.plans e.p.ctx g } }
  (s1.dropShadows e.p.ctx).done e 0 (match s.planShare e.p.ctx with
    | some k => [g.storeBytes, q, g.cycleNs q k, g.repairNs q]
    | none => [g.storeBytes, q, 0xFFFFFFFF, 0xFFFFFFFF])

def specPlanCreate : OpSpec where
  code := 0x0700
  masks := planMasks
  params := fun e s => if e.p.f 3 31 30 = 3 then some (badParam 3) else s.planParams e
  pre := fun e s => firstFail ((NMap.has s.eng.plans e.p.ctx, badState 39) :: (s.planFits e ++ [s.planBanks e]))
  run := fun e s => s.putPlan e true

/-- PLAN_CONFIG create reads the plan record once (R333). -/
def execPlanConfigCreate (src : Src) (p : Packet) (s : State) : Res := .next (specPlanCreate.exec src (p.withField 3 31 30 0) s)

def specPlanReconfigure : OpSpec where
  code := 0x0700
  masks := planMasks
  params := fun e s => s.planParams e
  pre := fun e s => firstFail ((!NMap.has s.eng.plans e.p.ctx, badState 39) :: (s.planFits e ++ [(!(s.plannerOf e.p.ctx).isEmpty, badState 42), s.planBanks e]))
  run := fun e s => s.putPlan e false

/-- PLAN_CONFIG reconfigure keeps nothing of the old map or plan sets (R333). -/
def execPlanConfigReconfigure (src : Src) (p : Packet) (s : State) : Res := .next (specPlanReconfigure.exec src (p.withField 3 31 30 1) s)

/-- A configuration goes, with its shadow plan sets. -/
def State.dropPlan (s : State) (c : Nat) : State := ({ s with eng := { s.eng with plans := NMap.del s.eng.plans c } } : State).dropShadows c

def specPlanDelete : OpSpec where
  code := 0x0700
  masks := planMasks
  pre := fun e s => firstFail [(!NMap.has s.eng.plans e.p.ctx, badState 39), (!(s.plannerOf e.p.ctx).isEmpty, badState 42)]
  run := fun e s => (s.dropPlan e.p.ctx).done e

/-- PLAN_CONFIG delete. -/
def execPlanConfigDelete (src : Src) (p : Packet) (s : State) : Res := .next (specPlanDelete.exec src (p.withField 3 31 30 2) s)

/-! ### The map -/

/-- Number of voxel (x, y, z). -/
def PlanConfig.voxel (g : PlanConfig) (x y z : Nat) : Nat := (z * g.ny + y) * g.nx + x

/-- Whether a voxel is occupied; space outside the grid counts as occupied (R336). -/
def PlanConfig.occupied (g : PlanConfig) (m : PlanMap) (x y z : Int) : Bool :=
  if x < 0 || y < 0 || z < 0 || decide ((g.nx : Int) ≤ x) || decide ((g.ny : Int) ≤ y) || decide ((g.nz : Int) ≤ z) then true
  else m.voxels.contains (g.voxel x.toNat y.toNat z.toNat)

/-- Indices `lo` to `hi`. -/
def span (lo hi : Int) : List Int := (List.range (hi - lo + 1).toNat).map (fun (i : Nat) => lo + (i : Int))

/-- Pyramid level at which a box of voxel indices spans at most two cells on each axis (R339). -/
def boxLevel (b : List Int) : Nat → Nat → Nat
  | 0, l => l
  | fuel + 1, l =>
    let cell (i : Nat) : Int := (b.getD i 0) / ((2 ^ l : Nat) : Int)
    if cell 1 - cell 0 ≤ 1 && cell 3 - cell 2 ≤ 1 && cell 5 - cell 4 ≤ 1 then l else boxLevel b fuel (l + 1)

/-- The voxel query of a footprint box (R339): whether any pyramid cell that its bounding box reads is occupied. A cell is occupied when any voxel
beneath it is, voxels outside the grid included. -/
def PlanConfig.hitsVoxel (g : PlanConfig) (m : PlanMap) (b : List Int) : Bool :=
  let n : List Int := [(g.nx : Int), (g.ny : Int), (g.nz : Int)]
  if (List.range 3).any (fun i => decide (b.getD (2 * i) 0 < 0) || decide (n.getD i 0 ≤ b.getD (2 * i + 1) 0)) then true
  else
    let k : Int := ((2 ^ boxLevel b 10 0 : Nat) : Int)
    let cells (i : Nat) : List Int := span (b.getD (2 * i) 0 / k * k) (b.getD (2 * i + 1) 0 / k * k + k - 1)
    (cells 2).any (fun z => (cells 1).any (fun y => (cells 0).any (fun x => g.occupied m x y z)))

/-- A pose at device time `t` meets the map with its footprint inflated by an FP32 word (R339). -/
def PlanConfig.collides (g : PlanConfig) (m : PlanMap) (infl t : Nat) (pose : List Nat) : Bool :=
  (List.range g.boxes).any (fun b => g.hitsVoxel m (Config.planBounds g.record pose b infl)
    || m.prims.any (fun p => Config.planMeets g.record pose b infl p.record (p.stamp.map (fun u => (t : Int) - (u : Int)))))

/-- Field of a record of Table 14.5. -/
def recOp (r : Nat) : Nat := bits r 255 253
def recBox (r : Nat) : List Nat := [bits r 239 231, bits r 207 199, bits r 230 222, bits r 198 190, bits r 221 216, bits r 189 184]
/-- A record of Table 14.5 is well formed: its operation, its primitive ID, its index order. -/
def recOk (r : Nat) : Bool :=
  let b := recBox r
  match recOp r with
  | 0 => decide (bits r 252 240 ≤ 4095)
  | 1 => decide (bits r 252 240 ≤ 4095)
  | 2 => decide (b.getD 0 0 ≤ b.getD 1 0 && b.getD 2 0 ≤ b.getD 3 0 && b.getD 4 0 ≤ b.getD 5 0)
  | 3 => decide (b.getD 0 0 ≤ b.getD 1 0 && b.getD 2 0 ≤ b.getD 3 0 && b.getD 4 0 ≤ b.getD 5 0)
  | 4 => decide (bits r 252 240 ≤ 4095)
  | _ => false

/-- Apply one record (Table 14.5, R337). -/
def PlanConfig.applyRec (g : PlanConfig) (stamp : Option Nat) (m : PlanMap) (r : Nat) : PlanMap :=
  let id := bits r 252 240
  let others := m.prims.filter (fun p => p.id ≠ id)
  let b := recBox r
  let inBox (v : Nat) : Bool :=
    let x := v % g.nx
    let y := v / g.nx % g.ny
    let z := v / (g.nx * g.ny)
    decide (b.getD 0 0 ≤ x && x ≤ b.getD 1 0 && b.getD 2 0 ≤ y && y ≤ b.getD 3 0 && b.getD 4 0 ≤ z && z ≤ b.getD 5 0)
  match recOp r with
  | 2 => { m with voxels := (List.range (g.nx * g.ny * g.nz)).filter (fun v => inBox v || m.voxels.contains v) }
  | 3 => { m with voxels := m.voxels.filter (fun v => !inBox v) }
  | 4 => { m with prims := others }
  | _ => { m with prims := others ++ [⟨id, r, stamp⟩] }

/-- Apply records in order; none where a put would raise the count above PRIM_MAX (R337). -/
def PlanConfig.applyRecs (g : PlanConfig) (stamp : Option Nat) : PlanMap → List Nat → Option PlanMap
  | m, [] => some m
  | m, r :: rest =>
    let m1 := g.applyRec stamp m r
    if g.primMax < m1.prims.length then none else PlanConfig.applyRecs g stamp m1 rest

/-- Byte offset of the records in a map block, and the block's bytes (R337). -/
def PlanConfig.recOffset (g : PlanConfig) (replace : Bool) : Nat := if replace then 64 + ceilDiv (ceilDiv (g.nx * g.ny * g.nz) 8) 64 * 64 else 64
def PlanConfig.blockBytes (g : PlanConfig) (p : Packet) : Nat := g.recOffset (p.f 3 31 30 = 0) + 32 * p.f 5 31 16

/-- Records of a map block. -/
def State.mapRecs (s : State) (g : PlanConfig) (p : Packet) : List Nat :=
  (List.range (p.f 5 31 16)).map (fun i => s.loadNat (p.addr 4 + g.recOffset (p.f 3 31 30 = 0) + 32 * i) 32)

def mapMasks : Packet → List Nat := fun _ => [fm [(31, 30)], full, full]

def mapParams (e : Env) (s : State) : Option Rej :=
  let p := e.p
  let a := p.addr 4
  let k := p.f 5 31 16
  let op := p.f 3 31 30
  let g? := NMap.get? s.eng.plans p.ctx
  let badCount := if op = 0 then (match g? with | some g => decide (g.primMax < k) | none => false) else k = 0 || decide (8192 < k)
  let n := match g? with | some g => g.blockBytes p | none => 64
  firstFail [(decide (2 ≤ op), badParam 3), (a % 64 ≠ 0, badParam 4), (badCount, badParam 5), (!s.inputOk p.ctx a n, badAddr a),
    (match g? with | some g => !(s.mapRecs g p).all recOk | none => false, badParam 4)]

/-- MAP_UPDATE builds the change in the inactive copy (R336, R337); the swap is its commit point. -/
def runMap (e : Env) (s : State) : State :=
  let p := e.p
  match NMap.get? s.eng.plans p.ctx with
  | none => s
  | some g =>
    -- one PLAN_CYCLE or MAP_UPDATE at a time, in the order they reach it (R340)
    if (s.plannerOf p.ctx).any (fun o => decide (o.id < e.id)) then s.setJob e.id (.waits .retry) else
    let replace : Bool := p.f 3 31 30 = 0
    let a := p.addr 4
    let stamp := ageOf (s.load a 16)
    let n := g.nx * g.ny * g.nz
    let base : PlanMap := if replace
      then { voxels := (List.range n).filter (fun v => (memGet s.mem (a + 64 + v / 8)).getLsbD (v % 8)), prims := [], stamp := stamp, version := g.map.version }
      else { g.map with stamp := older g.map.stamp stamp }
    match g.applyRecs stamp base (s.mapRecs g p) with
    | none => s.done e noSpace [0x22]
    | some m =>
      let live (i : Nat) : Bool := (s.pkt? i).isSome
      let s1 := s.setPlan p.ctx (fun g => { g with maps := NMap.put (g.maps.filter (fun (x : Nat × PlanMap) => live x.1)) e.id m })
      s1.startWork e { reads := [(a, g.blockBytes p)], after := [.mapSwap p.ctx e.id] }

def specMapReplace : OpSpec where
  code := 0x0702
  masks := mapMasks
  params := mapParams
  pre := fun e s => if NMap.has s.eng.plans e.p.ctx then none else some (badState 39)
  run := runMap

/-- MAP_UPDATE REPLACE builds a whole new map. -/
def execMapUpdateReplace (src : Src) (p : Packet) (s : State) : Res := .next (specMapReplace.exec src (p.withField 3 31 30 0) s)

def specMapPatch : OpSpec where
  code := 0x0702
  masks := mapMasks
  params := mapParams
  pre := fun e s => match NMap.get? s.eng.plans e.p.ctx with
    | none => some (badState 39)
    | some g => if g.ready then none else some (badState 40)
  run := runMap

/-- MAP_UPDATE PATCH changes a copy of the active map. -/
def execMapUpdatePatch (src : Src) (p : Packet) (s : State) : Res := .next (specMapPatch.exec src (p.withField 3 31 30 1) s)

/-! ### Poses and costs -/

/-- Device time of sub-step `q` after sample `i` of a path that starts at `t0`. -/
def PlanConfig.poseTime (g : PlanConfig) (t0 i q : Nat) : Nat := t0 + i * g.dtUs * 1000 + q * g.dtUs * 1000 / g.substeps.getD 16

/-- Whether any checked pose of sample `i` collides at an inflation (R335, R339). -/
def PlanConfig.sampleHits (g : PlanConfig) (m : PlanMap) (infl t0 : Nat) (path : List (List Nat)) (i : Nat) : Nat :=
  ((List.range (g.substeps.getD 16)).filter (fun q => g.collides m infl (g.poseTime t0 i q) (Config.planPose g.record path i q))).length

/-- First sample of a path with a pose that collides at MARGIN. -/
def PlanConfig.firstHit (g : PlanConfig) (m : PlanMap) (t0 : Nat) (path : List (List Nat)) : Option Nat :=
  (List.range g.samples).find? (fun i => g.sampleHits m (g.w 7) t0 path i ≠ 0)

def sq32 (v : Val) : Val := Num.mul32 v v
/-- Word `j` of sample `i` as a value. -/
def smp (path : List (List Nat)) (i j : Nat) : Val := Num.dec32 ((path.getD i []).getD j 0)

/-- A sample keeps the machine's limits (R342). -/
def PlanConfig.within (g : PlanConfig) (path : List (List Nat)) (i : Nat) : Bool :=
  let v := smp path i 3
  let a := smp path i 4
  !(Num.lt (g.val 0) (Num.abs v) || Num.lt (g.val 1) a || Num.lt a (Num.neg (g.val 2)) || Num.lt (g.val 3) (Num.abs (Num.mul32 (sq32 v) (smp path i 5))))

def posInf : Nat := 0x7F800000

/-- Cost of a candidate as an FP32 word (R342): each operation rounded, in the written order. -/
def PlanConfig.cost (g : PlanConfig) (m : PlanMap) (t0 : Nat) (ref : List Byte) (path : List (List Nat)) (sup : Nat) : Nat :=
  if (g.firstHit m t0 path).isSome || !(List.range g.samples).all (g.within path) then posInf else
  let dt := Num.div32 (Num.ofNat g.dtUs) (Num.ofNat 1000000)
  let term (i : Nat) : Val :=
    let d := Num.dec32 (Config.planLateral ref ((path.getD i []).getD 0 0) ((path.getD i []).getD 1 0))
    let t1 := Num.add32 (Num.mul32 (g.val 11) (sq32 d)) (Num.mul32 (g.val 12) (sq32 (smp path i 5)))
    let t2 := Num.add32 t1 (Num.mul32 (g.val 13) (sq32 (smp path i 4)))
    Num.mul32 (Num.add32 t2 (Num.mul32 (g.val 14) (sq32 (Num.dec32 (Config.planJerk g.record path i))))) dt
  let sum := (List.range g.samples).foldl (fun a i => Num.add32 a (term i)) Num.zero
  let close := ((List.range g.samples).map (fun i => g.sampleHits m (g.w 8) t0 path i)).sum
  let prog := Num.neg (Num.mul32 (g.val 10) (Num.dec32 (Config.planProgress ref path)))
  let j := Num.add32 (Num.add32 prog sum) (Num.mul32 (g.val 15) (Num.r32 (Num.ofNat close)))
  Num.enc32 (Num.add32 j (Num.mul32 (g.val 16) (Num.dec32 sup)))

def finiteWord (w : Nat) : Bool := Num.isFinite (Num.dec32 w)

/-- A number and its cost, inserted by rising cost, ties to the lower number. -/
def insCost (x : Nat × Nat) : List (Nat × Nat) → List (Nat × Nat)
  | [] => [x]
  | y :: r => if Num.lt (Num.dec32 y.2) (Num.dec32 x.2) || (!Num.lt (Num.dec32 x.2) (Num.dec32 y.2) && decide (y.1 < x.1)) then y :: insCost x r else x :: y :: r

/-! ### A cycle -/

/-- A sample of 16 bytes as six FP32 words: x and y in FP32, the others in FP16. -/
def unpackSample (ws : List Nat) : List Nat := ws.take 2 ++ (ws.drop 2).map (fun h => Num.enc32 (Num.decode Num.fp16 h))
/-- Six words of a sample as the candidate store keeps them. -/
def packSample (ws : List Nat) : List Nat := ws.take 2 ++ ((ws.drop 2).take 4).map (fun w => (Num.toFp Num.fp16 .rne false (Num.dec32 w)).enc)

/-- What a plan-mode cycle reads: state block, reference path, supplied candidates with their costs. -/
structure CycleIn where
  state : List Byte
  ref : List Byte
  supplied : List (List (List Nat) × Nat)
  supStamp : Option Nat

def State.cycleIn (s : State) (g : PlanConfig) (p : Packet) : CycleIn :=
  let n := p.f 7 31 16
  let a := p.word 8 + p.f 9 15 0 * 2 ^ 32
  let costs := a + 64 + ceilDiv (n * g.samples * 16) 64 * 64
  { state := s.load (p.addr 4) 64, ref := s.load (p.word 6 + p.f 7 15 0 * 2 ^ 32) (64 + 8 * p.f 5 31 16)
    supplied := (List.range n).map (fun k =>
      ((List.range g.samples).map (fun i =>
        let b := a + 64 + (k * g.samples + i) * 16
        unpackSample [s.loadNat b 4, s.loadNat (b + 4) 4, s.loadNat (b + 8) 2, s.loadNat (b + 10) 2, s.loadNat (b + 12) 2, s.loadNat (b + 14) 2]),
       s.loadNat (costs + 4 * k) 4))
    supStamp := if n = 0 then none else ageOf (s.load a 16) }

/-- The time of a state block, and its age stamp (Table 14.7). -/
def stateTime (b : List Byte) : Nat := bits (leNat b) 511 464 * 10 ^ 9 + bits (leNat b) 463 432
def stateAge (b : List Byte) : Option Nat :=
  let sec := bits (leNat b) 431 384
  let ns := bits (leNat b) 383 352
  if sec = 0 && ns = 0xFFFFFFFF then none else some (sec * 10 ^ 9 + ns)

/-- Lanes of a cycle: candidate number, samples, supplied cost (R341). -/
def PlanConfig.lanes (g : PlanConfig) (i : CycleIn) (seen : Option PlanSet) : List (Nat × List (List Nat) × Nat) :=
  let store := match seen with | some x => x.store | none => []
  let t0 := match seen with | some x => x.t0 | none => 0
  (List.range g.gens).map (fun k => (k, Config.planGenerated g.record i.state i.ref k, 0))
  ++ ((List.range (min g.seeds store.length)).map (fun k => (g.gens + k, Config.planShifted g.record i.state t0 (store.getD k []), 0)))
  ++ ((List.range i.supplied.length).map (fun k => (g.gens + g.seeds + k, (i.supplied.getD k ([], 0)).1, (i.supplied.getD k ([], 0)).2)))

/-- Move sample `i` to ¼ previous + ½ itself + ¼ next, where the pose stays free at MARGIN (R344). -/
def PlanConfig.smoothOne (g : PlanConfig) (m : PlanMap) (t0 : Nat) (path : List (List Nat)) (i : Nat) : List (List Nat) :=
  let mv (j : Nat) : Nat := Num.enc32 (Num.add32 (Num.add32 (Num.mul32 (Num.scale (-2) (Num.ofNat 1)) (smp path (i - 1) j))
    (Num.mul32 (Num.scale (-1) (Num.ofNat 1)) (smp path i j))) (Num.mul32 (Num.scale (-2) (Num.ofNat 1)) (smp path (i + 1) j)))
  let old := path.getD i []
  let new := [mv 0, mv 1] ++ old.drop 2
  if g.collides m (g.w 7) (g.poseTime t0 i 0) (new.take 3) then path else setAt path i new

/-- Smoothing passes (R344). -/
def PlanConfig.smoothed (g : PlanConfig) (m : PlanMap) (t0 : Nat) (path : List (List Nat)) : List (List Nat) :=
  (List.range g.smooth).foldl (fun x _ => ((List.range (g.samples - 2)).map (· + 1)).foldl (g.smoothOne m t0) x) path

/-- The plan set of one cycle (R341 to R346). -/
def PlanConfig.cycleSet (g : PlanConfig) (i : CycleIn) (seen : Option PlanSet) : PlanSet :=
  let m := g.map
  let t0 := stateTime i.state
  let lanes := g.lanes i seen
  let costed := lanes.map (fun (l : Nat × List (List Nat) × Nat) => (l.1, g.cost m t0 i.ref l.2.1 l.2.2))
  let finite := (costed.filter (fun (x : Nat × Nat) => finiteWord x.2)).foldl (fun a x => insCost x a) []
  let pathOf (k : Nat) : List (List Nat) := match lanes.find? (fun (l : Nat × List (List Nat) × Nat) => l.1 = k) with | some l => l.2.1 | none => []
  let store := (finite.take 64).map (fun (x : Nat × Nat) => (pathOf x.1).map packSample)
  let stamp := older (older (stateAge i.state) (ageOf (i.ref.take 16))) (older m.stamp i.supStamp)
  let base : PlanSet := { stamp := stamp, t0 := t0, state := i.state, ref := i.ref, version := m.version, chosen := 0xFFFFFFFF, cost := posInf, traj := [], stop := [],
                          store := store, finite := finite.length }
  match finite with
  | [] =>
    let along := match g.committed with | some c => Config.planShifted g.record i.state c.t0 (c.traj.map (fun w => w.take 6)) | none => []
    let stop := Config.planStop g.record i.state along
    { base with noneFree := true, traj := stop, stop := stop, stopClear := (g.firstHit m t0 stop).isNone }
  | (k, c) :: _ =>
    let traj := Config.planScaled g.record i.state (g.smoothed m t0 (pathOf k))
    let stop := Config.planStop g.record i.state traj
    { base with chosen := k, cost := c, traj := traj, stop := stop, stopClear := (g.firstHit m t0 stop).isNone }

/-! ### Repair -/

/-- Check a plan set against the active map and repair it (R348): the set, 0 free, 1 repaired or 2 repair failed, and the first colliding sample. -/
def PlanConfig.repair (g : PlanConfig) (x : PlanSet) : PlanSet × Nat × Option Nat :=
  let m := g.map
  match g.firstHit m x.t0 x.traj with
  | none => ({ x with version := m.version }, 0, none)
  | some i =>
    let lo := max 1 (i - g.repairW)
    let hi := min (g.samples - 1) (i + g.repairW)
    let ofs (j : Nat) : Nat :=
      let o := Num.mul32 (Num.ofNat ((j + 1) / 2)) (Num.scale (-3) (g.val 9))
      Num.enc32 (if j % 2 = 1 then Num.neg o else o)
    let detour (j : Nat) : List (List Nat) := Config.planDetour g.record (x.traj.map (fun w => w.take 6)) lo hi (ofs j)
    let costed := (List.range 256).map (fun j => (j, g.cost m x.t0 x.ref (detour j) 0))
    let stamp := older x.stamp m.stamp
    match (costed.filter (fun (c : Nat × Nat) => finiteWord c.2)).foldl (fun a c => insCost c a) [] with
    | [] => ({ x with stamp := stamp, version := m.version, traj := x.stop, stopActive := true, repaired := true, stopClear := (g.firstHit m x.t0 x.stop).isNone }, 2, some i)
    | (j, c) :: _ =>
      let traj := Config.planScaled g.record x.state (detour j)
      let stop := Config.planStop g.record x.state traj
      ({ x with stamp := stamp, version := m.version, cost := c, traj := traj, stop := stop, repaired := true, stopClear := (g.firstHit m x.t0 stop).isNone }, 1, some i)

/-! ### Commit -/

/-- A sample of a plan slot: seven words from bit 255 down. -/
def sampleBytes (w : List Nat) : List Byte := leBytes 4 0 ++ ((List.range 7).reverse).flatMap (fun j => leBytes 4 (w.getD j 0))

/-- A plan slot (Table 14.8). -/
def PlanSet.slotImage (x : PlanSet) (cycle : Nat) : List Byte :=
  leBytes 64 (ageBits x.stamp + x.t0 / 10 ^ 9 % 2 ^ 48 * 2 ^ 384 + x.t0 % 10 ^ 9 * 2 ^ 352 + cycle % 2 ^ 32 * 2 ^ 320 + x.version % 2 ^ 32 * 2 ^ 288
    + x.chosen % 2 ^ 32 * 2 ^ 256 + x.cost % 2 ^ 32 * 2 ^ 224 + x.noneFree.toNat * 2 ^ 223 + x.stopClear.toNat * 2 ^ 222 + x.repaired.toNat * 2 ^ 221
    + x.stopActive.toNat * 2 ^ 220)
  ++ x.traj.flatMap sampleBytes ++ x.stop.flatMap sampleBytes

/-- Commit a plan set (R347): it becomes the committed one, its slot of the plan ring is written, and it is handed off through the age watch. -/
def State.commitSet (s : State) (c : Nat) (x : PlanSet) : State :=
  match NMap.get? s.eng.plans c with
  | none => s
  | some g =>
    let cycle := g.cycle + 1
    let base := g.ring + cycle % g.slots * g.slotBytes
    let img := x.slotImage cycle
    let s1 := s.setPlan c (fun g => { g with committed := some x, cycle := cycle })
    let s2 := (s1.store base img).stampWrite base img.length x.stamp
    let s3 := s2.ageResult g.stream x.stamp ((x.traj ++ x.stop).flatMap sampleBytes)
    if g.solveSys = 15 then s3 else s3.planHandOff c g.solveSys x.traj x.stop x.stopActive x.stamp

/-- Check and repair the committed plan set against the active map (R348): 0 free, 1 repaired, 2 repair failed, 3 none committed, and the first
colliding sample. -/
def State.recheckPlan (s : State) (c : Nat) : State × Nat × Option Nat :=
  match NMap.get? s.eng.plans c with
  | none => (s, 3, none)
  | some g =>
    match g.committed with
    | none => (s, 3, none)
    | some x =>
      let (y, r, i) := g.repair x
      if r = 0 then (s.setPlan c (fun g => { g with committed := some y }), 0, none)
      else ((s.commitSet c y).bump 7 0 0 1 1, r, i)

/-- Details of a plan-mode cycle's reply (Table 14.6). -/
def PlanSet.details (x : PlanSet) (version slot : Nat) : List Nat :=
  [x.chosen, x.finite, version, x.stopClear.toNat * 2 ^ 31 + x.noneFree.toNat * 2 ^ 30 + x.repaired.toNat * 2 ^ 29 + slot]

/-- Commit point of a plan-mode cycle outside a draft, after any repair that it needs (R347); under a draft, its shadow plan set takes what it made.
Answers the reply's details. -/
def State.commitCycle (s : State) (c pkt : Nat) : State × List Nat :=
  match NMap.get? s.eng.plans c, s.pkt? pkt with
  | some g, some o =>
    match NMap.get? g.made pkt with
    | none => (s, [])
    | some x =>
      let s1 := (s.setPlan c (fun g => { g with made := NMap.del g.made pkt })).bump 7 0 0 0 1
      if o.pkt.level ≠ 0 then
        match s1.draftOrder? o.pkt with
        | none => (s1, [])
        | some order =>
          let s2 := s1.setPlan c (fun g => { g with shadow := NMap.put g.shadow order x })
          let s3 := s2.setDraft order (fun d => { d with deferred := d.deferred.filter (· ≠ .plan c none) ++ [.plan c none] })
          -- no plan-ring slot is stated before the twist commits
          (s3.drawn 1, x.details x.version (Config.freeNat s3.free % 65536))
      else
        let (y, r, _) := if x.version ≠ g.map.version then g.repair x else (x, 0, none)
        let s2 := if r = 0 then s1 else s1.bump 7 0 0 1 1
        let s3 := s2.commitSet c y
        (s3, y.details x.version ((g.cycle + 1) % g.slots))
  | _, _ => (s, [])

/-- The commit point of a shadow plan set (R211): it commits, and the repair check follows at once. -/
def State.commitShadow (s : State) (c order : Nat) : State :=
  match NMap.get? s.eng.plans c with
  | none => s
  | some g =>
    match NMap.get? g.shadow order with
    | none => s
    | some x =>
      let s1 := (s.setPlan c (fun g => { g with shadow := NMap.del g.shadow order })).commitSet c x
      if x.version ≠ g.map.version then (s1.recheckPlan c).1 else s1

/-- The swap of a MAP_UPDATE (R337): the map that packet `pkt` built becomes active; the plan is checked and repaired. Answers the reply's details. -/
def State.swapMap (s : State) (c pkt : Nat) : State × List Nat :=
  match NMap.get? s.eng.plans c with
  | none => (s, [])
  | some g =>
    match NMap.get? g.maps pkt with
    | none => (s, [])
    | some m =>
      let m1 := { m with version := g.map.version + 1 }
      let s1 := s.setPlan c (fun g => { g with map := m1, ready := true, maps := NMap.del g.maps pkt })
      let (s2, r, i) := s1.recheckPlan c
      (s2, [m1.version, r, (match i with | some k => k | none => 0xFFFFFFFF), m1.prims.length])

/-! ### PLAN_CYCLE -/

def cycleMasks : Packet → List Nat := fun _ => [fm [(31, 30)], full, full, full, full, full, fm [(15, 0)]]

/-- Address in words 6 and 7, and in words 8 and 9. -/
def refAddr (p : Packet) : Addr := p.word 6 + p.f 7 15 0 * 2 ^ 32
def supAddr (p : Packet) : Addr := p.word 8 + p.f 9 15 0 * 2 ^ 32

/-- Preconditions 39 and 40. -/
def planReady (e : Env) (s : State) : Option Rej :=
  match NMap.get? s.eng.plans e.p.ctx with
  | none => some (badState 39)
  | some g => if g.ready then none else some (badState 40)

/-- Lowest number of a shadow plan set that no draft of the context holds. -/
def State.freeShadow (s : State) (c : Nat) : Nat :=
  ((List.range 4).find? (fun k => !s.dr.drafts.any (fun d => d.ctx = c && d.plans.contains k))).getD 0

/-- A drafted cycle holds a shadow plan set (Table 7.2). -/
def State.takeShadow (s : State) (e : Env) : Room :=
  match s.draft? e.p.ctx e.p.level e.p.tag with
  | none => .ok s
  | some d =>
    if !d.plans.isEmpty then .ok s else
    match s.makeRoom e.p.ctx .plans 1 (s.ownOrders e.p) (some e.id) (s.dr.drafts.length + 1) with
    | .ok s1 => .ok (s1.setDraft d.order (fun d => { d with plans := [s1.freeShadow e.p.ctx] }))
    | r => r

/-- The plan set that a packet's draft sees (R194). -/
def State.planSeen (s : State) (g : PlanConfig) (p : Packet) : Option PlanSet :=
  match (s.chain p.ctx p.level p.tag).findSome? (fun d => NMap.get? g.shadow d.order) with
  | some x => some x
  | none => g.committed

def specPlanCycle : OpSpec where
  code := 0x0701
  masks := cycleMasks
  params := fun e s =>
    let p := e.p
    let c := p.ctx
    let r := p.f 5 31 16
    let n := p.f 7 31 16
    let g? := NMap.get? s.eng.plans c
    let most := match g? with | some g => g.cands - g.gens - g.seeds | none => 65535
    let smp := match g? with | some g => g.samples | none => 16
    firstFail [(decide (2 ≤ p.f 3 31 30), badParam 3), (p.addr 4 % 64 ≠ 0, badParam 4), (decide (r < 2 || 256 < r), badParam 5), (decide (most < n), badParam 7),
      (n = 0 && p.word 8 ≠ 0, badParam 8), (!s.inputOk c (p.addr 4) 64, badAddr (p.addr 4)), (!s.inputOk c (refAddr p) (64 + 8 * r), badAddr (refAddr p)),
      (n ≠ 0 && !s.inputOk c (supAddr p) (64 + ceilDiv (n * smp * 16) 64 * 64 + 4 * n), badAddr (supAddr p))]
  draft := some (fun _ _ => true)
  pre := planReady
  run := fun e s =>
    let p := e.p
    let c := p.ctx
    match NMap.get? s.eng.plans c with
    | none => s
    | some g =>
      if (s.plannerOf c).any (fun o => decide (o.id < e.id)) then s.setJob e.id (.waits .retry) else
      match (if p.level = 0 then Room.ok s else s.takeShadow e) with
      | .wait => s.setJob e.id (.waits .retry)
      | .self s1 ds => s1.finish e.id draftEvicted ds
      | .ok s1 =>
        let x := g.cycleSet (s.cycleIn g p) (s.planSeen g p)
        let live (i : Nat) : Bool := (s1.pkt? i).isSome
        let s2 := s1.setPlan c (fun g => { g with made := NMap.put (g.made.filter (fun (x : Nat × PlanSet) => live x.1)) e.id x })
        let n := p.f 7 31 16
        s2.startWork e { reads := [(p.addr 4, 64), (refAddr p, 64 + 8 * p.f 5 31 16)] ++ (if n = 0 then [] else [(supAddr p, 64 + ceilDiv (n * g.samples * 16) 64 * 64 + 4 * n)])
                         stamp := x.stamp, after := [.plan c (some e.id)] }

/-- PLAN_CYCLE in plan mode: candidates are costed, the cheapest free one smoothed and scaled, a stopping manoeuvre computed (R341 to R346). -/
def execPlanCyclePlan (src : Src) (p : Packet) (s : State) : Res := .next (specPlanCycle.exec src (p.withField 3 31 30 0) s)

/-- π as an FP64 word, for wrapping yaw differences. -/
def pi64 : Nat := 0x400921FB54442D18

/-- The verdict of the deviation check (R349). -/
def PlanConfig.verdict (g : PlanConfig) (measured predicted : List Byte) : Nat :=
  let v (b : List Byte) (k : Nat) : Val := Num.dec32 (bits (leNat b) (351 - 32 * k) (320 - 32 * k))
  let d (k : Nat) : Val := Num.sub (v measured k) (v predicted k)
  let turn := Num.scale 1 (Num.dec64 pi64)
  let n := Num.nearest (Num.divBits 64 (d 2) turn)
  let yaw := Num.sub (d 2) (Num.mul (Num.ofInt n) turn)
  let ok := Num.le Num.zero (g.val 17) && Num.le (Num.add (Num.mul (d 0) (d 0)) (Num.mul (d 1) (d 1))) (Num.mul (g.val 17) (g.val 17))
    && Num.le (Num.abs yaw) (g.val 18) && Num.le (Num.abs (d 3)) (g.val 19)
  if ok then 0x80000000 else 0

def specPlanCheck : OpSpec where
  code := 0x0701
  masks := cycleMasks
  params := fun e s =>
    let p := e.p
    let a := supAddr p
    let inPlace := match place a with | .coreMem _ _ => true | .dieShared _ _ => true | _ => false
    firstFail [(p.addr 4 % 64 ≠ 0, badParam 4), (p.f 5 31 16 ≠ 0, badParam 5), (p.f 7 31 16 ≠ 0, badParam 7),
      (!s.inputOk p.ctx (p.addr 4) 64, badAddr (p.addr 4)), (!s.inputOk p.ctx (refAddr p) 64, badAddr (refAddr p)),
      (!(a % 4 = 0 && inPlace && s.portsOk p.ctx a 4 [4]), badAddr a)]
  pre := planReady
  run := fun e s =>
    let p := e.p
    match NMap.get? s.eng.plans p.ctx with
    | none => s
    | some g =>
      if (s.plannerOf p.ctx).any (fun o => decide (o.id < e.id)) then s.setJob e.id (.waits .retry) else
      let v := g.verdict (s.load (p.addr 4) 64) (s.load (refAddr p) 64)
      s.startWork e { reads := [(p.addr 4, 64), (refAddr p, 64)], writes := [⟨supAddr p, leBytes 4 v⟩], details := [v, 0, 0, 0] }

/-- PLAN_CYCLE in check mode writes the verdict word (R349). -/
def execPlanCycleCheck (src : Src) (p : Packet) (s : State) : Res := .next (specPlanCheck.exec src (p.withField 3 31 30 1) s)

/-! ### Slices -/

/-- An evaluation slice fails: it is fenced with cause 1, and the cycle on it ends FENCED. Where no healthy slice is left to take its place, a
reservation runs on fewer slices than it holds, which a FENCED with cause 2 reports and cause 2 of Table 19.2 follows (Table 14.10, Table 19.11c). -/
def execPlannerSliceFault (slice : Nat) (pkt : Option Nat) (s : State) : Res :=
  .next <| s.whileUp <|
    if 32 ≤ slice || s.unitOut 0xC slice then s else
    let s1 : State := { s with spl := { s.spl with out := s.spl.out ++ [unitKey 0xC slice] } }
    let o? := pkt.bind (fun i => s.pkts.find? (fun o => o.id = i && o.pkt.opcode = 0x0701 && o.pkt.f 3 31 30 = 0 && (match o.job with | .work _ => true | _ => false)))
    let s2 := match o? with
      | some o => (s1.fence 0 0 o.pkt.ctx 0xC slice 1).finish o.id fenced [0xC, slice, 1, 0]
      | none => s1.fence 0 0 0 0xC slice 1
    if s2.slicesWhole then s2 else (s2.fence 0 0 0 0xC slice 2).raise 2

end Sys2Proof.Machine
end

