-- ==== Sys2Proof/Machine/Schedule.lean ====
section
/-! DEFINITION. SCHEDULE_RUN (R156, R157), the placement of its cores (R93 to R95, R103), and the tensor-control instructions of the scalar
cores (Table 5.10, R151, R153). What Niddy compiled is read through `Config.niddy`: the manual gives the sections' kinds and no layout. -/

namespace Sys2Proof.Machine

/-! ### What Niddy states for a schedule -/

/-- Bytes of the section of a kind for schedule `n` (Table 3.14). -/
def HotModel.sect (m : HotModel) (kind n : Nat) : List Byte := sectOf m.sections kind n
/-- What the model states of schedule `n`. -/
def HotModel.info (m : HotModel) (n : Nat) : SchedInfo := m.scheds.getD n {}
/-- Cores the schedule needs, 1 to 16. -/
def HotModel.need (m : HotModel) (n : Nat) : Nat := (m.info n).need
/-- The schedule's cores must lie on one die. -/
def HotModel.oneDie (m : HotModel) (n : Nat) : Bool := (m.info n).oneDie
/-- Bindings of a schedule. -/
def HotModel.bindings (m : HotModel) (n : Nat) : List Binding := (m.info n).bindings
/-- Result-stream marks of a schedule: stream and output binding (R446). -/
def HotModel.marks (m : HotModel) (n : Nat) : List (Nat × Nat) := (m.info n).marks
/-- ESC_LIMIT that Niddy compiled (R156). -/
def HotModel.escLimit (m : HotModel) (n : Nat) : Nat := (m.info n).escLimit

/-! ### Operands of the packet -/

def runSlot (p : Packet) : Nat := p.f 7 4 0
def runSched (p : Packet) : Nat := p.f 7 15 8
def runOverride (p : Packet) : Bool := p.b 0 24

/-- An entry of the binding table (Table 5.15): binding, direction, base, bytes, reserved bits. -/
structure BindEntry where
  index : Nat
  output : Bool
  addr : Addr
  len : Nat
  junk : Nat

/-- The binding table as the packet sees memory. -/
def State.bindTable (s : State) (p : Packet) : List BindEntry :=
  (List.range (p.f 9 31 16)).map (fun i =>
    let x := s.seeNat p (p.addr 8 + 16 * i) 16
    ⟨bits x 55 48, bit x 56, bits x 47 0, bits x 127 64, bits x 63 57⟩)

/-- The model that a run names, in the hot set of the context's tenant since before the packet's fetch (R90). -/
def State.runModel? (s : State) (p : Packet) (id : Nat) : Option HotModel :=
  match NMap.get? s.dom.hot (runSlot p) with
  | some m => if m.tenant = s.ctxTenant p.ctx && !m.invalid && m.since ≤ id then some m else none
  | none => none

/-- Lowest-numbered entry of the binding table that differs from the schedule's bindings (R157). -/
def badEntry (bs : List Binding) (es : List BindEntry) : Option Nat :=
  (List.range es.length).find? (fun i =>
    match es[i]? with
    | none => false
    | some x => (es.take i).any (fun y => y.index = x.index) || x.junk ≠ 0 || x.addr % 64 ≠ 0 ||
      (match bs.find? (fun b => b.index = x.index) with
       | some b => b.size ≠ x.len || b.output != x.output
       | none => true))

/-- Ranges of the bindings with the ports that reach them. -/
def runRanges (bs : List Binding) (es : List BindEntry) : Ranges where
  reads := (es.filter (fun x => !x.output)).map (fun x => (x.addr, x.len, [((bs.find? (fun b => b.index = x.index)).map (fun b => b.port)).getD 4]))
  writes := (es.filter (fun x => x.output)).map (fun x => (x.addr, x.len, [((bs.find? (fun b => b.index = x.index)).map (fun b => b.port)).getD 4]))

/-! ### Placement -/

/-- Eligible cores of a context on a die, or on both. -/
def State.eligibleOn (s : State) (c : Nat) (die : Option Nat) : List Nat :=
  (List.range 16).filter (fun k => s.eligible c k && (match die with | some d => dieOf k = d | none => true))

/-- The cores of a fixed-lane run: the N lowest-numbered of CORE_MASK (R103). -/
def fixedCores (x : Context) (n : Nat) : List Nat := (maskList 16 x.coreMask).take n

/-- Precondition 9 (R94, R103). -/
def State.coreNeedsMet (s : State) (c : Nat) (x : Context) (m : HotModel) (n : Nat) (oneDie : Bool) : Bool :=
  if x.fixed then
    let ks := fixedCores x n
    ks.length = n && m.pinned && (!oneDie || ks.all (fun k => dieOf k = dieOf (ks.headD 0)))
  else
    decide (n ≤ x.maxCores) &&
    (if oneDie then decide (n ≤ (s.eligibleOn c (some 0)).length) || decide (n ≤ (s.eligibleOn c (some 1)).length)
     else decide (n ≤ (s.eligibleOn c none).length))

/-- Cores that a run waits for: for a one-die schedule, those of the die that R93 would choose if every eligible core were free (R95). -/
def State.wanted (s : State) (c n : Nat) (oneDie : Bool) : List Nat :=
  if !oneDie then s.eligibleOn c none
  else if n ≤ (s.eligibleOn c (some 0)).length then s.eligibleOn c (some 0) else s.eligibleOn c (some 1)

/-- The cores a flexible-lane run is placed on now, if enough are free (R93); none at governor step 4 (Table 18.9). -/
def State.placeRun (s : State) (id c n : Nat) (oneDie : Bool) : Option (List Nat) :=
  if 4 ≤ s.tens.gov then none else
  let free (l : List Nat) : List Nat := l.filter (s.freeFor id)
  let pick (l : List Nat) : Option (List Nat) := if n ≤ (free l).length then some ((free l).take n) else none
  if oneDie then (pick (s.eligibleOn c (some 0))).orElse (fun _ => pick (s.eligibleOn c (some 1))) else pick (s.eligibleOn c none)

/-- Cores for a run now. -/
def State.runCores (s : State) (e : Env) (x : Context) (n : Nat) (oneDie : Bool) : Option (List Nat) :=
  if x.fixed then (if (fixedCores x n).all (s.freeFor e.id) then some (fixedCores x n) else none) else s.placeRun e.id e.p.ctx n oneDie

/-! ### The run -/

/-- Ranges of the context's own banks and of the operand buffers on the run's cores that the schedule writes while it runs; its code says
which, cut to what the context holds there. -/
def State.runScratch (s : State) (c : Nat) (ks : List Nat) (code : List Byte) : List (Addr × Nat) :=
  (List.range (Config.niddy code 2 % 65536)).filterMap (fun i =>
    let k := ks.getD (Config.niddy code (8 + 3 * i) % (max 1 ks.length)) 0
    let a := coreBase k + Config.niddy code (9 + 3 * i) % 0x1200000
    let n := Config.niddy code (10 + 3 * i) % 0x1000001
    if (bufferRange k :: s.coreRanges c k).any (fun r => decide (r.1 ≤ a) && decide (a + n ≤ r.1 + r.2)) then some (a, n) else none)

/-- The work of a run (R28): its output bindings and on-core state are what its code computes from its inputs and SEED. -/
def State.runWork (s : State) (e : Env) (m : HotModel) (ks : List Nat) : Work :=
  let p := e.p
  let n := runSched p
  let bs := m.bindings n
  let es := s.bindTable p
  let rd := s.reader p []
  let r := runRanges bs es
  let code := m.sect 2 n ++ m.sect 1 0
  let state := (ks.flatMap (fun k => s.coreRanges p.ctx k)).flatMap (fun x => readBytes rd x.1 x.2)
  let input := leBytes 4 (p.word 3) ++ leBytes 4 (p.word 4) ++ leBytes 4 (p.word 5) ++ leBytes 4 (p.word 6)
    ++ r.rd.flatMap (fun x => readBytes rd x.1 x.2) ++ state
  let base (i : Nat) : Nat := i * 2 ^ 32
  let outs := (List.range r.wr.length).filterMap (fun i => (r.wr[i]?).map (fun x =>
    (⟨x.1, (List.range x.2).map (fun j => Config.niddyByte code input (base i + j))⟩ : ResWrite)))
  let sc := s.runScratch p.ctx ks (m.sect 2 n)
  let scr := (List.range sc.length).filterMap (fun i => (sc[i]?).map (fun x =>
    (⟨x.1, (List.range x.2).map (fun j => Config.niddyByte code input (base (512 + i) + j))⟩ : ResWrite)))
  let cnt (i : Nat) : Nat := Config.niddy (code ++ input) i % 2 ^ 32
  let stamp := s.stampOf r.rd
  let outOf (b : Nat) : List Byte := ((es.find? (fun x => x.output && x.index = b)).map (fun x =>
    ((outs.find? (fun o => o.addr = x.addr)).map (fun o => o.bytes)).getD [])).getD []
  { writes := scr ++ outs, sent := true, reads := r.rd, cores := ks, slot := some (runSlot p, m.gen), stamp := stamp
    details := countWords (cnt 0) (cnt 1) (cnt 2) (cnt 3 / 65536) (cnt 3 % 65536)
    after := (m.marks n).map (fun x => .age x.1 stamp (outOf x.2))
      ++ (List.range (cnt 4 % 32)).map (fun i => .ops (cnt (5 + 5 * i) % 32) (cnt (6 + 5 * i)) (cnt (7 + 5 * i)) (cnt (8 + 5 * i)) (cnt (9 + 5 * i))) }

/-- Poisoned words of core `k`'s memory that lie in the model's resident set there, whose place is Niddy's (Table 6.14). -/
def State.residentPoison (s : State) (m : HotModel) (k : Nat) : List Nat :=
  s.ms.poison.filter (fun u => match place u with
    | .coreMem c off => decide (c = k) && decide (Config.niddy (m.sect 1 0) (16 + off / 16) % 2 = 1)
    | _ => false)

/-- Start a run on its cores: recency, last start, the fixed-lane contexts that have run the model, and the resident set of its cores (R86,
R89, R96). Poison in a resident set ends the run FENCED and leaves the set invalid (Table 6.14). -/
def State.beginRun (s : State) (e : Env) (m : HotModel) (x : Context) (ks : List Nat) : State :=
  let s1 := s.claim e.id e.p.ctx ks
  let s2 : State := { s1 with dom := { s1.dom with hot := NMap.upd s1.dom.hot (runSlot e.p) (fun y => { y with
    recency := s.now, lastStart := ts32 s.now
    fixedBy := if x.fixed && !y.fixedBy.contains e.p.ctx then e.p.ctx :: y.fixedBy else y.fixedBy }) } }
  let mine : Option (Nat × Nat) := some (runSlot e.p, m.gen)
  -- a resident set already on its core is used as it lies there; on the other cores it is loaded, which writes it whole
  let sick := ks.filter (fun k => decide ((s2.core k).resident = mine) && !(s2.residentPoison m k).isEmpty)
  let s3 := ks.foldl (fun (y : State) k =>
    let w := if (s2.core k).resident = mine then [] else s2.residentPoison m k
    ({ y with ms := { y.ms with poison := y.ms.poison.filter (fun u => !w.contains u) } } : State).setCore k
      (fun z => { z with resident := if sick.contains k then none else mine })) s2
  let r := runRanges (m.bindings (runSched e.p)) (s3.bindTable e.p)
  let bad := s3.poisonIn r.rd
  if !bad.isEmpty then s3.consumePoison e bad
  else if !sick.isEmpty then s3.finish e.id fenced (dataLossDetails e.p.ctx)
  else s3.startWork e (s3.runWork e m ks)

def specScheduleRun : OpSpec where
  code := 0x0310
  masks := fun _ => [fm [(19, 18)], fm [(31, 16)], full, full, fm [(15, 8), (4, 0)], full, full]
  params := fun e s =>
    let p := e.p
    let f := fmtOf p
    let on := runOverride p
    (paramCheck [
      (f.esc = 3 || (!on && f.esc ≠ 0), 3), (!on && p.word 4 ≠ 0, 4), (if on then !tolOk (p.word 5) else p.word 5 ≠ 0, 5),
      (23 < runSlot p, 7), (p.addr 8 % 64 ≠ 0, 8), (p.f 9 31 16 = 0 || 256 < p.f 9 31 16, 9)]).orElse (fun _ =>
    let n := 16 * p.f 9 31 16
    let okPlace := match place (p.addr 8) with | .hbm _ _ => true | .hub _ => true | _ => false
    if okPlace && s.addrOk p.ctx (p.addr 8) n false then none else some (badAddr (p.addr 8)))
  draft := some (fun _ _ => true)
  pre := fun e s =>
    let p := e.p
    match s.runModel? p e.id, s.ctx? p.ctx with
    | some m, some x =>
      let n := runSched p
      let bs := m.bindings n
      let es := s.bindTable p
      let r := runRanges bs es
      firstFail [
        (decide (m.schedules ≤ n), badParam 7),
        (es.length ≠ bs.length, badParam 9),
        ((badEntry bs es).isSome, badParam (0x100 + (badEntry bs es).getD 0)),
        (x.fixed && runOverride p && ((fmtOf p).limit = 0 || decide (m.escLimit n < (fmtOf p).limit)), badParam 4)]
      |>.orElse (fun _ => match r.rd.find? (fun y => !s.scratchAddr p.ctx y.1 y.2 false) with
        | some y => some (badAddr y.1)
        | none => (r.wr.find? (fun y => !s.scratchAddr p.ctx y.1 y.2 true)).map (fun y => badAddr y.1))
      |>.orElse (fun _ => firstFail [
        (!s.coreNeedsMet p.ctx x m (m.need n) (m.oneDie n), badState 9),
        (!((r.reads ++ r.writes).all (fun y => s.portRange p.ctx y.1 y.2.1 y.2.2)), badState 12),
        (p.level ≠ 0 && !s.allShadowed p.ctx r.wr, badState 22)])
    | _, _ => some (badState 10)
  run := fun e s =>
    match s.runModel? e.p e.id, s.ctx? e.p.ctx with
    | some m, some x =>
      let n := runSched e.p
      (match s.runCores e x (m.need n) (m.oneDie n) with
       | some ks => s.beginRun e m x ks
       | none => s.waitCores e (if x.fixed then fixedCores x (m.need n) else s.wanted e.p.ctx (m.need n) (m.oneDie n)) (m.need n)
           (runRanges (m.bindings n) (s.bindTable e.p)).all)
    | _, _ => s.done e 0x0108 [10]

/-- SCHEDULE_RUN runs a compiled schedule of a model in the hot set (R157). -/
def execScheduleRun (src : Src) (p : Packet) (s : State) : Res := .next (specScheduleRun.exec src p s)

/-! ### Tensor-control instructions -/

/-- Entries of an engine queue (Table 5.11). -/
def queueDepth (q : Nat) : Nat := [256, 128, 128, 128, 256, 64, 64].getD q 0

/-- The packet that runs on a core. -/
def State.corePkt? (s : State) (k : Nat) : Option OutPkt := match (s.core k).busy with | some id => s.pkt? id | none => none

/-- An operation completes: it leaves its queue, and the queue's counts (Table 4.9) grow by what its data gave, which are free values. -/
def State.opDone (s : State) (k : Nat) (o : CoreOp) : State :=
  let n := s.free
  let add (x : QueueStat) : QueueStat := ⟨x.nan + Config.freeNat n, x.sat + Config.freeNat (n + 1), x.esc + Config.freeNat (n + 2)⟩
  (s.setCore k (fun c => { c with ops := c.ops.filter (fun y => y.token ≠ o.token), stats := updAt c.stats o.queue add })).drawn 3

/-- tdesc.ld loads a descriptor register from 64 bytes (Table 5.10). -/
def execTdescLd (core sc td addr : Nat) (s : State) : Res :=
  .next <| s.whileUp <|
    let bs := match s.corePkt? core with | some o => s.see o.pkt addr 64 | none => s.load addr 64
    s.setCore core (fun c => { c with desc := NMap.put c.desc (sc * 65536 + td) { raw := bs } })

/-- tdesc.set writes one field of a descriptor register. -/
def execTdescSet (core sc td field value : Nat) (s : State) : Res :=
  .next (s.whileUp (s.setCore core (fun c =>
    let d := NMap.getD c.desc (sc * 65536 + td) {}
    { c with desc := NMap.put c.desc (sc * 65536 + td) { d with fields := NMap.put d.fields field value } })))

/-- t.issue places an operation in an engine queue and returns its token. A full queue stalls the issue until its oldest entry frees (R153). -/
def execTIssue (core sc q : Nat) (s : State) : Res :=
  .next <| s.whileUp <|
    let mine := (s.core core).ops.filter (fun o => o.queue = q)
    let s1 := if queueDepth q ≤ mine.length then (match mine.head? with | some o => s.opDone core o | none => s) else s
    if queueDepth q = 0 then s else
    s1.setCore core (fun c => { c with
      ops := c.ops ++ [⟨q, c.nextToken⟩], nextToken := c.nextToken + 1, tokens := NMap.put c.tokens sc c.nextToken })

/-- t.wait ends once the operation with the token has completed; operations of one queue start in issue order (R153). -/
def execTWait (core token : Nat) (s : State) : Res :=
  .next <| s.whileUp <|
    match (s.core core).ops.find? (fun o => o.token = token) with
    | none => s
    | some o => ((s.core core).ops.filter (fun y => y.queue = o.queue && y.token ≤ token)).foldl (fun x y => x.opDone core y) s

/-- t.waitq ends once the queue is empty. -/
def execTWaitq (core q : Nat) (s : State) : Res :=
  .next (s.whileUp (((s.core core).ops.filter (fun o => o.queue = q)).foldl (fun x o => x.opDone core o) s))

/-- t.stat reads the counts of a queue. -/
def execTStat (core sc q : Nat) (s : State) : Res :=
  .next (s.whileUp (s.setCore core (fun c => { c with counts := NMap.put c.counts sc (c.stats.getD q {}) })))

/-- A trap: on S0, S1 and S2 it ends the packet and tears the context down with cause trap; on S3 it fences the core (R151). -/
def execScalarTrap (core sc : Nat) (s : State) : Res :=
  .next <| s.whileUp <|
    if sc < 3 then (match s.corePkt? core with | some o => s.tearDown o.pkt.ctx 4 | none => s)
    else s.failCore core 2 5

end Sys2Proof.Machine
end

