-- ==== Sys2Proof/Machine/After.lean ====
section
/-! DEFINITION. What an operation does at its commit point (R62, R63): its result writes land, in place or in its draft's shadow lines; hand-offs,
counts, swaps and plan sets follow; the reply is decided. -/

namespace Sys2Proof.Machine

/-- Do one of the things that wait for a commit point. Answers the reply's status and details where it decides them. -/
def State.doAfter (s : State) (o : OutPkt) (a : After) : State × Option (Nat × List Nat) :=
  match a with
  | .age stream stamp payload => (s.ageResult stream stamp payload, none)
  | .swap slot m _ => (s.swapModel slot m, none)
  | .ops entry work esc nan sat =>
    let t := s.pktTenant o
    (((((s.bump 0 t entry 0 1).bump 0 t entry 1 work).bump 0 t entry 2 esc).bump 0 t entry 3 nan 0xFFFFFFFF).bump 0 t entry 4 sat 0xFFFFFFFF, none)
  | .plan c (some pkt) => let (s1, d) := s.commitCycle c pkt; (s1, some (0, d))
  | .plan _ none => (s, none)
  | .mapSwap c pkt => let (s1, d) := s.swapMap c pkt; (s1, some (0, d))
  | .solve n pkt => let (s1, st, d) := s.commitSolve n pkt; (s1, some (st, d))
  | .stamp base n t => (s.stampWrite base n t, none)
  | .poison ls => ({ s with ms := { s.ms with poison := (s.ms.poison ++ ls).eraseDups } }, none)
  | .dataLoss => (s, none)

/-- Hand-offs, age-watch checks, age stamps and poison of a drafted result wait for the draft's commit point (R211). -/
def After.waitsForDraft : After → Bool
  | .age _ _ _ => true
  | .stamp _ _ _ => true
  | .poison _ => true
  | _ => false

/-- Do everything that waits for an operation's commit point, in order. -/
def State.doAfters (s : State) (o : OutPkt) (drafted : Option Nat) : List After → State × Option (Nat × List Nat)
  | [] => (s, none)
  | a :: rest =>
    match drafted, a.waitsForDraft with
    | some order, true => State.doAfters (s.setDraft order (fun d => { d with deferred := d.deferred ++ [a] })) o drafted rest
    | _, _ =>
      let (s1, r) := s.doAfter o a
      let (s2, r2) := State.doAfters s1 o drafted rest
      (s2, match r2 with | some x => some x | none => r)

/-- Land one result write: in the shadow lines of a draft, or in place (R63, R193). Remote writes have been acknowledged by their peers. -/
def State.land (s : State) (order : Option Nat) (w : ResWrite) : State :=
  if (remoteNode w.addr).isSome then s else
  match order with
  | some o => if (linesOf w.addr w.bytes.length).all (fun l => (storeOf l).isSome) then s.draftStore o w.addr w.bytes else s.store w.addr w.bytes
  | none => s.store w.addr w.bytes

/-- A range of an operation is frozen by a twist: the access waits (R206). -/
def State.workFrozen (s : State) (w : Work) : Bool :=
  w.writes.any (fun r => s.frozen r.addr r.bytes.length) || w.reads.any (fun r => s.frozen r.1 r.2)

/-- The last acknowledgement of an operation reaches its owning flyer (R62): its writes land, what waits for the commit point is done, and its
reply is written. -/
def State.commitWork (s : State) (o : OutPkt) (w : Work) : State :=
  let order := if o.pkt.level = 0 then none else s.draftOrder? o.pkt
  let room : Room := match order with
    | some n => s.allocLines o.pkt.ctx n (s.chain o.pkt.ctx o.pkt.level o.pkt.tag) (s.ownOrders o.pkt) (some o.id) w.lines
    | none => .ok s
  match room with
  | .wait => s
  | .self s1 ds => (s1.dropEsc o.id).finish o.id draftEvicted ds
  | .ok s1 =>
    let s2 := w.writes.foldl (fun x r => x.land order r) (s1.dropEsc o.id)
    let stamps := w.writes.map (fun r => After.stamp r.addr r.bytes.length w.stamp)
    let (s3, r) := s2.doAfters o order (stamps ++ w.after)
    let s4 := s3.trace { type := 3, ctx := o.pkt.ctx, tenant := some (s3.pktTenant o), opcode := o.pkt.opcode, tag := o.pkt.reqTag }
    let (st, d) := r.getD (w.status, w.details)
    let s5 := s4.finish o.id st d
    if w.after.contains .dataLoss then s5.tearDown o.pkt.ctx 3 else s5

/-- An operation's outstanding work comes to its commit point: remote sources must have arrived, remote writes are sent and acknowledged first
(R178, R410), and a frozen range holds it. -/
def State.commitPoint (s : State) (o : OutPkt) (w : Work) : State :=
  if s.ply.remote.any (fun r => r.pkt = some o.id) || s.workFrozen w then s
  else if !w.dma.isEmpty then
    let w1 := { s.dmaWork o.pkt w.dma w.staged with esc := w.esc }
    if w1.writes.any (fun r => (remoteNode r.addr).isSome) && !w.sent then
      (s.setJob o.id (.work { w1 with dma := w.dma, staged := w.staged, sent := true })).sendWrites o.id o.pkt w1.writes
    else s.commitWork o w1
  else if w.writes.any (fun r => (remoteNode r.addr).isSome) && !w.sent then
    (s.setJob o.id (.work { w with sent := true })).sendWrites o.id o.pkt w.writes
  else s.commitWork o w

end Sys2Proof.Machine
end

