-- ==== Sys2Proof/Machine/Halts.lean ====
section
/-! DEFINITION. Halted flyers (R493, R494): acknowledgements and orders queue at them and are decided at resume; whatever raises a Safe-hold cause
resumes every halted core. -/

namespace Sys2Proof.Machine

/-- Flyer that a queued acknowledgement or order waits at. -/
def State.ackFlyer (s : State) (a : Nat × Option StopOrder) : Nat :=
  match a.2 with
  | some o => o.flyer
  | none => match s.pkt? a.1 with | some o => o.flyer | none => 0

/-- Decide one queued acknowledgement or order. -/
def State.decideAck (s : State) (a : Nat × Option StopOrder) : State :=
  match a.2 with
  | some o => s.carryOut o
  | none => match s.pkt? a.1 with
    | some o => (match o.job with | .work w => s.commitPoint o w | _ => s)
    | none => s

/-- Flyers that run again decide what queued at them, in acknowledgement order (Table 22.3). -/
def State.drainAcks (s : State) : State :=
  let ready := s.dbg.queuedAcks.filter (fun a => !s.flyerHalted (s.ackFlyer a))
  let rest := s.dbg.queuedAcks.filter (fun a => s.flyerHalted (s.ackFlyer a))
  ready.foldl (fun x a => x.decideAck a) { s with dbg := { s.dbg with queuedAcks := rest } }

/-- Resume cores: masks of application cores and flyers (R492, R494). -/
def State.resume (s : State) (ac fl : Nat) : State :=
  ({ s with dbg := { s.dbg with haltedAc := s.dbg.haltedAc &&& (0xFFFF ^^^ (ac % 2 ^ 16)), haltedFl := s.dbg.haltedFl &&& (0x3FF ^^^ (fl % 2 ^ 10)) } }).drainAcks

/-- Raise a Safe-hold cause; every halted core resumes (R494). -/
def State.raiseHold (s : State) (n : Nat) : State := (s.raise n).drainAcks

/-- Every 100 µs the sensors are read (R434): a Safe-hold threshold raises cause 5. -/
def execThermalSample (temps : List Int) (s : State) : Res := .next (s.whileUp ((s.thermalSample temps).drainAcks))

/-- A reference oscillator (0) or the PLL of SD0, SD1 or the hub (1 to 3) fails: its spare takes over within a cycle, or cause 13 is raised (R295, R473, R479). -/
def execClockFailure (what : Nat) (s : State) : Res := .next (s.whileUp ((s.clockFails what).drainAcks))

/-- A fault of a Distaff pair: 0 of DA, 1 of DB, 2 the two disagree on a validity bit (R442). Cause 4 is raised. -/
def execDistaffFault (pair : Nat) (s : State) : Res :=
  .next <| s.whileUp <|
    if 2 < pair then s else
    let s1 : State := { s with saf := { s.saf with daFailed := s.saf.daFailed || pair = 0, dbFailed := s.saf.dbFailed || pair = 1 } }
    (s1.logIt .fence 0x20 pair).raiseHold 4

def specSafeEnter : OpSpec where
  code := 0x0B01
  masks := safeMasks
  run := fun e s =>
    let s1 := s.logIt .reason (e.p.f 3 15 0) 0
    (if bit s1.saf.causes 6 then s1 else s1.raiseHold 6).done e

/-- SAFE_STATE_REQUEST enter raises cause 6; while it is in force already, the request has no effect (R449). -/
def execSafeStateRequestEnter (src : Src) (p : Packet) (s : State) : Res := .next (specSafeEnter.exec src (p.withField 3 31 30 0) s)

end Sys2Proof.Machine
end

