-- ==== Sys2Proof/Machine/Sensors.lean ====
section
/-! DEFINITION. Sensor streams (R271 to R279), capture times (R300, R301), coax and lamp channels (R280 to R285), IMU supplies (R555). -/

namespace Sys2Proof.Machine

/-! ### STREAM_CONFIG -/

/-- Data types accepted (Table 11.2). -/
def dataTypes : List Nat := [0x12, 0x1E, 0x24, 0x2A, 0x2B, 0x2C, 0x2D, 0x2E, 0x2F]

/-- The stream that a STREAM_CONFIG packet spells (Table 11.1). -/
def streamOf (e : Env) : Stream :=
  let p := e.p
  { ctx := p.ctx, opener := e.bob, kind := p.f 3 29 28, port := p.f 3 12 8, vc := p.f 3 7 4, timeSrc := p.f 4 31 30, dt := p.f 4 23 16, lines := p.f 4 15 0
    timeOff := p.word 5, land := p.word 6 + p.f 7 15 0 * 2 ^ 32, slots := p.f 7 31 16, slotBytes := p.word 8, lineBytes := p.f 9 31 16, ether := p.f 9 15 0
    matchUdp := p.b 10 28, vlan := p.f 10 27 16, udp := p.f 10 15 0, batchUs := p.f 11 31 16, spiMode := p.b 12 28, sclk := p.f 12 23 16
    cmd := ((wordBytes [p.word 13, p.word 14]).take (p.f 12 15 8)), readLen := p.f 12 7 0, rateHz := p.f 15 31 16 }

/-- Faults of the fields of a stream, with the word each lies in. -/
def streamFaults (p : Packet) (t : Stream) : List (Bool × Nat) :=
  let a : Bool := t.kind = 0
  let e : Bool := t.kind = 1
  let i : Bool := t.kind = 2
  [ (decide (2 ≤ p.f 3 31 30) || t.kind = 3 || decide (95 < p.f 3 22 16)
      || decide ((if t.kind = 0 then 24 else if t.kind = 1 then 8 else 4) ≤ t.port) || (!a && t.vc ≠ 0), 3),
    (t.timeSrc = 3 || (t.timeSrc = 0 && !a) || (if t.kind = 0 then !dataTypes.contains t.dt else t.dt ≠ 0) || t.lines = 0
      || decide ((if t.kind = 2 then 1 else 8192) < t.lines), 4),
    (t.timeSrc = 0 && t.timeOff ≠ 0, 5), (t.land % 64 ≠ 0, 6), (decide (t.slots < 2) || decide (16 < t.slots), 7),
    (t.slotBytes % 64 ≠ 0 || decide (t.slotBytes < 64 + 64 * ceilDiv t.lines 512 + t.lines * t.lineBytes), 8),
    ((a && t.lineBytes = 0) || (e && (decide (t.lineBytes < 64) || decide (2047 < t.lineBytes))) || (i && t.lineBytes ≠ 0) || (!e && t.ether ≠ 0), 9),
    ((if t.kind = 1 then decide (t.batchUs < 100) else t.batchUs ≠ 0), 11),
    (i && (t.sclk = 0 || decide (24 < t.sclk) || decide (8 < p.f 12 15 8) || t.readLen = 0 || decide (64 < t.readLen)), 12),
    (i && decide (8000 < t.rateHz), 15) ]

/-- Whether two streams are the same flow: port and virtual channel, port and filter, or SPI port (R272). -/
def Stream.sameFlow (a b : Stream) : Bool :=
  a.kind = b.kind && a.port = b.port &&
  (if a.kind = 0 then a.vc = b.vc else if a.kind = 1 then a.ether = b.ether && a.vlan = b.vlan && a.matchUdp = b.matchUdp && a.udp = b.udp else true)

/-- Most streams of a port (R271). -/
def portLimit (kind : Nat) : Nat := if kind = 0 then 4 else if kind = 1 then 16 else 1

def State.setStreamOpt (s : State) (n : Nat) (t : Option Stream) : State :=
  { s with sen := { s.sen with streams := match t with | some x => NMap.put s.sen.streams n x | none => NMap.del s.sen.streams n } }

def streamMasks : Packet → List Nat := fun _ =>
  [fm [(31, 28), (22, 16), (12, 8), (7, 4)], fm [(31, 30), (23, 16), (15, 0)], full, full, full, full, full, fm [(28, 0)], fm [(31, 16)],
   fm [(28, 28), (23, 0)], full, full, fm [(31, 16)]]

def specStreamConfigure : OpSpec where
  code := 0x0600
  masks := streamMasks
  params := fun e s =>
    let t := streamOf e
    firstFail ((streamFaults e.p t).map (fun (x : Bool × Nat) => (x.1, badParam x.2)) ++ [(!s.ringOk e.p.ctx t.land (t.slots * t.slotBytes) true, badAddr t.land)])
  run := fun e s =>
    let t := streamOf e
    let n := e.p.f 3 22 16
    if NMap.has s.sen.streams n || s.sen.streams.any (fun (x : Nat × Stream) => x.2.sameFlow t) then s.done e 0x0201
    else if portLimit t.kind ≤ (s.sen.streams.filter (fun (x : Nat × Stream) => x.2.kind = t.kind && x.2.port = t.port)).length then s.done e noSpace [0x0E]
    else
      let s1 := s.setStreamOpt n (some t)
      let s2 : State := if t.kind = 2 then { s1 with pwr := { s1.pwr with imuOn := setAt s1.pwr.imuOn t.port true } } else s1
      s2.done e

/-- STREAM_CONFIG configures a stream; the supply of an SPI port comes on (R272, R555). -/
def execStreamConfigConfigure (src : Src) (p : Packet) (s : State) : Res := .next (specStreamConfigure.exec src (p.withField 3 31 30 0) s)

/-- A stream ends: started groups that have it as a member are fenced (R330), and the release that asked for it completes. -/
def State.endStream (s : State) (n : Nat) : State :=
  let lost := (s.sen.groups.filter (fun (g : Nat × Group) => g.2.started && g.2.ix.any (fun i => g.2.stream i = n))).map (fun (g : Nat × Group) => g.1)
  let s1 := lost.foldl (fun (y : State) g => y.fenceGroup g 1) (s.setStreamOpt n none)
  (s1.pkts.filter (fun (o : OutPkt) => o.job = .waits (.streamRelease n))).foldl (fun (y : State) o => y.finish o.id 0) s1

def specStreamRelease : OpSpec where
  code := 0x0600
  masks := streamMasks
  params := fun e s => match NMap.get? s.sen.streams (e.p.f 3 22 16) with
    | some t => if t.ctx ≠ e.p.ctx then some (badParam 3) else none
    | none => some (badParam 3)
  run := fun e s =>
    let n := e.p.f 3 22 16
    match NMap.get? s.sen.streams n with
    | some t =>
      let s1 := s.setJob e.id (.waits (.streamRelease n))
      if t.frame.isSome then s1.setStreamOpt n (some { t with releasing := some e.id }) else s1.endStream n
    | none => s

/-- STREAM_CONFIG release ends the stream at the next frame boundary (R272). -/
def execStreamConfigRelease (src : Src) (p : Packet) (s : State) : Res := .next (specStreamRelease.exec src (p.withField 3 31 30 1) s)

/-! ### Frames -/

/-- Capture time by arrival (Table 12.4), and whether it is untriggered. -/
def State.captureAt (s : State) (t : Stream) : Nat × Bool :=
  if t.timeSrc = 0 then
    match (NMap.getD s.time.trigStat t.port {}).times.find? (fun x => x ≤ s.now) with
    | some x => if s.now ≤ x + 100000000 then (x, false) else (s.now, true)
    | none => (s.now, true)
  else if t.timeSrc = 1 then (s.now - t.timeOff, false)
  else (s.now, false)

/-- A sensor timestamp at a payload byte, where it lies within 1 s before arrival (R301). -/
def sensorTime (bytes : List Byte) (off now : Nat) : Option Nat :=
  if bytes.length < off + 10 then none else
  let be (l : List Byte) : Nat := l.foldl (fun a b => a * 256 + b.toNat) 0
  let ns := be ((bytes.drop (off + 6)).take 4)
  let t := be ((bytes.drop off).take 6) * 10 ^ 9 + ns
  if ns < 10 ^ 9 && now ≤ t + 10 ^ 9 && t ≤ now then some t else none

/-- A frame, batch or sample starts: the next free slot in ring order takes it; with none free it is discarded and counted (R279). -/
def State.openFrame (s : State) (n : Nat) : State :=
  match NMap.get? s.sen.streams n with
  | none => s
  | some t =>
    match ((List.range t.slots).map (fun i => (t.nextSlot + i) % t.slots)).find? (fun k => !s.slotUsed n k) with
    | none => s.bumpStream n 2
    | some k =>
      if !s.ringOk t.ctx t.land (t.slots * t.slotBytes) true then
        if (match NMap.get? s.dom.contexts t.ctx with | some x => x.fenced | none => true) then s.bumpStream n 2 else (s.bumpStream n 2).tearDown t.ctx 2
      else
        let (c, un) := s.captureAt t
        s.setStreamOpt n (some { t with frame := some { slot := k, start := s.now, capture := c }, untriggered := t.untriggered + un.toNat })

/-- Land line, packet or sample `bytes` in the open frame: a damaged one lands as zeros (R277). `embedded`: embedded data. -/
def State.landLine (s : State) (n : Nat) (bytes : List Byte) (damaged recovered embedded : Bool) : State :=
  match NMap.get? s.sen.streams n with
  | none => s
  | some t =>
    match t.frame with
    | none => s
    | some f =>
      let len := if t.kind = 0 then t.lineBytes else bytes.length
      let off := if t.kind = 0 then f.next * t.lineBytes else f.bytes
      if t.lines ≤ f.next || t.slotBytes < 64 + 64 * ceilDiv t.lines 512 + off + len then
        s.setStreamOpt n (some { t with frame := some { f with truncated := true } })
      else
        let data : List Byte := if damaged then List.replicate len 0 else bytes
        let s1 := s.store (t.payload f.slot + off) data
        -- the first line, each packet of a batch, or the sample carries the sensor timestamp
        let look := t.timeSrc = 2 && (t.kind ≠ 0 || f.next = 0)
        let found := if look then sensorTime data t.timeOff s.now else none
        let bad := look && found.isNone
        let f1 : OpenFrame := { f with
          next := f.next + 1, rx := f.rx + 1, damaged := if damaged then f.damaged ++ [f.next] else f.damaged
          recovered := f.recovered + recovered.toNat, bytes := off + len, embedded := if embedded then f.embedded ++ [f.next] else f.embedded
          pkts := if t.kind = 0 then [] else f.pkts ++ [len]
          capture := (match found with | some x => if f.stamped then min f.capture x else x | none => f.capture)
          stamped := f.stamped || found.isSome }
        let s2 := s1.setStreamOpt n (some { t with frame := some f1 })
        if bad then s2.bumpStream n 7 else s2

/-- A mask of listed lines as bytes of a damage mask. -/
def maskBytes (lines : List Nat) (n : Nat) : List Byte :=
  (List.range n).map (fun i => BitVec.ofNat 8 ((lines.filter (fun l => l / 8 = i)).foldl (fun a l => a + 2 ^ (l % 8)) 0))

/-- The open frame of a stream closes: lines not received are damaged, descriptor and damage mask are written, the frame is counted and handed to
carding (R278, Table 11.3). A release that waited for it ends the stream. -/
def State.closeFrame (s : State) (n : Nat) (noEnd : Bool) : State :=
  match NMap.get? s.sen.streams n with
  | none => s
  | some t =>
    match t.frame with
    | none => s
    | some f =>
      let missing := if t.kind = 0 then (List.range (t.lines - f.next)).map (fun i => f.next + i) else []
      let damaged := f.damaged ++ missing
      let bytes := if t.kind = 0 then t.lines * t.lineBytes else f.bytes
      let base := t.land + f.slot * t.slotBytes
      let desc := leBytes 64 (f.capture / 10 ^ 9 % 2 ^ 48 * 2 ^ 464 + f.capture % 10 ^ 9 * 2 ^ 432 + t.seq % 2 ^ 32 * 2 ^ 400 + f.rx * 2 ^ 384
        + damaged.length * 2 ^ 368 + min f.recovered 0xFFFF * 2 ^ 352 + bytes % 2 ^ 32 * 2 ^ 320 + t.dt * 2 ^ 312 + n * 2 ^ 297
        + f.truncated.toNat * 2 ^ 290 + noEnd.toNat * 2 ^ 289 + (!damaged.isEmpty).toNat * 2 ^ 288)
      let s1 := s.store base (desc ++ maskBytes damaged (64 * ceilDiv t.lines 512))
      let s2 := if missing.isEmpty then s1 else s1.store (t.payload f.slot + f.next * t.lineBytes) (List.replicate (missing.length * t.lineBytes) 0)
      let s3 := s2.stampWrite base t.slotBytes (some f.capture)
      let s4 := s3.setStreamOpt n (some { t with frame := none, seq := (t.seq + 1) % 2 ^ 32, nextSlot := (f.slot + 1) % t.slots })
      let s5 := s4.bumpStream n 0
      let s6 := if damaged.isEmpty then s5 else s5.bumpStream n 1
      let s7 := s6.bumpStream n 3 f.recovered
      let ref : FrameRef := ⟨n, t.seq, f.slot, f.capture, if t.kind = 0 then t.lines else f.rx, damaged, f.embedded, f.pkts, bytes⟩
      let s8 := s7.cardFrame ref
      if t.releasing.isSome then s8.endStream n else s8

/-- The stream of a port that a test names. -/
def State.streamBy (s : State) (f : Stream → Bool) : Option (Nat × Stream) := s.sen.streams.find? (fun (x : Nat × Stream) => f x.2)

/-- Count a packet that no stream names (R274). -/
def State.unmatched (s : State) (port : Nat) : State :=
  { s with sen := { s.sen with unmatched := setAt s.sen.unmatched port (s.sen.unmatched.getD port 0 + 1) } }

/-- A CSI-2 packet arrives on a virtual channel of an A-PHY port whose link is up (R274). -/
def execCsi2Packet (port vc : Nat) (pkt : CsiPacket) (s : State) : Res :=
  .next <|
    if s.pwr.phase ≠ .up || s.sen.gears.getD port 0 = 0 then s else
    match s.streamBy (fun t => t.kind = 0 && t.port = port && t.vc = vc) with
    | none => s.unmatched port
    | some (n, t) =>
      match pkt with
      | .frameStart =>
        let s1 := s.closeFrame n true
        s1.openFrame n
      | .frameEnd => s.closeFrame n false
      | .lineStart => s
      | .lineEnd => s
      | .long dt bytes ok recovered =>
        if dt = t.dt || dt = 0x12 then s.landLine n bytes (!ok || bytes.length ≠ t.lineBytes) recovered (dt = 0x12 && t.dt ≠ 0x12)
        else s.unmatched port

/-- 100 ms after its frame start an open frame closes with NO_END (R278). -/
def execFrameCloseTimeout (stream : Nat) (s : State) : Res :=
  .next (s.whileUp (match NMap.get? s.sen.streams stream with | some t => if t.kind = 0 then s.closeFrame stream true else s | none => s))

/-- A packet of the open frame's next line has not been recovered within 50 µs: the line is damaged (R273, R277). -/
def execRetransmissionTimeout (port vc : Nat) (s : State) : Res :=
  .next <| s.whileUp <|
    match s.streamBy (fun t => t.kind = 0 && t.port = port && t.vc = vc) with
    | none => s
    | some (n, t) =>
      match t.frame with
      | some f =>
        if t.lines ≤ f.next then s else
        (s.store (t.payload f.slot + f.next * t.lineBytes) (List.replicate t.lineBytes 0)).setStreamOpt n
          (some { t with frame := some { f with next := f.next + 1, damaged := f.damaged ++ [f.next] } })
      | none => s

/-- An A-PHY link comes up at gear G1 to G5 (R273). -/
def execAphyLinkUp (port gear : Nat) (s : State) : Res :=
  .next (if s.pwr.phase ≠ .up || gear = 0 || 5 < gear || 24 ≤ port then s else { s with sen := { s.sen with gears := setAt s.sen.gears port gear } })

/-- An A-PHY link drops: open frames of the port close (Table 11.4). -/
def State.dropAphy (s : State) (port : Nat) : State :=
  let s1 : State := { s with sen := { s.sen with gears := setAt s.sen.gears port 0 } }
  (s1.sen.streams.filter (fun (t : Nat × Stream) => t.2.kind = 0 && t.2.port = port)).foldl (fun (y : State) (t : Nat × Stream) => y.closeFrame t.1 true) s1

def execAphyLinkDrop (port : Nat) (s : State) : Res := .next (s.whileUp (if 24 ≤ port || s.sen.gears.getD port 0 = 0 then s else s.dropAphy port))

/-! ### T1 and SPI -/

/-- Append a packet to a T1 stream's batch, opening one where none is open; the batch closes at LINES packets or when its capture-time span reaches
BATCH_US (R275). -/
def State.landBatch (s : State) (n : Nat) (t : Stream) (payload : List Byte) : State :=
  let s1 := if t.frame.isSome then s else s.openFrame n
  let long := decide (t.lineBytes < payload.length)
  let s2 := s1.landLine n (payload.take t.lineBytes) long false false
  match (NMap.get? s2.sen.streams n).bind (fun (x : Stream) => x.frame) with
  | some f =>
    let at_ := if t.timeSrc = 2 then (sensorTime payload t.timeOff s.now).getD s.now else s.now - t.timeOff
    if t.lines ≤ f.next || f.truncated || f.capture + t.batchUs * 1000 ≤ at_ then s2.closeFrame n false else s2
  | none => s2

/-- A frame on a sensor T1 port: the stream whose filter it matches takes its payload, else a host receive queue (R275). -/
def execT1Frame (port : Nat) (frame : List Byte) (s : State) : Res :=
  .next <|
    if s.pwr.phase ≠ .up || 8 ≤ port || !s.portUp port then s else
    let (ty, off, vlan, _) := ethHead frame
    match s.streamBy (fun t => t.kind = 1 && t.port = port && t.ether = ty && t.vlan = vlan
      && (!t.matchUdp || (match udpPort frame with | some (d, _) => d = t.udp | none => false))) with
    | some (n, t) => s.landBatch n t (frame.drop off)
    | none => s.hostReceive port frame

/-- The span of an open batch reaches BATCH_US. -/
def execBatchClose (stream : Nat) (s : State) : Res :=
  .next (s.whileUp (match NMap.get? s.sen.streams stream with | some t => if t.kind = 1 then s.closeFrame stream false else s | none => s))

/-- One SPI sample: the command bytes go out and READ_LEN bytes land as one sample (R276). -/
def State.landSample (s : State) (port : Nat) (sample : List Byte) (byRate : Bool) : State :=
  match s.streamBy (fun t => t.kind = 2 && t.port = port) with
  | none => s
  | some (n, t) =>
    if (t.rateHz ≠ 0) ≠ byRate || !s.pwr.imuOn.getD port false || (!byRate && s.pwr.imuFolded.getD port false) then s else
    let s1 := (s.emit (.spi port t.cmd)).openFrame n
    let data := (sample ++ List.replicate t.readLen (0 : Byte)).take t.readLen
    (s1.landLine n data false false false).closeFrame n false

/-- A data-ready edge of an SPI stream with RATE_HZ 0. -/
def execSpiDataReady (port : Nat) (sample : List Byte) (s : State) : Res := .next (if s.pwr.phase ≠ .up then s else s.landSample port sample false)
/-- A time-unit tick of an SPI stream with a RATE_HZ. -/
def execSpiRateTick (port : Nat) (sample : List Byte) (s : State) : Res := .next (if s.pwr.phase ≠ .up then s else s.landSample port sample true)

/-- No data-ready edge within 2 sample periods: the miss is counted (Table 11.4). -/
def execSpiDrdyMiss (port : Nat) (s : State) : Res :=
  .next (s.whileUp (match s.streamBy (fun t => t.kind = 2 && t.port = port) with
    | some (n, t) => s.setStreamOpt n (some { t with misses := t.misses + 1 })
    | none => s))

/-- A T1 link goes down: the loss is counted, and a drive-ring port costs a log record (R380, R453). -/
def execT1LinkLoss (port : Nat) (s : State) : Res :=
  .next <| s.whileUp <|
    if 12 ≤ port || !s.sen.t1Up.getD port false then s else
    let s1 : State := { s with sen := { s.sen with t1Up := setAt s.sen.t1Up port false, t1Losses := setAt s.sen.t1Losses port (s.sen.t1Losses.getD port 0 + 1) } }
    if 10 ≤ port then s1.logIt .driveRing port else s1

/-- A T1 link trains up again and carries frames. -/
def execT1LinkReturn (port : Nat) (s : State) : Res :=
  .next <|
    if 12 ≤ port || s.pwr.phase ≠ .up then s else
    let s1 : State := { s with sen := { s.sen with t1Up := setAt s.sen.t1Up port true } }
    s1.servePort port (s1.txWaiting port)

/-! ### Channels -/

/-- Channel number of a CHANNEL_ENABLE packet: coax 0 to 23, lamps 24 to 31. -/
def channelOf (p : Packet) : Nat := p.f 3 4 0 + (if p.b 3 28 then 24 else 0)

/-- Number of a channel within its kind. -/
def channelNo (c : Nat) : Nat := if c < 24 then c else c - 24

def State.chan (s : State) (c : Nat) : Channel := s.sen.channels.getD c {}
def State.setChan (s : State) (c : Nat) (x : Channel) : State := { s with sen := { s.sen with channels := setAt s.sen.channels c x } }

/-- Packets waiting for an inrush of a channel. -/
def State.chanWaiters (s : State) (c : Nat) : List Nat := (s.pkts.filter (fun (o : OutPkt) => o.job = .waits (.channel c))).map (fun o => o.id)

def specChannelEnable : OpSpec where
  code := 0x0605
  masks := fun _ => [fm [(31, 31), (28, 28), (4, 0)], fm [(15, 0)]]
  params := fun e _ =>
    firstFail [(decide ((if e.p.b 3 28 then 8 else 24) ≤ e.p.f 3 4 0), badParam 3),
      (e.p.f 4 15 0 ≠ 0 && (decide (e.p.f 4 15 0 < 100) || decide (550 < e.p.f 4 15 0)), badParam 4)]
  run := fun e s =>
    let c := channelOf e.p
    let x := s.chan c
    if e.p.b 3 31 then
      if x.on then s.done e 0 [channelNo c, x.used, x.us, 0]
      else
        let s1 := s.setChan c { x with fenced := false, limitMa := if e.p.f 4 15 0 = 0 then 550 else e.p.f 4 15 0, inrush := some { start := s.now } }
        s1.setJob e.id (.waits (.channel c))
    else
      let s1 := s.setChan c { x with on := false, inrush := none }
      ((s1.chanWaiters c).foldl (fun (y : State) i => y.finish i 0x0300) s1).done e 0 [channelNo c]

/-- CHANNEL_ENABLE with ON 1 starts an inrush and ends with it (R281). -/
def execChannelEnableOn (src : Src) (p : Packet) (s : State) : Res := .next (specChannelEnable.exec src (p.withField 3 31 31 1) s)
/-- CHANNEL_ENABLE with ON 0 switches the channel off. -/
def execChannelEnableOff (src : Src) (p : Packet) (s : State) : Res := .next (specChannelEnable.exec src (p.withField 3 31 31 0) s)

/-- The output reaches its completion level within the window (R282). -/
def execInrushComplete (channel : Nat) (s : State) : Res :=
  .next <| s.whileUp <|
    let x := s.chan channel
    match x.inrush with
    | none => s
    | some r =>
      if r.paused then s else
      let us := (s.now - r.start) / 1000
      let s1 := s.setChan channel { x with on := true, inrush := none, used := r.retries, us := us }
      (s1.chanWaiters channel).foldl (fun (y : State) i => y.finish i 0 [channelNo channel, r.retries, us, 0]) s1

/-- Fence a channel: 1 short, 2 inrush failure (R283, R284). The CHANNEL_ENABLE under way ends with the status; later faults are events to
bobbin 0 (R281). A fenced coax channel is a dropped link (Table 11.4). -/
def State.fenceChannel (s : State) (c cause : Nat) : State :=
  let no := channelNo c
  let lamp := decide (24 ≤ c)
  let status := if !lamp then fenced else if cause = 1 then 0x030A else 0x030B
  let d := if lamp then [no] else [0xA, no, cause, 0]
  let s1 := s.setChan c { s.chan c with on := false, inrush := none, fenced := true }
  let who := s1.chanWaiters c
  let s2 := if who.isEmpty then s1.event 0 0x0605 status 0 d else who.foldl (fun (y : State) i => y.finish i status d) s1
  let s3 := s2.fenceLog (if lamp then 8 else 0xA) no cause
  if lamp then s3 else s3.dropAphy c

/-- The inrush window ends without completion: the attempt is switched off, and retried after rail droop up to three times, else the channel is
fenced (R284). -/
def execInrushWindowEnd (channel : Nat) (droop : Bool) (s : State) : Res :=
  .next <| s.whileUp <|
    let x := s.chan channel
    match x.inrush with
    | none => s
    | some r =>
      if r.paused then s
      else if droop && r.retries < 3 then s.setChan channel { x with inrush := some { r with paused := true } }
      else s.fenceChannel channel 2

/-- 100 ms after the switch-off a fresh attempt starts. -/
def execInrushRetry (channel : Nat) (s : State) : Res :=
  .next <| s.whileUp <|
    let x := s.chan channel
    match x.inrush with
    | some r => if r.paused then s.setChan channel { x with inrush := some { retries := r.retries + 1, start := s.now } } else s
    | none => s

/-- The current of a channel rises above its trip level: it folds back, latches off and is fenced (R283). -/
def execShortTrip (channel : Nat) (s : State) : Res :=
  .next <| s.whileUp <|
    let x := s.chan channel
    let fed := x.on || (match x.inrush with | some r => !r.paused | none => false)
    if 32 ≤ channel || !fed then s else s.fenceChannel channel 1

/-- An IMU supply at its limit folds back, and comes back when its load falls below 150 mA (R555). -/
def execImuSupplyLimit (port : Nat) (folded : Bool) (s : State) : Res :=
  .next (s.whileUp (if !s.pwr.imuOn.getD port false then s else { s with pwr := { s.pwr with imuFolded := setAt s.pwr.imuFolded port folded } }))

/-- Switch every channel off, without fences (Table 11.15); a CHANNEL_ENABLE under way ends ABORTED. -/
def State.channelsOff (s : State) : State :=
  let s1 : State := { s with sen := { s.sen with channels := s.sen.channels.map (fun (x : Channel) => { x with on := false, inrush := none }) } }
  ((List.range 32).flatMap s1.chanWaiters).foldl (fun (y : State) i => y.finish i 0x0300) s1

end Sys2Proof.Machine
end

