-- ==== Sys2Proof/Machine/Debug.lean ====
section
/-! DEFINITION. Debug, trace and counters (chapter 22): the port's instructions (R488 to R490), breakpoints (R492 to R494, R498), TRACE_CONFIG (R495),
COUNTER_READ (R497). -/

namespace Sys2Proof.Machine

/-! ### The debug port -/

def State.selectTap (s : State) (t : TapInstr) : State := { s with dbg := { s.dbg with tap := t } }

/-- IDCODE selects the identification register (R488). -/
def execIdcode (s : State) : Res := .next (s.selectTap .idcode)
/-- BYPASS selects the bypass register. -/
def execBypass (s : State) : Res := .next (s.selectTap .bypass)
/-- SAMPLE/PRELOAD samples or preloads the boundary cells. -/
def execSamplePreload (s : State) : Res := .next (s.selectTap .sample)

/-- EXTEST and INTEST run only at FULL and under a machine-at-rest assertion; otherwise the TAP runs BYPASS (R490, Table 22.1). -/
def State.testTap (s : State) (t : TapInstr) : State := s.selectTap (if s.dbg.level = .full && s.isAtRest then t else .bypass)
def execExtest (s : State) : Res := .next (s.testTap .extest)
def execIntest (s : State) : Res := .next (s.testTap .intest)

/-- Roles of flyers that serve only the flexible lane (R491). -/
def flexRoles : List Nat := [1, 2, 3, 6, 7, 8]
/-- Mask of the flyers in flexible-lane roles. -/
def State.flexFlyers (s : State) : Nat := listMask ((flexRoles.map s.flyerFor).filter (fun f => !s.dev.flyersFenced.contains f))

/-- Whether core `n` (0 to 15 application cores, 16 to 25 flyers) is halted. -/
def State.coreHalted (s : State) (n : Nat) : Bool := if n < 16 then bit s.dbg.haltedAc n else bit s.dbg.haltedFl (n - 16)

/-- Halt core `n`, or with `all` the control side: every application core and flexible-lane flyer (Table 22.3). -/
def State.haltNow (s : State) (n : Nat) (all : Bool) : State :=
  let ac := if all then 0xFFFF else if n < 16 then 2 ^ n else 0
  let fl := if all then s.flexFlyers else if n < 16 then 0 else 2 ^ (n - 16)
  ({ s with dbg := { s.dbg with haltedAc := s.dbg.haltedAc ||| ac, haltedFl := s.dbg.haltedFl ||| fl } }).trace { type := 8, unit := n }

/-- A halt that is asked for, or hit: while Activating it is held until the pause ends (Table 25.4, R536). -/
def State.halt (s : State) (n : Nat) (all : Bool) : State :=
  if s.dev.update = .activating then { s with dbg := { s.dbg with heldHalts := s.dbg.heldHalts ++ [(n, all)] } } else s.haltNow n all

/-- The held halts are applied once the activation has ended. -/
def State.applyHalts (s : State) : State :=
  s.dbg.heldHalts.foldl (fun (x : State) (h : Nat × Bool) => x.haltNow h.1 h.2) { s with dbg := { s.dbg with heldHalts := [] } }

/-- The debug transport of a debugger at HOST or above (R489, R492): core as above, flyers of the flexible lane only. `op`: 0 halt, 1 resume, 2 step,
3 access a register, 4 read memory, 5 write `data` at `addr` as the halted core could. Stepping and registers of the cores themselves are no state
of the block. -/
def execDebugTransportAccess (core op addr : Nat) (data : List Byte) (s : State) : Res :=
  .next <|
    let ok := s.dbg.level ≠ .locked && decide (core < 26) && (decide (core < 16) || bit s.flexFlyers (core - 16)) && s.pwr.phase = .up
    let s0 := if s.pwr.phase = .off then s else { s with dbg := { s.dbg with tap := .transport } }
    if !ok then s else
    match op with
    | 0 => s0.halt core false
    | 1 => if core < 16 then s0.resume (2 ^ core) 0 else s0.resume 0 (2 ^ (core - 16))
    | 5 => if s0.coreHalted core && s0.served addr data.length then s0.store addr data else s0
    | _ => s0

/-! ### Breakpoints -/

def breakMasks (p : Packet) : List Nat := fm [(31, 27), (7, 0)] :: (if p.f 3 31 30 = 0 then [full, full] else [])

/-- Core that BREAK_SET names: 0 to 15 application cores, 16 to 25 flyers. -/
def breakCore (p : Packet) : Nat := p.f 3 7 4 + (if p.b 3 27 then 16 else 0)

def breakParams (e : Env) (_ : State) : Option Rej :=
  let p := e.p
  firstFail [(decide (2 ≤ p.f 3 29 28) || (p.b 3 27 && decide (9 < p.f 3 7 4)) || decide (3 < p.f 3 3 0) || (decide (2 ≤ p.f 3 31 30) && p.f 3 3 0 ≠ 0), badParam 3)]

/-- Preconditions 69 and 70 (Table 22.10). A halt of the whole control side takes in bobbin 0's home flyer. -/
def breakPre (e : Env) (s : State) : Option Rej :=
  let p := e.p
  let f := p.f 3 7 4
  let home := s.homeFlyer 0 false
  let all := p.f 3 29 28 = 1 && (p.f 3 31 30 = 0 || p.f 3 31 30 = 3)
  firstFail [(p.b 3 27 && (f = s.flyerFor 0 || f = s.flyerFor 5) && !s.isAtRest, badState 69),
    (((p.b 3 27 && f = home) || all) && s.dbg.level = .locked, badState 70)]

/-- A BREAK_SET row, with its effect. -/
def breakSpec (f : Packet → State → State) : OpSpec where
  code := 0x0C03
  masks := breakMasks
  params := breakParams
  pre := breakPre
  run := fun e s => (f e.p s).done e

/-- Key of a breakpoint slot. -/
def breakKey (p : Packet) : Nat := breakCore p * 4 + p.f 3 3 0

def specBreakSet : OpSpec := breakSpec (fun p s =>
  { s with dbg := { s.dbg with breaks := NMap.put s.dbg.breaks (breakKey p) (p.word 4 + p.word 5 * 2 ^ 32 + p.f 3 29 28 * 2 ^ 64) } })
/-- BREAK_SET set writes a breakpoint slot (R492). -/
def execBreakSetSet (src : Src) (p : Packet) (s : State) : Res := .next (specBreakSet.exec src (p.withField 3 31 30 0) s)

def specBreakClear : OpSpec := breakSpec (fun p s => { s with dbg := { s.dbg with breaks := NMap.del s.dbg.breaks (breakKey p) } })
/-- BREAK_SET clear empties a slot. -/
def execBreakSetClear (src : Src) (p : Packet) (s : State) : Res := .next (specBreakClear.exec src (p.withField 3 31 30 1) s)

def specBreakResume : OpSpec := breakSpec (fun p s =>
  if p.f 3 29 28 = 1 then s.resume 0xFFFF s.flexFlyers
  else if p.b 3 27 then s.resume 0 (2 ^ p.f 3 7 4) else s.resume (2 ^ p.f 3 7 4) 0)
/-- BREAK_SET resume releases the halted cores of the scope; flyers decide what queued at them (R492, Table 22.3). -/
def execBreakSetResume (src : Src) (p : Packet) (s : State) : Res := .next (specBreakResume.exec src (p.withField 3 31 30 2) s)

def specBreakHalt : OpSpec := breakSpec (fun p s => s.halt (breakCore p) (p.f 3 29 28 = 1))
/-- BREAK_SET halt now halts the scope (R493). -/
def execBreakSetHaltNow (src : Src) (p : Packet) (s : State) : Res := .next (specBreakHalt.exec src (p.withField 3 31 30 3) s)

/-- A core reaches the address of one of its breakpoint slots, and the slot's scope halts (R493). -/
def execBreakpointHit (core slot : Nat) (s : State) : Res :=
  .next <|
    match NMap.get? s.dbg.breaks (core * 4 + slot) with
    | some a => if s.coreHalted core || decide (3 < slot) || s.pwr.phase ≠ .up then s else s.halt core (bit a 64)
    | none => s

/-! ### Trace -/

def specTraceConfig : OpSpec where
  code := 0x0C01
  masks := fun _ => [fm [(31, 30), (10, 0)], full, fm [(31, 16), (12, 0)]]
  params := fun e _ => if e.p.f 3 10 0 = 0 then some (badParam 3) else none
  run := fun e s =>
    let p := e.p
    let size := p.f 3 10 0
    if 1024 < size then s.done e noSpace [0x28] else
    let d := s.dbg
    let entries := size * 2 ^ 20 / 32
    let head0 := if size = d.sizeMib then d.traceHead else 0
    let stopFull := p.b 3 30
    let atEnd := decide (entries ≤ head0)
    let d1 : DebugState := { d with
      traceOn := p.b 3 31, stopFull := stopFull, sizeMib := size, typeMask := p.word 4, tenants := p.f 5 31 16
      ctxOnly := if p.b 5 12 then some (p.f 5 11 0) else none
      traceStop := atEnd && stopFull, traceHead := if atEnd && !stopFull then 0 else head0
      traceWraps := if atEnd && !stopFull then satAdd 0xFFFFFFFF d.traceWraps 1 else d.traceWraps }
    ({ s with dbg := d1 }).done e 0 [d.traceBase % 2 ^ 32, d.traceBase / 2 ^ 32]

/-- TRACE_CONFIG sets the ring size and the filters, and turns trace on or off (R495). -/
def execTraceConfig (src : Src) (p : Packet) (s : State) : Res := .next (specTraceConfig.exec src p s)

/-! ### Counters -/

/-- Entries and bytes of an entry of a counter group (Table 22.9). -/
def ctrShape (g : Nat) : Nat × Nat :=
  match g with | 0 => (64, 32) | 1 => (104, 8) | 2 => (96, 32) | 3 => (1, 64) | 4 => (528, 16) | 5 => (6, 64) | 6 => (64, 16) | _ => (1, 64)

/-- Groups that are counted by tenant. -/
def ctrByTenant (g : Nat) : Bool := decide (g < 4)

/-- A counter summed over tenants. -/
def State.ctr (s : State) (g : Nat) (tenants : List Nat) (limit entry field : Nat) : Nat :=
  tenants.foldl (fun a t => satAdd limit a (NMap.getD s.dbg.counters (ctrKey g t entry field) 0)) 0

/-- Bytes of one entry. -/
def State.ctrBytes (s : State) (g : Nat) (ts : List Nat) (i : Nat) : List Byte :=
  let c64 := s.ctr g ts (2 ^ 64 - 1) i
  let c32 := s.ctr g ts (2 ^ 32 - 1) i
  match g with
  | 0 => leBytes 8 (c64 0) ++ leBytes 8 (c64 1) ++ leBytes 8 (if i < 16 then c64 2 else 0) ++ leBytes 4 (c32 4) ++ leBytes 4 (c32 3)
  | 1 => leBytes 8 (c64 0)
  | 2 => (List.range 8).flatMap (fun f => leBytes 4 (c32 f))
  | 4 => (List.range 4).flatMap (fun f => leBytes 4 (c32 f))
  | 6 =>
    let r := s.tens.rails.getD i {}
    leBytes 4 (c32 0) ++ leBytes 4 r.factor ++ leBytes 4 r.peakMa ++ leBytes 4 (c32 3)
  | _ => (List.range 8).flatMap (fun f => leBytes 8 (c64 f))

/-- Zero the entries of a range. -/
def State.ctrClear (s : State) (g : Nat) (ts : List Nat) (first n : Nat) : State :=
  let hit (k : Nat) : Bool := ts.any (fun t => decide (ctrKey g t first 0 ≤ k) && decide (k < ctrKey g t (first + n) 0))
  let s1 : State := { s with dbg := { s.dbg with counters := s.dbg.counters.filter (fun (c : Nat × Nat) => !hit c.1) } }
  if g = 6 then { s1 with tens := { s1.tens with rails := s1.tens.rails.zipIdx.map (fun (r : Rail × Nat) => if first ≤ r.2 && r.2 < first + n then { r.1 with peakMa := 0 } else r.1) } }
  else s1

/-- Where COUNTER_READ may write (R497): a TENANT_WIDE region of the issuing tenant on a T bobbin; any HBM region or hub SRAM on A and S bobbins. -/
def State.ctrDst (s : State) (src : Src) (a n : Nat) : Bool :=
  match place a, s.issuerTenant src with
  | .hbm _ _, some t => s.served a n && s.ms.regions.any (fun r => r.wide && r.tenant = t && decide (r.base ≤ a) && decide (a + n ≤ r.base + r.size))
  | .hbm _ _, none => s.served a n && s.ms.regions.any (fun r => decide (r.base ≤ a) && decide (a + n ≤ r.base + r.size))
  | .hub _, none => s.served a n
  | _, _ => false

def ctrDstAddr (p : Packet) : Addr := p.word 5 + p.f 6 15 0 * 2 ^ 32

def specCounterRead : OpSpec where
  code := 0x0C02
  masks := fun _ => [fm [(31, 30), (27, 24), (18, 0)], fm [(15, 0)], full, fm [(15, 0)]]
  params := fun e s =>
    let p := e.p
    let sh := ctrShape (p.f 3 18 16)
    let n := p.f 4 15 0
    firstFail [(n = 0 || decide (sh.1 < p.f 3 15 0 + n), badParam 4), (ctrDstAddr p % 64 ≠ 0, badParam 5), (!s.ctrDst e.src (ctrDstAddr p) (n * sh.2), badAddr (ctrDstAddr p))]
  pre := fun e s =>
    match s.issuerTenant e.src with
    | some t => if !ctrByTenant (e.p.f 3 18 16) || e.p.b 3 30 || e.p.f 3 27 24 ≠ t then some (badState 68) else none
    | none => none
  run := fun e s =>
    let p := e.p
    let g := p.f 3 18 16
    let ts := if !ctrByTenant g then [0] else if p.b 3 30 then List.range 16 else [p.f 3 27 24]
    let bs := (List.range (p.f 4 15 0)).flatMap (fun i => s.ctrBytes g ts (p.f 3 15 0 + i))
    let s1 := s.store (ctrDstAddr p) bs
    let s2 := if p.b 3 31 then s1.ctrClear g ts (p.f 3 15 0) (p.f 4 15 0) else s1
    s2.done e 0 [bs.length, ts32 s.now, s.dbg.wakes, 0]

/-- COUNTER_READ writes counter entries, all taken at one tick, and clears them where asked (R497). -/
def execCounterRead (src : Src) (p : Packet) (s : State) : Res := .next (specCounterRead.exec src p s)

end Sys2Proof.Machine
end

