-- ==== Sys2Proof/Machine/Twists.lean ====
section
/-! DEFINITION. The commands of chapter 7: DRAFT_OPEN (R200), TWIST with its two phases (R201 to R206, R210), UNRAVEL (R204), DRAFT_QUERY, writeback
(R207), and what a peer does with the records of drafts that it holds (R209, Table 7.12). -/

namespace Sys2Proof.Machine

/-! ### DRAFT_OPEN -/

/-- Open drafts of a context; peer records and escalation drafts are not counted (R189, R209). -/
def State.ownDrafts (s : State) (c : Nat) : List Draft := s.dr.drafts.filter (fun d => d.ctx = c && d.node.isNone && d.esc.isNone)

/-- The draft of a context with a tag, at any level. -/
def State.tagged? (s : State) (c tag : Nat) : Option Draft := (s.ownDrafts c).find? (fun d => d.tag = tag)

/-- Trace record of a draft's new state (Table 22.6, codes of Table 7.10). -/
def State.traceDraft (s : State) (d : Draft) (code : Nat) : State :=
  s.trace { type := 6, ctx := d.ctx, tenant := some (s.ctxTenant d.ctx), status := code, tag := d.tag }

def specDraftOpen : OpSpec where
  code := 0x0400
  masks := fun _ => [fm [(27, 16), (5, 0)]]
  params := fun e s => if (s.tagged? e.p.ctx (e.p.f 3 5 0)).isSome then some (badParam 3) else none
  pre := fun e s =>
    let n := e.p.f 3 27 16
    firstFail [(e.p.level = 4, badState 18), (n ≠ 0 && decide (n < s.held e.p.ctx .pages), badState 19)]
  run := fun e s =>
    let c := e.p.ctx
    if 64 ≤ (s.ownDrafts c).length then s.done e noSpace [9] else
    let d : Draft := { ctx := c, tag := e.p.f 3 5 0, level := e.p.level + 1, parent := e.p.tag, opener := e.bob, order := s.dr.nextOrder }
    let n := e.p.f 3 27 16
    let s1 : State := { s with dr := { s.dr with drafts := s.dr.drafts ++ [d], nextOrder := s.dr.nextOrder + 1 } }
    let s2 := if n = 0 then s1 else s1.setCtx c (fun x => { x with pageBudget := n })
    let s3 := (s2.bump 3 (s.ctxTenant c) 0 0 1).traceDraft d 1
    s3.done e 0 [d.level, s3.capacity c .pages]

/-- DRAFT_OPEN opens a draft with a new tag (R188, R200). -/
def execDraftOpen (src : Src) (p : Packet) (s : State) : Res := .next (specDraftOpen.exec src p s)

/-! ### The outcome of a twist -/

/-- The draft that a TWIST, UNRAVEL or DRAFT_QUERY packet names in its parameters (R188). -/
def State.named? (s : State) (p : Packet) : Option Draft := s.draft? p.ctx (p.f 3 8 6) (p.f 3 5 0)

/-- Committed length of the sequence and layer that an append belongs to. -/
def State.committedLen (s : State) (t : Nat) (a : DraftAppend) : Nat :=
  match s.pool? (t * 16 + a.pool) with
  | some k => (match NMap.get? k.seqs a.seq with | some q => q.lens.getD a.layer 0 | none => 0)
  | none => 0

/-- Return frames to a tenant's pools. -/
def State.freePages (s : State) (t : Nat) (ps : List DraftPage) : State :=
  { s with kv := ps.foldl (fun m g => NMap.upd m (t * 16 + g.pool) (fun k => { k with frames := dropRef k.frames g.frame })) s.kv }

/-- Lines of a draft become the committed versions, served from shadow until written back (R206). -/
def State.commitLines (s : State) (c : Nat) (ls : NMap (List Byte)) : State :=
  ls.foldl (fun (x : State) (l : Nat × List Byte) =>
    let y := x.store (l.1 * 64) l.2
    { y with dr := { y.dr with writeback := y.dr.writeback ++ [(c, l.1)] } }) s

/-- Lines of a child over those of its parent (R195). -/
def mergeLines (parent child : NMap (List Byte)) : NMap (List Byte) := child.foldl (fun m (l : Nat × List Byte) => NMap.put m l.1 l.2) parent

/-- A child's appends, pages, plan sets, peers and waiting hand-offs become its parent's; its versions replace the parent's (R195, R206). -/
def Draft.absorb (p d : Draft) : Draft :=
  let same (a b : DraftAppend) : Bool := a.pool = b.pool && a.seq = b.seq && a.layer = b.layer
  let samePage (a b : DraftPage) : Bool := a.pool = b.pool && a.seq = b.seq && a.layer = b.layer && a.page = b.page
  { p with
    lines := mergeLines p.lines d.lines
    appends := p.appends.map (fun a => match d.appends.find? (same a) with | some b => { a with fill := b.fill } | none => a)
      ++ d.appends.filter (fun b => !p.appends.any (fun a => same a b))
    pages := p.pages.filter (fun a => !d.pages.any (samePage a)) ++ d.pages
    plans := if d.plans.isEmpty then p.plans else d.plans
    peers := (p.peers ++ d.peers).eraseDups
    deferred := p.deferred ++ d.deferred.filter (fun a => !(match a with | .plan _ none => p.deferred.contains a | _ => false)) }

/-- What waited for a draft's commit point happens (R211). -/
def State.doDeferred (s : State) (order : Nat) (a : After) : State :=
  match a with
  | .plan c none => s.commitShadow c order
  | .age stream stamp payload => s.ageResult stream stamp payload
  | .stamp base n t => s.stampWrite base n t
  | .poison ls => { s with ms := { s.ms with poison := (s.ms.poison ++ ls).eraseDups } }
  | _ => s

/-- A draft trimmed to KEEP (R203); pages that only discarded slots used go back. -/
def State.trimDraft (s : State) (d : Draft) (keep : Option Nat) : State × Draft :=
  match keep with
  | none => (s, d)
  | some k =>
    let t := s.ctxTenant d.ctx
    let (d1, freed) := d.trim (s.committedLen t) k
    ((s.freePages t freed).setDraft d.order (fun _ => d1), d1)

/-- The commit of a draft (R206): into its parent, or into committed contents at level 1. Its tag is free. -/
def State.applyDraft (s : State) (d : Draft) : State :=
  let t := s.ctxTenant d.ctx
  let gone (x : State) : State := { x with dr := { x.dr with drafts := x.dr.drafts.filter (fun y => y.order ≠ d.order) } }
  let s1 := d.peers.foldl (fun x n => x.plySend n (.commit ⟨x.dev.node, d.ctx, d.tag, d.level⟩ d.parent)) s
  let s2 := (s1.bump 3 t 0 1 1).traceDraft d 0
  if d.level = 1 then
    let pools := (d.pages.map (fun g => g.pool) ++ d.appends.map (fun a => a.pool)).eraseDups
    let s3 := pools.foldl (fun x p => match x.pool? (t * 16 + p) with | some k => x.setPool (t * 16 + p) (k.applyDraft p d) | none => x) ((gone s2).commitLines d.ctx d.lines)
    d.deferred.foldl (fun x a => x.doDeferred d.order a) s3
  else
    match s2.draft? d.ctx (d.level - 1) d.parent with
    | none => gone s2
    | some p =>
      let lost := p.pages.filter (fun a => d.pages.any (fun b => a.pool = b.pool && a.seq = b.seq && a.layer = b.layer && a.page = b.page))
      let s3 := ((gone s2).freePages t lost).setDraft p.order (fun p => p.absorb d)
      { s3 with eng := { s3.eng with plans := s3.eng.plans.map (fun (g : Nat × PlanConfig) => (g.1,
          match NMap.get? g.2.shadow d.order with
          | some x => { g.2 with shadow := NMap.put (NMap.del g.2.shadow d.order) p.order x }
          | none => g.2)) } }

/-! ### TWIST -/

def State.setTwist (s : State) (id : Nat) (f : Twist → Twist) : State :=
  { s with dr := { s.dr with twists := s.dr.twists.map (fun t => if t.pkt = id then f t else t) } }

def State.dropTwist (s : State) (id : Nat) : State := { s with dr := { s.dr with twists := s.dr.twists.filter (fun t => t.pkt ≠ id) } }

/-- Node mask of a TWIST, without this node. -/
def State.twistPeers (s : State) (p : Packet) : List Nat := (maskList 64 (p.word 4 + p.word 5 * 2 ^ 32)).filter (· ≠ s.dev.node)

def verdictAddr (p : Packet) : Addr := p.word 7 + p.f 8 15 0 * 2 ^ 32

/-- The checks of R201, in its order. -/
def twistCheck (e : Env) (s : State) : Option Rej :=
  let p := e.p
  match s.named? p with
  | none => some (badState 20)
  | some d =>
    match d.st with
    | .tainted r => some ⟨0x0109, [r]⟩
    | .opened =>
      let a := verdictAddr p
      let inPlace := match place a with | .coreMem _ _ => true | .dieShared _ _ => true | _ => false
      firstFail [((s.ownDrafts p.ctx).any (fun x => x.level = d.level + 1 && x.parent = d.tag), badState 21),
        (!d.peers.all (s.twistPeers p).contains || (s.isFixed p.ctx && (p.word 4 ≠ 0 || p.word 5 ≠ 0)), badState 23),
        (p.f 6 31 30 = 2 && !(a % 4 = 0 && inPlace && s.portsOk p.ctx a 4 [0, 1, 2, 3, 4, 5, 6]), badAddr a)]
    | _ => some (badState 20)

def specTwist : OpSpec where
  code := 0x0401
  masks := fun p =>
    let m := p.f 6 31 30
    [fm [(8, 0)], full, full, if m = 1 then fm [(31, 30), (15, 0)] else fm [(31, 30)]] ++ (if m = 2 then addrMasks else [])
  params := fun e _ =>
    let l := e.p.f 3 8 6
    firstFail [(decide (l = 0 || 4 < l), badParam 3), (e.p.f 6 31 30 = 3, badParam 6)]
  pre := twistCheck
  run := fun e s =>
    match s.named? e.p with
    | none => s
    | some d =>
      let wait := (s.pkts.filter (fun o => decide (o.id < e.id) && isOn [d] o)).map (fun o => o.id)
      let s1 := (s.setDraft d.order (fun d => { d with st := .twisting e.id })).setJob e.id (.waits .twist)
      let t : Twist := { pkt := e.id, ctx := e.p.ctx, tag := d.tag, waitFor := wait }
      let s2 : State := { s1 with dr := { s1.dr with twists := s1.dr.twists ++ [t] } }
      s2.traceDraft d 3

/-- TWIST puts its draft in Twisting (R201, R202); it starts once the draft's earlier packets have ended. -/
def execTwist (src : Src) (p : Packet) (s : State) : Res := .next (specTwist.exec src p s)

/-- Local participants of a draft (R205): 0 to 15 cores, 16 and 17 dies, 18 pages, 19 planner. -/
def Draft.participants (d : Draft) : List Nat :=
  (List.range 16).filter (fun k => d.holds (.core k) ≠ 0)
  ++ ([0, 1].filter (fun k => d.holds (.die k) ≠ 0)).map (· + 16)
  ++ (if d.pages.isEmpty && d.appends.isEmpty then [] else [18])
  ++ (if d.plans.isEmpty then [] else [19])

/-- The commit point of a twist (R65): the outcome is applied; the reply follows when every participant has received COMMIT. -/
def State.decideTwist (s : State) (id : Nat) (d : Draft) (keep : Option Nat) (parts : List Nat) : State :=
  let (s1, d1) := s.trimDraft d keep
  let s2 := s1.applyDraft d1
  s2.setTwist id (fun t => { t with committed := true, commitTime := s.now, votes := [], applying := parts, lines := d1.lines.length, pages := d1.slotPages.length })

/-- Write the reply of a committed twist that no participant still applies (Table 7.11). -/
def State.endTwist (s : State) (id : Nat) : State :=
  match s.twist? id with
  | some t =>
    if t.committed && t.applying.isEmpty then
      ((s.finish id 0 [t.lines, t.pages, t.commitTime - t.startTime, min t.lost 0xFFFF] t.commitTime).dropTwist id)
    else s
  | none => s

/-- The start of a twist (R202 to R205). -/
def State.startTwist (s : State) (o : OutPkt) : State :=
  match s.named? o.pkt with
  | none => s
  | some d =>
    match d.st with
    | .tainted r => (s.finish o.id 0x0109 [r]).dropTwist o.id
    | .twisting p =>
      if p ≠ o.id then s else
      let m := o.pkt.f 6 31 30
      let ch := s.chain o.pkt.ctx d.level d.tag
      let v := if m = 2 then leNat ((List.range 4).map (fun i => s.byteSeen ch (verdictAddr o.pkt + i))) else 2 ^ 31
      if !bit v 31 then
        -- GO is 0: this read is the commit point
        let (s1, _, _, _) := s.unravelAll d.order ⟨0x0300, [], some o.id⟩
        (s1.finish o.id 0 [0, 0, 0, 2 ^ 31]).dropTwist o.id
      else
        let keep := if m = 1 then some (o.pkt.f 6 15 0) else if m = 2 && bit v 30 then some (bits v 15 0) else none
        let local_ := d.participants
        let peers := d.peers.filter (s.twistPeers o.pkt).contains
        let s1 := s.setTwist o.id (fun t => { t with started := true, keep := keep, startTime := s.now })
        if peers.isEmpty && decide (local_.length ≤ 1) then (s1.decideTwist o.id d keep []).endTwist o.id
        else
          let s2 := peers.foldl (fun x n => x.plySend n (.prepare ⟨x.dev.node, d.ctx, d.tag, d.level⟩ keep)) s1
          s2.setTwist o.id (fun t => { t with votes := local_ ++ peers.map (· + 64) })
    | _ => s

/-- TWIST starts once every earlier packet under its draft has ended (R202); a halted owning flyer holds it (Table 7.13). -/
def execTwistStart (id : Nat) (s : State) : Res :=
  .next <| s.whileUp <|
    match s.pkt? id, s.twist? id with
    | some o, some t =>
      if t.started || s.flyerHalted o.flyer || t.waitFor.any (fun i => (s.pkt? i).isSome) then s else s.startTwist o
    | _, _ => s

/-- PREPARE reaches a local participant of a twist: the draft's items are frozen, and its vote is on the way (R205). -/
def execTwistPrepare (id part : Nat) (s : State) : Res :=
  .next <| s.whileUp <|
    match s.twist? id with
    | some t =>
      if t.started && !t.committed && t.votes.contains part && decide (part < 64) && !t.applying.contains part then
        let s1 := s.setTwist id (fun t => { t with applying := t.applying ++ [part] })
        { s1 with dr := { s1.dr with drafts := s1.dr.drafts.map (fun d => if d.st = .twisting id then { d with frozen := true } else d) } }
      else s
    | none => s

/-- The draft that packet `id` twists. -/
def State.twisting? (s : State) (id : Nat) : Option Draft := s.dr.drafts.find? (fun d => d.st = .twisting id)

/-- A vote reaches the owning flyer: with all votes in, it records commit; a FAIL unravels the draft at every participant (R205, Table 7.12). -/
def State.takeVote (s : State) (id part : Nat) (ready : Bool) : State :=
  match s.twist? id, s.twisting? id, s.pkt? id with
  | some t, some d, some o =>
    if !t.votes.contains part || t.committed || s.flyerHalted o.flyer then s
    else if !ready then
      (s.unravelAll d.order ⟨draftEvicted, [evictWord d, 4, part - 64, 0], none⟩).1
    else
      let left := t.votes.filter (· ≠ part)
      if left.isEmpty then (s.decideTwist id d t.keep (d.participants ++ (d.peers.filter (s.twistPeers o.pkt).contains).map (· + 64))).endTwist id
      else s.setTwist id (fun t => { t with votes := left })
  | _, _, _ => s

/-- TWIST_VOTE: a local participant that has prepared votes READY; a peer votes as its message says. -/
def execTwistVote (id part : Nat) (ready : Bool) (s : State) : Res :=
  .next <| s.whileUp <|
    match s.twist? id with
    | some t => if part < 64 then (if t.applying.contains part then s.takeVote id part true else s) else s.takeVote id part ready
    | none => s

/-- COMMIT reaches a participant: its frozen items are released; with the last one the reply is written (Table 7.11). -/
def State.partDone (s : State) (id part : Nat) : State :=
  match s.twist? id with
  | some t => if t.committed && t.applying.contains part then (s.setTwist id (fun t => { t with applying := t.applying.filter (· ≠ part) })).endTwist id else s
  | none => s

def execTwistCommit (id part : Nat) (s : State) : Res := .next (s.whileUp (s.partDone id part))

/-- PEER_LOST. -/
def peerLost : Nat := 0x0304

/-- A twist meets a peer that is lost or does not vote (Table 7.12). -/
def State.twistLosesPeer (s : State) (id node : Nat) : State :=
  match s.twist? id with
  | none => s
  | some t =>
    if t.committed then
      if t.applying.contains (64 + node) then (s.setTwist id (fun t => { t with lost := t.lost + 1 })).partDone id (64 + node) else s
    else match s.twisting? id with
      | some d => if t.started && t.votes.contains (64 + node) then (s.unravelAll d.order ⟨peerLost, [node], none⟩).1 else s
      | none => s

/-- 200 µs after PREPARE a peer has not voted, counted while the owning flyer runs (R210). -/
def execTwistVoteTimeout (id node : Nat) (s : State) : Res :=
  .next <| s.whileUp <|
    match s.twist? id, s.pkt? id with
    | some t, some o => if t.startTime + 200000 ≤ s.now && !t.committed && !s.flyerHalted o.flyer then s.twistLosesPeer id node else s
    | _, _ => s

/-! ### Peer records -/

/-- The record that this module holds of a draft owned on another node (R209). -/
def State.peerRecord? (s : State) (k : DraftKey) : Option Draft :=
  s.dr.drafts.find? (fun d => d.node = some k.node && d.ownerCtx = k.ctx && d.tag = k.tag && d.level = k.level)

/-- PREPARE from an owning module: the record is frozen and votes READY; without a record, the vote is FAIL (R205, R209). -/
def State.peerPrepare (s : State) (k : DraftKey) : State :=
  match s.peerRecord? k with
  | some d => (s.setDraft d.order (fun d => { d with frozen := true, ready := true })).plySend k.node (.vote k true)
  | none => s.plySend k.node (.vote k false)

/-- The outcome of a record: committed, or relabelled as the record of the draft's parent (R206). -/
def State.commitRecord (s : State) (d : Draft) (parent : Nat) : State :=
  let s1 : State := { s with dr := { s.dr with drafts := s.dr.drafts.filter (fun x => x.order ≠ d.order) } }
  if d.level = 1 then s1.commitLines d.ctx d.lines
  else
    match s1.dr.drafts.find? (fun x => x.node = d.node && x.ownerCtx = d.ownerCtx && x.ctx = d.ctx && x.tag = parent && x.level = d.level - 1) with
    | some p => s1.setDraft p.order (fun p => { p with lines := mergeLines p.lines d.lines })
    | none => { s1 with dr := { s1.dr with drafts := s1.dr.drafts ++ [{ d with tag := parent, level := d.level - 1, frozen := false, ready := false }] } }

/-- COMMIT from an owning module. -/
def State.peerCommit (s : State) (k : DraftKey) (parent : Nat) : State :=
  match s.peerRecord? k with
  | some d => if d.ready then s.commitRecord d parent else s
  | none => s

/-- An unravel, or a release after an ABORT, from an owning module (Table 7.12). -/
def State.peerUnravel (s : State) (k : DraftKey) : State :=
  match s.peerRecord? k with
  | some d => (s.discard d).logIt .refused 0x0402 k.node
  | none => s

def State.peerRelease (s : State) (k : DraftKey) : State :=
  match s.peerRecord? k with
  | some d => s.setDraft d.order (fun d => { d with frozen := false, ready := false })
  | none => s

/-- A READY record whose owning module is lost applies COMMIT if another participant holds it within 10 ms, and otherwise unravels (Table 7.12). -/
def execTwistOwnerLostTimeout (record : Nat) (commit : Bool) (parent : Nat) (s : State) : Res :=
  .next <| s.whileUp <|
    match s.dr.drafts.find? (fun d => d.order = record) with
    | some d => if d.ready && d.ownerLost then (if commit then s.commitRecord d parent else s.discard d) else s
    | none => s

/-! ### UNRAVEL, DRAFT_QUERY, writeback -/

def specUnravel : OpSpec where
  code := 0x0402
  masks := fun _ => [fm [(8, 0)]]
  params := fun e _ => if e.p.f 3 8 6 = 0 || 4 < e.p.f 3 8 6 then some (badParam 3) else none
  pre := fun e s => match s.named? e.p with
    | some d => (match d.st with | .unravelling => some (badState 20) | _ => none)
    | none => some (badState 20)
  run := fun e s =>
    match s.named? e.p with
    | none => s.done e 0x0108 [20]
    | some d =>
      let (s1, n, lines, pages) := s.unravelAll d.order ⟨0x0300, [], some e.id⟩
      s1.done e 0 [n, lines, pages]

/-- UNRAVEL unravels a draft and its descendants; their outstanding packets end ABORTED (R204). -/
def execUnravel (src : Src) (p : Packet) (s : State) : Res := .next (specUnravel.exec src p s)

/-- Code of a draft's state (Table 7.10). -/
def DraftState.code : DraftState → Nat
  | .opened => 1
  | .tainted _ => 2
  | .twisting _ => 3
  | .unravelling => 4

def specDraftQuery : OpSpec where
  code := 0x0403
  masks := fun p => if p.b 3 31 then [fm [(31, 31)]] else [fm [(31, 31), (8, 0)]]
  params := fun e _ => if !e.p.b 3 31 && (e.p.f 3 8 6 = 0 || decide (4 < e.p.f 3 8 6)) then some (badParam 3) else none
  run := fun e s =>
    let c := e.p.ctx
    if e.p.b 3 31 then
      let m := (s.ownDrafts c).foldl (fun a d => a ||| 2 ^ d.tag) 0
      s.done e 0 [m % 2 ^ 32, m / 2 ^ 32, ((s.ownDrafts c).map (fun d => d.pages.length)).sum, s.capacity c .pages]
    else
      match s.named? e.p with
      | none => s.done e 0 [0, 0, 0, 0]
      | some d =>
        let kids := ((s.ownDrafts c).filter (fun x => x.level = d.level + 1 && x.parent = d.tag)).length
        let most := (List.range 16).foldl (fun a k => max a (d.holds (.core k))) 0
        s.done e 0 [d.st.code * 2 ^ 16 + (if d.level = 1 then 0 else d.parent) * 64 + min kids 63, most, d.holds (.die 0) + d.holds (.die 1), d.pages.length * 2 ^ 16 + d.plans.length]

/-- DRAFT_QUERY reports one draft, or the open tags of the context (R188, Table 7.10). -/
def execDraftQuery (src : Src) (p : Packet) (s : State) : Res := .next (specDraftQuery.exec src p s)

/-- The background writeback of a committed line completes: its shadow line is free (R207). -/
def execWritebackComplete (ctx line : Nat) (s : State) : Res :=
  .next (s.whileUp { s with dr := { s.dr with writeback := s.dr.writeback.filter (· ≠ (ctx, line)) } })

end Sys2Proof.Machine
end

