-- ==== Sys2Proof/Machine/Ply.lean ====
section
/-! DEFINITION. The ply fabric (chapter 17): links and their frames (R388 to R392), discovery and the routing table (R393 to R397), joining, leaving and
loss (R404 to R407), remote windows (R408 to R411), collectives (R412 to R415). -/

namespace Sys2Proof.Machine

/-! ### Links -/

def State.plyPort (s : State) (n : Nat) : PlyPort := s.ply.ports.getD n {}
def State.setPlyPort (s : State) (n : Nat) (f : PlyPort → PlyPort) : State := { s with ply := { s.ply with ports := updAt s.ply.ports n f } }

/-- Node ID that this module uses: the one it joins under, or its own. -/
def State.plyId (s : State) : Nat := match s.ply.joining with | some (_, n, _) => n | none => s.dev.node

/-- Ports that are up. -/
def State.upPorts (s : State) : List Nat := (List.range 6).filter (fun n => (s.plyPort n).mode = .up)

/-- This module's link-state record (R393). -/
def State.ownLsr (s : State) : Lsr :=
  { node := s.plyId, serial := s.dev.serial, seq := s.ply.ownSeq, leaving := s.ply.leaving
    ports := (List.range 6).map (fun n => let q := s.plyPort n; ⟨n, q.mode = .up, q.nbrNode, q.nbrPort⟩) }

/-- Flood this module's record to every neighbour (R393). -/
def State.floodOwn (s : State) : State :=
  let s1 : State := { s with ply := { s.ply with ownSeq := s.ply.ownSeq + 1 } }
  s1.upPorts.foldl (fun x n => x.plyOut n 0x3F (.lsr x.ownLsr)) s1

/-- Send a HELLO on a port. -/
def State.sendHello (s : State) (n : Nat) : State := s.plyOut n 0x3F (.hello s.plyId s.dev.serial n s.ply.epoch)

/-- A port goes down: frames of its retry buffer go to another minimal port of their destination, or are dropped and counted (R390). -/
def State.portDown (s : State) (n : Nat) (mode : PlyPortMode) : State :=
  let q := s.plyPort n
  let s1 := s.setPlyPort n (fun q => { q with mode := mode, trained := false, hellos := 0, hello := none, buffer := [], nbrNode := 0, nbrPort := 0 })
  let s2 := q.buffer.foldl (fun (x : State) r =>
    match (match NMap.get? x.ply.table r.dst with | some t => t.ports.find? (fun m => m ≠ n && (x.plyPort m).mode = .up) | none => none) with
    | some m => x.plyOut m r.dst r.msg
    | none => (x.setPlyPort n (fun q => { q with dropped := q.dropped + 1 })).bump 5 0 n 6 1) s1
  s2.floodOwn

/-- A port in training completes it (R388). A named port that is down trains anew in the same way. -/
def execPlyLinkTrained (port : Nat) (s : State) : Res :=
  .next <|
    let q := s.plyPort port
    if s.pwr.phase ≠ .up || !s.ply.named.contains port || decide (6 ≤ port) then s else
    match q.mode with
    | .training => if q.trained then s else (s.setPlyPort port (fun q => { q with trained := true })).sendHello port
    | .down => (s.setPlyPort port (fun q => { q with mode := .training, trained := true })).sendHello port
    | _ => s

/-- A lane over its error rate, or out of lock, is spliced onto the spare lane; a second splice fences the port until module reset (R389). -/
def execPlyLaneError (port : Nat) (s : State) : Res :=
  .next <| s.whileUp <|
    let q := s.plyPort port
    if decide (6 ≤ port) || q.mode = .down || q.mode = .fenced then s
    else if !q.spareIn then (s.setPlyPort port (fun q => { q with spareIn := true })).logIt .laneRepair 0xF port
    else (s.portDown port .fenced).fence 0 0 0 0xF port 1

/-- A frame that this module sent fails its CRC at the neighbour: it is re-sent from the retry buffer (R390). -/
def execPlyCrcFail (port seq : Nat) (s : State) : Res :=
  .next <| s.whileUp <|
    match (s.plyPort port).buffer.find? (fun r => r.seq = seq) with
    | some r =>
      ((s.setPlyPort port (fun q => { q with retries := satAdd 0xFF q.retries 1, resent := q.resent + 1 })).bump 5 0 port 4 1).emit (.ply port r.dst r.msg)
    | none => s

/-- No frame received for 20 µs: the link is declared down (R390). -/
def execPlyLinkTimeout (port : Nat) (s : State) : Res :=
  .next (s.whileUp (if (s.plyPort port).mode = .up || ((s.plyPort port).mode = .training && (s.plyPort port).trained) then (s.portDown port .down).logIt .plyPort port else s))

/-- A sender emits at least one frame every 2 µs (R390). -/
def execPlyIdleEmit (port : Nat) (s : State) : Res :=
  .next (s.whileUp (if (s.plyPort port).mode = .up || (s.plyPort port).trained then s.plyOut port 0x3F .idle else s))

/-! ### Receiving -/

/-- Frames a port acknowledged up to `ack` leave its retry buffer; credits come back (Table 17.2). -/
def PlyPort.acked (q : PlyPort) (h : PlyHead) : PlyPort :=
  { q with
    rxSeq := h.seq
    buffer := q.buffer.filter (fun r => decide (32768 ≤ (h.ack + 65536 - r.seq) % 65536))
    credits := (List.range 4).map (fun v => q.credits.getD v 0 + bits h.credits (15 - 4 * v) (12 - 4 * v)) }

/-- Discard a frame: counted and logged (R391). -/
def State.plyDiscard (s : State) (port : Nat) : State :=
  ((({ s with ply := { s.ply with discarded := s.ply.discarded + 1 } } : State).setPlyPort port (fun q => { q with discarded := q.discarded + 1 })).bump 5 0 port 5 1).logIt .dropped 0x1000 port

/-- Whether a message is link-local, or a link-state record, which a node takes before it has joined (R404). -/
def PlyMsg.isLocal : PlyMsg → Bool
  | .idle => true | .hello .. => true | .lsr .. => true | .ethernet .. => true
  | _ => false

/-- Receive a frame on a port: checks of R391, acknowledgement, forwarding (R397), and then `take` for a frame to this node. -/
def State.plyReceive (s : State) (port : Nat) (h : PlyHead) (m : PlyMsg) (take : State → State) : State :=
  let q := s.plyPort port
  if s.pwr.phase ≠ .up || decide (6 ≤ port) || !(q.mode = .up || (q.mode = .training && q.trained)) then s
  else if !h.crcOk || !h.formOk then s.plyDiscard port
  else
    let s1 := s.setPlyPort port (fun q => q.acked h)
    if m.isLocal then take s1
    else if !s.ply.joined || q.mode ≠ .up then s1.plyDiscard port
    else if h.dst = s.dev.node then take s1
    else if h.hops ≤ 1 then s1.plyDiscard port
    else match NMap.get? s1.ply.table h.dst with
      | some r => s1.emit (.plyForward (r.ports.headD 0) h.src h.dst (h.hops - 1) m)
      | none => s1.plyDiscard port

/-- IDLE carries ACK and CREDITS (Table 17.3). -/
def execIdle (port : Nat) (h : PlyHead) (s : State) : Res := .next (s.whileUp (s.plyReceive port h .idle id))

/-- HELLO: three consistent ones bring a link up (R393); one that contradicts an up link starts it anew. -/
def State.takeHello (s : State) (port node serial peer epoch : Nat) : State :=
  let q := s.plyPort port
  let x := (node, serial, peer, epoch)
  let n := if q.hello = some x then q.hellos + 1 else 1
  let q1 : PlyPort := { q with hellos := n, hello := some x }
  if q.mode = .up then
    if n = 1 && q.hello.isSome then ((s.setPlyPort port (fun _ => { q1 with mode := .training })).floodOwn).sendHello port
    else s.setPlyPort port (fun _ => q1)
  else if 3 ≤ n then (s.setPlyPort port (fun _ => { q1 with mode := .up, nbrNode := node, nbrPort := peer })).floodOwn
  else (s.setPlyPort port (fun _ => q1)).sendHello port

def execHello (port : Nat) (h : PlyHead) (node serial peer epoch : Nat) (s : State) : Res :=
  .next (s.whileUp (s.plyReceive port h (.hello node serial peer epoch) (fun x => x.takeHello port node serial peer epoch)))

/-- ETHERNET lands in the receive queue of the port it came in on (R416). -/
def execEthernet (port : Nat) (h : PlyHead) (data : List Byte) (s : State) : Res :=
  .next (s.whileUp (s.plyReceive port h (.ethernet data) (fun x => if (x.plyPort port).mode = .up then x.hostReceive (12 + port) data else x)))

/-! ### Routing -/

/-- Links of a node as its record gives them; this module's own for its own node. -/
def State.linksOf (s : State) (n : Nat) : List LsrPort :=
  if n = s.plyId then s.ownLsr.ports else match NMap.get? s.ply.db n with | some r => r.ports | none => []

/-- Neighbours of a node over links that both ends report as up (R394): own port, neighbour. -/
def State.nbrsOf (s : State) (n : Nat) : List (Nat × Nat) :=
  (s.linksOf n).filterMap (fun p =>
    if p.up && (s.linksOf p.node).any (fun q => q.port = p.nbrPort && q.up && q.node = n && q.nbrPort = p.port) then some (p.port, p.node) else none)

/-- A node through which no transit traffic goes (R405). -/
def State.isLeaving (s : State) (n : Nat) : Bool := match NMap.get? s.ply.db n with | some r => r.leaving | none => false

/-- Hop counts from a set of nodes already reached, by breadth: `d` hops so far. -/
def State.reach (s : State) : Nat → Nat → List Nat → NMap Nat → NMap Nat
  | 0, _, _, seen => seen
  | fuel + 1, d, front, seen =>
    let next := ((front.filter (fun n => d = 0 || !s.isLeaving n)).flatMap (fun n => (s.nbrsOf n).map (fun (x : Nat × Nat) => x.2))).eraseDups.filter (fun n => !NMap.has seen n)
    if next.isEmpty then seen else State.reach s fuel (d + 1) next (next.foldl (fun m n => NMap.put m n (d + 1)) seen)

/-- The routing table that the database gives (R394, R397): destinations at most 8 hops away, the 32 lowest node IDs (Table 17.4), with their minimal ports. -/
def State.routes (s : State) : NMap Route :=
  let me := s.plyId
  let dist := s.reach 8 0 [me] [(me, 0)]
  let via (p : Nat × Nat) : NMap Nat := s.reach 8 0 [p.2] [(me, 0), (p.2, 0)]
  let vias := (s.nbrsOf me).map (fun p => (p.1, p.2, via p))
  let toRoute (x : Nat × Nat) : Nat × Route :=
    let ports := vias.filterMap (fun (v : Nat × Nat × NMap Nat) =>
      let back := if v.2.1 = x.1 then some 0 else if s.isLeaving v.2.1 then none else NMap.get? v.2.2 x.1
      match back with | some k => if k + 1 = x.2 then some v.1 else none | none => none)
    (x.1, ⟨x.2, ports.eraseDups⟩)
  ((dist.filter (fun x => x.1 ≠ me)).take 32).map toRoute

/-! ### Losing and gaining nodes -/

/-- Place of a bobbin's rings that Mladon chooses in its firmware reserve: a free choice. -/
def State.reserveBlock (s : State) : Addr := 0x10000 * (Config.freeNat s.free % 32000)

/-- A peer's bobbin is created in the lowest free number of 192 to 223 (R408). -/
def State.makePeerBobbin (s : State) (node : Nat) : State :=
  match (List.range 32).find? (fun i => (s.bob (192 + i)).mode = .unused) with
  | none => s
  | some i =>
    let base := s.reserveBlock
    (s.drawn 1).setBob (192 + i) { mode := .running, flyer := s.homeFlyer (192 + i) false, sizeLog2 := 6, cmdBase := base, cplBase := base + 0x2000, node := node }

/-- Bobbin of a peer. -/
def State.peerBobbin? (s : State) (node : Nat) : Option Nat :=
  (List.range 32).findSome? (fun i => if (s.bob (192 + i)).mode ≠ .unused && (s.bob (192 + i)).node = node then some (192 + i) else none)

/-- Destroy a lost peer's bobbin: its packets end ABORTED, and no reply can be delivered (R52, Table 17.7). -/
def State.dropPeerBobbin (s : State) (node : Nat) : State :=
  match s.peerBobbin? node with
  | none => s
  | some n =>
    let s1 := (s.outstanding n).foldl (fun (x : State) o => (x.stopOne .abort o.id).1.logIt .peerReplyDiscarded n o.pkt.reqTag) s
    { s1 with q := { s1.q with bobbins := NMap.del s1.q.bobbins n } }

/-- What this module does when a node leaves its table (Table 17.7). -/
def State.loseNode (s : State) (n : Nat) : State :=
  -- collectives and transfers that involve it
  let colls := (s.ply.colls.filter (fun c => bit c.key.nodes n)).map (fun c => c.pkt)
  let s1 := colls.foldl (fun (x : State) i =>
    match x.pkt? i with
    | some o =>
      let dst := o.pkt.word 9 + o.pkt.f 10 15 0 * 2 ^ 32
      let x1 := x.finish i peerLost [n]
      if o.pkt.level = 0 then x1.scramble dst (o.pkt.word 11 * Num.width (o.pkt.f 3 27 24) / 8) else x1
    | none => x) s
  let xfers := ((s1.ply.remote.filter (fun r => r.node = n)).filterMap (fun r => r.pkt)).eraseDups
  let s2 := xfers.foldl (fun (x : State) i => x.finish i peerLost [n]) s1
  let s3 : State := { s2 with ply := { s2.ply with remote := s2.ply.remote.filter (fun r => r.node ≠ n) } }
  -- twists, drafts with records there, records of drafts owned there
  let s4 := (s3.dr.twists.map (fun t => t.pkt)).foldl (fun x i => x.twistLosesPeer i n) s3
  let hit (x : State) : Option Draft := x.dr.drafts.find? (fun d => d.node.isNone && d.peers.contains n)
  let s5 := (List.range s4.dr.drafts.length).foldl (fun x _ => match hit x with | some d => x.evict d 4 n none | none => x) s4
  let s6 := (s5.dr.drafts.filter (fun d => d.node = some n)).foldl (fun (x : State) d =>
    if d.ready then x.setDraft d.order (fun d => { d with ownerLost := true }) else (x.discard d).logIt .peerLost n d.tag) s5
  -- its bobbin, its windows
  let s7 := s6.dropPeerBobbin n
  let grants := (s7.ply.granted.filter (fun g => g.node = n)).filterMap (fun g => g.pending)
  let revokes := (s7.pkts.filter (fun o => match o.job with | .waits (.revoke k _) => k = n | _ => false)).map (fun o => o.id)
  let s8 := revokes.foldl (fun x i => if grants.contains i then x.finish i peerLost [n] else x.finish i 0) s7
  { s8 with ply := { s8.ply with
      granted := s8.ply.granted.filter (fun g => g.node ≠ n), held := s8.ply.held.filter (fun g => g.node ≠ n)
      revoking := s8.ply.revoking.filter (fun r => r.1 ≠ n), collEarly := s8.ply.collEarly.filter (fun c => c.1 ≠ n) } }

/-- Confirm revocations whose accesses have ended (R409). -/
def State.confirmRevokes (s : State) : State :=
  let open_ (r : Nat × Nat × Nat × Nat) : Bool := s.ply.remote.any (fun x => x.node = r.1 && (match place x.dst with
    | .remote _ off => overlap off x.bytes r.2.2.1 r.2.2.2
    | _ => false))
  let ready := s.ply.revoking.filter (fun r => !open_ r)
  ready.foldl (fun (x : State) r => x.plySend r.1 (.windowAck r.2.1 false)) { s with ply := { s.ply with revoking := s.ply.revoking.filter open_ } }

/-- The role that the active table gives (R395). -/
def State.tableRole (s : State) : Role := if s.ply.table.all (fun (r : Nat × Route) => decide (s.dev.node < r.1)) then .coordinator else .member

/-- Swap in a routing table: nodes are lost and gained, the role is decided, a partner ends or raises cause 0 (R35, R394, R395, R406). -/
def State.swapTable (s : State) (t : NMap Route) : State :=
  let gone := (s.ply.table.filter (fun (r : Nat × Route) => !NMap.has t r.1)).map (fun r => r.1)
  let came := (t.filter (fun (r : Nat × Route) => !NMap.has s.ply.table r.1)).map (fun r => r.1)
  let s1 := gone.foldl (fun (x : State) n => (x.loseNode n).logIt .peerLost n (s.isLeaving n).toNat) { s with ply := { s.ply with table := t, version := s.ply.version + 1 } }
  let s2 := came.foldl (fun x n => x.makePeerBobbin n) s1
  let role := s2.tableRole
  let fresh := role = .coordinator && s2.dev.role ≠ .coordinator
  let s3 : State := { s2 with
    dev := { s2.dev with role := role }
    tens := { s2.tens with
      reports := if fresh then [] else s2.tens.reports.filter (fun (r : Nat × TensReport) => NMap.has t r.1 || r.1 = s2.dev.node)
      grants := s2.tens.grants.filter (fun (g : Nat × Nat) => NMap.has t g.1 || g.1 = s2.dev.node)
      lowered := s2.tens.lowered.filter (fun n => NMap.has t n || n = s2.dev.node)
      raised := s2.tens.raised.filter (fun (g : Nat × Nat) => NMap.has t g.1 || g.1 = s2.dev.node)
      collecting := if fresh then !t.isEmpty else s2.tens.collecting && role = .coordinator } }
  let s4 := if t.isEmpty then (if bit s3.saf.causes 0 then s3 else s3.raise 0) else s3.endCause 0
  (if gone.isEmpty && came.isEmpty then s4 else s4.recompute).confirmRevokes

/-- The module leaves the fabric: its ports go down and it is Solo again; what is in flight ends as for a loss (R405). -/
def State.leaveFabric (s : State) : State :=
  let s1 := (List.range 6).foldl (fun (x : State) n => x.setPlyPort n (fun q =>
    { q with mode := if q.mode = .fenced then .fenced else .down, trained := false, hellos := 0, hello := none, buffer := [], nbrNode := 0, nbrPort := 0 })) s
  let s2 := (s1.ply.table.map (fun (r : Nat × Route) => r.1)).foldl (fun x n => x.loseNode n) s1
  let s3 : State := { s2 with
    dev := { s2.dev with role := .solo }
    ply := { s2.ply with table := [], db := [], joined := false, leaving := false, joining := none, named := [], collEarly := [], revoking := [] } }
  let s4 := if bit s3.saf.causes 0 then s3 else s3.raise 0
  let waiters := (s4.pkts.filter (fun o => match o.job with | .waits (.leave _) => true | _ => false)).map (fun o => o.id)
  (waiters.foldl (fun x i => x.finish i 0) s4).recompute

/-! ### Link-state records -/

/-- A link-state record arrives: the highest sequence per node is kept and flooded on (R393). In a running fabric, the ID of a lower serial wins
(Table 17.4). -/
def State.takeLsr (s : State) (port : Nat) (r : Lsr) : State :=
  let mine : Bool := r.node = s.plyId
  if mine && r.serial = s.dev.serial then s else
  let newer := match NMap.get? s.ply.db r.node with
    | some x => if x.serial = r.serial then decide (x.seq < r.seq) else if mine then decide (r.serial < x.serial) else decide (x.seq < r.seq)
    | none => true
  if !newer then s else
  let s1 : State := { s with ply := { s.ply with db := NMap.put s.ply.db r.node r } }
  let s2 := (s1.upPorts.filter (· ≠ port)).foldl (fun x n => x.plyOut n 0x3F (.lsr r)) s1
  if mine && s.ply.joined && decide (r.serial < s.dev.serial) then (s2.leaveFabric.logIt .nodeConflict r.node r.serial).fence 0 0 0 0x10 r.node 1 else s2

def execLsr (port : Nat) (h : PlyHead) (r : Lsr) (s : State) : Res := .next (s.whileUp (s.plyReceive port h (.lsr r) (fun x => x.takeLsr port r)))

/-- Every 10 ms a node floods its record (R393). -/
def execLsrRefresh (s : State) : Res := .next (if s.upPorts.isEmpty || s.pwr.phase ≠ .up then s else s.floodOwn)

/-- A record not refreshed for 50 ms is removed (R393). -/
def execLsrExpiry (node : Nat) (s : State) : Res := .next (s.whileUp { s with ply := { s.ply with db := NMap.del s.ply.db node } })

/-- The table follows every change of the database within 10 µs (R394). -/
def execRoutingTableSwap (s : State) : Res :=
  .next (if s.ply.joined && s.pwr.phase = .up && s.routes ≠ s.ply.table then s.swapTable s.routes else s)

/-! ### PLY_JOIN and PLY_LEAVE -/

def specPlyJoin : OpSpec where
  code := 0x0900
  masks := fun _ => [fm [(13, 8), (5, 0)]]
  params := fun e _ => if e.p.f 3 13 8 = 63 || e.p.f 3 5 0 = 0 then some (badParam 3) else none
  pre := fun _ s => if s.dev.role ≠ .solo || s.ply.joining.isSome then some (badState 55) else none
  run := fun e s =>
    let ports := maskList 6 (e.p.f 3 5 0)
    let s1 := ports.foldl (fun (x : State) n => x.setPlyPort n (fun q => if q.mode = .fenced then q else { q with mode := .training })) s
    ({ s1 with ply := { s1.ply with joining := some (e.id, e.p.f 3 13 8, ports), named := ports, epoch := s1.ply.epoch + 1, version := 0, db := [] } }).setJob e.id (.waits (.join ports))

/-- PLY_JOIN starts link training on the named ports (R404, Table 17.6). -/
def execPlyJoin (src : Src) (p : Packet) (s : State) : Res := .next (specPlyJoin.exec src p s)

/-- A join that fails leaves the ports down, and the role Solo. -/
def State.failJoin (s : State) (id n : Nat) : State :=
  let s1 := (List.range 6).foldl (fun (x : State) k => x.setPlyPort k (fun q =>
    if q.mode = .fenced then q else { q with mode := .down, trained := false, hellos := 0, hello := none, buffer := [], nbrNode := 0, nbrPort := 0 })) s
  ({ s1 with ply := { s1.ply with joining := none, named := [], db := [] } }).finish id 0x0108 [n]

/-- 1,000 ms into a join no named port has come up (Table 17.6, precondition 60). -/
def execJoinTrainingTimeout (s : State) : Res :=
  .next <| s.whileUp <|
    match s.ply.joining with
    | some (id, _, ports) => if ports.any (fun n => (s.plyPort n).trained || (s.plyPort n).mode = .up) then s else s.failJoin id 60
    | none => s

/-- The database has settled: conflicts are checked, the table is swapped in, the role is set and peer bobbins are created (Tables 17.4, 17.6). -/
def execJoinDatabaseSettled (s : State) : Res :=
  .next <| s.whileUp <|
    match s.ply.joining with
    | none => s
    | some (id, node, _) =>
      if s.upPorts.isEmpty then s
      else
        let others := (s.ply.db.filter (fun (r : Nat × Lsr) => r.1 ≠ node)).length
        match NMap.get? s.ply.db node with
        | some r => if r.serial < s.dev.serial then (s.logIt .nodeConflict node r.serial).failJoin id 56 else settle s id node others
        | none => settle s id node others
where
  settle (s : State) (id node others : Nat) : State :=
    if 32 ≤ others then s.failJoin id 61 else
    let t := s.routes
    let s1 : State := { s with dev := { s.dev with node := node }, ply := { s.ply with joining := none, joined := true } }
    (s1.swapTable t).finish id 0

def leaveMasks : Packet → List Nat := fun _ => [1]
def leavePre (s : State) : Option Rej := if s.dev.role = .solo then some (badState 55) else none

def specPlyLeaveGraceful : OpSpec where
  code := 0x0901
  masks := leaveMasks
  pre := fun _ s => leavePre s
  run := fun e s => (({ s with ply := { s.ply with leaving := true } } : State).floodOwn).setJob e.id (.waits (.leave false))

/-- PLY_LEAVE with NOW 0 floods LEAVING and drains the node (R405). -/
def execPlyLeaveGraceful (src : Src) (p : Packet) (s : State) : Res := .next (specPlyLeaveGraceful.exec src (p.withField 3 0 0 0) s)

def specPlyLeaveNow : OpSpec where
  code := 0x0901
  masks := leaveMasks
  pre := fun _ s => leavePre s
  run := fun e s => (s.setJob e.id (.waits (.leave true))).leaveFabric

/-- PLY_LEAVE with NOW 1 takes the ports down at once (R405). -/
def execPlyLeaveNow (src : Src) (p : Packet) (s : State) : Res := .next (specPlyLeaveNow.exec src (p.withField 3 0 0 1) s)

/-- No operation that involves the node remains, or 100 ms have passed since LEAVING was flooded: the ports go down (R405). -/
def execLeaveDrainEnd (s : State) : Res := .next (s.whileUp (if s.ply.leaving then s.leaveFabric else s))

/-! ### Remote windows -/

def specWindowGrant : OpSpec where
  code := 0x0903
  masks := fun p => if p.b 3 31 then [fm [(31, 31), (19, 16), (13, 8)]] else
    [fm [(31, 29), (23, 20), (19, 16), (13, 8)], full, fm [(7, 0)], full, fm [(15, 0)], full]
  params := fun e s =>
    let p := e.p
    let ofs := p.word 4 + p.f 5 7 0 * 2 ^ 32
    let base := p.addr 6
    let n := p.word 8 * 0x200000
    let peer := p.f 3 13 8
    let own : Bool := match place base with
      | .hbm _ _ => s.served base n && s.ms.regions.any (fun r => r.ctx = p.ctx && decide (r.base ≤ base) && decide (base + n ≤ r.base + r.size))
      | .dieShared _ _ => s.portsOk p.ctx base n [4]
      | .coreMem _ _ => s.portsOk p.ctx base n [4]
      | _ => false
    firstFail [(p.f 3 30 29 = 0 || p.f 3 19 16 ≠ 0, badParam 3), (ofs % 0x200000 ≠ 0 || decide (ofs < 0x200000), badParam 4), (base % 0x200000 ≠ 0, badParam 6),
      (p.word 8 = 0 || decide (2 ^ 40 < ofs + n), badParam 8),
      (s.ply.granted.any (fun g => g.node = peer && overlap g.offset (g.granules * 0x200000) ofs n), badParam 4), (!own, badAddr base)]
  pre := fun e s =>
    let lane := s.isFixed e.p.ctx || (match place (e.p.addr 6) with
      | .coreMem k _ => s.dom.reservations.any (fun r => bit r.2.coreMask k)
      | _ => false)
    firstFail [(s.dev.role = .solo, badState 55), (lane, badState 57)]
  run := fun e s =>
    let p := e.p
    let peer := p.f 3 13 8
    match s.noRouteTo [peer] with
    | some r => s.done e r.1 r.2
    | none =>
      match (List.range 16).find? (fun k => !s.ply.granted.any (fun g => g.node = peer && g.seg = k)) with
      | none => s.done e noSpace [0x27]
      | some k =>
        let g : Segment := { node := peer, seg := k, ctx := p.ctx, tenant := p.f 3 23 20, offset := p.word 4 + p.f 5 7 0 * 2 ^ 32, base := p.addr 6
                             granules := p.word 8, read := p.b 3 30, write := p.b 3 29, pending := some e.id }
        let s1 : State := { s with ply := { s.ply with granted := s.ply.granted ++ [g] } }
        (s1.plySend peer (.windowTable k true g.tenant g.offset g.granules g.read g.write)).setJob e.id (.waits (.revoke peer k))

/-- REMOTE_WINDOW grant maps a local range into the window of a peer (R409). It completes once the peer has swapped its table. -/
def execRemoteWindowGrant (src : Src) (p : Packet) (s : State) : Res := .next (specWindowGrant.exec src (p.withField 3 31 31 0) s)

def specWindowRevoke : OpSpec where
  code := 0x0903
  masks := fun _ => [fm [(31, 31), (19, 16), (13, 8)]]
  pre := fun e s =>
    let p := e.p
    firstFail [(s.dev.role = .solo, badState 55), (s.isFixed p.ctx, badState 57),
      (!s.ply.granted.any (fun g => g.node = p.f 3 13 8 && g.seg = p.f 3 19 16 && g.ctx = p.ctx), badState 59)]
  run := fun e s =>
    let peer := e.p.f 3 13 8
    match s.noRouteTo [peer] with
    | some r => s.done e r.1 r.2
    | none => (s.plySend peer (.windowTable (e.p.f 3 19 16) false 0 0 0 false false)).setJob e.id (.waits (.revoke peer (e.p.f 3 19 16)))

/-- REMOTE_WINDOW revoke completes once the peer's accesses to the segment have ended (R409). -/
def execRemoteWindowRevoke (src : Src) (p : Packet) (s : State) : Res := .next (specWindowRevoke.exec src (p.withField 3 31 31 1) s)

/-- A peer's window table changes: a segment it grants is added, or one it revokes goes, once accesses in flight have ended (R409). -/
def State.takeWindow (s : State) (node seg : Nat) (granted : Bool) (tenant offset granules : Nat) (read write : Bool) : State :=
  let rest := s.ply.held.filter (fun g => !(g.node = node && g.seg = seg))
  if granted then
    let g : Segment := { node := node, seg := seg, ctx := 0, tenant := tenant, offset := offset, base := 0, granules := granules, read := read, write := write }
    ({ s with ply := { s.ply with held := rest ++ [g] } }).plySend node (.windowAck seg true)
  else
    let old := s.ply.held.filter (fun g => g.node = node && g.seg = seg)
    let waits := match old with | g :: _ => [(node, seg, g.offset, g.granules * 0x200000)] | [] => [(node, seg, 0, 0)]
    ({ s with ply := { s.ply with held := rest, revoking := s.ply.revoking ++ waits } }).confirmRevokes

/-- A peer confirms a grant or a revocation (R409). -/
def State.windowDone (s : State) (node seg : Nat) (granted : Bool) : State :=
  let ids := (s.pkts.filter (fun o => o.job = .waits (.revoke node seg) && o.pkt.b 3 31 = !granted)).map (fun o => o.id)
  let mine (g : Segment) : Bool := g.node = node && g.seg = seg
  let gs : List Segment := if granted then s.ply.granted.map (fun g => if mine g then { g with pending := none } else g) else s.ply.granted.filter (fun g => !mine g)
  let s1 : State := { s with ply := { s.ply with granted := gs } }
  ids.foldl (fun x i => x.finish i 0 (if granted then [seg] else [])) s1

/-- Segment granted to a node that a frame of it may use (R410), and the local address. -/
def State.grantedAt (s : State) (node tenant off n : Nat) (write : Bool) : Option (Segment × Addr) :=
  (s.ply.granted.find? (fun g => g.node = node && g.tenant = tenant && decide (g.offset ≤ off) && decide (off + n ≤ g.offset + g.granules * 0x200000)
    && (if write then g.write else g.read))).map (fun g => (g, g.base + (off - g.offset)))

/-- The record of a peer's draft in a granting context, opened by its first write (R209). -/
def State.openRecord (s : State) (node ctx ownerCtx tag level : Nat) : State × Draft :=
  match s.dr.drafts.find? (fun d => d.node = some node && d.ctx = ctx && d.ownerCtx = ownerCtx && d.tag = tag && d.level = level) with
  | some d => (s, d)
  | none =>
    let d : Draft := { ctx := ctx, tag := tag, level := level, order := s.dr.nextOrder, node := some node, ownerCtx := ownerCtx }
    (({ s with dr := { s.dr with drafts := s.dr.drafts ++ [d], nextOrder := s.dr.nextOrder + 1 } } : State).bump 3 (s.ctxTenant ctx) 0 5 1, d)

/-- A remote WRITE (R410, R411): checked against the window table, then written whole, or into the shadow storage of a peer record. -/
def State.takeWrite (s : State) (port src off tag tenant ctx dtag dlevel : Nat) (data : List Byte) : State :=
  match s.grantedAt src tenant off data.length true with
  | none => s.plyDiscard port
  | some (g, a) =>
    if s.frozen a data.length then s
    else if dlevel = 0 then (s.store a data).plySend src (.writeAck tag)
    else
      let ls := linesOf a data.length
      let full_ := ls.any (fun l => match storeOf l with | some k => s.capacity g.ctx k = 0 | none => true)
      if full_ then s.plySend src (.writeRefused tag) else
      let (s1, d) := s.openRecord src g.ctx ctx dtag dlevel
      match s1.allocLines g.ctx d.order [] [d.order] none ls with
      | .ok s2 => (s2.draftStore d.order a data).plySend src (.writeAck tag)
      | .self s2 _ => s2.plySend src (.writeRefused tag)
      | .wait => s

def execWrite (port : Nat) (h : PlyHead) (offset tag tenant ctx dtag dlevel : Nat) (data : List Byte) (s : State) : Res :=
  .next (s.whileUp (s.plyReceive port h (.write offset tag tenant ctx dtag dlevel data) (fun x => x.takeWrite port h.src offset tag tenant ctx dtag dlevel data)))

/-- Bytes of a peer bobbin's control page that its node may read (Table 17.8). -/
def State.controlRead (s : State) (node off n : Nat) : Option (List Byte) :=
  match s.peerBobbin? node with
  | none => none
  | some k =>
    let b := s.bob k
    if off = 0x1004 && n ≤ 4 then some ((leBytes 4 b.cmdHead.toNat).take n)
    else if off = 0x3004 && n ≤ 4 then some ((leBytes 4 b.cplTail.toNat).take n)
    else if 0x2000 ≤ off && off + n ≤ 0x2800 then some (s.load (b.cplBase + (off - 0x2000)) n)
    else none

/-- A remote read is checked and answered (R410). -/
def execReadReq (port : Nat) (h : PlyHead) (offset tag tenant ctx bytes : Nat) (s : State) : Res :=
  .next (s.whileUp (s.plyReceive port h (.readReq offset tag tenant ctx bytes) (fun x =>
    if offset < 0x200000 then
      match x.controlRead h.src offset bytes with
      | some bs => x.plySend h.src (.readRsp tag bs)
      | none => x.plyDiscard port
    else match x.grantedAt h.src tenant offset bytes false with
      | some (_, a) => if x.frozen a bytes then x else x.plySend h.src (.readRsp tag (x.load a bytes))
      | none => x.plyDiscard port)))

/-- Read data arrive for the packet, or the application core, that asked (R178, R408). -/
def State.takeRead (s : State) (src tag : Nat) (data : List Byte) : State :=
  match s.ply.remote.find? (fun r => r.tag = tag && r.node = src && r.isRead) with
  | none => s
  | some r =>
    let s1 : State := { s with ply := { s.ply with remote := s.ply.remote.filter (fun x => x ≠ r) } }
    let s2 := match r.pkt with
      | none => { s1 with ply := { s1.ply with loads := s1.ply.loads ++ [(r.dst, data)] } }
      | some i =>
        { s1 with pkts := s1.pkts.map (fun (o : OutPkt) => if o.id = i then (match o.job with
            | .work w => { o with job := .work { w with staged := w.staged ++ data.zipIdx.map (fun (b : Byte × Nat) => (r.dst + b.2, b.1)) } }
            | _ => o) else o) }
    s2.confirmRevokes

def execReadRsp (port : Nat) (h : PlyHead) (tag : Nat) (data : List Byte) (s : State) : Res :=
  .next (s.whileUp (s.plyReceive port h (.readRsp tag data) (fun x => x.takeRead h.src tag data)))

/-- A peer acknowledges a WRITE by TAG (R410). -/
def State.takeAck (s : State) (src tag : Nat) : State :=
  ({ s with ply := { s.ply with remote := s.ply.remote.filter (fun r => !(r.tag = tag && r.node = src && !r.isRead)) } } : State).confirmRevokes

def execWriteAck (port : Nat) (h : PlyHead) (tag : Nat) (s : State) : Res := .next (s.whileUp (s.plyReceive port h (.writeAck tag) (fun x => x.takeAck h.src tag)))

/-- A peer could not take a drafted write: the operation ends DRAFT_EVICTED, cause 4 (R190, R198). -/
def State.takeRefusal (s : State) (src tag : Nat) : State :=
  match s.ply.remote.find? (fun r => r.tag = tag && r.node = src && !r.isRead) with
  | none => s
  | some r =>
    match r.pkt.bind s.pkt? with
    | some o => s.finish o.id draftEvicted [o.pkt.level * 64 + o.pkt.tag, 4, src, 0]
    | none => s

/-! ### Collectives -/

/-- Key of a COLLECTIVE packet (R413). -/
def State.collKey (s : State) (p : Packet) : CollKey :=
  { tenant := s.ctxTenant p.ctx, id := p.word 4, kind := p.f 3 31 30, op := p.f 3 29 28, dtype := p.f 3 27 24, root := p.f 3 21 16
    nodes := p.word 5 + p.word 6 * 2 ^ 32, count := p.word 11 }

def CollKey.members (k : CollKey) : List Nat := maskList 64 k.nodes
def CollKey.elem (k : CollKey) : Nat := Num.width k.dtype / 8
/-- Bytes that a node reads and writes (R412). -/
def CollKey.srcBytes (k : CollKey) : Nat := k.count * k.elem * (if k.kind = 2 then k.members.length else 1)
def CollKey.dstBytes (k : CollKey) : Nat := k.count * k.elem * (if k.kind = 1 then k.members.length else 1)

def collSrc (p : Packet) : Addr := p.word 7 + p.f 8 15 0 * 2 ^ 32
def collDst (p : Packet) : Addr := p.word 9 + p.f 10 15 0 * 2 ^ 32

/-- Source and destination of a collective: HBM regions of the context, or banks of its DMA port (R412). -/
def State.collOk (s : State) (c a n : Nat) (write : Bool) : Bool :=
  match place a with
  | .hbm _ _ => s.hbmOk c a n write
  | .coreMem _ _ => s.portsOk c a n [4]
  | .dieShared _ _ => s.portsOk c a n [4]
  | .hub _ => s.portsOk c a n [4]
  | _ => false

/-- What a node contributes: its source, where the kind has it read (R412). -/
def State.contribution (s : State) (k : CollKey) (p : Packet) : List Byte :=
  if k.kind = 3 && k.root ≠ s.dev.node then [] else s.see p (collSrc p) k.srcBytes

def specCollective : OpSpec where
  code := 0x0902
  masks := fun _ => [fm [(31, 24), (21, 16)], full, full, full, full, fm [(15, 0)], full, fm [(15, 0)], full]
  params := fun e s =>
    let p := e.p
    let k := s.collKey p
    let red : Bool := k.kind = 0 || k.kind = 2
    let reads := !(k.kind = 3 && k.root ≠ s.dev.node)
    firstFail [
      ((red && k.op = 3) || (!red && k.op ≠ 0) || !(if red then [7, 8, 9, 10] else [0, 2, 3, 7, 8, 9, 10]).contains k.dtype || (k.kind ≠ 3 && k.root ≠ 0), badParam 3),
      ((k.kind = 3 && !bit k.nodes k.root), badParam 3),
      (!bit k.nodes s.dev.node && s.dev.role ≠ .solo, badParam 5),
      (collSrc p % 64 ≠ 0, badParam 7), (collDst p % 64 ≠ 0, badParam 9), (reads && overlap (collSrc p) k.srcBytes (collDst p) k.dstBytes, badParam 9),
      (k.count = 0, badParam 11),
      (reads && !s.collOk p.ctx (collSrc p) k.srcBytes false, badAddr (collSrc p)), (!s.collOk p.ctx (collDst p) k.dstBytes true, badAddr (collDst p))]
  draft := some (fun e s => s.shadowed e.p.ctx (collDst e.p))
  pre := fun e s => firstFail [(s.dev.role = .solo, badState 55), (s.isFixed e.p.ctx, badState 57)]
  run := fun e s =>
    let p := e.p
    let k := s.collKey p
    match s.noRouteTo (k.members.filter (· ≠ s.dev.node)) with
    | some r => s.done e r.1 r.2
    | none =>
      let data := s.contribution k p
      let early (n : Nat) : Option (Nat × CollKey × List Byte) := s.ply.collEarly.find? (fun c => c.1 = n && c.2.1.tenant = k.tenant && c.2.1.id = k.id)
      let hits := k.members.filterMap early
      let w : CollWait := { pkt := e.id, key := k, got := hits.foldl (fun m (c : Nat × CollKey × List Byte) => NMap.put m c.1 c.2.2) [(s.dev.node, data)]
                            keys := (s.dev.node, k) :: hits.map (fun c => (c.1, c.2.1)) }
      let s1 : State := { s with ply := { s.ply with colls := s.ply.colls ++ [w], collEarly := hits.foldl (fun l c => l.erase c) s.ply.collEarly } }
      ((k.members.filter (· ≠ s.dev.node)).foldl (fun x n => x.plySend n (.coll k data)) s1).setJob e.id (.waits (.collective k.id))

/-- COLLECTIVE sends its contribution and waits for its matches (R413). -/
def execCollective (src : Src) (p : Packet) (s : State) : Res := .next (specCollective.exec src p s)

/-- A contribution arrives: it goes to the oldest local packet of its tenant and COLL_ID that lacks one from the node, or waits for one (R413). -/
def State.takeColl (s : State) (src : Nat) (k : CollKey) (data : List Byte) : State :=
  match s.ply.colls.find? (fun c => c.key.tenant = k.tenant && c.key.id = k.id && !NMap.has c.got src) with
  | some c =>
    { s with ply := { s.ply with colls := s.ply.colls.map (fun x => if x.pkt = c.pkt then { x with got := NMap.put x.got src data, keys := x.keys ++ [(src, k)] } else x) } }
  | none => { s with ply := { s.ply with collEarly := s.ply.collEarly ++ [(src, k, data)] } }

def execCollectiveFrame (port : Nat) (h : PlyHead) (k : CollKey) (data : List Byte) (s : State) : Res :=
  .next (s.whileUp (s.plyReceive port h (.coll k data) (fun x => x.takeColl h.src k data)))

/-- Another participant was stopped: this one ends ABORTED, unless it is past its commit point (R413). -/
def State.collStopped (s : State) (tenant id node : Nat) : State :=
  match s.ply.colls.find? (fun c => c.key.tenant = tenant && c.key.id = id) with
  | some c => s.finish c.pkt 0x0300 [node]
  | none => s

/-- One step of a reduction on element words: result, and whether INT32 saturated (R414). -/
def reduceStep (dtype op a b : Nat) : Nat × Nat :=
  if dtype = 10 then
    let i (x : Nat) : Int := (BitVec.ofNat 32 x).toInt
    let v := if op = 0 then i a + i b else if op = 1 then max (i a) (i b) else min (i a) (i b)
    let c := max (-(2 ^ 31)) (min (2 ^ 31 - 1) v)
    ((BitVec.ofInt 32 c).toNat, (decide (c ≠ v)).toNat)
  else
    let x := Num.dec32 a
    let y := Num.dec32 b
    (Num.enc32 (if op = 0 then Num.add32 x y else if op = 1 then Num.maxV x y else Num.minV x y), 0)

/-- Reduce the contributions of one element in ascending node ID: word, NaN count, saturation count (R414). -/
def reduceElem (dtype op : Nat) (xs : List Nat) : Nat × Nat × Nat :=
  let wide (x : Nat) : Nat := if dtype = 10 then x else Num.enc32 (Num.plainVal dtype x)
  match xs.map wide with
  | [] => (0, 0, 0)
  | x :: rest =>
    let (r, sat) := rest.foldl (fun (a : Nat × Nat) y => let z := reduceStep dtype op a.1 y; (z.1, a.2 + z.2)) (x, 0)
    if dtype = 10 then (r, 0, sat)
    else
      let c := Num.toFp (Num.fpOf dtype) .rne false (Num.dec32 r)
      (c.enc, c.nan, sat + c.sat)

/-- Bytes that this node writes, NaN count and saturation count (R412, R414). -/
def CollWait.result (c : CollWait) (me : Nat) : List Byte × Nat × Nat :=
  let k := c.key
  let of (n : Nat) : List Byte := NMap.getD c.got n []
  if k.kind = 3 then (of k.root, 0, 0)
  else if k.kind = 1 then (k.members.flatMap of, 0, 0)
  else
    let first := if k.kind = 2 then (firstIx (fun n => n = me) k.members).getD 0 * k.count else 0
    let es := (List.range k.count).map (fun i => reduceElem k.dtype k.op (k.members.map (fun n => Num.elemAt k.dtype (of n) (first + i))))
    (es.flatMap (fun (e : Nat × Nat × Nat) => leBytes k.elem e.1), (es.map (fun (e : Nat × Nat × Nat) => e.2.1)).sum, (es.map (fun (e : Nat × Nat × Nat) => e.2.2)).sum)

/-- All contributions are here: matched packets agree, or end BAD_STATE, precondition 58; otherwise the result is on its way to the destination (R413). -/
def execCollectiveMatch (id : Nat) (s : State) : Res :=
  .next <| s.whileUp <|
    match s.ply.colls.find? (fun c => c.pkt = id), s.pkt? id with
    | some c, some o =>
      (match o.job with
       | .waits (.collective _) =>
         if !(c.key.members.all (fun n => NMap.has c.got n)) then s
         else if c.keys.any (fun (x : Nat × CollKey) => x.2 ≠ c.key) then s.finish id 0x0108 [58]
         else if s.frozen (collDst o.pkt) c.key.dstBytes then s
         else
           let (bs, nan, sat) := c.result s.dev.node
           s.startWork o.env { writes := [⟨collDst o.pkt, bs⟩], reads := [(collSrc o.pkt, c.key.srcBytes)], details := [0, 0, 0, evWord nan sat] }
       | _ => s)
    | _, _ => s

/-! ### CONTROL and SAFETY -/

/-- A store to the control page of this node's peer bobbin (Table 17.8). -/
def State.controlStore (s : State) (node off : Nat) (data : List Byte) : State :=
  match s.peerBobbin? node with
  | none => s
  | some n =>
    if off + data.length ≤ 0x1000 then s.store ((s.bob n).cmdBase + off) data
    else if off = 0x1000 then s.doorbell n (BitVec.ofNat 16 (leNat data))
    else if off = 0x3000 then s.cplBell n (BitVec.ofNat 16 (leNat data))
    else s

/-- Packet of a twist of this module's draft. -/
def State.twistOf (s : State) (k : DraftKey) : Option Nat :=
  if k.node ≠ s.dev.node then none else
  match s.draft? k.ctx k.level k.tag with
  | some d => (match d.st with | .twisting p => some p | _ => none)
  | none => none

/-- What a CONTROL frame carries (Table 17.3); none for what it does not carry. -/
def State.takeControl (s : State) (src : Nat) : PlyMsg → Option State
  | .ctlStore off data => some (s.controlStore src off data)
  | .prepare k _ => some (s.peerPrepare k)
  | .vote k ready => some (match s.twistOf k with | some i => s.takeVote i (64 + src) ready | none => s)
  | .commit k parent => some (s.peerCommit k parent)
  | .unravelDraft k => some (s.peerUnravel k)
  | .releaseDraft k => some (s.peerRelease k)
  | .writeRefused tag => some (s.takeRefusal src tag)
  | .windowTable seg g t o n r w => some (s.takeWindow src seg g t o n r w)
  | .windowAck seg g => some (s.windowDone src seg g)
  | .collAbort t i n => some (s.collStopped t i n)
  | _ => none

def execControl (port : Nat) (h : PlyHead) (m : PlyMsg) (s : State) : Res :=
  .next (s.whileUp (s.plyReceive port h m (fun x => if m.isLocal then x.plyDiscard port else (x.takeControl h.src m).getD (x.plyDiscard port))))

/-- What a SAFETY frame carries: pair health, pair comparison, tension (Table 17.3, R327, R429 to R433). -/
def State.takeSafety (s : State) (src : Nat) : PlyMsg → Option State
  | .health r => some (s.takeHealth r)
  | .compareCfg stream crc => some (s.peerConfig src stream crc)
  | .compareRec stream stamp vs => some (s.peerRecord src stream stamp vs)
  | .report floor want power => some (if s.isManager && s.fabricNodes.contains src then s.takeReport src ⟨floor, want, power⟩ else s)
  | .grant mw => some (s.applyGrant (min mw 480000))
  | .machineBudget mw => some (s.learnBudget mw)
  | .budgetRequest mw => some (match s.setBudget mw with
      | (some f, x) => x.plySend src (.budgetDenied f)
      | (none, x) => x)
  | .budgetDenied f => some (s.budgetRefused f)
  | .overBudget b => some (s.setOver b)
  | _ => none

def execSafety (port : Nat) (h : PlyHead) (m : PlyMsg) (s : State) : Res :=
  .next (s.whileUp (s.plyReceive port h m (fun x => if m.isLocal then x.plyDiscard port else (x.takeSafety h.src m).getD (x.plyDiscard port))))

/-! ### Application cores -/

/-- An application core in machine or supervisor mode loads or stores 4 or 8 bytes in a peer's window (R408): stores to the control page travel as
CONTROL frames, others as WRITE, loads as READ_REQ. Other accesses reach nothing and are logged. -/
def execRemoteAccess (who : Accessor) (addr : Nat) (data : Option (List Byte)) (bytes : Nat) (s : State) : Res :=
  .next <|
    let n := match data with | some d => d.length | none => bytes
    match place addr with
    | .remote node off =>
      if who ≠ .supervisor || (n ≠ 4 && n ≠ 8) || !s.reachable node || s.pwr.phase ≠ .up then s.logIt .refused 0x0900 node
      else
        let tag := s.ply.nextTag
        let op (x : State) (rd : Bool) : State := { x with ply := { x.ply with nextTag := (tag + 1) % 65536, remote := x.ply.remote ++ [⟨tag, none, node, rd, addr, n⟩] } }
        match data with
        | some d => if off < 0x200000 then s.plySend node (.ctlStore off d) else op (s.plySend node (.write off tag 0 0 0 0 d)) false
        | none => op (s.plySend node (.readReq off tag 0 0 n)) true
    | _ => s

end Sys2Proof.Machine
end

