-- ==== Sys2Proof/Machine/Destroy.lean ====
section
/-! DEFINITION. CONTEXT_DESTROY (R85) and what it ends elsewhere. -/

namespace Sys2Proof.Machine

def specContextDestroy : OpSpec where
  code := 0x0501
  masks := noParams
  pre := fun e s => if (s.ctxPkts e.p.ctx).any (fun o => o.id ≠ e.id) then some (badState 4) else none
  run := fun e s => (s.setCtx e.p.ctx (fun x => { x with destroying := true })).setJob e.id (.waits .destroyCtx)

/-- CONTEXT_DESTROY: from its checks on the context no longer exists; it completes at its commit point (R85). -/
def execContextDestroy (src : Src) (p : Packet) (s : State) : Res := .next (specContextDestroy.exec src p s)

/-- Close every sequence that a context owns (R219). -/
def State.closeSeqs (s : State) (c : Nat) : State :=
  { s with kv := s.kv.map (fun (k : Nat × KvPool) =>
    (k.1, (k.2.seqs.filter (fun (q : Nat × KvSeq) => q.2.owner = c)).foldl (fun (x : KvPool) q => (x.closeSeq q.1).1) k.2)) }

/-- The streams of a context end (R272), its groups are stopped and deleted (Table 13.14), its loops too (Table 16.5). -/
def State.dropSensing (s : State) (c : Nat) : State :=
  let s1 := (s.sen.streams.filter (fun (x : Nat × Stream) => x.2.ctx = c)).foldl (fun (y : State) x => y.endStream x.1) s
  ({ s1 with sen := { s1.sen with groups := s1.sen.groups.filter (fun (g : Nat × Group) => g.2.ctx ≠ c) } } : State).stopLoops (fun l => l.ctx = c) true

/-- A context's window segments are withdrawn from their peers. -/
def State.dropWindows (s : State) (c : Nat) : State :=
  let s1 := (s.ply.granted.filter (fun (g : Segment) => g.ctx = c)).foldl (fun (y : State) g => y.plySend g.node (.windowTable g.seg false 0 0 0 false false)) s
  { s1 with ply := { s1.ply with granted := s1.ply.granted.filter (fun (g : Segment) => g.ctx ≠ c) } }

/-- The end of CONTEXT_DESTROY: drafts unravelled, scratchpads cleared, everything the context holds released, its ID free (R85). -/
def State.destroyCtx (s : State) (id c : Nat) : State :=
  let s1 := (s.wipeCtx c ⟨0x0300, [], some id⟩).closeSeqs c
  let s2 := s1.unmapRegions (fun r => r.ctx = c && !r.wide)
  let s3 := ((s2.dropSensing c).dropWindows c).dropTimed (fun x => x = c)
  let s4 := if NMap.has s3.eng.plans c then s3.dropPlan c else s3
  let s5 : State := { s4 with
    dom := { s4.dom with
      contexts := NMap.del s4.dom.contexts c
      hot := s4.dom.hot.map (fun (m : Nat × HotModel) => (m.1, { m.2 with fixedBy := m.2.fixedBy.filter (· ≠ c) })) }
    ms := { s4.ms with banks := s4.ms.banks.filter (fun (b : Nat × BankOwner) => b.2.ctx ≠ c) }
    eng := { s4.eng with solves := s4.eng.solves.filter (fun (x : Nat × SolveSys) => x.2.ctx ≠ c) } }
  s5.finish id 0

end Sys2Proof.Machine
end

