-- ==== Sys2Proof/Machine/Keys.lean ====
section
/-! DEFINITION. Keys of family 0x0D and the debug token: KEY_WRITE (R509), KEY_ERASE (R510), vault cells (R511), ATTEST (R513), DEBUG_UNLOCK and
the token instructions (R506, R507). -/

namespace Sys2Proof.Machine

/-! ### KEY_WRITE and KEY_ERASE -/

/-- Bytes that KEY_WRITE reads at ADDR (R509). -/
def keyWriteLen (src type : Nat) : Nat :=
  if src = 0 then 0 else if src = 1 then 97 + keyBytes type + 16 else if src = 2 then 32 else keyBytes type

/-- TYPE, SOURCE and USE keep to Table 23.3. -/
def keyKindOk (p : Packet) : Bool :=
  let t := p.f 3 27 24
  let src := p.f 3 31 30
  let u := p.f 3 23 20
  (1 ≤ t && t ≤ 4) && (if t ≤ 2 then src ≠ 3 else src = 3) && u &&& (0xF ^^^ useAllowed t) = 0 && (!bit u 3 || bit u 0)
  && (src = 2 || p.f 3 12 8 = 0)
  && (p.f 3 4 0 ≠ 30 || t = 3) && (p.f 3 4 0 ≠ 31 || t = 4)

/-- Info of the envelope (R509): "HQX-M4800 slot", the serial, the slot. -/
def envelopeInfo (serial slot : Nat) : List Byte :=
  [0x48, 0x51, 0x58, 0x2D, 0x4D, 0x34, 0x38, 0x30, 0x30, 0x20, 0x73, 0x6C, 0x6F, 0x74] ++ leBytes 8 serial ++ leBytes 1 slot

/-- Slots 30 and 31 change only when empty or at rest (precondition 72). -/
def State.anchorLocked (s : State) (n : Nat) : Bool := (n = 30 || n = 31) && (s.slot n).type ≠ 0 && !s.isAtRest

def specKeyWrite : OpSpec where
  code := 0x0D00
  masks := fun _ => [fm [(31, 30), (27, 20), (12, 8), (4, 0)], full, full]
  params := fun e s =>
    let p := e.p
    let src := p.f 3 31 30
    let n := keyWriteLen src (p.f 3 27 24)
    firstFail [(!keyKindOk p, badParam 3), (src = 0 && p.word 4 ≠ 0, badParam 4),
      (p.f 5 31 16 ≠ n || (src = 0 && p.f 5 15 0 ≠ 0), badParam 5), (src ≠ 0 && !s.served (p.addr 4) n, badAddr (p.addr 4))]
  pre := fun e s =>
    let from_ := s.slot (e.p.f 3 12 8)
    firstFail [(e.p.f 3 31 30 = 2 && (from_.type ≠ 2 || !bit from_.use 2), badState 71), (s.anchorLocked (e.p.f 3 4 0), badState 72)]
  run := fun e s =>
    let p := e.p
    let n := p.f 3 4 0
    let t := p.f 3 27 24
    let src := p.f 3 31 30
    let bytes := s.load (p.addr 4) (keyWriteLen src t)
    let put (x : State) (key : List Byte) : State :=
      let x1 := x.putKey n t (p.f 3 23 20) key
      x1.done e 0 [(x1.slot n).gen, if src = 3 then Config.sha384 key % 2 ^ 32 else 0]
    if src = 0 then put (s.drawn (keyBytes t)) (freeBytes s (keyBytes t))
    else if src = 1 then
      match Config.hpkeOpen (envelopeInfo s.dev.serial n) bytes with
      | some key => put s key
      | none => s.done e signatureInvalid [0]
    else if src = 2 then put s ((List.range (keyBytes t)).map (Config.hkdf (s.slot (p.f 3 12 8)).key bytes))
    else put s bytes

/-- KEY_WRITE builds a key from one of four sources and stores it (R509). -/
def execKeyWrite (src : Src) (p : Packet) (s : State) : Res := .next (specKeyWrite.exec src p s)

/-- A urgently erased slot's users end KEY_REVOKED (Table 23.6). -/
def State.revokeUsers (s : State) (n : Nat) : State :=
  ((s.keyUsers n).map (fun o => o.id)).foldl (fun x i => (x.dropEsc i).finish i keyRevoked [n]) s

def specKeyErase : OpSpec where
  code := 0x0D01
  masks := fun _ => [fm [(4, 0)]]
  pre := fun e s => if s.anchorLocked (e.p.f 3 4 0) then some (badState 72) else none
  run := fun e s =>
    let n := e.p.f 3 4 0
    let users := (s.keyUsers n).length
    let urgent := e.p.b 0 24
    let s1 := (if urgent then s.revokeUsers n else s).emptySlot n
    (s1.logIt .keyErase n urgent.toNat).done e 0 [(s1.slot n).gen, if urgent then users else 0]

/-- KEY_ERASE empties a slot; with URGENT its users stop (R510, Table 23.6). -/
def execKeyErase (src : Src) (p : Packet) (s : State) : Res := .next (specKeyErase.exec src p s)

/-- A vault cell of a slot fails its check (R511): the slot is copied from the other cell into a spare cell; where both cells have failed it
becomes empty and is fenced; where no spare cell remains, cause 10. -/
def execKeyCellFail (slot : Nat) (both : Bool) (s : State) : Res :=
  .next <| s.whileUp <|
    if 32 ≤ slot then s else
    if both || (s.slot slot).oneCell then
      ((s.emptySlot slot).setSlot slot (fun k => { k with oneCell := false })).fence 0 0 0 0x13 slot 0
    else if s.vault.spareCells = 0 then (s.setSlot slot (fun k => { k with oneCell := true })).raise 10
    else
      let s1 : State := { s with vault := { s.vault with spareCells := s.vault.spareCells - 1 } }
      let s2 := s1.spliceRec { event := 1, cls := 0x27, from_ := slot, to_ := s1.vault.spareCells, logical := slot, trigger := 3 }
      if s1.vault.spareCells = 0 then s2.raise 10 else s2

/-! ### ATTEST -/

/-- Measurement of the image that a layer runs (R502): SHA-384 over the bytes that its manifest covers. -/
def BootLayer.measure (l : BootLayer) : Nat := Config.sha384 (l.copies.getD l.active {}).image

/-- Evidence of ATTEST (R513): claims block, two signatures, certificate chains. -/
def State.evidence (s : State) (layer : Nat) (nonce : List Byte) : List Byte :=
  let m1 := s.vault.layer1.measure
  let m2 := s.vault.layer2.measure
  let c := Config.claims [s.dev.serial, s.now / 1000000000, s.now % 1000000000, s.vault.value, m1, m2, s.dbg.level.code, s.mgmtMode] nonce
  c ++ (List.range 96).map (Config.signByte layer 0 [m1, m2] c) ++ (List.range 3309).map (Config.signByte layer 1 [m1, m2] c)
    ++ Config.certChains [s.dev.serial, layer, m1, m2]

/-- A destination in HBM or hub SRAM of the issuer (R497, R513). -/
def State.issuerDst (s : State) (src : Src) (a n : Nat) : Bool :=
  match s.issuerTenant src with
  | some t => s.tenantOwns t a n
  | none => s.adminBaseOk a n

def specAttest : OpSpec where
  code := 0x0D06
  masks := fun _ => [fm [(1, 0)], full, full, full, full, full, full, full, full, full, fm [(15, 0)], full]
  params := fun e s =>
    let p := e.p
    firstFail [(p.f 3 1 0 = 3, badParam 3), (p.addr 12 % 64 ≠ 0, badParam 12),
      (!s.issuerDst e.src (p.addr 12) (max 1 (p.word 14)), badAddr (p.addr 12))]
  run := fun e s =>
    let p := e.p
    let ev := s.evidence (p.f 3 1 0) (wordBytes ((List.range 8).map (fun i => p.word (4 + i))))
    if p.word 14 < ev.length then s.done e noSpace [ev.length]
    else (s.store (p.addr 12) ev).done e 0 [ev.length, s.vault.value]

/-- ATTEST writes signed evidence (R513). -/
def execAttest (src : Src) (p : Packet) (s : State) : Res := .next (specAttest.exec src p s)

/-! ### Debug tokens -/

/-- Length of a debug token (Table 23.13). -/
def tokenBytes : Nat := 3533

/-- The state conditions of a token (precondition 82): this unit's serial, the nonce last read, unspent and at most 60 s old, LEVEL 1 or 2, the
layout of Table 23.13. -/
def State.tokenNamesUs (s : State) (t : List Byte) : Bool :=
  let lvl := (t.getD 5 0).toNat
  leNat (t.take 4) = 0x4442544B && t.getD 4 0 = 1 && (lvl = 1 || lvl = 2)
  && leNat ((t.drop 8).take 8) = s.dev.serial
  && (match s.vault.nonce with
      | some (v, at_) => leNat ((t.drop 16).take 8) = v && s.now ≤ at_ + 60 * 10 ^ 9
      | none => false)

/-- Which signatures of a token fail. -/
def State.tokenSig (s : State) (t : List Byte) : Nat := s.sigFails none (t.take 128) ((t.drop 128).take 96) ((t.drop 224).take 3309)

/-- Debug level of a code. -/
def levelOf (n : Nat) : DebugLevel := if n = 0 then .locked else if n = 1 then .host else .full

/-- A token that verifies: the nonce is spent, and the level rises to the token's where that is higher; a change is logged (R489, R507). -/
def State.useToken (s : State) (t : List Byte) : State :=
  let want := (t.getD 5 0).toNat
  let s1 : State := { s with vault := { s.vault with nonce := none } }
  if s.dbg.level.code < want then ({ s1 with dbg := { s1.dbg with level := levelOf want } }).logIt .debugLevel want
  else s1.logIt .debugLevel s.dbg.level.code

def specDebugUnlock : OpSpec where
  code := 0x0D07
  masks := fun _ => addrMasks
  params := fun e s =>
    firstFail [(e.p.addr 3 % 64 ≠ 0, badParam 3), (!s.adminBaseOk (e.p.addr 3) tokenBytes, badAddr (e.p.addr 3))]
  pre := fun e s => if s.tokenNamesUs (s.load (e.p.addr 3) tokenBytes) then none else some (badState 82)
  run := fun e s =>
    let t := s.load (e.p.addr 3) tokenBytes
    let f := s.tokenSig t
    if f ≠ 0 then (s.logIt .debugLevel s.dbg.level.code f).done e signatureInvalid [f]
    else
      let s1 := s.useToken t
      s1.done e 0 [s1.dbg.level.code]

/-- DEBUG_UNLOCK verifies a debug token and raises the level (R507). -/
def execDebugUnlock (src : Src) (p : Packet) (s : State) : Res := .next (specDebugUnlock.exec src p s)

/-- A fresh nonce, which replaces the one before (R506). -/
def State.freshNonce (s : State) : State :=
  let v := leNat (freeBytes s 8)
  { (s.drawn 8) with vault := { s.vault with nonce := some (v, s.now) } }

/-- A read of DEBUG_NONCE returns a fresh nonce (Table 23.7); from a source that R39 does not name it reads 0 and is logged. -/
def execDebugNonceRead (who : Accessor) (s : State) : Res :=
  .next (s.whileServing (match who with
    | .supervisor => s.freshNonce
    | .distaff => s.freshNonce
    | _ => s.logIt .managementAccess 0x209008))

/-- The TAP instruction DBG_NONCE: its capture is a read of DEBUG_NONCE (R507). -/
def execDbgNonce (s : State) : Res := .next (s.whileServing { s.freshNonce with dbg := { s.dbg with tap := .dbgNonce } })

/-- The TAP instruction DBG_TOKEN: its UPDATE-DR submits the token; the next capture gives the outcome (R507). -/
def execDbgToken (token : List Byte) (s : State) : Res :=
  .next <| s.whileServing <|
    let s0 : State := { s with dbg := { s.dbg with tap := .dbgToken } }
    let t := (token ++ List.replicate (tokenBytes - token.length) 0).take tokenBytes
    let put (x : State) (r : Nat) : State := { x with vault := { x.vault with tokenResult := r } }
    if !s.tokenNamesUs t then put (s0.logIt .debugLevel s.dbg.level.code 82) 2
    else if s.tokenSig t ≠ 0 then put (s0.logIt .debugLevel s.dbg.level.code (s.tokenSig t)) 1
    else if s.dbg.level.code < (t.getD 5 0).toNat then put (s0.useToken t) 0
    -- a token for the level in force: what the capture then returns is not stated
    else put ((s0.useToken t).drawn 1) (Config.freeNat s.free)

end Sys2Proof.Machine
end

