-- ==== Sys2Proof/Machine/Regs.lean ====
section
/-! DEFINITION. Registers of the management window by offset from 0x0200_0000_0000: the RW fields of each word (R13, R15), what a write of them does,
and the write-cleared and W1C fields. A 64-bit register is two words. -/

namespace Sys2Proof.Machine

/-- OOB_CFG (Table 19.5). -/
def State.writeOobCfg (s : State) (v : Nat) : State :=
  { s with saf := { s.saf with oobMask := bits v 31 28, oobReplyId := bits v 26 16, oobCxId := bits v 10 0 } }

/-- PWR_CTL's RW fields (Table 20.3): clearing DOZE_EN leaves Doze and restarts every stopped domain (R461). -/
def State.writePwrCtl (s : State) (v : Nat) : State :=
  { s with pwr := { s.pwr with dozeEn := bit v 30, idleUs := bits v 13 0, stopped := if bit v 30 then s.pwr.stopped else [] } }

/-- SPLICE_CFG (Table 21.4). -/
def State.writeSpliceCfg (s : State) (v : Nat) : State := { s with spl := { s.spl with rotEn := bit v 31, period := bits v 15 0 } }

/-- IRQ_CTL of a bobbin (Table 2.9c): interrupts that are due once it is enabled are raised (R41). -/
def State.writeIrqCtl (s : State) (n v : Nat) : State :=
  (s.setBob n { s.bob n with holdoff := bits v 31 16, irqCount := bits v 15 8, irqEnable := bit v 0 }).checkIrq n

/-- Word `hi` (0 or 1) of a 64-bit value replaced. -/
def setHalf (x : Nat) (hi : Bool) (v : Nat) : Nat := if hi then x % 2 ^ 32 + v * 2 ^ 32 else x / 2 ^ 32 * 2 ^ 32 + v

/-- A base register of bobbin 0 (Table 2.5): written only while ENABLE is 0 (R40). -/
def State.writeAdminBase (s : State) (cpl hi : Bool) (v : Nat) : State :=
  if s.q.adminEnable then s
  else if cpl then { s with q := { s.q with adminCplBase := setHalf s.q.adminCplBase hi v } }
  else { s with q := { s.q with adminCmdBase := setHalf s.q.adminCmdBase hi v } }

/-- Output of an offset in the output page, and the offset of its word (Table 11.9). -/
def outputOf (off : Nat) : Option (Nat × Nat) :=
  let o := off - 0x200000
  if off < 0x200000 then none
  else if o < 0x200 then some (o / 0x20, o % 0x20)
  else if 0x400 ≤ o && o < 0x500 then some (16 + (o - 0x400) / 0x20, o % 0x20)
  else none

/-- A register word with RW fields: mask of those fields, their present values, and what a write of the word does. -/
structure RwWord where
  mask : Nat
  cur : Nat
  put : Nat → State

/-- ADMIN_CFG as it reads (Table 2.6). -/
def State.adminCfg (s : State) : Nat := s.q.adminEnable.toNat * 2 ^ 31 + s.q.adminVector * 16 + s.q.adminSizeLog2

/-- The word with RW fields at an offset, in the pages that R39 rules. -/
def State.rwWord (s : State) (off : Nat) : Option RwWord :=
  match outputOf off with
  | some (n, 0) => some ⟨cfgBits n, (s.pwm n).cfg.toNat, s.writeCfg n⟩
  | some (n, 8) => some ⟨fm [(23, 0)], (s.pwm n).lo.toNat, fun v => s.writeNext n (some v) none⟩
  | some (n, 12) => some ⟨fm [(23, 0)], (s.pwm n).hi.toNat, fun v => s.writeNext n none (some v)⟩
  | some _ => none
  | none =>
    if off = 0x10 then some ⟨fm [(31, 12)], s.q.adminCmdBase % 2 ^ 32, s.writeAdminBase false false⟩
    else if off = 0x14 then some ⟨fm [(15, 0)], s.q.adminCmdBase / 2 ^ 32, s.writeAdminBase false true⟩
    else if off = 0x18 then some ⟨fm [(31, 12)], s.q.adminCplBase % 2 ^ 32, s.writeAdminBase true false⟩
    else if off = 0x1C then some ⟨fm [(15, 0)], s.q.adminCplBase / 2 ^ 32, s.writeAdminBase true true⟩
    else if off = 0x20 then some ⟨fm [(31, 31), (14, 0)], s.adminCfg, fun v =>
      if bit v 31 then s.adminOn (BitVec.ofNat 32 v) else s.adminOff (BitVec.ofNat 32 v)⟩
    else if off = 0x205004 then some ⟨fm [(31, 31), (15, 0)], s.saf.wdEnable.toNat * 2 ^ 31 + s.saf.wdTimeout, s.writeHostWd⟩
    else if off = 0x205008 then some ⟨fm [(31, 28), (22, 16), (10, 0)],
      s.saf.veEn.toNat * 2 ^ 31 + s.saf.cxEn.toNat * 2 ^ 30 + s.saf.cxPort * 2 ^ 28 + s.saf.periodMs * 2 ^ 16 + s.saf.statusCxId, s.writeStatusCfg⟩
    else if off = 0x20500C then some ⟨fm [(31, 28), (26, 16), (10, 0)], s.saf.oobMask * 2 ^ 28 + s.saf.oobReplyId * 2 ^ 16 + s.saf.oobCxId, s.writeOobCfg⟩
    else if off = 0x206000 then some ⟨fm [(30, 30), (13, 0)], s.pwr.dozeEn.toNat * 2 ^ 30 + s.pwr.idleUs, s.writePwrCtl⟩
    else if off = 0x206008 then some ⟨fm [(31, 13), (10, 0)], s.pwr.wakeCfg.toNat, fun v => { s with pwr := { s.pwr with wakeCfg := BitVec.ofNat 32 v } }⟩
    else if off = 0x20600C then some ⟨full, s.pwr.wakeTimeN.toNat, fun v => { s with pwr := { s.pwr with wakeTimeN := BitVec.ofNat 32 v } }⟩
    else if off = 0x206010 then some ⟨full, s.pwr.wakeTimeSLo.toNat, fun v => { s with pwr := { s.pwr with wakeTimeSLo := BitVec.ofNat 32 v } }⟩
    else if off = 0x206014 then some ⟨fm [(15, 0)], s.pwr.wakeTimeSHi.toNat, fun v => { s with pwr := { s.pwr with wakeTimeSHi := BitVec.ofNat 32 v } }⟩
    else if off = 0x207000 then some ⟨fm [(31, 31), (15, 0)], s.spl.rotEn.toNat * 2 ^ 31 + s.spl.period, s.writeSpliceCfg⟩
    else none

/-- Write a word of a page that R39 rules: reserved bits are ignored (R15). -/
def State.writePage (s : State) (off v : Nat) : State :=
  match s.rwWord off with
  | some w => w.put (v &&& w.mask)
  | none =>
    -- TSQ_STAT and CAP_STAT: clearing OVERFLOW clears LOST (Table 12.8)
    if 0x201100 ≤ off && off < 0x201220 && off % 16 = 8 then
      (if bit v 31 then { s with time := { s.time with tsq := NMap.upd s.time.tsq ((off - 0x201100) / 16) (fun (q : TsQueue) => { q with overflow := false, lost := 0 }) } } else s)
    else if 0x201300 ≤ off && off < 0x201340 && off % 16 = 8 then
      (if bit v 31 then { s with time := { s.time with captures := updAt s.time.captures ((off - 0x201300) / 16) (fun (c : Capture) => { c with overflow := false, lost := 0 }) } } else s)
    -- PLY_PORT_STAT: any write clears RETRIES (Table 17.1)
    else if 0x204000 ≤ off && off < 0x204018 && off % 4 = 0 then
      { s with ply := { s.ply with ports := updAt s.ply.ports ((off - 0x204000) / 4) (fun (q : PlyPort) => { q with retries := 0 }) } }
    -- TRACE_LOST: any write clears it (Table 22.5)
    else if off = 0x208010 then { s with dbg := { s.dbg with traceLost := 0 } }
    else s

/-- Write a word of bobbin `n`'s page (Tables 2.7 to 2.9c). A bobbin that a started group names takes no DOORBELL (R317). -/
def State.writeBobbin (s : State) (n off v : Nat) : State :=
  if off = 0 then (if s.cardBobbin n then s.logIt .refused n v else s.doorbell n (BitVec.ofNat 16 v))
  else if off = 8 then s.cplBell n (BitVec.ofNat 16 v)
  else if off = 0x14 then
    let b := s.bob n
    s.setBob n { b with
      evtLostBit := b.evtLostBit && !bit v 5, overrun := b.overrun && !bit v 3, fetchFault := b.fetchFault && !bit v 2
      cplFault := b.cplFault && !bit v 1, rejected := b.rejected && !bit v 0 }
  else if off = 0x18 then s.writeIrqCtl n v
  else if off = 0x1C then s.setBob n { s.bob n with evtLost := 0 }
  else s

/-- Who reaches the page of bobbin `n`: whom R39 admits, and user mode of the bobbin's tenant, which the page can be mapped to. -/
def State.reachesBobbin (s : State) (who : Accessor) (n : Nat) : Bool :=
  pageOpen who || (match who with | .user t => (s.bob n).mode ≠ .unused && (s.bob n).tenant = t | _ => false)

/-- Bobbin and offset of an offset in the management window. -/
def bobbinPage (off : Nat) : Option (Nat × Nat) :=
  if 0x100000 ≤ off && off < 0x200000 then some ((off - 0x100000) / 0x1000, off % 0x1000) else none

/-- A 4-byte write at an offset in the management window. An access from a source or mode that is not admitted is ignored and logged (R39). -/
def State.writeMgmt (s : State) (who : Accessor) (off v : Nat) : State :=
  match bobbinPage off with
  | some (n, o) => if s.reachesBobbin who n then s.writeBobbin n o v else s.logIt .managementAccess off
  | none => if pageOpen who then s.writePage off v else s.logIt .managementAccess off

/-! ### BAR0 of the service port (Table 2.25) -/

/-- A 4-byte write of the service host at an offset in BAR0: mailbox bytes, a command ring, a bobbin's registers. MBOX_SEND and RX_VALID have rows of
their own; other offsets ignore writes. -/
def State.writeBar0 (s : State) (off v : Nat) : State :=
  let bytes := leBytes 4 v
  let k := off / 0x10000 - 1
  let b := s.bob (224 + k)
  let o := off % 0x10000
  if off + 4 ≤ 0x58 then { s with oob := { s.oob with mboxTx := s.oob.mboxTx.take off ++ bytes ++ s.oob.mboxTx.drop (off + 4) } }
  else if off < 0x10000 || 8 ≤ k || b.mode = .unused then s
  else if o < 0x4000 then (if o + 4 ≤ 64 * 2 ^ b.sizeLog2 then s.store (b.cmdBase + o) bytes else s)
  else if 0x8000 ≤ o && o < 0x8020 then s.writeBobbin (224 + k) (o - 0x8000) v
  else s

/-! ### Configuration records (R528) -/

/-- Entries of a configuration record: ADDR, MASK, VALUE. -/
def recordEntries (r : List Byte) : List (Nat × Nat × Nat) :=
  (List.range (leNat (r.take 4))).map (fun i =>
    let x := leNat ((r.drop (64 + 16 * i)).take 16)
    (bits x 127 80, bits x 63 32, bits x 31 0))

/-- Apply an entry: the RW bits that MASK selects are set to VALUE; an entry that names no RW field is skipped and logged. -/
def State.applyEntry (s : State) (e : Nat × Nat × Nat) : State :=
  let (a, m, v) := e
  match (if 0x020000000000 ≤ a then s.rwWord (a - 0x020000000000) else none) with
  | some w =>
    -- a record is applied before ADMIN_CFG.ENABLE can be set
    let m1 := if a = 0x020000000020 then m % 2 ^ 31 else m
    if w.mask &&& m1 = 0 then s.logIt .configCopy a else w.put (((w.cur &&& (full ^^^ m1)) ||| (v &&& m1)) &&& w.mask)
  | none => s.logIt .configCopy a

/-- Apply the entries of the chosen record in order, before ADMIN_CFG.ENABLE can be set. -/
def State.applyRecord (s : State) (r : List Byte) : State := (recordEntries r).foldl (fun x e => x.applyEntry e) s

end Sys2Proof.Machine
end

