-- ==== Sys2Proof/Machine/Boot.lean ====
section
/-! DEFINITION. Module reset (R14) and boot: the image that each layer boots (R503), an interrupted activation (Table 24.10), the configuration record
that is chosen and applied (R456, R528). -/

namespace Sys2Proof.Machine

/-- Field [hi:lo] of a manifest's header (Table 24.2). -/
def manifestF (m : List Byte) (hi lo : Nat) : Nat := bits (leNat (m.take 64)) hi lo

/-- Which signatures of a manifest fail (R516, R505): 0 none. A KEY_INDEX above 3 names no fused key. -/
def State.manifestSig (s : State) (m : List Byte) : Nat :=
  let system : Bool := manifestF m 471 468 = 1
  if system && decide (3 < manifestF m 467 464) then 3
  else s.sigFails (if system then some (manifestF m 467 464) else none) (m.take 128) ((m.drop 128).take 96) ((m.drop 224).take 3309)

/-- IMAGE_DIGEST is the digest of the image's first IMAGE_BYTES bytes (Table 24.3). -/
def digestOk (m image : List Byte) : Bool := leNat ((m.drop 64).take 48) = Config.sha384 (image.take (manifestF m 367 336))

/-- A boot-flash copy verifies, and its security version is at least VALUE (R503). A copy installed at manufacture verifies. -/
def State.copyPasses (s : State) (c : BootCopy) : Bool :=
  c.present && (c.factory || (s.manifestSig c.manifest = 0 && digestOk c.manifest c.image)) && decide (s.vault.value ≤ c.sv)

/-- The copy of a layer that boots: the active one, failing that the other; none: neither passes (R503). -/
def State.bootCopy (s : State) (l : BootLayer) : Option Nat :=
  [l.active, 1 - l.active].find? (fun i => s.copyPasses (l.copies.getD i { present := false }))

/-- An activation that a loss of the input interrupted (Table 24.10): before the switch the image is still Pending; after it, the next boot completes
the raise and the state is Idle. -/
def State.bootUpdate (s : State) : State :=
  match s.upd.act with
  | none => s
  | some a =>
    if a.stage = .drain then { s with dev := { s.dev with update := .pending }, upd := { s.upd with act := none } }
    else
      let s1 := s.raiseCounter a.sv 2048
      { s1 with
        dev := { s1.dev with update := .idle }
        upd := { s1.upd with act := none, kind := 0, imageId := 0, blocks := 0, staged := [], manifest := [], sv := 0, last := 0 } }

/-- Layer 0 and Layer 1 choose their images and log a switch; without one, recovery (R503). -/
def State.bootImages (s : State) : State :=
  match s.bootCopy s.vault.layer1, s.bootCopy s.vault.layer2 with
  | some a, some b =>
    let s1 := if a = s.vault.layer1.active then s else s.logIt .boot 1 a
    let s2 := if b = s.vault.layer2.active then s1 else s1.logIt .boot 2 b
    { s2 with vault := { s2.vault with layer1 := { s2.vault.layer1 with active := a }, layer2 := { s2.vault.layer2 with active := b } } }
  | _, _ => ({ s with pwr := { s.pwr with phase := .recovery } } : State).logIt .boot 0

/-- A stored copy of the configuration record verifies (R524, R528). -/
def State.configPasses (s : State) (c : ConfigCopy) : Bool :=
  c.good && (c.installed || (s.manifestSig c.manifest = 0 && digestOk c.manifest c.record))

/-- Highest sequence number of the stored copies that verify; 0 where none does. -/
def State.configTop (s : State) : Nat := ((s.upd.configs.filter s.configPasses).map (fun (c : ConfigCopy) => c.seq)).foldl max 0

/-- Mladon runs on the factory record: CONFIG_DIVERGED will be reported with a DETAIL0, and cause 1 is in force. -/
def State.runFactory (s : State) (d : Nat) : State :=
  (({ s with dev := { s.dev with cfgDiv := true, cfgDivReport := some d } } : State).raise 1).logIt .configDiverged d

/-- The configuration record of Table 19.14 is chosen and applied. -/
def State.bootConfig (s : State) : State :=
  let ok := s.upd.configs.filter s.configPasses
  let top := s.configTop
  match ok.filter (fun (c : ConfigCopy) => c.seq = top) with
  | [] => (s.runFactory 0xFFFFFFFF).applyRecord s.upd.factory
  | c :: rest =>
    if rest.any (fun (d : ConfigCopy) => d.record ≠ c.record) then (s.runFactory top).applyRecord s.upd.factory
    else
      let bad := (List.range 3).filter (fun i => match s.upd.configs[i]? with | some d => !s.configPasses d || d.seq ≠ top | none => false)
      let s1 := bad.foldl (fun (x : State) i => x.logIt .configCopy i) { s with dev := { s.dev with cfgDiv := false } }
      s1.applyRecord c.record

/-- Firmware is verified and started and the configuration record applied. -/
def State.boot (s : State) : State :=
  let s1 := s.bootImages
  if s1.pwr.phase = .recovery then s1 else s1.bootUpdate.bootConfig

/-- A carrier's counters resume from the reservations in the boot flash (R70). -/
def OobCarrier.reload (x : OobCarrier) : OobCarrier :=
  { accepted := x.acceptedReserve, next := x.sendReserve + 1, acceptedReserve := x.acceptedReserve, sendReserve := x.sendReserve }

/-- Module reset (R14): everything at its reset value but what the manual keeps. The wake sequence of Table 20.9 follows from its first row. -/
def State.moduleReset (s : State) (powerLoss endpoint : Bool) : State :=
  let r := State.reset
  { r with
    dev := { s.dev with node := 0, role := .solo, cfgDiv := false, cfgDivReport := none, resets := s.dev.resets + 1 }
    q := { r.q with endpoint := endpoint }
    oob := { r.oob with ve := s.oob.ve.reload, cx := s.oob.cx.map OobCarrier.reload, mbox := s.oob.mbox.reload }
    dom := { r.dom with
      objects := s.dom.objects
      cores := (List.range 16).map (fun k => ({ fenced := s.spl.retired.contains (s.spl.map.getD k 0) } : Core)) }
    ms := { r.ms with
      hbmStacks := s.ms.hbmStacks.map (fun (k : Stack) => ({ remapped := k.remapped } : Stack))
      links := s.ms.links.map (fun (l : Nat × LinkModule) => (l.1, ({ lanesUsed := l.2.lanesUsed } : LinkModule))) }
    ply := { r.ply with ports := s.ply.ports.map (fun (p : PlyPort) => ({ spareIn := p.spareIn } : PlyPort)) }
    time := { r.time with tick := s.time.tick, spareOsc := s.pwr.spareRef || s.pwr.sparePll }
    dbg := { r.dbg with level := if s.dev.grade = 2 then .host else .locked }
    vault := { s.vault with nonce := none, tokenResult := 0, slots := s.vault.slots.map (fun (k : KeySlot) => { k with revoking := false }) }
    upd := { s.upd with sched := none }
    pwr := { r.pwr with
      phase := .waking { reset := true }, spareRef := s.pwr.spareRef, sparePhase := s.pwr.sparePhase, sparePll := s.pwr.sparePll
      spares := s.pwr.spares, failed := s.pwr.failed, wakeCfg := s.pwr.wakeCfg
      wakeTimeN := if powerLoss then 0 else s.pwr.wakeTimeN, wakeTimeSLo := if powerLoss then 0 else s.pwr.wakeTimeSLo
      wakeTimeSHi := if powerLoss then 0 else s.pwr.wakeTimeSHi
      slept := (0, s.time.tick), lowBand := s.pwr.lowBand, discharge := s.pwr.discharge, inlet := s.pwr.inlet }
    spl := { s.spl with
      rotEn := powerLoss || s.spl.rotEn, period := if powerLoss then 8 else s.spl.period
      tests := s.spl.tests.filter (fun (t : Test) => t.pkt.isNone), out := s.spl.outRetired }
    tens := { r.tens with rails := s.tens.rails.map (fun (x : Rail) => ({ spareUsed := x.spareUsed } : Rail)) }
    log := s.log, out := s.out, free := s.free, pending := s.pending }

end Sys2Proof.Machine
end

