-- ==== Sys2Proof/Machine/Sleep.lean ====
section
/-! DEFINITION. Doze (R461, R462), Sleep entry (R464 to R466), wake sources and the wake (R468 to R472). -/

namespace Sys2Proof.Machine

/-! ### Doze -/

/-- A domain of Table 20.1 marked on demand is idle (R461): a spindle core by physical number, the flyers of a die, the planner, the solve engine. -/
def State.domainIdle (s : State) (d : Nat) : Bool :=
  let busyWith (codes : List Nat) : Bool := s.pkts.any (fun o => codes.contains o.pkt.opcode && o.job ≠ .held)
  if 4 ≤ d && d < 22 then
    match s.logicalOf (d - 4) with
    | some k => (s.dom.cores.getD k {}).busy.isNone
    | none => false
  else if d = 24 || d = 25 then !s.pkts.any (fun o => decide (o.flyer < 10) && decide (o.flyer / 5 = d - 24))
  else if d = 36 then !busyWith [0x0701, 0x0702]
  else if d = 37 then !busyWith [0x0711]
  else false

/-- In Doze an on-demand domain that has been idle for DOZE_IDLE_US stops at retention voltage (R461). -/
def execDozeIdleExpiry (domain : Nat) (s : State) : Res :=
  .next (if s.pwr.phase = .up && s.power = .doze && s.domainIdle domain && !s.pwr.stopped.contains domain then
    { s with pwr := { s.pwr with stopped := s.pwr.stopped ++ [domain] } } else s)

/-- A write of PWR_CTL that does not ask for Sleep: setting DOZE_EN permits Doze, clearing it leaves Doze (R461). -/
def execDozeEnWrite (who : Accessor) (v : Word) (s : State) : Res := .next (s.paged who (fun s => s.writePwrCtl (v.toNat % 2 ^ 31)))

/-! ### Sleep entry -/

/-- First failing condition of R464, as REFUSE codes it; 0 none. -/
def State.sleepRefusal (s : State) : Nat :=
  if !s.isAtRest then 1
  else if s.dev.update = .activating then 2
  else if s.upd.sched.isSome then 3
  else if s.dbg.haltedAc ≠ 0 || s.dbg.haltedFl ≠ 0 then 4
  else 0

/-- A write of 1 to ENTER_SLEEP (R464): refused with the first failing condition, or accepted. Accepted, fetching stops, the at-rest assertion ends
and every outstanding packet is aborted (R465). While an entry runs it is ignored. -/
def State.enterSleep (s : State) : State :=
  if s.pwr.phase ≠ .up then s
  else if s.sleepRefusal ≠ 0 then { s with pwr := { s.pwr with entry := 2, refuse := s.sleepRefusal } }
  else
    let s1 : State := { s with
      pwr := { s.pwr with entry := 1, refuse := 0, phase := .entering 0, qualified := 0 }, saf := { s.saf with atRest := none } }
    ((s1.stopMany .abort (s1.pkts.map (fun o => o.id))).1).logIt .sleep 0

def execEnterSleep (who : Accessor) (v : Word) (s : State) : Res :=
  .next (s.paged who (fun s => (s.writePwrCtl (v.toNat % 2 ^ 31)).enterSleep))

/-- Unravel drafts, each reported DRAFT_EVICTED with cause 5 (R211), at most `fuel` families. -/
def State.evictForSleep (s : State) : Nat → State
  | 0 => s
  | n + 1 =>
    match s.dr.drafts.find? (fun d => match d.st with | .twisting p => !s.twistCommitted p | _ => true) with
    | some d => State.evictForSleep (s.evict d 5 0 none) n
    | none => s

/-- The 105 ms row of Table 20.7: drafts unravelled, loops and groups stopped, channels off, outputs high-impedance, timed actions and hints ended. -/
def State.endWork (s : State) : State :=
  let s1 := s.evictForSleep s.dr.drafts.length
  let s2 := (s1.stopLoops (fun _ => true) false).channelsOff
  let s3 := s2.dropTimed (fun _ => true)
  { s3 with
    dr := { s3.dr with writeback := [] }
    sen := { s3.sen with highZ := true, groups := s3.sen.groups.map (fun (g : Nat × Group) => (g.1, g.2.halt)) }
    tens := { s3.tens with hints := [] } }

/-- Sleep is reached (Tables 20.7, 20.8): scratchpads, live state and the registers that do not survive are lost; Whorl carries the time (R460). -/
def State.toSleep (s : State) : State :=
  let hbm (a : Nat) : Bool := decide (a < 0x001800000000)
  let s1 := s.clearStores (fun _ => true)
  let r := State.reset
  { s1 with
    mem := s1.mem.filter (fun (c : Host.Cell) => hbm c.1)
    ms := { s1.ms with poison := s1.ms.poison.filter hbm, handovers := [] }
    dom := { s1.dom with
      cores := s1.dom.cores.map (fun (c : Core) => ({ fenced := c.fenced } : Core))
      contexts := s1.dom.contexts.map (fun (c : Nat × Context) => (c.1, { c.2 with saved := [] })) }
    q := { s1.q with bobbins := s1.q.bobbins.filter (fun (b : Nat × Bobbin) => decide (b.1 < 224)), serviceUp := false }
    oob := { s1.oob with mboxTx := r.oob.mboxTx, mboxSend := false, mboxRx := r.oob.mboxRx, mboxRxValid := false, heldFrames := [] }
    time := { s1.time with tsq := [], queues := [], triggers := [], trigStat := [], captures := r.time.captures, sLo := 0, sHi := 0, ts32 := 0 }
    saf := { s1.saf with
      wdEnable := false, wdTimeout := 100, wdRunning := none, veEn := false, cxEn := false, cxPort := 0, periodMs := 10, statusCxId := 0
      veShown := [], cxShown := [], vePeriod := 10, cxPeriod := 10, oobMask := 0, oobReplyId := 0, oobCxId := 0
      ages := s1.saf.ages.map (fun (a : Nat × AgeStream) => (a.1, { a.2 with latest := none, valid := false }))
      compares := [], peerCrc := [], divStream := 0xFFFF, overruns := [] }
    dbg := { level := .locked, counters := [], wakes := s1.dbg.wakes }
    vault := { s1.vault with nonce := none, tokenResult := 0 }
    tens := { s1.tens with gov := 0, acMhz := r.tens.acMhz, coreCap := r.tens.coreCap, groupCap := [], calmSince := none, throttled := []
                           thermCap := [], acThrottled := false, refresh2 := false }
    sen := { s1.sen with gears := r.sen.gears, pwm := r.sen.pwm,
                         streams := s1.sen.streams.map (fun (x : Nat × Stream) => (x.1, { x.2 with frame := none, releasing := none })) }
    spl := { s1.spl with tests := s1.spl.tests.filter (fun (t : Test) => t.pkt.isNone) }
    pwr := { s1.pwr with phase := .asleep, stopped := [], slept := (s1.now, s1.time.tick), imuOn := r.pwr.imuOn, imuFolded := r.pwr.imuFolded } }

/-- Whorl ticks of 32.768 kHz since Sleep was reached, at model tick `t` of 4 ns. -/
def State.whorlTick (s : State) (t : Nat) : Nat := (t - s.pwr.slept.2) * 4 * 32768 / 1000000000

/-- Nanoseconds and fraction of the time that Whorl carries (R292): the time at Sleep and 30,517.578125 ns a Whorl tick. -/
def State.carried (s : State) : Nat × Nat :=
  let x := s.whorlTick s.time.tick * 30517578125
  (s.pwr.slept.1 + x / 1000000, x % 1000000 * 2 ^ 32 / 1000000)

/-- WAKE_TIME in ns. -/
def PowerUnit.wakeTime (p : PowerUnit) : Nat := (p.wakeTimeSHi.toNat * 2 ^ 32 + p.wakeTimeSLo.toNat) * 1000000000 + p.wakeTimeN.toNat

/-- A wake starts with the sources qualified, as LAST_WAKE codes them (R468). -/
def State.startWake (s : State) (sources : Nat) : State :=
  { s with pwr := { s.pwr with
    phase := .waking { reset := s.pwr.needReset }, needReset := false, lastWake := sources + (if s.pwr.needReset then 8 else 0)
    retries := 0, qualified := 0, wakeAt := s.time.tick } }

/-- A wake source is qualified (R468, Table 20.11). During Sleep entry it is kept for its end; in the Whorl tick in which the wake started
LAST_WAKE takes it too. -/
def State.qualify (s : State) (source : Nat) : State :=
  match s.pwr.phase with
  | .entering _ => { s with pwr := { s.pwr with qualified := s.pwr.qualified ||| source } }
  | .asleep => s.startWake source
  | .waking w =>
    if s.whorlTick s.time.tick = s.whorlTick s.pwr.wakeAt && !w.reset then { s with pwr := { s.pwr with lastWake := s.pwr.lastWake ||| source } } else s
  | _ => s

/-- Sleep reached: a source qualified during entry, or a WAKE_TIME already passed, starts the wake at once (Table 20.11). -/
def State.reachSleep (s : State) : State :=
  let s1 := s.toSleep
  let timer := bit s1.pwr.wakeCfg.toNat 30 && decide (s1.pwr.wakeTime ≤ s1.now)
  let sources := if timer && !bit s1.pwr.qualified 2 then s1.pwr.qualified + 4 else s1.pwr.qualified
  if sources = 0 then s1 else s1.startWake sources

/-- The next row of Table 20.7. A twist past its commit point ends before drafts are unravelled. -/
def execSleepEntryStage (s : State) : Res :=
  .next <|
    match s.pwr.phase with
    | .entering n =>
      let go (x : State) : State := { x with pwr := { x.pwr with phase := .entering (n + 1) } }
      match n with
      | 0 => go s
      | 1 => go (([.ve, .cx 0, .cx 1, .cx 2, .cx 3].filter s.statusOn).foldl (fun (x : State) c => x.sendStatus c) s)
      | 2 =>
        if s.dev.role = .solo then go s.leaveFabric
        else go (({ s with ply := { s.ply with leaving := true } } : State).floodOwn).leaveFabric
      | 3 => if s.pkts.any (fun o => s.twistCommitted o.id) then s else go s.endWork
      | 4 => go (s.logIt .sleep 1)
      | _ => ((s.stopMany .abort (s.pkts.map (fun o => o.id))).1).reachSleep
    | _ => s

/-! ### Wake sources -/

/-- WAKE_IN has been high for 1 ms (R468). -/
def execWakeIn (s : State) : Res := .next (if bit s.pwr.wakeCfg.toNat 31 then s.qualify 1 else s)

/-- A selective wake-up frame arrives on CX `port` (R468). -/
def execWakeFrame (port id : Nat) (s : State) : Res :=
  .next (if decide (port < 4) && bit s.pwr.wakeCfg.toNat (26 + port) && decide (id = bits s.pwr.wakeCfg.toNat 10 0) then s.qualify 2 else s)

/-- The first Whorl tick at or after WAKE_TIME (R468). -/
def execWakeTimer (s : State) : Res := .next (if bit s.pwr.wakeCfg.toNat 30 then s.qualify 4 else s)

/-! ### The wake -/

/-- Attempts that a source of Table 20.10 has: with its spare in use four; else four and one with the spare (R470). -/
def State.wakeAttempts (s : State) (row : Nat) : Nat := if s.pwr.spares.contains row then 4 else 5

/-- The attempt under way is made with the spare: the fifth, or the first after a failed wake (R470, Table 20.11). -/
def State.onSpare (s : State) (w : Waking) : Bool :=
  !s.pwr.spares.contains w.row && w.attempts = (if s.pwr.failed.contains w.row then 1 else 5)

/-- A source's spare is in use from now on, and the splice is logged with trigger 7 (R470, R484). `unit` is the rail, or the PLL of SD0, SD1 or the hub. -/
def State.takeSpare (s : State) (row unit : Nat) : State :=
  let p := s.pwr
  let s1 : State := { s with
    pwr := { p with
      spares := row :: p.spares, spareRef := p.spareRef || row = 1, sparePhase := p.sparePhase || (2 ≤ row && row ≤ 4), sparePll := p.sparePll || row = 5 }
    tens := if row = 4 then { s.tens with rails := updAt s.tens.rails unit (fun x => { x with spareUsed := true }) } else s.tens
    spl := if row = 5 then { s.spl with plls := updAt s.spl.plls unit (fun n => n - 1) } else s.spl }
  s1.spliceRec { event := 1, cls := if row = 1 then 0x25 else if row = 5 then 0x24 else 0x0B, from_ := if row = 1 then 0 else unit
                 to_ := if row = 1 then 1 else 0xFFFF, trigger := 7 }

/-- Causes at wake (Table 25.5): 1, 3, 4, 5, 6 and 10 stay, 0 is in force; 2 is re-evaluated. -/
def State.wakeCauses (s : State) : State := s.setCauses ((s.saf.causes &&& fm [(1, 1), (6, 3), (10, 10)]) + 1 + (if s.fixedWhole then 0 else 4))

/-- Firmware runs after a wake (Table 20.9, 150 ms row; Table 25.5): contexts reset, bobbins Stopped with their indices, ADMIN_CFG.ENABLE 0. -/
def State.wakeUp (s : State) : State :=
  let s1 := (s.dom.contexts.map (fun (c : Nat × Context) => c.1)).foldl (fun (x : State) c =>
    (x.wipeCtx c ⟨0x0302, [], none⟩).setCtx c (fun z => { z with fenced := false, resetting := false })) s
  let imu (p : Nat) : Bool := s1.sen.streams.any (fun (x : Nat × Stream) => x.2.kind = 2 && x.2.port = p)
  let s2 : State := { s1 with
    q := { s1.q with adminEnable := false, bobbins := s1.q.bobbins.map (fun (b : Nat × Bobbin) => (b.1, { b.2 with mode := if b.2.mode = .unused then .unused else .stopped })) }
    dev := { s1.dev with role := .solo, wakes := s1.dev.wakes + 1 }
    dbg := { s1.dbg with level := if s1.dev.grade = 2 then .host else .locked, wakes := s1.dbg.wakes + 1 }
    sen := { s1.sen with highZ := false }
    pwr := { s1.pwr with phase := .up, entry := 0, refuse := 0, imuOn := (List.range 4).map imu } }
  s2.wakeCauses.recompute.boot.logIt .wake s.pwr.lastWake

/-- The time unit restarts (R292): from the carried time, with no rate correction. After module reset device time starts at (0, 0). -/
def State.restartTime (s : State) (reset : Bool) : State :=
  let (n, f) := if reset then (0, 0) else s.carried
  { s with time := { s.time with ns := n, frac := f, inc := 4 * 2 ^ 32, rho := 0, stepUsed := false, woke := !reset, spareOsc := s.pwr.spareRef || s.pwr.sparePll } }

/-- The ready signal awaited arrives, and the next row of Table 20.9 begins. -/
def execWakeReady (s : State) : Res :=
  .next <|
    match s.pwr.phase with
    | .waking w =>
      if w.paused then s
      else
        let s1 := if w.row ≤ 5 && s.onSpare w then s.takeSpare w.row w.unit else s
        let s2 : State := { s1 with pwr := { s1.pwr with
          failed := s1.pwr.failed.filter (· ≠ w.row), phase := .waking { w with row := w.row + 1, attempts := 1, unit := 0 } } }
        if w.row < 5 then s2
        else if w.row = 5 then s2.restartTime w.reset
        else if w.row = 6 then s2
        else if w.reset then (({ s2 with pwr := { s2.pwr with phase := .up } } : State).boot).logIt .powerUp s.pwr.lastWake
        else s2.wakeUp
    | _ => s

/-- The status reply that WAKE_FAIL carries (R471). -/
def State.wakeFailFrame (s : State) : State :=
  s.emit (.canFd (bits s.pwr.wakeCfg.toNat 25 24) (bits s.pwr.wakeCfg.toNat 23 13)
    (wordBytes [0x0309, 2 ^ 30, 0, ts32 s.carried.1, s.pwr.failWords.1, s.pwr.failWords.2, 0, 0]))

/-- Attempts are spent (R470, R471): Whorl stays in Sleep and sends WAKE_FAIL, unless the island oscillator has failed as well. -/
def State.wakeFail (s : State) (w : Waking) (island : Bool) : State :=
  let s1 : State := { s with pwr := { s.pwr with
    phase := .asleep, needReset := w.reset, failed := if s.pwr.failed.contains w.row then s.pwr.failed else w.row :: s.pwr.failed
    failWords := (w.row, w.attempts), failLeft := if island then 0 else 2 } }
  let s2 := s1.logIt .wake w.row w.attempts
  if island then s2 else s2.wakeFailFrame

/-- The ready signal does not arrive within its timeout (R470): the source is switched off for its pause, or the wake has failed. `unit` is the rail or PLL
that is missing, `island` says that the island oscillator has failed as well. -/
def execWakeReadyTimeout (unit : Nat) (island : Bool) (s : State) : Res :=
  .next <|
    match s.pwr.phase with
    | .waking w =>
      if w.paused || decide (5 < w.row) then s
      else if w.attempts < s.wakeAttempts w.row then { s with pwr := { s.pwr with phase := .waking { w with paused := true, unit := unit } } }
      else s.wakeFail w island
    | _ => s

/-- After the pause the source is tried again, or its spare (R470). -/
def execWakeRetryPauseEnd (s : State) : Res :=
  .next <|
    match s.pwr.phase with
    | .waking w =>
      if !w.paused then s
      else { s with pwr := { s.pwr with
        phase := .waking { w with paused := false, attempts := w.attempts + 1 }
        retries := min 15 (s.pwr.retries + 1) } }
    | _ => s

/-- WAKE_FAIL is sent again 100 ms after the last send, three times in all (R471). -/
def execWakeFailRepeat (s : State) : Res :=
  .next (if s.pwr.failLeft = 0 then s else ({ s with pwr := { s.pwr with failLeft := s.pwr.failLeft - 1 } } : State).wakeFailFrame)

end Sys2Proof.Machine
end

