-- ==== Sys2Proof/Machine/Update.lean ====
section
/-! DEFINITION. Firmware and configuration update (chapter 24): staging (R517), verification (R519), activation by command and at a time (R520 to R526). -/

namespace Sys2Proof.Machine

/-- Blocks received of the staged image. -/
def State.received (s : State) : Nat := s.upd.staged.length

/-- The staged image back to none: the update state is Idle. -/
def State.updateIdle (s : State) : State :=
  { s with
    dev := { s.dev with update := .idle }
    upd := { s.upd with kind := 0, imageId := 0, blocks := 0, staged := [], manifest := [], sv := 0, sched := none, act := none } }

/-! ### IMAGE_BLOCK -/

/-- Precondition 73 fails (Table 24.5). -/
def State.blockRefused (s : State) (p : Packet) : Bool :=
  match s.dev.update with
  | .pending => true
  | .activating => true
  | .staging => !p.b 3 31 && (p.word 4 ≠ s.upd.imageId || p.f 3 13 12 ≠ s.upd.kind || p.f 5 10 0 ≠ s.upd.blocks)
  | .idle => false

def specImageBlock : OpSpec where
  code := 0x0D02
  masks := fun _ => [fm [(31, 31), (13, 12), (9, 0)], full, fm [(10, 0)], full] ++ addrMasks
  params := fun e s =>
    let p := e.p
    firstFail [
      (p.f 3 13 12 = 0, badParam 3), (p.f 5 10 0 = 0 || 1024 < p.f 5 10 0, badParam 5), (p.f 5 10 0 ≤ p.f 3 9 0, badParam 3),
      (p.addr 7 % 64 ≠ 0, badParam 7), (!s.adminBaseOk (p.addr 7) 65536, badAddr (p.addr 7))]
  pre := fun e s => if s.blockRefused e.p then some (badState 73) else none
  run := fun e s =>
    let p := e.p
    let data := s.load (p.addr 7) 65536
    if crc32c data ≠ p.word 6 then s.done e checkFailed [p.f 3 9 0] else
    let fresh : Bool := s.dev.update = .idle || p.b 3 31
    let s1 : State := { s with
      dev := { s.dev with update := .staging }
      upd := { s.upd with
        imageId := p.word 4, kind := p.f 3 13 12, blocks := p.f 5 10 0
        staged := NMap.put (if fresh then [] else s.upd.staged) (p.f 3 9 0) data } }
    s1.done e 0 [s1.received, p.f 3 9 0]

/-- IMAGE_BLOCK stores a block whose CRC matches in the staging area (R517, Table 24.5). -/
def execImageBlock (src : Src) (p : Packet) (s : State) : Res := .next (specImageBlock.exec src p s)

/-! ### IMAGE_VERIFY -/

/-- Manifest that IMAGE_VERIFY names. -/
def State.manifestOf (s : State) (p : Packet) : List Byte := s.load (p.addr 3) 3533

/-- Check 2 of R519 fails. -/
def State.manifestDiffers (s : State) (m : List Byte) : Bool :=
  manifestF m 511 480 ≠ 0x4D4E4651 || manifestF m 479 472 ≠ 1 || manifestF m 463 448 ≠ 0x4800
  || manifestF m 471 468 ≠ s.upd.kind || manifestF m 399 368 ≠ s.upd.imageId || manifestF m 324 314 ≠ s.upd.blocks
  || decide (s.dev.stepping < manifestF m 447 440)

def specImageVerify : OpSpec where
  code := 0x0D03
  masks := fun _ => addrMasks
  params := fun e s =>
    firstFail [(e.p.addr 3 % 64 ≠ 0, badParam 3), (!s.adminBaseOk (e.p.addr 3) 3533, badAddr (e.p.addr 3))]
  pre := fun e s =>
    let m := s.manifestOf e.p
    firstFail [
      (s.dev.update ≠ .staging || s.received ≠ s.upd.blocks, badState 74),
      (s.manifestDiffers m, badParam 3),
      (s.manifestSig m ≠ 0, ⟨signatureInvalid, [s.manifestSig m]⟩)]
  run := fun e s =>
    let m := s.manifestOf e.p
    s.setJob e.id (.waits (.verify m (if manifestF m 471 468 = 1 then [] else [30, 31])))

/-- IMAGE_VERIFY checks the manifest against the staged image (R519); its other checks and the copy follow at its commit point. -/
def execImageVerify (src : Src) (p : Packet) (s : State) : Res := .next (specImageVerify.exec src p s)

/-- The staged bytes in block order. -/
def State.stagedImage (s : State) : List Byte := s.upd.staged.flatMap (fun (b : Nat × List Byte) => b.2)

/-- ROLLBACK_REFUSED with its details, where check 5 of R519 fails: SV below VALUE, or CONFIG_SEQ not above the stored copies' (Table 23.10). -/
def State.rollback (s : State) (m : List Byte) : Option (List Nat) :=
  if manifestF m 471 468 = 3 then
    (if manifestF m 287 256 ≤ s.configTop then some [manifestF m 287 256, s.configTop] else none)
  else if manifestF m 431 400 < s.vault.value then some [manifestF m 431 400, s.vault.value] else none

/-- The layer that an image kind is for. -/
def Vault.layer (v : Vault) (kind : Nat) : BootLayer := if kind = 1 then v.layer1 else v.layer2
def Vault.setLayer (v : Vault) (kind : Nat) (l : BootLayer) : Vault := if kind = 1 then { v with layer1 := l } else { v with layer2 := l }

/-- Change the inactive copy of a kind's layer; a configuration record has none. -/
def State.setInactive (s : State) (kind : Nat) (c : BootCopy) : State :=
  if kind = 3 then s else
  let l := s.vault.layer kind
  { s with vault := s.vault.setLayer kind { l with copies := setAt l.copies (1 - l.active) c } }

/-- The end of IMAGE_VERIFY: checks 4 and 5 of R519, the copy in the boot flash and its read-back. -/
def State.endVerify (s : State) (id : Nat) (m : List Byte) : State :=
  let image := s.stagedImage
  let kind := s.upd.kind
  let sv := if kind = 3 then 0 else manifestF m 431 400
  if !digestOk m image then
    ({ s with upd := { s.upd with staged := [] } } : State).finish id checkFailed [0xFFFFFFFF]
  else match s.rollback m with
    | some d => s.finish id 0x0504 d
    | none =>
      if kind ≠ 3 && Config.flashFails s.free then
        ((s.drawn 1).setInactive kind { present := false, factory := false }).finish id checkFailed [0xFFFFFFFE]
      else
        let s1 := ((s.drawn 1).setInactive kind ⟨true, false, m, image, sv, s.upd.imageId⟩)
        let s2 : State := { s1 with dev := { s1.dev with update := .pending }, upd := { s1.upd with manifest := m, sv := sv } }
        -- in recovery the copy becomes the active one and boots at the next module reset (R503)
        let s3 : State := if s2.pwr.phase = .recovery && kind ≠ 3 then
            { s2 with vault := s2.vault.setLayer kind { s2.vault.layer kind with active := 1 - (s2.vault.layer kind).active } } else s2
        s3.finish id 0 [if kind = 3 then manifestF m 287 256 else sv]

/-! ### Activation -/

/-- COUNTER_EXHAUSTED (R520). -/
def counterExhausted : Nat := 0x0501

/-- SV − VALUE exceeds CAPACITY (Table 23.10). -/
def State.svTooHigh (s : State) : Bool := decide (s.vault.value + s.vault.capacity < s.upd.sv)

/-- Erase the header of the copy that IMAGE_VERIFY wrote, and return to Idle (R520, R525). -/
def State.discardImage (s : State) : State := (s.setInactive s.upd.kind { present := false, factory := false }).updateIdle

/-- The copy that holds the Pending image becomes active: the one that carries its manifest (R521, R524). -/
def State.switchCopy (s : State) : State :=
  if s.upd.kind = 3 then s else
  let l := s.vault.layer s.upd.kind
  let i := (firstIx (fun (c : BootCopy) => !c.factory && c.present && c.manifest = s.upd.manifest) l.copies).getD (1 - l.active)
  { s with vault := s.vault.setLayer s.upd.kind { l with active := i } }

/-- The record is written over the stored copies `i` onwards, each read back before the next (R524): answers whether all are good. -/
def State.writeConfigs (s : State) (record : List Byte) : List Nat → State × Bool
  | [] => (s, true)
  | i :: rest =>
    let bad := Config.flashFails s.free
    let c : ConfigCopy := { good := !bad, installed := false, seq := manifestF s.upd.manifest 287 256, manifest := s.upd.manifest, record := record }
    let s1 : State := { s.drawn 1 with upd := { s.upd with configs := setAt s.upd.configs i c } }
    if bad then (s1, false) else State.writeConfigs s1 record rest

/-- What an activation puts in force: the copy switched, or the record written; false where a copy of the record fails its read-back. -/
def State.putInForce (s : State) : State × Bool :=
  if s.upd.kind = 3 then s.writeConfigs (s.stagedImage.take (manifestF s.upd.manifest 367 336)) [0, 1, 2] else (s.switchCopy, true)

/-- The application cores start again: the host watchdog's timeout restarts (R524). -/
def State.restartCores (s : State) : State :=
  { s with saf := { s.saf with wdRunning := if s.saf.wdEnable then some s.saf.wdTimeout else none } }

/-- An activation ends (R523): the counter is raised, the state becomes Idle, UPD_LAST and a log record take the status. -/
def State.endActivation (s : State) (sv : Nat) : State :=
  let s1 := (s.raiseCounter sv 2048).updateIdle
  ({ s1 with upd := { s1.upd with last := 0 } } : State).logIt .update 0 0

/-- Activation without a pause, of KIND 0x2 and 0x3 (R524). -/
def State.activateNow (s : State) (e : Env) : State :=
  let kind := s.upd.kind
  let (s1, ok) := ({ s with upd := { s.upd with sched := none } } : State).putInForce
  if ok then
    let s2 := (if kind = 2 then s1.restartCores else s1).endActivation s1.upd.sv
    s2.done e 0 [0, s2.vault.value, kind]
  else
    (({ s1 with upd := { s1.upd with last := checkFailed } } : State).logIt .update 0 checkFailed).done e checkFailed [0xFFFFFFFE]

/-- The state is Activating with a pause to come (R520, R521): fetching stops. -/
def State.beginActivation (s : State) (pkt : Option Nat) : State :=
  { s with dev := { s.dev with update := .activating }, upd := { s.upd with sched := none, act := some { pkt := pkt, kind := s.upd.kind, sv := s.upd.sv } } }

/-- A core is halted at a breakpoint (precondition 76). -/
def State.anyHalted (s : State) : Bool := s.dbg.haltedAc ≠ 0 || s.dbg.haltedFl ≠ 0

def specActivate : OpSpec where
  code := 0x0D04
  masks := noParams
  pre := fun _ s => firstFail [(s.dev.update ≠ .pending || !s.isAtRest, badState 75), (s.anyHalted, badState 76)]
  run := fun e s =>
    if s.svTooHigh then s.discardImage.done e counterExhausted
    else if s.upd.kind = 1 then (s.beginActivation (some e.id)).setJob e.id (.waits .activate)
    else s.activateNow e

/-- ACTIVATE puts the Pending image in force: KIND 0x1 with a pause of compute, the others at once (R520, R524). -/
def execActivate (src : Src) (p : Packet) (s : State) : Res := .next (specActivate.exec src p s)

/-! ### ACTIVATE_AT -/

def activateAtMasks : Packet → List Nat := fun _ => [fm [(31, 30)], full, full, fm [(15, 0)]]

/-- Due time of an ACTIVATE_AT in ns. -/
def dueTime (p : Packet) : Nat := (p.word 5 + p.f 6 15 0 * 2 ^ 32) * 1000000000 + p.word 4

def pendingPre (s : State) : Option Rej := if s.dev.update = .pending then none else some (badState 75)

/-- Words 4 to 6 are 0 for OP 0b01 and 0b10 (Table 24.9). -/
def noDue (p : Packet) : Option Rej := firstFail [(p.word 4 ≠ 0, badParam 4), (p.word 5 ≠ 0, badParam 5), (p.word 6 ≠ 0, badParam 6)]

def specActivateSchedule : OpSpec where
  code := 0x0D05
  masks := activateAtMasks
  params := fun e _ => if 1000000000 ≤ e.p.word 4 then some (badParam 4) else none
  pre := fun _ s => pendingPre s
  run := fun e s =>
    let late : Bool := decide (dueTime e.p ≤ s.now)
    if late && !e.p.b 0 24 then s.done e timePassed [dueTime e.p % 2 ^ 32]
    else
      let due := if late then s.now else dueTime e.p
      ({ s with upd := { s.upd with sched := some (due, e.p.b 0 24) } } : State).done e 0 [ts32 due]

/-- ACTIVATE_AT with OP 0b00 sets the due time (R525). -/
def execActivateAtSchedule (src : Src) (p : Packet) (s : State) : Res := .next (specActivateSchedule.exec src (p.withField 3 31 30 0) s)

def specActivateCancel : OpSpec where
  code := 0x0D05
  masks := activateAtMasks
  params := fun e _ => noDue e.p
  pre := fun _ s => pendingPre s
  run := fun e s => ({ s with upd := { s.upd with sched := none } } : State).done e

/-- ACTIVATE_AT with OP 0b01 clears the time and keeps Pending (R525). -/
def execActivateAtCancel (src : Src) (p : Packet) (s : State) : Res := .next (specActivateCancel.exec src (p.withField 3 31 30 1) s)

def specActivateDiscard : OpSpec where
  code := 0x0D05
  masks := activateAtMasks
  params := fun e _ => noDue e.p
  pre := fun _ s => pendingPre s
  run := fun e s => s.discardImage.done e

/-- ACTIVATE_AT with OP 0b10 clears the time, erases the written copy's header and returns to Idle (R525). -/
def execActivateAtDiscard (src : Src) (p : Packet) (s : State) : Res := .next (specActivateDiscard.exec src (p.withField 3 31 30 2) s)

/-- The due time comes (R526, R535): without an assertion, or with a core halted, the image stays Pending and UPD_LAST records BAD_STATE; an
exhausted counter ends it as R520 states; else it activates with a pause, whatever its KIND. -/
def execActivationDue (s : State) : Res :=
  .next <|
    if s.upd.sched.isNone || s.dev.update ≠ .pending || s.pwr.phase ≠ .up then s
    else
      let s1 : State := { s with upd := { s.upd with sched := none } }
      let fails (x : State) (status : Nat) : State := ({ x with upd := { x.upd with last := status } } : State).logIt .update 0 status
      if !s1.isAtRest || s1.anyHalted then fails s1 0x0108
      else if s1.svTooHigh then fails s1.discardImage counterExhausted
      else s1.beginActivation none

/-! ### The pause -/

/-- The activation under way, in a stage. -/
def State.actIn (s : State) (k : ActStage) : Option Activation := match s.upd.act with | some a => if a.stage = k then some a else none | none => none

/-- The activation moves to a stage. -/
def State.setStage (s : State) (a : Activation) (k : ActStage) : State := { s with upd := { s.upd with act := some { a with stage := k } } }

/-- Packets outstanding other than the ACTIVATE itself. -/
def State.othersOut (s : State) (a : Activation) : List Nat := (s.pkts.filter (fun o => some o.id ≠ a.pkt)).map (fun o => o.id)

/-- 20 ms into Activating, what is outstanding is aborted as by ABORT SCOPE 0b10 (R521). -/
def execActivationDrainTimeout (s : State) : Res :=
  .next <| s.whileUp <| match s.actIn .drain with
    | some a => (s.stopMany .abort (s.othersOut a)).1
    | none => s

/-- Send the status frame on every enabled carrier. -/
def State.sendAllStatus (s : State) : State :=
  ([.ve, .cx 0, .cx 1, .cx 2, .cx 3].filter s.statusOn).foldl (fun (x : State) c => x.sendStatus c) s

/-- The drain is done and the pause begins (R521, R522, Table 24.8): tensioners lowered, SAFE lines low, status frame sent, loop outputs frozen, the
active copy switched. A record that fails its read-back ends the activation. -/
def execActivationPauseBegin (s : State) : Res :=
  .next <| s.whileUp <| match s.actIn .drain with
    | none => s
    | some a =>
      if !(s.othersOut a).isEmpty then s
      else
        let s1 := (s.setStage { a with pauseStart := s.now } .paused).sendAllStatus
        let s2 : State := { s1 with dom := { s1.dom with cores := s1.dom.cores.map (fun (c : Core) => { c with g := 0, v0 := 0, v1 := 0 }) } }
        let (s3, ok) := s2.putInForce
        if ok then s3
        else
          ((({ s3 with dev := { s3.dev with update := .pending }, upd := { s3.upd with act := none, last := checkFailed } } : State).sendAllStatus).logIt .update 0 checkFailed).applyHalts

/-- 4 ms into the pause, loops send HOLD_VAL with SAFE set from now on (Table 24.8, Table 16.5). -/
def execActivationHoldStage (s : State) : Res :=
  .next <| s.whileUp <| match s.actIn .paused with | some a => s.setStage a .held | none => s

/-- The pause ends (R521 to R523, R526): status frame, loops as after a hold, fetching from the recorded doorbells, the counter raised, Idle, the
reply. -/
def execActivationPauseEnd (s : State) : Res :=
  .next <| s.whileUp <| match s.actIn .imageRunning with
    | none => s
    | some a =>
      let us := (s.now - a.pauseStart) / 1000
      let s1 := ({ s with upd := { s.upd with act := none } } : State).resumeLoops
      let s2 := if a.pkt.isNone || a.kind = 2 then s1.restartCores else s1
      let s3 := (s2.endActivation a.sv).sendAllStatus
      let s4 := match a.pkt with
        | some id => s3.finish id 0 [us, s3.vault.value, a.kind, 0]
        | none => s3
      s4.applyHalts

end Sys2Proof.Machine
end

