-- ==== Sys2Proof/Machine/Opcodes.lean ====
section
/-! DEFINITION. What a packet's opcode and its sub-operation field say it does (Table 2.16): the one place where a fetched packet finds its meaning. -/

namespace Sys2Proof.Machine

/-- The sub-operation `i` of an opcode; a value outside the list ends BAD_PARAM with word 3. -/
def choose (l : List OpSpec) (i : Nat) : OpSpec := l.getD i { l.headD specNop with params := fun _ _ => some (badParam 3) }

/-- Families 0x01 and 0x02. -/
def specsLow (p : Packet) : List OpSpec := [
  specNop, specBobbinCreate, specBobbinDestroy, specBobbinStop, specBobbinResume, specAbort, specQuiesce, specTenantCreate, specTenantDestroy, specQuery,
  specDmaCopy, specDmaFill, specBankAssign, specRegionMap, specRegionUnmap,
  choose [specKvScatterAppend, specKvScatterOpen, specKvScatterClose, specKvScatterBind] (p.f 3 31 30), specPagePin]

/-- Families 0x03 to 0x06. -/
def specsMid (p : Packet) : List OpSpec := [
  specMatmul, specConv, specAttention, specRecur, specVectorOp, specSort, specScheduleRun,
  specDraftOpen, specTwist, specUnravel, specDraftQuery,
  specContextCreate, specContextDestroy, specContextReset, specModelLoad, specModelPin, specModelEvict,
  choose [specStoreOpen, specStoreWrite, specStoreSeal, specStoreDelete] (p.f 3 31 30), specLaneReserve, specLaneRelease,
  choose [specStreamConfigure, specStreamRelease] (p.f 3 31 30), choose [specGroupCreate, specGroupReconfigure, specGroupDelete] (p.f 3 31 30),
  specGroupStart, specGroupStop, specVoteConfig, specChannelEnable]

/-- Families 0x07 to 0x09. -/
def specsHigh (p : Packet) : List OpSpec := [
  choose [specPlanCreate, specPlanReconfigure, specPlanDelete] (p.f 3 31 30), choose [specPlanCycle, specPlanCheck] (p.f 3 31 30),
  choose [specMapReplace, specMapPatch] (p.f 3 31 30), choose [specSolveCreate, specSolveReconfigure, specSolveDelete] (p.f 3 31 30), specSolve,
  choose [specLoopCreate, specLoopReconfigure, specLoopDelete, specLoopRing] (p.f 3 31 30), specLoopStart, specLoopStop,
  specTimeStep, specTimeRate, specLaunchConfig, specTriggerSet, specCaptureArm,
  specPlyJoin, choose [specPlyLeaveGraceful, specPlyLeaveNow] (p.f 3 0 0), specCollective, choose [specWindowGrant, specWindowRevoke] (p.f 3 31 31)]

/-- Families 0x0A to 0x0D. -/
def specsTop (p : Packet) : List OpSpec := [
  choose [specPhaseHint, specPhaseHintClear] (p.f 3 31 31), choose [specBudgetWant, specBudgetMachine] (p.f 3 31 30), specPowerQuery,
  choose [specAgeRegister, specAgeDeregister] (p.f 3 31 30), choose [specSafeEnter, specSafeRelease] (p.f 3 31 30),
  choose [specPairConfigure, specPairRemove] (p.f 3 31 30), specAtRest,
  specBistRun, specTraceConfig, specCounterRead, choose [specBreakSet, specBreakClear, specBreakResume, specBreakHalt] (p.f 3 31 30),
  specKeyWrite, specKeyErase, specImageBlock, specImageVerify, specActivate,
  choose [specActivateSchedule, specActivateCancel, specActivateDiscard] (p.f 3 31 30), specAttest, specDebugUnlock]

/-- What a packet's opcode does; an opcode outside Table 2.16 fails its first check whatever stands here. -/
def specOf (p : Packet) : OpSpec :=
  ((specsLow p ++ specsMid p ++ specsHigh p ++ specsTop p).find? (fun sp => sp.code = p.opcode)).getD specNop

end Sys2Proof.Machine
end

