-- ==== Sys2Proof/Machine/Fetch.lean ====
section
/-! DEFINITION. Fetching (R43, R47), BARRIER and CHAIN (R57), placement on cores (R93), and commit points (R62). -/

namespace Sys2Proof.Machine

/-- A packet that has not started: held back, or waiting for cores. -/
def Job.unstarted : Job → Bool
  | .held => true
  | .cores => true
  | _ => false

/-- A fetched packet of bobbin `n` may not start yet: an earlier packet of the bobbin has not started (R57, R94), BARRIER or its predecessor's
CHAIN holds it back (R57), or the bobbin's hold of replies is full (R52). -/
def State.heldBack (s : State) (n : Nat) (o : OutPkt) : Bool :=
  (s.outstanding n).any (fun x => decide (x.id < o.id) && (o.pkt.barrier || x.job.unstarted))
  || (match o.pred with | some l => l.chain && l.status.isNone | none => false)
  || decide (32 ≤ (s.bob n).held.length)

/-- The status by which the predecessor's CHAIN skips the packet, where it ended outside class 0x00 (R57). -/
def chainSkips (pred : Option ChainLink) : Option Nat :=
  match pred with
  | some l => (match l.status with | some st => if l.chain && decide (st / 256 ≠ 0) then some st else none | none => none)
  | none => none

/-- A packet that nothing holds back any more is checked and started, or ends SKIPPED without running, with its predecessor's status in DETAIL0
(R57, Table 2.15). -/
def State.release (s : State) (o : OutPkt) : State :=
  match chainSkips o.pred with
  | some st => s.endPkt o 0x0301 [st]
  | none => (specOf o.pkt).start o.env s

/-- The home flyer may fetch from bobbin `n` now: the bobbin is Running with an unfetched slot (R44). -/
def State.mayFetch (s : State) (n : Nat) : Bool :=
  let b := s.bob n
  s.starts (.bobbin n) && b.mode = .running && b.tail ≠ b.cmdHead

/-- The next slot of bobbin `n` is fetched (R43, R47, R57): its packet starts, or is held back. A slot that cannot be read sets FETCH_FAULT and puts
the bobbin in Error (Table 2.9b). In Doze the flyer's domain restarts (R462). -/
def State.fetch (s0 : State) (n : Nat) : State :=
  let s := s0.restart (24 + (s0.bob n).flyer / 5)
  let b := s.bob n
  let a := b.cmdBase + 64 * (b.cmdHead.toNat % 2 ^ b.sizeLog2)
  if !s.served a 64 then s.bobError n (fun b => { b with fetchFault := true })
  else
    let p : Packet := ⟨bytesWords 16 (s.load a 64)⟩
    let bell := match b.bells with | x :: _ => x.2 | [] => (s.q.nextId, s.q.endSeq)
    let head := b.cmdHead + 1
    let s1 := s.setBob n { b with cmdHead := head, bells := b.bells.filter (fun x => x.1 ≠ head) }
    let s2 := (s1.takeIn (.bobbin n) p bell).trace { type := 0, unit := n, ctx := p.ctx, tenant := some b.tenant, opcode := p.opcode, tag := p.reqTag }
    let o : OutPkt := { s1.newPkt (.bobbin n) p bell with ix := some b.cmdHead, pred := b.last }
    let s3 : State := { s2 with pkts := s1.pkts ++ [o] }
    if s3.heldBack n o then s3 else s3.release o

def execPacketFetch (bobbin : Nat) (s : State) : Res := .next (if s.mayFetch bobbin then s.fetch bobbin else s)

/-- What packet `id` waits for to start has come about (R57, R52). A halted flyer starts nothing (R493). -/
def execPacketHoldEnd (id : Nat) (s : State) : Res :=
  .next <|
    match s.pkt? id with
    | some o =>
      (match o.src with
       | .bobbin n => if o.job ≠ .held || s.heldBack n o || s.flyerHalted o.flyer || !s.serves then s else s.release o
       | .oob _ _ => s)
    | none => s

/-- The effect of a packet that has passed its checks and waits, tried again. -/
def State.runAgain (s : State) (o : OutPkt) : State := (specOf o.pkt).run o.env s

/-- Cores may have become free for a waiting packet: it claims all it needs, or waits on (R93 to R95). In Safe-hold, while Activating and
from a halted flyer nothing is placed (Table 25.3). -/
def execCorePlacement (id : Nat) (s : State) : Res :=
  .next <|
    match s.pkt? id with
    | some o =>
      if o.job = .cores && !s.flyerHalted o.flyer && s.pwr.phase = .up && s.dev.update ≠ .activating && s.safety ≠ .safeHold then s.runAgain o else s
    | none => s

/-- What a packet that waits does once what it waits for has come about; until then nothing. -/
def State.waitOver (s : State) (o : OutPkt) : Wait → State
  | .quiesce => if s.busyCtx o.pkt.ctx then s else s.finish o.id 0
  | .retry => s.runAgain o
  | .region => s.retryRegions [o]
  | .reset c => s.endReset o.id c
  | .destroyCtx => s.destroyCtx o.id o.pkt.ctx
  | .lane h => s.endLane o.id h
  | .verify m _ => s.endVerify o.id m
  | .abort _ _ _ => s
  | .stopBobbin _ => s
  | .twist => s
  | .channel _ => s
  | .streamRelease _ => s
  | .join _ => s
  | .leave _ => s
  | .collective _ => s
  | .revoke _ _ => s
  | .budget => s
  | .bist _ => s
  | .activate => s
  | .loopStop _ => s

/-- The commit point of packet `id` (R62): the last acknowledgement reaches its owning flyer, which decides the outcome; at a halted flyer it queues
(R493). A packet that waits ends once what it waits for has come about. -/
def execCommitPoint (id : Nat) (s : State) : Res :=
  .next <|
    match (if s.serves then s.pkt? id else none) with
    | none => s
    | some o =>
      match o.job with
      | .work w =>
        if s.flyerHalted o.flyer then
          (if s.dbg.queuedAcks.contains (id, none) then s else { s with dbg := { s.dbg with queuedAcks := s.dbg.queuedAcks ++ [(id, none)] } })
        else s.commitPoint o w
      | .waits w => if s.flyerHalted o.flyer then s else s.waitOver o w
      | .held => s
      | .cores => s

end Sys2Proof.Machine
end

