-- ==== Sys2Proof/Machine/Input.lean ====
section
/-! DEFINITION. The 48 V input (R543, R544, R547), hold-up (R548, R549), power sequencing (R550 to R552) and the inlet coolant (R557). -/

namespace Sys2Proof.Machine

/-- The module is powered: neither Off nor running on the hold-up store. -/
def State.powered (s : State) : Bool := match s.pwr.phase with | .off => false | .lost => false | _ => true

/-- VIN_48 lies in the band below 36 V, or above it. -/
def State.setBand (s : State) (low : Bool) : State := { s with pwr := { s.pwr with lowBand := low } }

/-- VIN_48 rises through 36 V after Off: a module reset and the sequence of Table 26.9 (R550). `endpoint`: PE_MODE is open (R541). -/
def execPowerUp (endpoint : Bool) (s : State) : Res :=
  .next (if s.pwr.phase = .off then (s.setBand false).moduleReset true endpoint else s)

/-- The hold-up store reaches 3.5 J (R549). -/
def execHoldupCharged (s : State) : Res :=
  .next (if s.powered && !s.pwr.holdupGate then { s with pwr := { s.pwr with holdupGate := true } } else s)

/-- 600 ms after the 6 V bus is good: a store below 3.5 J is logged HOLDUP_LOW, and the SAFE lines follow R443 (R549). -/
def execHoldupTimeout (s : State) : Res :=
  .next (if s.powered && !s.pwr.holdupGate then ({ s with pwr := { s.pwr with holdupGate := true } } : State).logIt .holdup else s)

/-- VIN_48 has been below 32 V for 5 µs (Table 26.10): cause 11, channels off, outputs high-impedance, rails off. In Sleep or a wake the module goes Off
(Table 26.11). -/
def execInputLoss (s : State) : Res :=
  .next <|
    let s0 := s.setBand false
    let lose : State :=
      let s1 := (s0.raiseHold 11).channelsOff
      ({ s1 with sen := { s1.sen with highZ := true }, pwr := { s1.pwr with phase := .lost } } : State).logIt .powerDown
    match s.pwr.phase with
    | .up => lose
    | .entering _ => lose
    | .recovery => lose
    | .tripped => lose
    | .asleep => { s0 with pwr := { s0.pwr with phase := .off } }
    | .waking _ => { s0 with pwr := { s0.pwr with phase := .off } }
    | .lost => s
    | .off => s

/-- VIN_48 returns to 36 V or more: during the sequence of Table 26.10 a module reset follows the log flush, after it a full power-up (Table 26.11). -/
def execInputReturn (endpoint : Bool) (s : State) : Res :=
  .next <|
    match s.pwr.phase with
    | .lost => (s.setBand false).moduleReset false endpoint
    | .off => (s.setBand false).moduleReset true endpoint
    | _ => s

/-- The hold-up store falls below 20 V and disconnects its load; Distaff stops (R548). -/
def execHoldupDisconnect (s : State) : Res :=
  .next (if s.pwr.phase = .lost then { s with pwr := { s.pwr with phase := .off } } else s)

/-- VIN_48 enters the band of 32 V to 36 V: the share is capped at 400 W, and the entry is logged once (Table 26.8). -/
def execInputLowBand (s : State) : Res :=
  .next (if s.powered && !s.pwr.lowBand then (s.setBand true).logIt .inputBand else s)

/-- VIN_48 rises from that band to 36 V or more, and the cap is lifted (Table 26.8). -/
def execInputFullFunctionReturn (s : State) : Res :=
  .next (if s.powered && s.pwr.lowBand then s.setBand false else s)

/-- VIN_48 crosses 53.0 V: the sink of R547 is connected or disconnected, in every power state. -/
def execActiveDischarge (on : Bool) (s : State) : Res := .next { s with pwr := { s.pwr with discharge := on } }

/-- The coolant temperature at the inlet, in tenths of a degree; none: the sensor has failed, which is logged (R557). -/
def execCoolantSample (inlet : Option Int) (s : State) : Res :=
  .next <|
    if !s.clocked then s
    else
      let s1 := if inlet.isNone && s.pwr.inlet.isSome then s.logIt .sensorFault 0xFFFF else s
      { s1 with pwr := { s1.pwr with inlet := inlet } }

end Sys2Proof.Machine
end

