-- ==== Sys2Proof/Machine/Oob.lean ====
section
/-! DEFINITION. The out-of-band path (R68 to R71, R494, R533), the service port and its mailbox (R74), and writes of registers without a row of their own
(R13, R39). -/

namespace Sys2Proof.Machine

/-! ### Out-of-band frames -/

/-- A frame is dropped without reply, logged and counted (R69). -/
def State.oobDrop (s : State) (c : Carrier) (port : Nat) : State :=
  match c with
  | .mbox => ({ s with oob := { s.oob with mboxDropped := satAdd 0xFFFF s.oob.mboxDropped 1 } } : State).logIt .mboxDropped
  | _ =>
    let x := s.oob.get c
    ({ s with oob := s.oob.set c { x with dropped := x.dropped + 1 } } : State).logIt .oobDropped port

/-- Sequence counter of a frame (Table 2.20). -/
def frameCounter (f : List Byte) : Nat := leNat ((f.drop 64).take 8)

/-- A frame authenticates: its tag verifies under the out-of-band key, and its counter exceeds the last one accepted on the carrier (R69). -/
def State.frameOk (s : State) (c : Carrier) (f : List Byte) : Bool :=
  f.length = 88
  && (match s.oobKey with | some k => decide (leBytes 16 (Config.cmac k (f.take 72)) = (f.drop 72).take 16) | none => false)
  && decide ((s.oob.get c).accepted < frameCounter f)

/-- The carrier's highest accepted counter, and its reservation, 2^20 above it where it lay below (R70). -/
def State.acceptCounter (s : State) (c : Carrier) (n : Nat) : State :=
  let x := s.oob.get c
  { s with oob := s.oob.set c { x with accepted := n, acceptedReserve := if x.acceptedReserve < n then n + 2 ^ 20 else x.acceptedReserve } }

/-- Distaff resumes the halted flyers that orders of packet `id` go to (R494). -/
def State.resumeOrdered (s : State) (id : Nat) : State :=
  s.resume 0 (listMask (((s.q.stops.filter (fun (o : StopOrder) => o.by_ = id)).map (fun o => o.flyer)).eraseDups))

/-- Distaff authenticates a frame and acts on its packet (R69 to R71). -/
def State.takeFrame (s : State) (c : Carrier) (port : Nat) (f : List Byte) : State :=
  if !s.frameOk c f then s.oobDrop c port
  else
    let p : Packet := ⟨bytesWords 16 (f.take 64)⟩
    let s1 := s.acceptCounter c (frameCounter f)
    let id := s1.q.nextId
    let bell := (id, s1.q.endSeq)
    ((specOf p).start (s1.newPkt (.oob c port) p bell).env (s1.takeIn (.oob c port) p bell)).resumeOrdered id

/-- Distaff acts on out-of-band frames: the module is up or enters Sleep. -/
def State.oobOpen (s : State) : Bool := s.clocked

/-- A frame reaches Distaff: taken at once, or held while Distaff runs no image, at most four a carrier (Table 25.4). -/
def State.frameIn (s : State) (c : Carrier) (port : Nat) (f : List Byte) : State :=
  if !s.oobOpen then s
  else if s.distaffRuns then s.takeFrame c port f
  else if (s.oob.heldFrames.filter (fun (h : Carrier × Nat × List Byte) => h.1 = c)).length < 4 then
    { s with oob := { s.oob with heldFrames := s.oob.heldFrames ++ [(c, port, f)] } }
  else s.oobDrop c port

/-- The mailbox exists: the service port is an endpoint whose link is up (R70, R74). -/
def State.hasMbox (s : State) : Bool := s.q.endpoint && s.q.serviceUp && s.oobOpen

/-- A port takes out-of-band frames: VE0 and VE1 always; CXn with its bit of CX_MASK set and identifier CX_ID; the mailbox while it exists (R70). -/
def State.frameAdmitted (s : State) (c : Carrier) (port id : Nat) : Bool :=
  match c with
  | .ve => decide (port < 2)
  | .cx n => decide (n < 4) && bit s.saf.oobMask n && decide (id = s.saf.oobCxId)
  | .mbox => s.hasMbox

/-- An out-of-band frame of 88 bytes arrives on a carrier; other frames are not Distaff's. -/
def execOobFrame (c : Carrier) (port id : Nat) (bytes : List Byte) (s : State) : Res :=
  .next (if s.frameAdmitted c port id then s.frameIn c port bytes else s)

/-- Writing 1 to MBOX_SEND hands MBOX_TX to Distaff; it reads 1 until Distaff has taken the frame (Table 2.25). -/
def State.mboxHand (s : State) : State :=
  if !s.hasMbox || s.oob.mboxSend then s
  else
    let s1 := s.frameIn .mbox 0 s.oob.mboxTx
    { s1 with oob := { s1.oob with mboxSend := !s.distaffRuns } }

def execMboxSend (s : State) : Res := .next s.mboxHand

/-- Writing 1 to RX_VALID releases the reply in MBOX_RX (Table 2.25). -/
def State.mboxFree (s : State) : State := if s.hasMbox then { s with oob := { s.oob with mboxRxValid := false } } else s

def execMboxRelease (s : State) : Res := .next s.mboxFree

/-- Distaff runs the new image and takes the held frames in arrival order (Table 24.8, Table 25.4). -/
def execDistaffImageRunning (s : State) : Res :=
  .next <| s.whileUp <| match s.actIn .held with
    | none => s
    | some a =>
      let s1 := s.setStage a .imageRunning
      let s2 : State := { s1 with oob := { s1.oob with heldFrames := [], mboxSend := false } }
      s.oob.heldFrames.foldl (fun (x : State) h => x.takeFrame h.1 h.2.1 h.2.2) s2

/-! ### The service port -/

/-- Service bobbin `n`, homed on FL2, its rings in the firmware reserve (R74): work of 256 entries where even, control of 16 where odd. -/
def State.serviceBobbin (s : State) (n : Nat) : Bobbin :=
  let base := s.reserveBlock + (n - 224) * 0x10000
  { mode := .running, control := n % 2 = 1, flyer := s.homeFlyer n false, sizeLog2 := if n % 2 = 0 then 8 else 4, cmdBase := base, cplBase := base + 0xC000 }

/-- The service link comes up with the port as an endpoint: bobbins 224 to 231 are created (R74). -/
def execServiceLinkUp (s : State) : Res :=
  .next <|
    if !s.q.endpoint || s.q.serviceUp || !(s.pwr.phase = .up || s.pwr.phase = .recovery) || s.q.bobbins.any (fun (b : Nat × Bobbin) => decide (224 ≤ b.1)) then s
    else
      let s1 : State := { s with q := { s.q with serviceUp := true } }
      ((List.range 8).foldl (fun (x : State) k => x.setBob (224 + k) (s.serviceBobbin (224 + k))) s1).drawn 1

/-- The service link goes down: the eight bobbins stop, their held replies are logged, their outstanding packets end with their replies logged, and they are destroyed (R74). -/
def execServiceLinkDown (s : State) : Res :=
  .next <|
    if !s.q.serviceUp then s
    else
      let drop (x : State) (n : Nat) : State :=
        let y := (x.bob n).held.foldl (fun (z : State) r => z.logIt .serviceReply n r.status r.reqTag) (x.stopBobbin n)
        if (y.bob n).held.isEmpty then y else y.setBob n { y.bob n with held := [] }
      let s1 := (List.range 8).foldl (fun (x : State) k => drop x (224 + k)) s
      ({ s1 with q := { s1.q with serviceUp := false } } : State).dropService

/-! ### Register writes -/

/-- A 4-byte write of the service host at an offset in BAR0 (Table 2.25). -/
def State.writeService (s : State) (off v : Nat) : State :=
  if !s.q.serviceUp || !s.serves || off % 4 ≠ 0 then s
  else if off = 0x80 then (if bit v 0 then s.mboxHand else s)
  else if off = 0x180 then (if bit v 31 then s.mboxFree else s)
  else s.writeBar0 off v

/-- A 4-byte write in the management window. Words that also hold a bit or an index with a row of its own act as that row states. -/
def State.writeMapped (s : State) (who : Accessor) (off v : Nat) : State :=
  if !s.clocked then s
  else if !pageOpen who then s.writeMgmt who off v
  else if off = 0x206000 then
    let s1 := s.writePwrCtl (v % 2 ^ 31)
    if bit v 31 then s1.enterSleep else s1
  else if off = 0x205004 then s.writeHostWd v
  else if 0x202000 ≤ off && off < 0x204000 && off % 16 = 0 then s.queueBell ((off - 0x202000) / 0x100) ((off - 0x202000) / 0x80 % 2) ((off - 0x202000) / 0x10 % 8) v
  else s.writeMgmt who off v

/-- A 4-byte register write at an address: in BAR0 by offset for the service host, else in the management window. -/
def State.writeReg (s : State) (who : Accessor) (addr v : Nat) : State :=
  match who with
  | .serviceHost => s.writeService addr v
  | _ => if 0x020000000000 ≤ addr && addr < 0x020000210000 && addr % 4 = 0 then s.writeMapped who (addr - 0x020000000000) v else s

/-- A register write of 4 or 8 bytes; `hi` is the upper word of an 8-byte one (R13, R39, R74). -/
def execRegisterWrite (who : Accessor) (addr : Nat) (v : Word) (hi : Option Word) (s : State) : Res :=
  let s1 := s.writeReg who addr v.toNat
  .next (match hi with | some h => s1.writeReg who (addr + 4) h.toNat | none => s1)

end Sys2Proof.Machine
end

