-- ==== Sys2Proof/Machine/Dispatch.lean ====
section
/-! DEFINITION. One arm per command: each calls its meaning once. -/

namespace Sys2Proof.Machine

def exec (i : Instr) (s : State) : Host.Outcome State Fault Refusal :=
  match i with
  | .registerWrite who addr v hi => Sys2Proof.Machine.execRegisterWrite who addr v hi s
  | .adminCfgEnable v => Sys2Proof.Machine.execAdminCfgEnable v s
  | .adminCfgDisable v => Sys2Proof.Machine.execAdminCfgDisable v s
  | .doorbellWrite n v => Sys2Proof.Machine.execDoorbellWrite n v s
  | .cplDoorbellWrite n v => Sys2Proof.Machine.execCplDoorbellWrite n v s
  | .irqHoldoffExpiry n => Sys2Proof.Machine.execIrqHoldoffExpiry n s
  | .packetFetch bobbin => Sys2Proof.Machine.execPacketFetch bobbin s
  | .packetHoldEnd id => Sys2Proof.Machine.execPacketHoldEnd id s
  | .commitPoint id => Sys2Proof.Machine.execCommitPoint id s
  | .stopOrderArrival flyer => Sys2Proof.Machine.execStopOrderArrival flyer s
  | .nop src p => Sys2Proof.Machine.execNop src p s
  | .bobbinCreate src p => Sys2Proof.Machine.execBobbinCreate src p s
  | .bobbinDestroy src p => Sys2Proof.Machine.execBobbinDestroy src p s
  | .bobbinStop src p => Sys2Proof.Machine.execBobbinStop src p s
  | .bobbinResume src p => Sys2Proof.Machine.execBobbinResume src p s
  | .abort src p => Sys2Proof.Machine.execAbort src p s
  | .quiesce src p => Sys2Proof.Machine.execQuiesce src p s
  | .tenantCreate src p => Sys2Proof.Machine.execTenantCreate src p s
  | .tenantDestroy src p => Sys2Proof.Machine.execTenantDestroy src p s
  | .query src p => Sys2Proof.Machine.execQuery src p s
  | .dmaCopy src p => Sys2Proof.Machine.execDmaCopy src p s
  | .dmaFill src p => Sys2Proof.Machine.execDmaFill src p s
  | .bankAssign src p => Sys2Proof.Machine.execBankAssign src p s
  | .regionMap src p => Sys2Proof.Machine.execRegionMap src p s
  | .regionUnmap src p => Sys2Proof.Machine.execRegionUnmap src p s
  | .kvScatterBind src p => Sys2Proof.Machine.execKvScatterBind src p s
  | .kvScatterOpen src p => Sys2Proof.Machine.execKvScatterOpen src p s
  | .kvScatterClose src p => Sys2Proof.Machine.execKvScatterClose src p s
  | .kvScatterAppend src p => Sys2Proof.Machine.execKvScatterAppend src p s
  | .pagePin src p => Sys2Proof.Machine.execPagePin src p s
  | .matmul src p => Sys2Proof.Machine.execMatmul src p s
  | .conv src p => Sys2Proof.Machine.execConv src p s
  | .attention src p => Sys2Proof.Machine.execAttention src p s
  | .recur src p => Sys2Proof.Machine.execRecur src p s
  | .vectorOp src p => Sys2Proof.Machine.execVectorOp src p s
  | .sort src p => Sys2Proof.Machine.execSort src p s
  | .scheduleRun src p => Sys2Proof.Machine.execScheduleRun src p s
  | .corePlacement id => Sys2Proof.Machine.execCorePlacement id s
  | .coreWaitLimit id => Sys2Proof.Machine.execCoreWaitLimit id s
  | .draftOpen src p => Sys2Proof.Machine.execDraftOpen src p s
  | .twist src p => Sys2Proof.Machine.execTwist src p s
  | .twistStart id => Sys2Proof.Machine.execTwistStart id s
  | .twistPrepare id part => Sys2Proof.Machine.execTwistPrepare id part s
  | .twistVote id part ready => Sys2Proof.Machine.execTwistVote id part ready s
  | .twistCommit id part => Sys2Proof.Machine.execTwistCommit id part s
  | .twistVoteTimeout id node => Sys2Proof.Machine.execTwistVoteTimeout id node s
  | .twistOwnerLostTimeout record commit parent => Sys2Proof.Machine.execTwistOwnerLostTimeout record commit parent s
  | .unravel src p => Sys2Proof.Machine.execUnravel src p s
  | .draftQuery src p => Sys2Proof.Machine.execDraftQuery src p s
  | .writebackComplete ctx line => Sys2Proof.Machine.execWritebackComplete ctx line s
  | .contextCreate src p => Sys2Proof.Machine.execContextCreate src p s
  | .contextDestroy src p => Sys2Proof.Machine.execContextDestroy src p s
  | .contextReset src p => Sys2Proof.Machine.execContextReset src p s
  | .modelLoad src p => Sys2Proof.Machine.execModelLoad src p s
  | .modelPin src p => Sys2Proof.Machine.execModelPin src p s
  | .modelEvict src p => Sys2Proof.Machine.execModelEvict src p s
  | .modelStoreOpen src p => Sys2Proof.Machine.execModelStoreOpen src p s
  | .modelStoreWrite src p => Sys2Proof.Machine.execModelStoreWrite src p s
  | .modelStoreSeal src p => Sys2Proof.Machine.execModelStoreSeal src p s
  | .modelStoreDelete src p => Sys2Proof.Machine.execModelStoreDelete src p s
  | .laneReserve src p => Sys2Proof.Machine.execLaneReserve src p s
  | .laneRelease src p => Sys2Proof.Machine.execLaneRelease src p s
  | .tdescLd core sc td addr => Sys2Proof.Machine.execTdescLd core sc td addr s
  | .tdescSet core sc td field value => Sys2Proof.Machine.execTdescSet core sc td field value s
  | .tIssue core sc q => Sys2Proof.Machine.execTIssue core sc q s
  | .tWait core token => Sys2Proof.Machine.execTWait core token s
  | .tWaitq core q => Sys2Proof.Machine.execTWaitq core q s
  | .tStat core sc q => Sys2Proof.Machine.execTStat core sc q s
  | .scalarTrap core sc => Sys2Proof.Machine.execScalarTrap core sc s
  | .tensionerStep core engine => Sys2Proof.Machine.execTensionerStep core engine s
  | .bankConflictWindowEnd c a port => Sys2Proof.Machine.execBankConflictWindowEnd c a port s
  | .bankHandover pkt memory bank port => Sys2Proof.Machine.execBankHandover pkt memory bank port s
  | .pseudoChannelFlagged stack pc => Sys2Proof.Machine.execPseudoChannelFlagged stack pc s
  | .remapCopyEnd stack => Sys2Proof.Machine.execRemapCopyEnd stack s
  | .flitCrcFail module => Sys2Proof.Machine.execFlitCrcFail module s
  | .dieLinkRetryThreshold module laneLeft => Sys2Proof.Machine.execDieLinkRetryThreshold module laneLeft s
  | .patrolScrub addr bad trig slot flyer => Sys2Proof.Machine.execPatrolScrub addr bad trig slot flyer s
  | .hbmClearDone => Sys2Proof.Machine.execHbmClearDone s
  | .mboxSend => Sys2Proof.Machine.execMboxSend s
  | .mboxRelease => Sys2Proof.Machine.execMboxRelease s
  | .oobFrame c port id bytes => Sys2Proof.Machine.execOobFrame c port id bytes s
  | .flyerReportTimeout flyer => Sys2Proof.Machine.execFlyerReportTimeout flyer s
  | .serviceLinkUp => Sys2Proof.Machine.execServiceLinkUp s
  | .serviceLinkDown => Sys2Proof.Machine.execServiceLinkDown s
  | .streamConfigConfigure src p => Sys2Proof.Machine.execStreamConfigConfigure src p s
  | .streamConfigRelease src p => Sys2Proof.Machine.execStreamConfigRelease src p s
  | .csi2Packet port vc pkt => Sys2Proof.Machine.execCsi2Packet port vc pkt s
  | .frameCloseTimeout stream => Sys2Proof.Machine.execFrameCloseTimeout stream s
  | .retransmissionTimeout port vc => Sys2Proof.Machine.execRetransmissionTimeout port vc s
  | .aphyLinkUp port gear => Sys2Proof.Machine.execAphyLinkUp port gear s
  | .aphyLinkDrop port => Sys2Proof.Machine.execAphyLinkDrop port s
  | .t1Frame port frame => Sys2Proof.Machine.execT1Frame port frame s
  | .batchClose stream => Sys2Proof.Machine.execBatchClose stream s
  | .spiDataReady port sample => Sys2Proof.Machine.execSpiDataReady port sample s
  | .spiRateTick port sample => Sys2Proof.Machine.execSpiRateTick port sample s
  | .spiDrdyMiss port => Sys2Proof.Machine.execSpiDrdyMiss port s
  | .channelEnableOn src p => Sys2Proof.Machine.execChannelEnableOn src p s
  | .channelEnableOff src p => Sys2Proof.Machine.execChannelEnableOff src p s
  | .inrushComplete channel => Sys2Proof.Machine.execInrushComplete channel s
  | .inrushWindowEnd channel droop => Sys2Proof.Machine.execInrushWindowEnd channel droop s
  | .inrushRetry channel => Sys2Proof.Machine.execInrushRetry channel s
  | .shortTrip channel => Sys2Proof.Machine.execShortTrip channel s
  | .imuSupplyLimit port folded => Sys2Proof.Machine.execImuSupplyLimit port folded s
  | .pwNextArm who n lo hi => Sys2Proof.Machine.execPwNextArm who n lo hi s
  | .pwmReload n => Sys2Proof.Machine.execPwmReload n s
  | .pwCfgWrite who n v => Sys2Proof.Machine.execPwCfgWrite who n v s
  | .timeStepSet src p => Sys2Proof.Machine.execTimeStepSet src p s
  | .timeStepAdd src p => Sys2Proof.Machine.execTimeStepAdd src p s
  | .timeRate src p => Sys2Proof.Machine.execTimeRate src p s
  | .timeNRead who => Sys2Proof.Machine.execTimeNRead who s
  | .launchConfigConfigure src p => Sys2Proof.Machine.execLaunchConfigConfigure src p s
  | .launchConfigRelease src p => Sys2Proof.Machine.execLaunchConfigRelease src p s
  | .hostQueueDoorbell who port dir queue v => Sys2Proof.Machine.execHostQueueDoorbell who port dir queue v s
  | .launchTime port queue => Sys2Proof.Machine.execLaunchTime port queue s
  | .hostFrameReceive port frame => Sys2Proof.Machine.execHostFrameReceive port frame s
  | .tsqPop who port => Sys2Proof.Machine.execTsqPop who port s
  | .triggerSet src p => Sys2Proof.Machine.execTriggerSet src p s
  | .triggerCancel src p => Sys2Proof.Machine.execTriggerCancel src p s
  | .triggerOccurrence output => Sys2Proof.Machine.execTriggerOccurrence output s
  | .captureArm src p => Sys2Proof.Machine.execCaptureArm src p s
  | .captureDisarm src p => Sys2Proof.Machine.execCaptureDisarm src p s
  | .edgeCapture input rising => Sys2Proof.Machine.execEdgeCapture input rising s
  | .capPop who input => Sys2Proof.Machine.execCapPop who input s
  | .groupConfigCreate src p => Sys2Proof.Machine.execGroupConfigCreate src p s
  | .groupConfigReconfigure src p => Sys2Proof.Machine.execGroupConfigReconfigure src p s
  | .groupConfigDelete src p => Sys2Proof.Machine.execGroupConfigDelete src p s
  | .groupStart src p => Sys2Proof.Machine.execGroupStart src p s
  | .groupStop src p => Sys2Proof.Machine.execGroupStop src p s
  | .voteConfig src p => Sys2Proof.Machine.execVoteConfig src p s
  | .windowDeadline group => Sys2Proof.Machine.execWindowDeadline group s
  | .supplyDeadline group => Sys2Proof.Machine.execSupplyDeadline group s
  | .healthRecordDue group => Sys2Proof.Machine.execHealthRecordDue group s
  | .planConfigCreate src p => Sys2Proof.Machine.execPlanConfigCreate src p s
  | .planConfigReconfigure src p => Sys2Proof.Machine.execPlanConfigReconfigure src p s
  | .planConfigDelete src p => Sys2Proof.Machine.execPlanConfigDelete src p s
  | .planCyclePlan src p => Sys2Proof.Machine.execPlanCyclePlan src p s
  | .planCycleCheck src p => Sys2Proof.Machine.execPlanCycleCheck src p s
  | .mapUpdateReplace src p => Sys2Proof.Machine.execMapUpdateReplace src p s
  | .mapUpdatePatch src p => Sys2Proof.Machine.execMapUpdatePatch src p s
  | .plannerSliceFault slice pkt => Sys2Proof.Machine.execPlannerSliceFault slice pkt s
  | .solveConfigCreate src p => Sys2Proof.Machine.execSolveConfigCreate src p s
  | .solveConfigReconfigure src p => Sys2Proof.Machine.execSolveConfigReconfigure src p s
  | .solveConfigDelete src p => Sys2Proof.Machine.execSolveConfigDelete src p s
  | .solve src p => Sys2Proof.Machine.execSolve src p s
  | .solvePipeFault pipe cause => Sys2Proof.Machine.execSolvePipeFault pipe cause s
  | .loopConfigCreate src p => Sys2Proof.Machine.execLoopConfigCreate src p s
  | .loopConfigReconfigure src p => Sys2Proof.Machine.execLoopConfigReconfigure src p s
  | .loopConfigDelete src p => Sys2Proof.Machine.execLoopConfigDelete src p s
  | .loopConfigRing src p => Sys2Proof.Machine.execLoopConfigRing src p s
  | .loopStart src p => Sys2Proof.Machine.execLoopStart src p s
  | .loopStopStop src p => Sys2Proof.Machine.execLoopStopStop src p s
  | .loopStopHold src p => Sys2Proof.Machine.execLoopStopHold src p s
  | .loopTick => Sys2Proof.Machine.execLoopTick s
  | .loopFeedbackFrame can port id payload => Sys2Proof.Machine.execLoopFeedbackFrame can port id payload s
  | .plyLinkTrained port => Sys2Proof.Machine.execPlyLinkTrained port s
  | .plyLaneError port => Sys2Proof.Machine.execPlyLaneError port s
  | .plyCrcFail port seq => Sys2Proof.Machine.execPlyCrcFail port seq s
  | .plyLinkTimeout port => Sys2Proof.Machine.execPlyLinkTimeout port s
  | .plyIdleEmit port => Sys2Proof.Machine.execPlyIdleEmit port s
  | .idle port h => Sys2Proof.Machine.execIdle port h s
  | .hello port h node serial peer epoch => Sys2Proof.Machine.execHello port h node serial peer epoch s
  | .lsr port h r => Sys2Proof.Machine.execLsr port h r s
  | .lsrRefresh => Sys2Proof.Machine.execLsrRefresh s
  | .lsrExpiry node => Sys2Proof.Machine.execLsrExpiry node s
  | .routingTableSwap => Sys2Proof.Machine.execRoutingTableSwap s
  | .write port h offset tag tenant ctx dtag dlevel data => Sys2Proof.Machine.execWrite port h offset tag tenant ctx dtag dlevel data s
  | .readReq port h offset tag tenant ctx bytes => Sys2Proof.Machine.execReadReq port h offset tag tenant ctx bytes s
  | .readRsp port h tag data => Sys2Proof.Machine.execReadRsp port h tag data s
  | .writeAck port h tag => Sys2Proof.Machine.execWriteAck port h tag s
  | .control port h m => Sys2Proof.Machine.execControl port h m s
  | .safety port h m => Sys2Proof.Machine.execSafety port h m s
  | .collectiveFrame port h k data => Sys2Proof.Machine.execCollectiveFrame port h k data s
  | .ethernet port h data => Sys2Proof.Machine.execEthernet port h data s
  | .plyJoin src p => Sys2Proof.Machine.execPlyJoin src p s
  | .joinTrainingTimeout => Sys2Proof.Machine.execJoinTrainingTimeout s
  | .joinDatabaseSettled => Sys2Proof.Machine.execJoinDatabaseSettled s
  | .plyLeaveGraceful src p => Sys2Proof.Machine.execPlyLeaveGraceful src p s
  | .plyLeaveNow src p => Sys2Proof.Machine.execPlyLeaveNow src p s
  | .leaveDrainEnd => Sys2Proof.Machine.execLeaveDrainEnd s
  | .collective src p => Sys2Proof.Machine.execCollective src p s
  | .collectiveMatch id => Sys2Proof.Machine.execCollectiveMatch id s
  | .remoteWindowGrant src p => Sys2Proof.Machine.execRemoteWindowGrant src p s
  | .remoteWindowRevoke src p => Sys2Proof.Machine.execRemoteWindowRevoke src p s
  | .remoteAccess who addr data bytes => Sys2Proof.Machine.execRemoteAccess who addr data bytes s
  | .phaseHint src p => Sys2Proof.Machine.execPhaseHint src p s
  | .phaseHintClear src p => Sys2Proof.Machine.execPhaseHintClear src p s
  | .hintWindowOpen ctx => Sys2Proof.Machine.execHintWindowOpen ctx s
  | .hintWindowClose ctx => Sys2Proof.Machine.execHintWindowClose ctx s
  | .hintRailsDisarm ctx => Sys2Proof.Machine.execHintRailsDisarm ctx s
  | .budgetRequestWant src p => Sys2Proof.Machine.execBudgetRequestWant src p s
  | .budgetRequestBudget src p => Sys2Proof.Machine.execBudgetRequestBudget src p s
  | .powerQuery src p => Sys2Proof.Machine.execPowerQuery src p s
  | .governorDecision est cores => Sys2Proof.Machine.execGovernorDecision est cores s
  | .powerCalibration draw energy bad => Sys2Proof.Machine.execPowerCalibration draw energy bad s
  | .droopDetect rail recovered => Sys2Proof.Machine.execDroopDetect rail recovered s
  | .regulatorPhaseFault rail carries => Sys2Proof.Machine.execRegulatorPhaseFault rail carries s
  | .tensionReportDue => Sys2Proof.Machine.execTensionReportDue s
  | .tensionReport node floor want power => Sys2Proof.Machine.execTensionReport node floor want power s
  | .grantReceived mw => Sys2Proof.Machine.execGrantReceived mw s
  | .raisedGrantTimeout => Sys2Proof.Machine.execRaisedGrantTimeout s
  | .coordinatorCollectEnd => Sys2Proof.Machine.execCoordinatorCollectEnd s
  | .thermalSample temps => Sys2Proof.Machine.execThermalSample temps s
  | .thermalTrip => Sys2Proof.Machine.execThermalTrip s
  | .ageRegister src p => Sys2Proof.Machine.execAgeRegister src p s
  | .ageDeregister src p => Sys2Proof.Machine.execAgeDeregister src p s
  | .ageCheck => Sys2Proof.Machine.execAgeCheck s
  | .deadlineOverrun id => Sys2Proof.Machine.execDeadlineOverrun id s
  | .overrunClear => Sys2Proof.Machine.execOverrunClear s
  | .distaffFault pair => Sys2Proof.Machine.execDistaffFault pair s
  | .statusFramePeriodic carrier => Sys2Proof.Machine.execStatusFramePeriodic carrier s
  | .statusFrameChange carrier => Sys2Proof.Machine.execStatusFrameChange carrier s
  | .statusCfgWrite who v => Sys2Proof.Machine.execStatusCfgWrite who v s
  | .hostWdEnable who v => Sys2Proof.Machine.execHostWdEnable who v s
  | .hostWdKick who v => Sys2Proof.Machine.execHostWdKick who v s
  | .hostWdExpiry => Sys2Proof.Machine.execHostWdExpiry s
  | .safeStateRequestEnter src p => Sys2Proof.Machine.execSafeStateRequestEnter src p s
  | .safeStateRequestRelease src p => Sys2Proof.Machine.execSafeStateRequestRelease src p s
  | .atRestAssert src p => Sys2Proof.Machine.execAtRestAssert src p s
  | .atRestWithdraw src p => Sys2Proof.Machine.execAtRestWithdraw src p s
  | .atRestTimeout => Sys2Proof.Machine.execAtRestTimeout s
  | .pairCompareConfigure src p => Sys2Proof.Machine.execPairCompareConfigure src p s
  | .pairCompareRemove src p => Sys2Proof.Machine.execPairCompareRemove src p s
  | .pairCompareRecord node stream stamp values => Sys2Proof.Machine.execPairCompareRecord node stream stamp values s
  | .pairMatchTimeout stream => Sys2Proof.Machine.execPairMatchTimeout stream s
  | .enterSleep who v => Sys2Proof.Machine.execEnterSleep who v s
  | .sleepEntryStage => Sys2Proof.Machine.execSleepEntryStage s
  | .dozeEnWrite who v => Sys2Proof.Machine.execDozeEnWrite who v s
  | .dozeIdleExpiry domain => Sys2Proof.Machine.execDozeIdleExpiry domain s
  | .wakeIn => Sys2Proof.Machine.execWakeIn s
  | .wakeFrame port id => Sys2Proof.Machine.execWakeFrame port id s
  | .wakeTimer => Sys2Proof.Machine.execWakeTimer s
  | .wakeReady => Sys2Proof.Machine.execWakeReady s
  | .wakeReadyTimeout unit island => Sys2Proof.Machine.execWakeReadyTimeout unit island s
  | .wakeRetryPauseEnd => Sys2Proof.Machine.execWakeRetryPauseEnd s
  | .wakeFailRepeat => Sys2Proof.Machine.execWakeFailRepeat s
  | .pathDelayCheck cls unit slack => Sys2Proof.Machine.execPathDelayCheck cls unit slack s
  | .ringOscCheck cls unit drop => Sys2Proof.Machine.execRingOscCheck cls unit drop s
  | .coreSplice core => Sys2Proof.Machine.execCoreSplice core s
  | .clockFailure what => Sys2Proof.Machine.execClockFailure what s
  | .rotationSelect die => Sys2Proof.Machine.execRotationSelect die s
  | .bistRun src p => Sys2Proof.Machine.execBistRun src p s
  | .selfTestDone engine us pass sig failAddr cols => Sys2Proof.Machine.execSelfTestDone engine us pass sig failAddr cols s
  | .traceConfig src p => Sys2Proof.Machine.execTraceConfig src p s
  | .counterRead src p => Sys2Proof.Machine.execCounterRead src p s
  | .breakSetSet src p => Sys2Proof.Machine.execBreakSetSet src p s
  | .breakSetClear src p => Sys2Proof.Machine.execBreakSetClear src p s
  | .breakSetResume src p => Sys2Proof.Machine.execBreakSetResume src p s
  | .breakSetHaltNow src p => Sys2Proof.Machine.execBreakSetHaltNow src p s
  | .breakpointHit core slot => Sys2Proof.Machine.execBreakpointHit core slot s
  | .debugTransportAccess core op addr data => Sys2Proof.Machine.execDebugTransportAccess core op addr data s
  | .idcode => Sys2Proof.Machine.execIdcode s
  | .bypass => Sys2Proof.Machine.execBypass s
  | .samplePreload => Sys2Proof.Machine.execSamplePreload s
  | .extest => Sys2Proof.Machine.execExtest s
  | .intest => Sys2Proof.Machine.execIntest s
  | .dbgNonce => Sys2Proof.Machine.execDbgNonce s
  | .dbgToken token => Sys2Proof.Machine.execDbgToken token s
  | .debugNonceRead who => Sys2Proof.Machine.execDebugNonceRead who s
  | .debugUnlock src p => Sys2Proof.Machine.execDebugUnlock src p s
  | .keyWrite src p => Sys2Proof.Machine.execKeyWrite src p s
  | .keyErase src p => Sys2Proof.Machine.execKeyErase src p s
  | .keyCellFail slot both => Sys2Proof.Machine.execKeyCellFail slot both s
  | .attest src p => Sys2Proof.Machine.execAttest src p s
  | .imageBlock src p => Sys2Proof.Machine.execImageBlock src p s
  | .imageVerify src p => Sys2Proof.Machine.execImageVerify src p s
  | .activate src p => Sys2Proof.Machine.execActivate src p s
  | .activateAtSchedule src p => Sys2Proof.Machine.execActivateAtSchedule src p s
  | .activateAtCancel src p => Sys2Proof.Machine.execActivateAtCancel src p s
  | .activateAtDiscard src p => Sys2Proof.Machine.execActivateAtDiscard src p s
  | .activationDue => Sys2Proof.Machine.execActivationDue s
  | .activationDrainTimeout => Sys2Proof.Machine.execActivationDrainTimeout s
  | .activationPauseBegin => Sys2Proof.Machine.execActivationPauseBegin s
  | .activationHoldStage => Sys2Proof.Machine.execActivationHoldStage s
  | .distaffImageRunning => Sys2Proof.Machine.execDistaffImageRunning s
  | .activationPauseEnd => Sys2Proof.Machine.execActivationPauseEnd s
  | .powerUp endpoint => Sys2Proof.Machine.execPowerUp endpoint s
  | .holdupCharged => Sys2Proof.Machine.execHoldupCharged s
  | .holdupTimeout => Sys2Proof.Machine.execHoldupTimeout s
  | .inputLoss => Sys2Proof.Machine.execInputLoss s
  | .inputReturn endpoint => Sys2Proof.Machine.execInputReturn endpoint s
  | .holdupDisconnect => Sys2Proof.Machine.execHoldupDisconnect s
  | .inputLowBand => Sys2Proof.Machine.execInputLowBand s
  | .activeDischarge on => Sys2Proof.Machine.execActiveDischarge on s
  | .coolantSample inlet => Sys2Proof.Machine.execCoolantSample inlet s
  | .t1LinkLoss port => Sys2Proof.Machine.execT1LinkLoss port s
  | .t1LinkReturn port => Sys2Proof.Machine.execT1LinkReturn port s
  | .inputFullFunctionReturn => Sys2Proof.Machine.execInputFullFunctionReturn s

end Sys2Proof.Machine
end

