-- ==== Sys2Proof/Machine/Tick.lean ====
section
/-! DEFINITION. One tick of the time unit (R290), which is what a step does when no command waits. -/

namespace Sys2Proof.Machine

/-- Ticks of 4 ns in an hour. -/
def hourTicks : Nat := 900000000000

/-- The field-life counters of R558: hours in Run, Trim and Doze, and hours in Sleep. -/
def Device.count (d : Device) (p : Phase) : Device :=
  match p with
  | .up => if d.runTicks + 1 = hourTicks then { d with hoursRun := d.hoursRun + 1, runTicks := 0 } else { d with runTicks := d.runTicks + 1 }
  | .asleep => if d.sleepTicks + 1 = hourTicks then { d with hoursSleep := d.hoursSleep + 1, sleepTicks := 0 } else { d with sleepTicks := d.sleepTicks + 1 }
  | _ => d

/-- The time unit runs: not in Sleep, in a wake before the PLLs have locked, or while Off (R459, R292, Table 20.9). -/
def Phase.timed : Phase → Bool
  | .asleep => false
  | .waking w => decide (5 < w.row)
  | .off => false
  | _ => true

/-- One tick of 4 ns: device time advances by the rounded increment where the time unit runs (R290). -/
def State.tick (s : State) : State :=
  let f := s.time.frac + s.time.inc
  let t1 := { s.time with tick := s.time.tick + 1 }
  { s with
    time := if s.pwr.phase.timed then { t1 with ns := s.time.ns + f / 2 ^ 32, frac := f % 2 ^ 32 } else t1
    dev := s.dev.count s.pwr.phase }

end Sys2Proof.Machine
end

