-- ==== Sys2Proof/Machine/Reads.lean ====
section
/-! DEFINITION. What a read of each register of the management window returns (Tables 2.2, 2.7, 11.9, 12.2, 17.1, 19.3, 20.2, 21.3, 22.5, 23.7,
24.6). Reads that also act (TIME_N, TSQ_ENTRY, CAP_ENTRY, DEBUG_NONCE) have commands of their own; what they return is here too. -/

namespace Sys2Proof.Machine

/-- Word `i` of a wide register. -/
def wordOf (x i : Nat) : Nat := x / 2 ^ (32 * i) % 2 ^ 32

/-- A register of bobbin `n`'s page (Table 2.7); DOORBELL and CPL_DOORBELL are write-only. -/
def State.readBobbin (s : State) (n off : Nat) : Nat :=
  let b := s.bob n
  match off with
  | 0x04 => b.cmdHead.toNat
  | 0x0C => b.cplTail.toNat
  | 0x10 => s.bobbinState n
  | 0x14 => s.bobbinErr n
  | 0x18 => b.holdoff * 2 ^ 16 + b.irqCount * 2 ^ 8 + b.irqEnable.toNat
  | 0x1C => b.evtLost
  | _ => 0

/-- TSQ_ENTRY (Table 12.7). -/
def TsQueue.entry (q : TsQueue) : Nat := match q.entries with | e :: _ => 2 ^ 63 + e.kind * 2 ^ 61 + e.id * 2 ^ 32 + e.ts | [] => 0
/-- TSQ_STAT (Table 12.8). -/
def TsQueue.stat (q : TsQueue) : Nat := q.overflow.toNat * 2 ^ 31 + q.entries.length * 2 ^ 16 + q.lost
/-- CAP_ENTRY (Table 12.11). -/
def Capture.entry (c : Capture) : Nat := match c.entries with | e :: _ => 2 ^ 63 + e.rising.toNat * 2 ^ 62 + e.seq * 2 ^ 32 + e.ts | [] => 0
/-- CAP_STAT (Table 12.8). -/
def Capture.stat (c : Capture) : Nat := c.overflow.toNat * 2 ^ 31 + c.entries.length * 2 ^ 16 + c.lost

/-- A register of an output (Tables 11.9 to 11.13) at an offset in its 32 bytes. -/
def Pwm.read (w : Pwm) (off : Nat) : Nat :=
  match off with
  | 0x00 => (w.cfg.toNat &&& (full - 2 ^ 29)) + w.isPending.toNat * 2 ^ 29
  | 0x04 => w.cur % 2 ^ 16 * 2 ^ 16 + w.loadSeq % 2 ^ 16
  | 0x08 => w.lo.toNat
  | 0x0C => w.hi.toNat
  | 0x10 => w.active % 2 ^ 32
  | 0x14 => w.active / 2 ^ 32
  | _ => 0

/-- A register of the time page (Table 12.2). -/
def State.readTime (s : State) (o : Nat) : Nat :=
  let t := s.time
  if o = 0x0 then t.ns % 1000000000
  else if o = 0x4 then t.sLo.toNat
  else if o = 0x8 then t.sHi.toNat
  else if o = 0xC then t.ts32.toNat
  else if o = 0x10 then t.stepUsed.toNat * 2 ^ 31 + t.spareOsc.toNat * 2 ^ 30 + t.woke.toNat * 2 ^ 29
  else if o = 0x14 then (t.rho % 2 ^ 32).toNat
  else if 0x100 ≤ o && o < 0x300 then
    let q := NMap.getD t.tsq ((o - 0x100) / 16) {}
    (if o % 16 = 8 then q.stat else if o % 16 < 8 then wordOf q.entry (o % 16 / 4) else 0)
  else if 0x300 ≤ o && o < 0x340 then
    let c := t.captures.getD ((o - 0x300) / 16) {}
    (if o % 16 = 8 then c.stat else if o % 16 < 8 then wordOf c.entry (o % 16 / 4) else 0)
  else if 0x400 ≤ o && o < 0x4A0 then
    let x := NMap.getD t.trigStat ((o - 0x400) / 4) {}
    x.skipped * 2 ^ 16 + x.fired
  else 0

/-- PLY_PORT_STAT (Table 17.1). -/
def PlyPort.stat (p : PlyPort) : Nat :=
  (match p.mode with | .down => 0 | .training => 1 | .up => 2 | .fenced => 3) * 2 ^ 30 + p.spareIn.toNat * 2 ^ 29 + p.nbrNode * 2 ^ 16
    + p.nbrPort * 2 ^ 8 + p.retries

/-- SAFETY_STAT (Table 19.4). -/
def State.safetyStat (s : State) : Nat :=
  s.safety.code * 2 ^ 30 + s.safeLow.toNat * 2 ^ 29 + s.safeLow.toNat * 2 ^ 28 + s.isAtRest.toNat * 2 ^ 27 + s.saf.causes % 2 ^ 14

/-- A register of the safety page (Table 19.3) that is read-only; the others read what was written. -/
def State.readSafety (s : State) (o : Nat) : Nat :=
  if o = 0 then s.safetyStat else if 0x20 ≤ o && o < 0x40 then wordOf s.validMap ((o - 0x20) / 4) else 0

/-- PWR_STAT (Table 20.4). -/
def State.pwrStat (s : State) : Nat :=
  let p := s.pwr
  p.entry * 2 ^ 30 + p.refuse * 2 ^ 26 + p.lastWake * 2 ^ 21 + p.spareRef.toNat * 2 ^ 20 + p.sparePhase.toNat * 2 ^ 19 + p.sparePll.toNat * 2 ^ 18
    + p.retries * 2 ^ 14

/-- SPARE_STAT (Table 21.5). -/
def State.spareStat (s : State) : Nat :=
  let u := s.spl
  let mask (l : List Bool) : Nat := listMask ((List.range l.length).filter (fun i => l.getD i false))
  let cols : Nat := ((List.range 16).map (fun i => (2 - u.cols.getD (u.map.getD i 0) 0) * 2 ^ (2 * i))).sum
  mask (u.spare.map (fun (x : Option Nat) => x.isSome)) * 2 ^ 62 + mask ([0, 1].map (fun d => (s.spareFlyer d).isSome)) * 2 ^ 60 + mask (s.ms.hbmStacks.map (fun (k : Stack) => k.remapped.isNone)) * 2 ^ 56
    + mask (s.ply.ports.map (fun (p : PlyPort) => !p.spareIn)) * 2 ^ 50 + (!s.pwr.spareRef).toNat * 2 ^ 49 + u.plls.sum * 2 ^ 46
    + (s.tens.rails.filter (fun (x : Rail) => x.spareUsed)).length * 2 ^ 39 + cols

/-- LOG_REC (Table 21.6). -/
def SpliceRec.read (r : SpliceRec) : Nat :=
  r.time / 1000000000 * 2 ^ 464 + r.time % 1000000000 * 2 ^ 432 + r.seq % 2 ^ 16 * 2 ^ 416 + r.event * 2 ^ 408 + r.cls * 2 ^ 400 + r.from_ % 2 ^ 16 * 2 ^ 384
    + r.to_ % 2 ^ 16 * 2 ^ 368 + r.logical % 2 ^ 16 * 2 ^ 352 + r.trigger * 2 ^ 344 + r.host % 2 ^ 16 * 2 ^ 328 + r.pauseNs % 2 ^ 32 * 2 ^ 288
    + r.durUs % 2 ^ 32 * 2 ^ 256 + r.sig % 2 ^ 128 * 2 ^ 128 + r.addr % 2 ^ 48 * 2 ^ 80

/-- Record `i` of the splice log: the newest whose number is `i` modulo 256; 0 where there is none. -/
def State.logRec (s : State) (i : Nat) : Nat :=
  match (s.spl.log.filter (fun (r : SpliceRec) => r.seq % 256 = i)).getLast? with | some r => r.read | none => 0

/-- DEBUG_STAT (Table 22.7). -/
def State.debugStat (s : State) : Nat :=
  s.dbg.level.code * 2 ^ 30 + s.dbg.traceOn.toNat * 2 ^ 29 + s.dbg.traceStop.toNat * 2 ^ 28 + s.dbg.haltedFl * 2 ^ 16 + s.dbg.haltedAc

/-- A register of the trace page (Table 22.5). -/
def State.readTrace (s : State) (o : Nat) : Nat :=
  match o with
  | 0x00 => s.dbg.traceBase % 2 ^ 32
  | 0x04 => s.dbg.traceBase / 2 ^ 32
  | 0x08 => s.dbg.traceHead
  | 0x0C => s.dbg.traceWraps
  | 0x10 => s.dbg.traceLost
  | 0x14 => s.debugStat
  | _ => 0

/-- A register of the vault page (Table 23.7); what DEBUG_NONCE returns is the nonce its read draws. -/
def State.readVault (s : State) (o : Nat) : Nat :=
  if o = 0 then s.vault.fuseStat
  else if o = 8 || o = 12 then (match s.vault.nonce with | some n => wordOf n.1 ((o - 8) / 4) | none => 0)
  else if 0x100 ≤ o && o < 0x200 then wordOf (s.vault.slots.getD ((o - 0x100) / 8) {}).stat (o % 8 / 4)
  else 0

/-- UPD_STAT (Table 24.7). -/
def State.updStat (s : State) : Nat :=
  let u := s.upd
  s.dev.update.code * 2 ^ 30 + u.kind * 2 ^ 28 + u.sched.isSome.toNat * 2 ^ 27 + (match u.sched with | some x => x.2.toNat | none => 0) * 2 ^ 26
    + u.blocks * 2 ^ 11 + u.staged.length

/-- A register of the update page (Table 24.6). -/
def State.readUpdate (s : State) (o : Nat) : Nat :=
  let due : Nat := match s.upd.sched with | some x => x.1 | none => 0
  if o = 0x0 then s.updStat
  else if o = 0x4 then s.upd.imageId
  else if o = 0x8 then s.upd.last * 2 ^ 16
  else if o = 0xC then due % 1000000000
  else if o = 0x10 then due / 1000000000 % 2 ^ 32
  else if o = 0x14 then due / 1000000000 / 2 ^ 32
  else if 0x80 ≤ o && o < 0x100 then listMask ((List.range 32).filter (fun b => NMap.has s.upd.staged (8 * (o - 0x80) + b)))
  else 0

/-- The word at an offset in a page that R39 rules. Offsets that no table names read 0. -/
def State.readPage (s : State) (off : Nat) : Nat :=
  match outputOf off with
  | some (n, o) => (s.pwm n).read o
  | none =>
    match s.rwWord off with
    | some w => w.cur
    | none =>
      let o := off % 0x1000
      if off = 0x0 then s.mgmtId
      else if off = 0x8 then s.mgmtMode
      else if off / 0x1000 = 0x201 then s.readTime o
      else if 0x202000 ≤ off && off < 0x204000 then
        (if off % 16 = 4 then (match NMap.get? s.time.queues ((off - 0x202000) / 16) with | some h => h.head.toNat | none => 0) else 0)
      else if 0x204000 ≤ off && off < 0x204018 then (s.ply.ports.getD ((off - 0x204000) / 4) {}).stat
      else if off = 0x204020 then s.ply.version
      else if off / 0x1000 = 0x205 then s.readSafety o
      else if off = 0x206004 then s.pwrStat
      else if off = 0x207008 || off = 0x20700C then wordOf s.spareStat ((off - 0x207008) / 4)
      else if off = 0x207010 then s.spl.seq % 2 ^ 16
      else if off / 0x1000 = 0x208 then s.readTrace o
      else if off / 0x1000 = 0x209 then s.readVault o
      else if off / 0x1000 = 0x20A then s.readUpdate o
      else if 0x20B000 ≤ off && off < 0x20F000 then wordOf (s.logRec ((off - 0x20B000) / 64)) (off % 64 / 4)
      else 0

/-- A 4-byte read at an offset in the management window: 0 for a source or mode that is not admitted (R39). -/
def State.readMgmt (s : State) (who : Accessor) (off : Nat) : Nat :=
  match bobbinPage off with
  | some (n, o) => if s.reachesBobbin who n then s.readBobbin n o else 0
  | none => if pageOpen who then s.readPage off else 0

/-- A 4-byte read of the service host at an offset in BAR0 (Table 2.25). -/
def State.readBar0 (s : State) (off : Nat) : Nat :=
  let k := off / 0x10000 - 1
  let b := s.bob (224 + k)
  let o := off % 0x10000
  if off = 0x80 then s.oob.mboxSend.toNat
  else if 0x100 ≤ off && off < 0x138 then leNat ((s.oob.mboxRx.drop (off - 0x100)).take 4)
  else if off = 0x180 then s.oob.mboxRxValid.toNat * 2 ^ 31 + s.oob.mboxDropped
  else if off < 0x10000 || 8 ≤ k || b.mode = .unused then 0
  else if 0x8000 ≤ o && o < 0x8020 then s.readBobbin (224 + k) (o - 0x8000)
  else if 0xC000 ≤ o && o + 4 ≤ 0xC000 + 32 * 2 ^ b.sizeLog2 then s.loadNat (b.cplBase + (o - 0xC000)) 4
  else 0

end Sys2Proof.Machine
end

