-- ==== Sys2Proof/Safety.lean ====
section
/-! DEFINITION. The terms claims use: when a packet is accepted, the state it starts in, and the invariants of a safe run. -/

namespace Sys2Proof.Machine

/-- The packet as its row releases it: with the row's opcode. -/
def OpSpec.pkt (sp : OpSpec) (p : Packet) : Packet := p.withOpcode sp.code

/-- The environment that a packet row runs in: the packet with the row's opcode, under the next id. -/
def OpSpec.env (sp : OpSpec) (src : Src) (p : Packet) (s : State) : Env := (s.newPkt src (p.withOpcode sp.code) (s.q.nextId, s.q.endSeq)).env

/-- The state in which the packet stands outstanding and nothing of it has happened yet. -/
def OpSpec.taken (sp : OpSpec) (src : Src) (p : Packet) (s : State) : State := s.takeIn src (p.withOpcode sp.code) (s.q.nextId, s.q.endSeq)

/-- The packet starts and passes every check of Table 2.12, and its context is neither Fenced against it nor resetting (R47, R84). -/
def OpSpec.accepts (sp : OpSpec) (src : Src) (p : Packet) (s : State) : Bool :=
  s.starts src && (sp.check (sp.env src p s) (sp.taken src p s)).isNone && ((sp.taken src p s).ctxEnds (sp.env src p s)).isNone

/-- The packet starts and fails a check: the status and details that Table 2.12 gives it. -/
def OpSpec.rejects (sp : OpSpec) (src : Src) (p : Packet) (s : State) : Option Rej :=
  if s.starts src then sp.check (sp.env src p s) (sp.taken src p s) else none

/-- Memory is in its canonical form: addresses strictly rising, no entry equal to what an unlisted address reads as. -/
def State.MemOk (s : State) : Prop := memWf s.mem = true

/-- A frame on a ply port is heard: the port has trained lanes or is up, and the frame passes the checks of R391. -/
def State.plyHears (s : State) (port : Nat) (h : PlyHead) : Bool :=
  decide (s.pwr.phase = .up) && decide (port < 6) && (decide ((s.plyPort port).mode = .up) || (decide ((s.plyPort port).mode = .training) && (s.plyPort port).trained))
    && h.crcOk && h.formOk

/-- A frame that is heard on a port that is up is for this node, which has joined (R391, R404). -/
def State.plyHere (s : State) (port : Nat) (h : PlyHead) : Bool :=
  s.plyHears port h && decide ((s.plyPort port).mode = .up) && s.ply.joined && decide (h.dst = s.dev.node)

/-- The state once a heard frame's acknowledgement and credits are taken. -/
def State.plyAcked (s : State) (port : Nat) (h : PlyHead) : State := s.setPlyPort port (fun q => q.acked h)

end Sys2Proof.Machine
end

