-- ==== Sys2Proof/Certificates/Slice0/Obligations.lean ====
section
/-! DEFINITION. The statements for the provers. -/

open Sys2Proof Sys2Proof.Machine

/-- For every command c, list of commands and state s: with c at the front of its queue, a step is exec of c on s with the queue's rest. -/
def Obligations.StepRunsFront : Prop :=
  ∀ (c : Instr) (rest : List Instr) (s : State), step { s with pending := c :: rest } = exec c { s with pending := rest }

/-- With no command waiting a step answers a next state: one tick of the time unit; device time advances by the increment in force exactly where the time unit runs, and no bobbin, packet, cause or byte of memory changes. That a step on an empty queue is a tick is the model's choice (log entry 2). -/
def Obligations.StepIdleTick : Prop :=
  ∀ s : State, s.pending = [] → ∃ t : State, step s = .next t
    ∧ t.time.tick = s.time.tick + 1
    ∧ (s.pwr.phase.timed = true → t.time.ns * 2 ^ 32 + t.time.frac = s.time.ns * 2 ^ 32 + s.time.frac + s.time.inc)
    ∧ (s.pwr.phase.timed = false → t.time.ns = s.time.ns ∧ t.time.frac = s.time.frac)
    ∧ t.q = s.q ∧ t.pkts = s.pkts ∧ t.mem = s.mem ∧ t.saf = s.saf ∧ t.log = s.log ∧ t.out = s.out

/-- After module reset MGMT_MODE reads Run, Degraded and Solo with the update state Idle; SAFETY_STAT reads Degraded with cause 0 alone in force, both SAFE lines low and no assertion; LAST_WAKE reads bit 3; ADMIN_CFG.ENABLE reads 0; no bobbin exists, no packet is outstanding, the queue is empty; device time is 0; memory is in its canonical form. -/
def Obligations.ResetState : Prop :=
  State.reset.readMgmt .supervisor 0x8 = 0x10 ∧ State.reset.readMgmt .supervisor 0x205000 = 0x70000001
    ∧ State.reset.readMgmt .supervisor 0x206004 = 0x01000000 ∧ State.reset.readMgmt .supervisor 0x20 = 0
    ∧ (∀ n, (State.reset.bob n).mode = .unused) ∧ State.reset.pkts = [] ∧ State.reset.pending = [] ∧ State.reset.time.ns = 0
    ∧ State.reset.MemOk

/-- While ENABLE is 0 and bobbin 0 is not in Error, an ADMIN_CFG write with ENABLE 1, SIZE_LOG2 of 4 or more and both ring bases in HBM or hub SRAM sets ENABLE; with no CONFIG_DIVERGED to report, bobbin 0 is then Running with the size, vector and bases of the registers. With a bad size or base ENABLE stays 0, FETCH_FAULT is set and STATE does not change. A write with ENABLE 0 clears ENABLE and stops a Running bobbin 0, and one in Error stays in Error. -/
def Obligations.AdminConfig : Prop :=
  (∀ (s : State) (v : Word), s.clocked = true → s.q.adminEnable = false → (s.bob 0).mode ≠ .error → 4 ≤ bits v.toNat 3 0 →
    s.adminBaseOk s.q.adminCmdBase (64 * 2 ^ bits v.toNat 3 0) = true → s.adminBaseOk s.q.adminCplBase (32 * 2 ^ bits v.toNat 3 0) = true →
    ∃ t : State, exec (.adminCfgEnable v) s = .next t ∧ t.q.adminEnable = true ∧ t.dev.cfgDivReport = none
      ∧ (s.dev.cfgDivReport = none → (t.bob 0).mode = .running ∧ (t.bob 0).sizeLog2 = bits v.toNat 3 0 ∧ (t.bob 0).irqVector = bits v.toNat 14 4
        ∧ (t.bob 0).cmdBase = s.q.adminCmdBase ∧ (t.bob 0).cplBase = s.q.adminCplBase ∧ (t.bob 0).cmdHead = (s.bob 0).cmdHead))
  ∧ (∀ (s : State) (v : Word), s.clocked = true → s.q.adminEnable = false →
    (bits v.toNat 3 0 < 4 ∨ s.adminBaseOk s.q.adminCmdBase (64 * 2 ^ bits v.toNat 3 0) = false) →
    ∃ t : State, exec (.adminCfgEnable v) s = .next t ∧ t.q.adminEnable = false ∧ (t.bob 0).fetchFault = true ∧ (t.bob 0).mode = (s.bob 0).mode)
  ∧ (∀ (s : State) (v : Word), s.clocked = true →
    ∃ t : State, exec (.adminCfgDisable v) s = .next t ∧ t.q.adminEnable = false
      ∧ (t.bob 0).mode = (if (s.bob 0).mode = .running then .stopped else (s.bob 0).mode))

/-- While packets are served, a DOORBELL write to a bobbin that carding does not own is decided in the order of Table 2.10. Unused: ignored and logged. Beyond the ring's entries: the value is ignored, the last accepted tail kept, OVERRUN set and the bobbin put in Error. Equal to the last accepted tail: nothing changes. Otherwise the tail is recorded, and state, CMD_HEAD and every other bobbin stay as they were. -/
def Obligations.DoorbellWrites : Prop :=
  ∀ (s : State) (n : Nat) (v : Word), s.serves = true → s.cardBobbin n = false →
    ∃ t : State, exec (.doorbellWrite n v) s = .next t ∧
    (let x : Index := BitVec.ofNat 16 v.toNat
     if (s.bob n).mode = .unused then t = s.logIt .doorbellUnused n
     else if 2 ^ (s.bob n).sizeLog2 < (x - (s.bob n).cmdHead).toNat then
       (t.bob n).mode = .error ∧ (t.bob n).overrun = true ∧ (t.bob n).tail = (s.bob n).tail ∧ (t.bob n).cmdHead = (s.bob n).cmdHead
         ∧ (∀ m, m ≠ n → t.bob m = s.bob m)
     else if x = (s.bob n).tail then t = s
     else (t.bob n).tail = x ∧ (t.bob n).mode = (s.bob n).mode ∧ (t.bob n).cmdHead = (s.bob n).cmdHead ∧ (∀ m, m ≠ n → t.bob m = s.bob m) ∧ t.pkts = s.pkts)

/-- A CPL_DOORBELL write to a bobbin that exists records the index, takes the pending replies whose slots it passes from the interrupt count, and, where one reply is held and the ring has room again, writes that reply. With no reply held nothing else changes. HOLDOFF after the oldest pending reply, an enabled bobbin with pending replies raises its interrupt, and none of those replies is pending any more. -/
def Obligations.CompletionDoorbell : Prop :=
  (∀ (s : State) (n : Nat) (v : Word), s.serves = true → (s.bob n).mode ≠ .unused → (s.bob n).held = [] →
    exec (.cplDoorbellWrite n v) s = .next (s.setBob n { s.bob n with
      cplDoorbell := BitVec.ofNat 16 v.toNat
      irqPending := (s.bob n).irqPending.filter (fun i =>
        !decide ((i - (s.bob n).cplDoorbell).toNat < ((BitVec.ofNat 16 v.toNat : Index) - (s.bob n).cplDoorbell).toNat)) }))
  ∧ (∀ (s : State) (n : Nat) (v : Word) (r : Reply), s.serves = true → (s.bob n).mode ≠ .unused → (s.bob n).held = [r] → (s.bob n).irqPending = [] →
    ((s.bob n).cplTail - (BitVec.ofNat 16 v.toNat : Index)).toNat < 2 ^ (s.bob n).sizeLog2 →
    ∃ u : State, exec (.cplDoorbellWrite n v) s = .next (u.writeReply n r) ∧ (u.bob n).held = [] ∧ (u.bob n).cplDoorbell = BitVec.ofNat 16 v.toNat ∧ u.mem = s.mem)
  ∧ (∀ (s : State) (n : Nat), s.clocked = true → (s.bob n).irqEnable = true → (s.bob n).irqPending ≠ [] →
    ∃ t : State, exec (.irqHoldoffExpiry n) s = .next t ∧ (t.bob n).irqPending = [] ∧ t.out = s.out ++ [.irq (s.bob n).irqVector] ∧ t.mem = s.mem)

/-- A write of WAKE_CFG by an application core in machine or supervisor mode, or by Distaff, stores its RW fields and changes nothing else. A write to a global page by any other accessor is ignored and logged. A write to BOBBIN_ERR of an accessor that reaches the bobbin clears the bits written 1 among EVT_LOST, OVERRUN, FETCH_FAULT, CPL_FAULT and REJECTED and leaves the bobbin's state. Any write to EVT_LOST clears it. -/
def Obligations.RegisterWrites : Prop :=
  (∀ (s : State) (who : Accessor) (v : Word), s.clocked = true → pageOpen who = true →
    exec (.registerWrite who 0x020000206008 v none) s =
      .next { s with pwr := { s.pwr with wakeCfg := BitVec.ofNat 32 (v.toNat &&& 0xFFFFE7FF) } })
  ∧ (∀ (s : State) (who : Accessor) (off : Nat) (v : Word), s.clocked = true → pageOpen who = false → who ≠ .serviceHost →
    off < 0x100000 → off % 4 = 0 →
    exec (.registerWrite who (0x020000000000 + off) v none) s = .next (s.logIt .managementAccess off))
  ∧ (∀ (s : State) (who : Accessor) (n : Nat) (v : Word), s.clocked = true → pageOpen who = true → n < 256 →
    exec (.registerWrite who (0x020000100014 + 0x1000 * n) v none) s = .next (s.setBob n { s.bob n with
      evtLostBit := (s.bob n).evtLostBit && !bit v.toNat 5, overrun := (s.bob n).overrun && !bit v.toNat 3
      fetchFault := (s.bob n).fetchFault && !bit v.toNat 2, cplFault := (s.bob n).cplFault && !bit v.toNat 1
      rejected := (s.bob n).rejected && !bit v.toNat 0 }))
  ∧ (∀ (s : State) (who : Accessor) (n : Nat) (v : Word), s.clocked = true → pageOpen who = true → n < 256 →
    exec (.registerWrite who (0x02000010001C + 0x1000 * n) v none) s = .next (s.setBob n { s.bob n with evtLost := 0 }))

/-- Where bobbin n may fetch and its slot is readable, PACKET_FETCH reads the 64 bytes of the slot that CMD_HEAD names, advances CMD_HEAD by one and, unless a packet before it has not started, BARRIER or CHAIN holds it back, the hold of replies is full or the predecessor's CHAIN skips it, releases exactly that packet to start under the next id; no other bobbin changes before the packet starts. A slot that cannot be read sets FETCH_FAULT and puts the bobbin in Error. -/
def Obligations.FetchesInRingOrder : Prop :=
  (∀ (s : State) (n : Nat), s.mayFetch n = true →
    let b := s.bob n
    let a := b.cmdBase + 64 * (b.cmdHead.toNat % 2 ^ b.sizeLog2)
    let p : Packet := ⟨bytesWords 16 (s.load a 64)⟩
    s.served a 64 = true → s.dbg.traceOn = false →
    (∀ x ∈ s.outstanding n, p.barrier = false ∧ x.job.unstarted = false) → b.held.length < 32 →
    (∀ l, b.last = some l → l.chain = true → ∃ st, l.status = some st ∧ st / 256 = 0) →
    ∃ u : State, exec (.packetFetch n) s = .next ((specOf p).start ⟨s.q.nextId, .bobbin n, p, n, b.flyer⟩ u)
      ∧ (u.bob n).cmdHead = b.cmdHead + 1 ∧ (∀ m, m ≠ n → u.bob m = s.bob m) ∧ u.q.nextId = s.q.nextId + 1 ∧ u.mem = s.mem
      ∧ u.pkts.map (fun o => o.id) = s.pkts.map (fun o => o.id) ++ [s.q.nextId] ∧ (∀ o ∈ u.pkts, o ∈ s.pkts ∨ o.pkt = p))
  ∧ (∀ (s : State) (n : Nat), s.mayFetch n = true →
    s.served ((s.bob n).cmdBase + 64 * ((s.bob n).cmdHead.toNat % 2 ^ (s.bob n).sizeLog2)) 64 = false →
    ∃ t : State, exec (.packetFetch n) s = .next t ∧ (t.bob n).mode = .error ∧ (t.bob n).fetchFault = true ∧ (t.bob n).cmdHead = (s.bob n).cmdHead
      ∧ t.pkts = s.pkts)

/-- A fetched packet that is held back starts once every earlier packet of its bobbin has started, BARRIER and CHAIN hold it no more and the hold of replies has room, and ends SKIPPED without running, with its predecessor's status in DETAIL0, where that predecessor's CHAIN is set and it ended outside class 0x00. -/
def Obligations.HeldPackets : Prop :=
  ∀ (s : State) (o : OutPkt) (n : Nat), s.pkt? o.id = some o → o.src = .bobbin n → o.job = .held → s.serves = true → bit s.dbg.haltedFl o.flyer = false →
    (∀ x ∈ s.outstanding n, x.id < o.id → o.pkt.barrier = false ∧ x.job.unstarted = false) → (s.bob n).held.length < 32 →
    (∀ l, o.pred = some l → l.chain = true → l.status ≠ none) →
    (∀ l st, o.pred = some l → l.chain = true → l.status = some st → st / 256 ≠ 0 →
      exec (.packetHoldEnd o.id) s = .next (s.endPkt o 0x0301 [st]))
    ∧ (¬ (∃ l st, o.pred = some l ∧ l.chain = true ∧ l.status = some st ∧ st / 256 ≠ 0) →
      exec (.packetHoldEnd o.id) s = .next ((specOf o.pkt).start o.env s))

/-- Where the packet passes its checks: NOP completes with no effect. BOBBIN_CREATE answers BUSY where the bobbin exists, else creates it Running with the class, tenant, lane, size, bases and vector named and its home flyer, all indices 0. BOBBIN_DESTROY removes the bobbin. BOBBIN_STOP of a bobbin of the same home flyer stops a Running bobbin and leaves any other as it is; of a bobbin of another flyer it forwards an order. BOBBIN_RESUME makes the bobbin Running. Nothing else but the packet's own end changes. -/
def Obligations.BobbinCommands : Prop :=
  (∀ (src : Src) (p : Packet) (s : State), specNop.accepts src p s = true →
    exec (.nop src p) s = .next ((specNop.taken src p s).finish s.q.nextId 0))
  ∧ (∀ (src : Src) (p : Packet) (s : State), specBobbinCreate.accepts src p s = true →
    let q := specBobbinCreate.pkt p
    let u := specBobbinCreate.taken src p s
    let n := q.f 3 7 0
    ((u.bob n).mode ≠ .unused → exec (.bobbinCreate src p) s = .next (u.finish s.q.nextId 0x0201))
    ∧ ((u.bob n).mode = .unused → exec (.bobbinCreate src p) s = .next ((u.setBob n {
        mode := .running, control := q.b 3 8, tenant := q.f 3 15 12, fixed := q.b 3 20, sizeLog2 := q.f 3 19 16
        flyer := u.homeFlyer n (q.b 3 20), cmdBase := q.addr 4, cplBase := q.addr 6, irqVector := q.f 8 10 0 }).finish s.q.nextId 0)))
  ∧ (∀ (src : Src) (p : Packet) (s : State), specBobbinDestroy.accepts src p s = true →
    let u := specBobbinDestroy.taken src p s
    exec (.bobbinDestroy src p) s =
      .next (({ u with q := { u.q with bobbins := NMap.del u.q.bobbins ((specBobbinDestroy.pkt p).f 3 7 0) } } : State).finish s.q.nextId 0))
  ∧ (∀ (src : Src) (p : Packet) (s : State), specBobbinStop.accepts src p s = true →
    let u := specBobbinStop.taken src p s
    let n := (specBobbinStop.pkt p).f 3 7 0
    ((u.bob n).flyer = (specBobbinStop.env src p s).flyer → (u.bob n).mode = .running →
      exec (.bobbinStop src p) s = .next ((u.setBob n { u.bob n with mode := .stopped }).finish s.q.nextId 0))
    ∧ ((u.bob n).flyer = (specBobbinStop.env src p s).flyer → (u.bob n).mode ≠ .running →
      exec (.bobbinStop src p) s = .next (u.finish s.q.nextId 0))
    ∧ ((u.bob n).flyer ≠ (specBobbinStop.env src p s).flyer → ∃ t : State, exec (.bobbinStop src p) s = .next t
      ∧ t.q.stops = s.q.stops ++ [⟨s.q.nextId, (u.bob n).flyer, .abort, [], some n⟩] ∧ t.bob n = u.bob n ∧ t.mem = s.mem))
  ∧ (∀ (src : Src) (p : Packet) (s : State), specBobbinResume.accepts src p s = true →
    let u := specBobbinResume.taken src p s
    let n := (specBobbinResume.pkt p).f 3 7 0
    exec (.bobbinResume src p) s = .next ((u.setBob n { u.bob n with mode := .running }).finish s.q.nextId 0))

/-- Where the packet passes its checks: TENANT_CREATE with 16 tenants in existence, with more than 24 hot-set slots in all, or with quotas beyond tenant-usable HBM ends NO_SPACE with resource 1, 2 or 3, in that order; otherwise the tenant exists with the fields of the packet. TENANT_DESTROY removes the tenant, its regions and its pools, and its granules are to be cleared. QUERY completes with the item's four words and changes nothing else. QUIESCE completes at once where its context has no other packet outstanding, and waits otherwise. -/
def Obligations.TenantCommands : Prop :=
  (∀ (src : Src) (p : Packet) (s : State), specTenantCreate.accepts src p s = true →
    let q := specTenantCreate.pkt p
    let u := specTenantCreate.taken src p s
    exec (.tenantCreate src p) s = .next (
      if 16 ≤ s.dom.tenants.length then u.finish s.q.nextId 0x0200 [1]
      else if 24 < s.dom.tenants.foldl (fun a t => a + t.2.hotSlots) (q.f 3 4 0) then u.finish s.q.nextId 0x0200 [2]
      else if u.usableMib < s.dom.tenants.foldl (fun a t => a + t.2.quota) (q.f 5 15 0) * 256 then u.finish s.q.nextId 0x0200 [3]
      else ({ u with dom := { u.dom with
          tenants := NMap.put u.dom.tenants (q.f 3 19 16) (⟨q.b 3 20, q.f 3 4 0, q.f 4 11 0, q.f 4 28 16, q.f 5 15 0⟩ : Tenant) } } : State).finish s.q.nextId 0))
  ∧ (∀ (src : Src) (p : Packet) (s : State), specTenantDestroy.accepts src p s = true →
    let t := (specTenantDestroy.pkt p).f 3 3 0
    ∃ u : State, exec (.tenantDestroy src p) s = .next (u.finish s.q.nextId 0) ∧ u.dom.tenants = NMap.del s.dom.tenants t
      ∧ u.ms.regions = s.ms.regions.filter (fun r => !(decide (r.tenant = t))) ∧ (∀ k ∈ u.kv, k ∈ s.kv ∧ k.1 / 16 ≠ t) ∧ u.mem = s.mem
      ∧ u.ms.clearing = s.ms.clearing ++ (s.ms.regions.filter (fun r => decide (r.tenant = t))).map (fun r => (r.base, r.granules)))
  ∧ (∀ (src : Src) (p : Packet) (s : State), specQuery.accepts src p s = true →
    let q := specQuery.pkt p
    let u := specQuery.taken src p s
    exec (.query src p) s = .next (u.finish s.q.nextId 0 (u.queryItem src (q.f 3 15 0) (q.f 3 31 16))))
  ∧ (∀ (src : Src) (p : Packet) (s : State), specQuiesce.accepts src p s = true →
    let u := specQuiesce.taken src p s
    let c := (specQuiesce.pkt p).ctx
    (u.busyCtx c = false → exec (.quiesce src p) s = .next (u.finish s.q.nextId 0))
    ∧ (u.busyCtx c = true → exec (.quiesce src p) s = .next (u.setJob s.q.nextId (.waits .quiesce))))

/-- An ABORT that passes its checks and matches no packet that was outstanding or had ended since its doorbell ends in class 0x00 with code 1 and details 0, 0 and reason 1. One whose only match is a packet of its own flyer that is no committed twist stops it and completes with one packet aborted; a target of another flyer gets an order there instead, and the ABORT stays outstanding. A CONTEXT_RESET that passes its checks marks the context as resetting, stops every packet of its own flyer and orders the others stopped. An order for a bobbin that arrives stops the bobbin and completes the BOBBIN_STOP; an order of an ABORT with one live target stops it and completes the ABORT. -/
def Obligations.StopCommands : Prop :=
  (∀ (src : Src) (p : Packet) (s : State), specAbort.accepts src p s = true →
    let q := specAbort.pkt p
    let u := specAbort.taken src p s
    (∀ o ∈ s.pkts, o.id < s.q.nextId → abortMatch q o.src o.pkt = false) → (∀ x ∈ s.q.ended, s.q.endSeq ≤ x.seq → abortMatch q x.src x.pkt = false) →
    (∀ o ∈ s.pkts, o.id ≠ s.q.nextId) →
    exec (.abort src p) s = .next (u.finish s.q.nextId 1 [0, 0, 1]))
  ∧ (∀ (src : Src) (p : Packet) (s : State) (o : OutPkt), specAbort.accepts src p s = true →
    let q := specAbort.pkt p
    s.pkts = [o] → o.id < s.q.nextId → abortMatch q o.src o.pkt = true → o.control = false → s.q.ended = [] → s.twistCommitted o.id = false →
    o.flyer < 10 → s.q.stops = [] →
    ∃ t : State, exec (.abort src p) s = .next t
      ∧ (o.flyer = (specAbort.env src p s).flyer → t.pkts = [] ∧ t.q.stops = []
        ∧ ∃ u : State, t = u.finish s.q.nextId 0 [1, 0, 0] ∧ ∀ x ∈ u.pkts, x.id = s.q.nextId)
      ∧ (o.flyer ≠ (specAbort.env src p s).flyer → t.q.stops = [⟨s.q.nextId, o.flyer, .abort, [o.id], none⟩] ∧ o ∈ t.pkts
        ∧ ∃ x ∈ t.pkts, x.id = s.q.nextId ∧ x.job = .waits (.abort 0 0 0)))
  ∧ (∀ (src : Src) (p : Packet) (s : State), specContextReset.accepts src p s = true →
    let c := (specContextReset.pkt p).ctx
    (∀ o ∈ s.ctxPkts c, s.twistCommitted o.id = false ∧ o.id ≠ s.q.nextId ∧ o.flyer < 10) →
    ∃ t : State, exec (.contextReset src p) s = .next t ∧ (∀ x, s.ctx? c = some x → ∃ y, t.ctx? c = some y ∧ y.resetting = true)
      ∧ (∀ o ∈ s.ctxPkts c, o.flyer = (specContextReset.env src p s).flyer → ∀ x ∈ t.pkts, x.id ≠ o.id)
      ∧ (∀ o ∈ s.ctxPkts c, o.flyer ≠ (specContextReset.env src p s).flyer → ∃ z ∈ t.q.stops, z.by_ = s.q.nextId ∧ z.flyer = o.flyer ∧ o.id ∈ z.targets))
  ∧ (∀ (f : Nat) (s : State) (o : StopOrder) (n : Nat), s.clocked = true → s.flyerHalted f = false → s.q.stops = [o] → o.flyer = f → o.bobbin = some n →
    let v : State := { s with q := { s.q with stops := [] } }
    exec (.stopOrderArrival f) s = .next ((if (v.bob n).mode = .running then v.setBob n { v.bob n with mode := .stopped } else v).finish o.by_ 0))
  ∧ (∀ (f : Nat) (s : State) (o : StopOrder) (me x : OutPkt) (y r : Nat), s.clocked = true → s.flyerHalted f = false → s.q.stops = [o] → o.flyer = f →
    o.bobbin = none → o.why = .abort → o.targets = [x.id] → o.by_ = me.id → me.id ≠ x.id → s.pkts = [x, me] → me.job = .waits (.abort 0 y r) →
    s.twistCommitted x.id = false →
    ∃ u : State, exec (.stopOrderArrival f) s = .next (u.finish me.id 0 [1, y, 0]) ∧ u.pkts.map (fun z => z.id) = [me.id] ∧ u.q.stops = [])

/-- In the reply written at completion index ix of a ring of 2^k entries, PHASE is the inverse of bit k of ix: 1 on even passes through the ring and 0 on odd ones, and a slot's PHASE differs from one pass to the next. -/
def Obligations.ReplyPhase : Prop :=
  (∀ (r : Reply) (ix : Index) (k : Nat), r.ctx < 2 ^ 12 → r.tag < 2 ^ 6 → r.level < 2 ^ 3 →
    bit ((replyWords r ix k).getD 1 0) 31 = !(ix.toNat.testBit k))
  ∧ (∀ (r : Reply) (k pass j : Nat), r.ctx < 2 ^ 12 → r.tag < 2 ^ 6 → r.level < 2 ^ 3 → j < 2 ^ k → pass * 2 ^ k + j < 65536 →
    bit ((replyWords r (BitVec.ofNat 16 (pass * 2 ^ k + j)) k).getD 1 0) 31 = decide (pass % 2 = 0))
  ∧ (∀ (r : Reply) (ix : Index) (k : Nat), r.ctx < 2 ^ 12 → r.tag < 2 ^ 6 → r.level < 2 ^ 3 → k < 16 →
    bit ((replyWords r (ix + BitVec.ofNat 16 (2 ^ k)) k).getD 1 0) 31 = !(bit ((replyWords r ix k).getD 1 0) 31))

/-- For a reply whose fields are in range, the bytes written at a completion slot are 32, and read back little-endian they give, at the places of Table 2.13, the status and opcode, the context, tag, level and event flag, the request tag, the low 32 bits of the time, and the four details. -/
def Obligations.ReplyLayout : Prop :=
  ∀ (r : Reply) (ix : Index) (k : Nat), r.status < 2 ^ 16 → r.opcode < 2 ^ 16 → r.ctx < 2 ^ 12 → r.tag < 2 ^ 6 → r.level < 2 ^ 3 → r.reqTag < 2 ^ 32 →
    r.d0 < 2 ^ 32 → r.d1 < 2 ^ 32 → r.d2 < 2 ^ 32 → r.d3 < 2 ^ 32 →
    let bs := wordBytes (replyWords r ix k)
    let w (i : Nat) : Nat := leNat ((bs.drop (4 * i)).take 4)
    bs.length = 32 ∧ bits (w 0) 15 0 = r.status ∧ bits (w 0) 31 16 = r.opcode ∧ bits (w 1) 11 0 = r.ctx ∧ bits (w 1) 17 12 = r.tag
      ∧ bits (w 1) 20 18 = r.level ∧ bits (w 1) 29 21 = 0 ∧ bit (w 1) 30 = r.event ∧ bit (w 1) 31 = !(ix.toNat.testBit k) ∧ w 2 = r.reqTag
      ∧ w 3 = r.time % 2 ^ 32 ∧ w 4 = r.d0 ∧ w 5 = r.d1 ∧ w 6 = r.d2 ∧ w 7 = r.d3

/-- Any sixteen 32-bit words stored as the 64 bytes of a command slot are read back by a fetch as exactly those sixteen words, whatever stood in memory before; every other address reads as it did. -/
def Obligations.PacketBytes : Prop :=
  ∀ (s : State) (p : Packet) (a : Addr), p.ws.length = 16 → (∀ w ∈ p.ws, w < 2 ^ 32) →
    let t := s.store a (wordBytes p.ws)
    (⟨bytesWords 16 (t.load a 64)⟩ : Packet) = p ∧ (s.MemOk → t.MemOk) ∧ (∀ b, (b < a ∨ a + 64 ≤ b) → memGet t.mem b = memGet s.mem b)

/-- With trace off, the end of a packet of a tenant bobbin removes it from the outstanding packets, tells a successor that waits on it the status, and changes nothing else of another packet and no other bobbin. Where a reply is due and the completion ring has room, nothing is held and the slot is readable, the 32 bytes of the reply land at the slot, CPL_TAIL advances by one, and every other byte keeps its value. Where the slot is not readable, CPL_FAULT is set, the bobbin goes to Error, and the reply is held; where the ring is full, the reply is held behind the others; no byte of memory changes then. Where the status is of class 0x00 and REPLY is clear, no byte of memory changes. Tenants, contexts, regions, pools, device time, safety causes, vault, engines, log and outputs stay, except that replies written may raise the bobbin's interrupt. -/
def Obligations.PacketEnds : Prop :=
  (∀ (s : State) (o : OutPkt) (n st : Nat) (d : List Nat), o.src = .bobbin n → n < 192 → s.dbg.traceOn = false →
    let t := s.endPkt o st d
    t.pkts = (s.pkts.filter (fun x => x.id ≠ o.id)).map (fun x => { x with pred := x.pred.map (fun l => if l.id = o.id then { l with status := some st } else l) }) ∧ (∀ m, m ≠ n → t.bob m = s.bob m)
      ∧ t.dom.tenants = s.dom.tenants ∧ t.dom.contexts = s.dom.contexts ∧ t.ms.regions = s.ms.regions ∧ t.kv = s.kv ∧ t.time = s.time
      ∧ t.saf = s.saf ∧ t.vault = s.vault ∧ t.eng = s.eng ∧ t.sen = s.sen ∧ t.log = s.log ∧ (∃ k, t.out = s.out ++ List.replicate k (.irq (s.bob n).irqVector)))
  ∧ (∀ (s : State) (o : OutPkt) (n st : Nat) (d : List Nat), o.src = .bobbin n → n < 192 → s.dbg.traceOn = false →
    (s.bob n).mode ≠ .unused → (s.bob n).room = true → (s.bob n).held = [] → (o.pkt.reply = true ∨ st / 256 ≠ 0) →
    let a := (s.bob n).cplBase + 32 * ((s.bob n).cplTail.toNat % 2 ^ (s.bob n).sizeLog2)
    s.served a 32 = true →
    let t := s.endPkt o st d
    t.mem = memPuts s.mem a (wordBytes (replyWords (replyOf o st s.now d) (s.bob n).cplTail (s.bob n).sizeLog2))
      ∧ (t.bob n).cplTail = (s.bob n).cplTail + 1 ∧ (t.bob n).mode = (s.bob n).mode)
  ∧ (∀ (s : State) (o : OutPkt) (n st : Nat) (d : List Nat), o.src = .bobbin n → n < 192 → s.dbg.traceOn = false →
    (s.bob n).mode ≠ .unused → (o.pkt.reply = true ∨ st / 256 ≠ 0) →
    let a := (s.bob n).cplBase + 32 * ((s.bob n).cplTail.toNat % 2 ^ (s.bob n).sizeLog2)
    let t := s.endPkt o st d
    ((s.bob n).room = true → (s.bob n).held = [] → s.served a 32 = false →
      t.mem = s.mem ∧ (t.bob n).mode = .error ∧ (t.bob n).cplFault = true ∧ (t.bob n).cplTail = (s.bob n).cplTail ∧ (t.bob n).held = [replyOf o st s.now d])
    ∧ ((s.bob n).room = false → t.mem = s.mem ∧ (t.bob n).cplTail = (s.bob n).cplTail ∧ (t.bob n).held = (s.bob n).held ++ [replyOf o st s.now d]))
  ∧ (∀ (s : State) (o : OutPkt) (n st : Nat) (d : List Nat), o.src = .bobbin n → n < 192 → s.dbg.traceOn = false →
    o.pkt.reply = false → st / 256 = 0 → (s.endPkt o st d).mem = s.mem ∧ ((s.endPkt o st d).bob n).cplTail = (s.bob n).cplTail)

/-- A packet that starts on its source and fails a check of Table 2.12 ends with the status and details of the first failing check, and nothing but its end happens. This is said of one row of each family; a source that starts nothing (an Unused bobbin, a halted flyer) leaves the state as it is. -/
def Obligations.PacketRejected : Prop :=
  (∀ (src : Src) (p : Packet) (s : State) (r : Rej),
    (specNop.rejects src p s = some r → exec (.nop src p) s = .next ((specNop.taken src p s).finish s.q.nextId r.status r.d))
    ∧ (specDmaCopy.rejects src p s = some r → exec (.dmaCopy src p) s = .next ((specDmaCopy.taken src p s).finish s.q.nextId r.status r.d))
    ∧ (specMatmul.rejects src p s = some r → exec (.matmul src p) s = .next ((specMatmul.taken src p s).finish s.q.nextId r.status r.d))
    ∧ (specDraftOpen.rejects src p s = some r → exec (.draftOpen src p) s = .next ((specDraftOpen.taken src p s).finish s.q.nextId r.status r.d))
    ∧ (specContextCreate.rejects src p s = some r → exec (.contextCreate src p) s = .next ((specContextCreate.taken src p s).finish s.q.nextId r.status r.d))
    ∧ (specSolve.rejects src p s = some r → exec (.solve src p) s = .next ((specSolve.taken src p s).finish s.q.nextId r.status r.d))
    ∧ (specTimeRate.rejects src p s = some r → exec (.timeRate src p) s = .next ((specTimeRate.taken src p s).finish s.q.nextId r.status r.d))
    ∧ (specAttest.rejects src p s = some r → exec (.attest src p) s = .next ((specAttest.taken src p s).finish s.q.nextId r.status r.d)))
  ∧ (∀ (src : Src) (p : Packet) (s : State), s.starts src = false → exec (.nop src p) s = .next s ∧ exec (.dmaCopy src p) s = .next s)

/-- The commit point of an operation at draft level 0 whose writes are local, at a flyer that is not halted, lands every result write in place, in order, and ends the packet with the operation's status and details; nothing else of memory, of the outstanding packets or of the bobbins changes before that end. At a halted flyer the acknowledgement queues and nothing else happens. A waiting QUIESCE ends once its context has no other packet. A packet placed on cores runs, from where it stands, and one that has waited 5 ms is marked so. -/
def Obligations.CommitPoint : Prop :=
  (∀ (s : State) (id : Nat) (o : OutPkt) (w : Work), s.pkt? id = some o → s.serves = true → s.flyerHalted o.flyer = false → s.dbg.traceOn = false →
    o.job = .work w → w.dma = [] → w.after = [] → o.pkt.level = 0 → (∀ r ∈ w.writes, remoteNode r.addr = none) → (∀ r ∈ s.ply.remote, r.pkt ≠ some o.id) →
    s.workFrozen w = false → (∀ d ∈ s.dr.drafts, d.esc ≠ some o.id) →
    ∃ v : State, exec (.commitPoint id) s = .next (v.finish o.id w.status w.details)
      ∧ v.mem = w.writes.foldl (fun m r => memPuts m r.addr r.bytes) s.mem ∧ v.pkts = s.pkts ∧ v.q = s.q ∧ v.dom = s.dom ∧ v.time = s.time)
  ∧ (∀ (s : State) (id : Nat) (o : OutPkt) (w : Work), s.pkt? id = some o → s.serves = true → s.flyerHalted o.flyer = true → o.job = .work w →
    s.dbg.queuedAcks.contains (id, none) = false →
    exec (.commitPoint id) s = .next { s with dbg := { s.dbg with queuedAcks := s.dbg.queuedAcks ++ [(id, none)] } })
  ∧ (∀ (s : State) (id : Nat) (o : OutPkt), s.pkt? id = some o → s.serves = true → s.flyerHalted o.flyer = false → o.job = .waits .quiesce →
    (s.busyCtx o.pkt.ctx = false → exec (.commitPoint id) s = .next (s.finish o.id 0))
    ∧ (s.busyCtx o.pkt.ctx = true → exec (.commitPoint id) s = .next s))
  ∧ (∀ (s : State) (id : Nat) (o : OutPkt), s.pkt? id = some o → o.job = .cores → s.flyerHalted o.flyer = false → s.pwr.phase = .up →
    s.dev.update ≠ .activating → s.safety ≠ .safeHold → exec (.corePlacement id) s = .next ((specOf o.pkt).run o.env s))
  ∧ (∀ (s : State) (id : Nat), s.clocked = true → ∃ t : State, exec (.coreWaitLimit id) s = .next t ∧ (∀ w ∈ t.dom.waits, w.pkt = id → w.limit = true)
    ∧ t.dom.waits.map (fun w => (w.pkt, w.since, w.want, w.need)) = s.dom.waits.map (fun w => (w.pkt, w.since, w.want, w.need))
    ∧ t.dom.cores = s.dom.cores ∧ t.pkts = s.pkts ∧ t.mem = s.mem)

/-- From every state whose memory is in its canonical form (addresses strictly rising, no entry equal to what an unlisted address reads as), a step that answers a next state answers one whose memory is in that form. -/
def Obligations.MemInvariant : Prop :=
  ∀ s t : State, s.MemOk → step s = .next t → t.MemOk

/-- Where the packet passes its checks: a DMA_COPY or DMA_FILL at draft level 0 whose ranges are all local becomes outstanding work whose result writes are the copied and converted rows, or the pattern repeated over LENGTH bytes; until its commit point no byte outside those destinations changes. BANK_ASSIGN to core memory of banks below the shadow banks gives each named bank to the port, or releases it with port 7, and changes no other bank. REGION_MAP beyond the quota ends NO_SPACE 3; where a clear run exists it maps the region at the run of the lowest allowed stack and reports base, granules and stack; where the only run is being cleared it waits; where there is none it ends NO_SPACE 4. REGION_UNMAP removes the region and queues its granules to be cleared. -/
def Obligations.MemoryCommands : Prop :=
  (∀ (src : Src) (p : Packet) (s : State), specDmaCopy.accepts src p s = true →
    let q := specDmaCopy.pkt p
    let u := specDmaCopy.taken src p s
    let ds := u.descs q
    q.level = 0 → s.dbg.traceOn = false → (∀ o ∈ s.pkts, o.id ≠ s.q.nextId) → (∀ d ∈ ds, ∀ r ∈ Desc.reads d ++ Desc.writes d, remoteNode r.1 = none) →
    u.noRoute (ds.flatMap (fun d => [Desc.src d, Desc.dst d])) = none →
    ∃ t : State, exec (.dmaCopy src p) s = .next t
      ∧ (∃ o ∈ t.pkts, o.id = s.q.nextId ∧ o.pkt = q ∧ o.job = .work { u.dmaWork q ds [] with sent := true })
      ∧ (∀ a, (∀ r ∈ (u.dmaWork q ds []).writes, a < r.addr ∨ r.addr + r.bytes.length ≤ a) → memGet t.mem a = memGet s.mem a)
      ∧ t.dom = s.dom ∧ t.time = s.time)
  ∧ (∀ (src : Src) (p : Packet) (s : State), specDmaFill.accepts src p s = true →
    let q := specDmaFill.pkt p
    let pat := leBytes (2 ^ q.f 3 1 0) (q.word 8 + q.word 9 * 2 ^ 32)
    let n := q.word 6 + q.f 7 7 0 * 2 ^ 32
    q.level = 0 → s.dbg.traceOn = false → (∀ o ∈ s.pkts, o.id ≠ s.q.nextId) → remoteNode (q.addr 4) = none →
    ∃ t : State, exec (.dmaFill src p) s = .next t
      ∧ (∃ o ∈ t.pkts, o.id = s.q.nextId ∧ o.pkt = q ∧ o.job = .work
          { writes := [⟨q.addr 4, (List.range n).map (fun i => pat.getD (i % 2 ^ q.f 3 1 0) 0)⟩], sent := true })
      ∧ (∀ a, (a < q.addr 4 ∨ q.addr 4 + n ≤ a) → memGet t.mem a = memGet s.mem a) ∧ t.dom = s.dom ∧ t.time = s.time)
  ∧ (∀ (src : Src) (p : Packet) (s : State) (x : Context), specBankAssign.accepts src p s = true →
    let q := specBankAssign.pkt p
    let bs := maskList 48 (q.word 4 + q.f 5 15 0 * 2 ^ 32)
    q.f 3 1 0 = 0 → NMap.get? s.dom.contexts q.ctx = some x → (∀ b ∈ bs, b < 16 - x.shadowMib) →
    ∃ u : State, exec (.bankAssign src p) s = .next (u.finish s.q.nextId 0) ∧ u.mem = s.mem ∧ u.ms = s.ms ∧ u.dom.tenants = s.dom.tenants
      ∧ ∃ y, NMap.get? u.dom.contexts q.ctx = some y ∧ (∀ b, b ∉ bs → NMap.get? y.coreBanks b = NMap.get? x.coreBanks b)
        ∧ (q.f 3 10 8 ≠ 7 → ∀ b ∈ bs, NMap.get? y.coreBanks b = some (q.f 3 10 8)))
  ∧ (∀ (src : Src) (p : Packet) (s : State), specRegionMap.accepts src p s = true →
    let q := specRegionMap.pkt p
    let u := specRegionMap.taken src p s
    let t := u.ctxTenant q.ctx
    let quota := match u.tenant? t with | some x => x.quotaBytes | none => 0
    (quota < u.hbmUsed t + q.word 4 * 0x200000 → exec (.regionMap src p) s = .next (u.finish s.q.nextId 0x0200 [3]))
    ∧ (u.hbmUsed t + q.word 4 * 0x200000 ≤ quota →
      (∀ k g, u.findRun (q.f 3 27 24) (q.word 4) true = some (k, g) → exec (.regionMap src p) s = .next (
        ({ u with ms := { u.ms with regions := u.ms.regions ++ [⟨q.ctx, t, g * 0x200000, q.word 4, q.b 3 18, q.b 3 16, q.b 3 17⟩] } } : State).finish
          s.q.nextId 0 [g * 0x200000 % 2 ^ 32, g * 0x200000 / 2 ^ 32, q.word 4, k]))
      ∧ (u.findRun (q.f 3 27 24) (q.word 4) true = none → u.findRun (q.f 3 27 24) (q.word 4) false ≠ none →
        exec (.regionMap src p) s = .next (u.setJob s.q.nextId (.waits .region)))
      ∧ (u.findRun (q.f 3 27 24) (q.word 4) true = none → u.findRun (q.f 3 27 24) (q.word 4) false = none →
        exec (.regionMap src p) s = .next (u.finish s.q.nextId 0x0200 [4]))))
  ∧ (∀ (src : Src) (p : Packet) (s : State) (r : Region), specRegionUnmap.accepts src p s = true →
    let q := specRegionUnmap.pkt p
    s.regionAt? q.ctx (q.addr 3) = some r →
    ∃ u : State, exec (.regionUnmap src p) s = .next (u.finish s.q.nextId 0) ∧ u.mem = s.mem
      ∧ u.ms.regions = s.ms.regions.filter (fun x => !(decide (x.ctx = q.ctx) && decide (x.base = q.addr 3)))
      ∧ u.ms.clearing = s.ms.clearing ++ (s.ms.regions.filter (fun x => decide (x.ctx = q.ctx) && decide (x.base = q.addr 3))).map (fun x => (x.base, x.granules)))

/-- A plain DMA_COPY of one row at draft level 0, accepted with trace off and no other packet outstanding, and then its commit point: each byte of the destination then holds what the source byte held before the command, and every byte outside the destination and outside the 32 bytes of its reply's slot holds what it held before. -/
def Obligations.CopyLands : Prop :=
  ∀ (n : Nat) (p : Packet) (s t : State), specDmaCopy.accepts (.bobbin n) p s = true →
    let q := specDmaCopy.pkt p
    let a := q.addr 4
    let b := q.addr 6
    let len := q.word 8
    let slot := (s.bob n).cplBase + 32 * ((s.bob n).cplTail.toNat % 2 ^ (s.bob n).sizeLog2)
    n < 192 → q.level = 0 → s.dbg.traceOn = false → s.pkts = [] → s.ply.remote = [] → s.dr.drafts = [] → s.ms.poison = [] → q.b 3 31 = false → q.b 12 31 = false →
    q.f 9 31 16 = 1 → q.reply = true → (∀ i < len, remoteNode (a + i) = none ∧ remoteNode (b + i) = none) → s.serves = true →
    (s.bob n).room = true → (s.bob n).held = [] → s.flyerHalted (s.bob n).flyer = false →
    (b + len ≤ slot ∨ slot + 32 ≤ b) →
    exec (.dmaCopy (.bobbin n) p) s = .next t →
    ∃ v : State, exec (.commitPoint s.q.nextId) t = .next v ∧ v.pkts = []
      ∧ (∀ i, i < len → memGet v.mem (b + i) = memGet s.mem (a + i))
      ∧ (∀ x, (x < b ∨ b + len ≤ x) → (x < slot ∨ slot + 32 ≤ x) → memGet v.mem x = memGet s.mem x)

/-- At the end of a conflict window nothing happens to an access through the bank's own port or to a shadow bank; a bank that is not the context's tears the context down with cause illegal access, a bank of it under another port with cause bank conflict. A handover inside a schedule moves a bank that the context holds to another port it may have. A flit that fails its CRC is counted as a retry; at the threshold a lane is repaired, or the module is fenced. The first flagged pseudo-channel of a stack is remapped while a copy runs; a second one withdraws the stack with causes 3 and 10. The end of the copy is logged. A correctable error of HBM is counted and nothing else; an uncorrectable one poisons its line. A run that is clear reads zeros and leaves the runs being cleared; nothing else changes where no REGION_MAP waits. -/
def Obligations.MemoryEvents : Prop :=
  (∀ (s : State) (c a port : Nat), s.clocked = true → s.isShadowBank c a = false →
    (s.portOf c a = some port → exec (.bankConflictWindowEnd c a port) s = .next s)
    ∧ (s.portOf c a = none → bankOf a ≠ none → exec (.bankConflictWindowEnd c a port) s = .next (s.tearDown c 2))
    ∧ (∀ q m b, s.portOf c a = some q → q ≠ port → bankOf a = some (m, b) → exec (.bankConflictWindowEnd c a port) s =
        .next ((s.bump 4 0 (s.memEntry a) 2 1 0xFFFFFFFF).tearDown c
          (1 + m * 2 ^ 8 + (if m = 0 then (a - 0x010000000000) / 0x2000000 else 0) * 2 ^ 12 + b * 2 ^ 16))))
  ∧ (∀ (s : State) (o : OutPkt) (m b port : Nat), s.clocked = true → s.pkt? o.id = some o → o.pkt.opcode = 0x0310 → s.bankPort o.pkt.ctx m b ≠ none →
    portAllowed m port = true → port < 7 → exec (.bankHandover o.id m b port) s = .next { s with ms := { s.ms with
      handovers := s.ms.handovers.filter (fun h => !(decide (h.pkt = o.id) && decide (h.memory = m) && decide (h.bank = b))) ++ [⟨o.id, m, b, port⟩] } })
  ∧ (∀ (s : State) (m : Nat), s.clocked = true → (NMap.getD s.ms.links m {}).fenced = false →
    let x := NMap.getD s.ms.links m {}
    exec (.flitCrcFail m) s = .next { s with ms := { s.ms with links := NMap.put s.ms.links m { x with retries := x.retries + 1 } } }
    ∧ exec (.dieLinkRetryThreshold m true) s =
      .next (({ s with ms := { s.ms with links := NMap.put s.ms.links m { x with lanesUsed := x.lanesUsed + 1 } } } : State).logIt .laneRepair m)
    ∧ ∃ t : State, exec (.dieLinkRetryThreshold m false) s = .next t ∧ t.ms.links = NMap.put s.ms.links m { x with fenced := true })
  ∧ (∀ (s : State) (k pc : Nat), s.clocked = true → k < 4 → pc < 32 → k < s.ms.hbmStacks.length → (s.ms.hbmStacks.getD k {}).withdrawn = false →
    ((s.ms.hbmStacks.getD k {}).remapped = none → ∃ t : State, exec (.pseudoChannelFlagged k pc) s = .next t
      ∧ t.ms.hbmStacks.getD k {} = { withdrawn := false, remapped := some pc, copying := true } ∧ t.saf.causes = s.saf.causes)
    ∧ (∀ pc0, (s.ms.hbmStacks.getD k {}).remapped = some pc0 → pc0 ≠ pc → ∃ t : State, exec (.pseudoChannelFlagged k pc) s = .next t
      ∧ (t.ms.hbmStacks.getD k {}).withdrawn = true ∧ bit t.saf.causes 3 = true ∧ bit t.saf.causes 10 = true))
  ∧ (∀ (s : State) (k : Nat), s.clocked = true → (s.ms.hbmStacks.getD k {}).copying = true → exec (.remapCopyEnd k) s = .next
    (({ s with ms := { s.ms with hbmStacks := updAt s.ms.hbmStacks k (fun x => { x with copying := false }) } } : State).logIt .remap k))
  ∧ (∀ (s : State) (a : Addr) (trig : Bool), s.pwr.phase = .up → a < 0x001800000000 →
    exec (.patrolScrub a false trig none none) s = .next (s.bump 4 0 (s.memEntry a) 0 1 0xFFFFFFFF)
    ∧ ∃ t : State, exec (.patrolScrub a true trig none none) s = .next t ∧ eccUnit a ∈ t.ms.poison ∧ t.mem = s.mem ∧ t.pkts = s.pkts)
  ∧ (∀ (s : State) (base n : Nat) (rest : List (Nat × Nat)), s.clocked = true → s.ms.clearing = (base, n) :: rest → (∀ o ∈ s.pkts, o.job ≠ .waits .region) →
    ∃ t : State, exec .hbmClearDone s = .next t ∧ t.ms.clearing = rest ∧ (∀ a, base ≤ a → a < base + n * 0x200000 → memGet t.mem a = 0)
      ∧ (s.MemOk → ∀ a, (a < base ∨ base + n * 0x200000 ≤ a) → memGet t.mem a = memGet s.mem a) ∧ t.ms.regions = s.ms.regions ∧ t.pkts = s.pkts)

/-- Where the packet passes its checks: BIND binds the pool that the packet describes, reports its frames, frame bytes and directory granules, and changes no byte outside the directory. OPEN of a sequence that nothing freezes gives it the length shared in every layer, the context as its owner, and reports the pages shared. CLOSE removes the sequence and reports the frames freed. An APPEND outside drafts whose frames are all at hand completes with its slots, new pages, copies and dropped groups, and the lengths, entries and frames of the pool are those after the append. PAGE_PIN sets or clears PINNED on the pages of the range, or ends NO_SPACE 0x20 where more than seven eighths of the frames would be pinned. -/
def Obligations.KvCommands : Prop :=
  (∀ (src : Src) (p : Packet) (s : State), specKvScatterBind.accepts src (kvAction p 3) s = true →
    let q := specKvScatterBind.pkt (kvAction p 3)
    let k := bindPool q
    let key := poolKey s q.ctx (q.f 3 23 20)
    ∃ v : State, exec (.kvScatterBind src p) s = .next (v.finish s.q.nextId 0 [k.frameCount, k.frameBytes, k.dirGranules])
      ∧ NMap.get? v.kv key = some k ∧ (∀ j, j ≠ key → NMap.get? v.kv j = NMap.get? s.kv j) ∧ v.dom = s.dom
      ∧ (s.MemOk → ∀ a, (a < k.dirBase ∨ k.dirBase + k.dirGranules * 0x200000 ≤ a) → memGet v.mem a = memGet s.mem a))
  ∧ (∀ (src : Src) (p : Packet) (s : State) (k : KvPool), specKvScatterOpen.accepts src (kvAction p 1) s = true →
    let q := specKvScatterOpen.pkt (kvAction p 1)
    let key := poolKey s q.ctx (q.f 3 23 20)
    let share := if q.f 4 31 16 = 0xFFFF then 0 else q.word 5
    NMap.get? s.kv key = some k → s.seqFrozen key (q.f 4 31 16) = false →
    ∃ v : State, exec (.kvScatterOpen src p) s = .next (v.finish s.q.nextId 0 [ceilDiv share 256]) ∧ v.dom = s.dom
      ∧ ∃ k' x, NMap.get? v.kv key = some k' ∧ NMap.get? k'.seqs (q.f 3 15 0) = some x ∧ x.owner = q.ctx ∧ x.opener = src.bob
        ∧ x.lens = List.replicate k.layers share ∧ (q.f 4 31 16 = 0xFFFF → 0xFFFF ∉ k.seqs.map (fun y => y.1) → x.pages = [] ∧ k'.frames = k.frames)
        ∧ (∀ j, j ≠ q.f 3 15 0 → NMap.get? k'.seqs j = NMap.get? k.seqs j))
  ∧ (∀ (src : Src) (p : Packet) (s : State) (k : KvPool), specKvScatterClose.accepts src (kvAction p 2) s = true →
    let q := specKvScatterClose.pkt (kvAction p 2)
    let key := poolKey s q.ctx (q.f 3 23 20)
    NMap.get? s.kv key = some k →
    ∃ v : State, exec (.kvScatterClose src p) s = .next (v.finish s.q.nextId 0 [(k.closeSeq (q.f 3 15 0)).2]) ∧ v.dom = s.dom
      ∧ ∃ k', NMap.get? v.kv key = some k' ∧ k'.seqs = NMap.del k.seqs (q.f 3 15 0) ∧ k'.frames = (k.closeSeq (q.f 3 15 0)).1.frames)
  ∧ (∀ (src : Src) (p : Packet) (s s1 : State) (k : KvPool) (ps : List Prep) (n : Nat), specKvScatterAppend.accepts src (kvAction p 0) s = true →
    let q := specKvScatterAppend.pkt (kvAction p 0)
    let u := specKvScatterAppend.taken src (kvAction p 0) s
    let key := poolKey u q.ctx (q.f 3 23 20)
    let l := q.f 8 7 0
    let es := u.lenTable q (q.addr 4) (q.f 5 31 16)
    let todo := es.zipIdx.flatMap (fun x => x.1.pages.map (fun pg => (x.2, x.1, pg)))
    q.level = 0 → s.ms.poison = [] → (∀ x ∈ es, u.seqFrozen key x.seq = false) →
    u.prepare (specKvScatterAppend.env src (kvAction p 0) s) key l (todo.map (fun t => (t.2.1.seq, t.2.2))) todo [] 0 = .inl (s1, ps, n) →
    s1.pool? key = some k →
    ∃ v : State, exec (.kvScatterAppend src p) s = .next (v.finish s.q.nextId 0
        [(es.map (fun x => x.qLen)).sum, (ps.filter (fun a => a.isNew)).length, (ps.filter (fun a => a.copyOf.isSome)).length, n])
      ∧ ∃ k', NMap.get? v.kv key = some k' ∧ k'.seqs = (k.afterAppend l es ps).seqs ∧ k'.frames = (k.afterAppend l es ps).frames)
  ∧ (∀ (src : Src) (p : Packet) (s : State) (k : KvPool), specPagePin.accepts src p s = true →
    let q := specPagePin.pkt p
    let u := specPagePin.taken src p s
    let key := poolKey s q.ctx (q.f 3 23 20)
    let k1 : KvPool := { k with seqs := NMap.upd k.seqs (q.f 3 15 0) (fun x => { x with pages := x.pages.map (fun y =>
      if (x.rangePages (q.word 4) (q.word 5)).contains y.1 then (y.1, { y.2 with pinned := q.b 3 31 }) else y) }) }
    NMap.get? s.kv key = some k → s.seqFrozen key (q.f 3 15 0) = false →
    (q.b 3 31 = true → k.frameCount * 7 < k1.pinnedFrames * 8 → exec (.pagePin src p) s = .next (u.finish s.q.nextId 0x0200 [0x20]))
    ∧ ((q.b 3 31 = false ∨ k1.pinnedFrames * 8 ≤ k.frameCount * 7) → ∃ v : State, exec (.pagePin src p) s = .next (v.finish s.q.nextId 0)
      ∧ ∃ k', NMap.get? v.kv key = some k' ∧ k'.seqs = k1.seqs ∧ k'.frames = k.frames))

/-- Where the packet passes its checks, each of the five runs on the core it names: once the core is free the packet claims it and starts the work whose result writes are the packet's results over the memory it sees, with nothing poisoned in what it reads; while the core is not free the packet waits for that one core, and nothing else changes than that it waits. -/
def Obligations.ComputeCommands : Prop :=
  (∀ (src : Src) (p : Packet) (s : State), specMatmul.accepts src p s = true →
    let q := specMatmul.pkt p
    let u := specMatmul.taken src p s
    exec (.matmul src p) s = .next (u.runOn (specMatmul.env src p s) (q.f 13 3 0) (mmRanges u q)
      (fun x => arrayWork x q (fmtOf q) (mmOp x q) (mmSide x q) (q.addr 11))))
  ∧ (∀ (src : Src) (p : Packet) (s : State) (d : ConvD), specConv.accepts src p s = true →
    let q := specConv.pkt p
    let u := specConv.taken src p s
    convAt u q = some d → exec (.conv src p) s = .next (u.runOn (specConv.env src p s) (q.f 13 3 0) (convRanges u q d) (fun x => convWork x q d)))
  ∧ (∀ (src : Src) (p : Packet) (s : State) (d : RecD × Option RecD), specRecur.accepts src p s = true →
    let q := specRecur.pkt p
    let u := specRecur.taken src p s
    recDescs u q = some d → exec (.recur src p) s = .next (u.runOn (specRecur.env src p s) (q.f 13 3 0) (recRanges u q d) (fun x => recWork x q d)))
  ∧ (∀ (src : Src) (p : Packet) (s : State), specVectorOp.accepts src p s = true →
    let q := specVectorOp.pkt p
    exec (.vectorOp src p) s = .next ((specVectorOp.taken src p s).runOn (specVectorOp.env src p s) (q.f 5 3 0) (vecRanges q) (fun x => vecWork x q)))
  ∧ (∀ (src : Src) (p : Packet) (s : State), specSort.accepts src p s = true →
    let q := specSort.pkt p
    exec (.sort src p) s = .next ((specSort.taken src p s).runOn (specSort.env src p s) (q.f 5 3 0) (sortRanges q) (fun x => sortWork x q)))
  ∧ (∀ (s s1 : State) (e : Env) (k : Nat) (r : Ranges) (f : State → Work), s.claimFor e [k] = some s1 → s1.poisonIn r.rd = [] →
    s.runOn e k r f = s1.startWork e { f s1 with reads := r.rd, cores := [k], stamp := s1.stampOf r.rd })
  ∧ (∀ (s : State) (e : Env) (k : Nat) (r : Ranges) (f : State → Work), s.claimFor e [k] = none →
    (s.runOn e k r f).pkts = s.pkts.map (fun o => if o.id = e.id then { o with job := .cores, touches := r.all } else o)
      ∧ (s.runOn e k r f).mem = s.mem ∧ (s.runOn e k r f).q = s.q ∧ (s.runOn e k r f).dom.cores = s.dom.cores
      ∧ ∃ w ∈ (s.runOn e k r f).dom.waits, w.pkt = e.id)

/-- An operation that starts at draft level 0 without escalation, with trace off, becomes the outstanding work of its packet; until its commit point its destinations are unspecified, and every other byte, the registers, the drafts still open, device time and every other packet stay as they were. -/
def Obligations.WorkStarts : Prop :=
  ∀ (s : State) (e : Env) (w : Work), e.p.level = 0 → w.esc = false → s.dbg.traceOn = false → (∀ r ∈ w.writes, remoteNode r.addr = none) →
    let t := s.startWork e w
    t.pkts = s.pkts.map (fun o => if o.id = e.id then { o with job := .work w } else o)
      ∧ (∀ a, (∀ r ∈ w.writes, a < r.addr ∨ r.addr + r.bytes.length ≤ a) → memGet t.mem a = memGet s.mem a)
      ∧ (s.MemOk → t.MemOk) ∧ t.q = s.q ∧ t.dom = s.dom ∧ t.time = s.time ∧ t.saf = s.saf ∧ t.dr.drafts = s.dr.drafts ∧ t.kv = s.kv
      ∧ t.ms.regions = s.ms.regions ∧ t.out = s.out ∧ t.log = s.log

/-- Where the packet passes its checks: an ATTENTION over sequences that nothing freezes claims its cores; where it meets a dropped page it ends PAGE_DROPPED with the first run; with nothing poisoned it starts the work of the attended pages and stamps the frames it reads with a new use count. A SCHEDULE_RUN of a model in the hot set starts on the cores that placement gives it, and waits for cores where placement gives none. -/
def Obligations.RunCommands : Prop :=
  (∀ (src : Src) (p : Packet) (s s1 : State) (k : KvPool), specAttention.accepts src p s = true →
    let q := specAttention.pkt p
    let u := specAttention.taken src p s
    let e := specAttention.env src p s
    attPool u q = some k → (attTable u q).any (fun x => u.seqFrozen (attKey u q) x.seq) = false →
    (u.claimFor e (attCores q) = none → exec (.attention src p) s = .next (u.waitCores e (attCores q) (attCores q).length [attQ k q, attT q, attO k q]))
    ∧ (u.claimFor e (attCores q) = some s1 →
      (∀ d, attDropped s1 q k = some d → exec (.attention src p) s = .next (s1.finish s.q.nextId 0x0203 d))
      ∧ (attDropped s1 q k = none → s1.ms.poison = [] → ∃ s2 : State, exec (.attention src p) s =
          .next (s2.startWork e { attWork s1 q k with stamp := s1.stampOf (attWork s1 q k).reads }) ∧ s2.pkts = s1.pkts ∧ s2.dom = s1.dom
        ∧ ∃ k', NMap.get? s2.kv (attKey s1 q) = some k' ∧ k'.useCtr = k.useCtr + 1 ∧ k'.seqs = k.seqs)))
  ∧ (∀ (src : Src) (p : Packet) (s : State) (m : HotModel) (x : Context), specScheduleRun.accepts src p s = true →
    let q := specScheduleRun.pkt p
    let u := specScheduleRun.taken src p s
    let e := specScheduleRun.env src p s
    let n := q.f 7 15 8
    u.runModel? q s.q.nextId = some m → u.ctx? q.ctx = some x →
    (∀ ks, u.runCores e x (m.need n) (m.oneDie n) = some ks → exec (.scheduleRun src p) s = .next (u.beginRun e m x ks))
    ∧ (u.runCores e x (m.need n) (m.oneDie n) = none → exec (.scheduleRun src p) s =
        .next (u.waitCores e (if x.fixed then fixedCores x (m.need n) else u.wanted q.ctx (m.need n) (m.oneDie n)) (m.need n)
          (runRanges (m.bindings n) (u.bindTable q)).all)))

/-- While the module is up: tdesc.ld loads a descriptor register with the 64 bytes the packet sees, and tdesc.set writes one field; t.issue into a queue with room appends the operation under the next token, which the scalar core gets; t.wait of a token not in flight does nothing, and after t.wait no operation with that token is in flight; after t.waitq the queue is empty; t.stat gives the scalar core the queue's counts. A trap on S0 to S2 tears the packet's context down with cause trap, and on S3 fences the core. A tensioner step before its gap has passed changes nothing, and one that is due moves one engine towards its target by one group, or the clock by 100 MHz, and notes the step. -/
def Obligations.ScalarCores : Prop :=
  (∀ (s : State) (k sc td a : Nat), s.clocked = true →
    exec (.tdescLd k sc td a) s = .next (s.setCore k (fun c => { c with
      desc := NMap.put c.desc (sc * 65536 + td) { raw := match s.corePkt? k with | some o => s.see o.pkt a 64 | none => s.load a 64 } })))
  ∧ (∀ (s : State) (k sc td f v : Nat), s.clocked = true →
    exec (.tdescSet k sc td f v) s = .next (s.setCore k (fun c =>
      let d := NMap.getD c.desc (sc * 65536 + td) {}
      { c with desc := NMap.put c.desc (sc * 65536 + td) { d with fields := NMap.put d.fields f v } })))
  ∧ (∀ (s : State) (k sc q : Nat), s.clocked = true → ((s.core k).ops.filter (fun o => o.queue = q)).length < queueDepth q →
    exec (.tIssue k sc q) s = .next (s.setCore k (fun c => { c with
      ops := c.ops ++ [⟨q, c.nextToken⟩], nextToken := c.nextToken + 1, tokens := NMap.put c.tokens sc c.nextToken })))
  ∧ (∀ (s : State) (k token : Nat), s.clocked = true →
    ((∀ o ∈ (s.core k).ops, o.token ≠ token) → exec (.tWait k token) s = .next s)
    ∧ ∃ t : State, exec (.tWait k token) s = .next t ∧ (k < s.dom.cores.length → ∀ o ∈ (t.core k).ops, o.token ≠ token) ∧ t.pkts = s.pkts ∧ t.mem = s.mem)
  ∧ (∀ (s : State) (k q : Nat), s.clocked = true → k < s.dom.cores.length →
    ∃ t : State, exec (.tWaitq k q) s = .next t ∧ (∀ o ∈ (t.core k).ops, o.queue ≠ q) ∧ t.pkts = s.pkts ∧ t.mem = s.mem)
  ∧ (∀ (s : State) (k sc q : Nat), s.clocked = true →
    exec (.tStat k sc q) s = .next (s.setCore k (fun c => { c with counts := NMap.put c.counts sc (c.stats.getD q {}) })))
  ∧ (∀ (s : State) (k sc : Nat) (o : OutPkt), s.clocked = true → s.corePkt? k = some o →
    (sc < 3 → exec (.scalarTrap k sc) s = .next (s.tearDown o.pkt.ctx 4)) ∧ (3 ≤ sc → exec (.scalarTrap k sc) s = .next (s.failCore k 2 5)))
  ∧ (∀ (s : State) (k e : Nat), s.pwr.phase = .up → k < 16 → e < 4 →
    let c := s.dom.cores.getD k {}
    (c.lastMa ≠ 0 → (s.time.tick - c.lastStep) * 4 < s.stepGap k → exec (.tensionerStep k e) s = .next s)
    ∧ (e = 3 → (c.lastMa = 0 ∨ s.stepGap k ≤ (s.time.tick - c.lastStep) * 4) → toward c.mhz (s.wantMhz k) 100 ≠ c.mhz →
      exec (.tensionerStep k e) s = .next { s with dom := { s.dom with
        cores := setAt s.dom.cores k { c with mhz := toward c.mhz (s.wantMhz k) 100, lastStep := s.time.tick, lastMa := 600 } } })
    ∧ (e = 0 → (c.lastMa = 0 ∨ s.stepGap k ≤ (s.time.tick - c.lastStep) * 4) → (∀ x, s.firstEngine k = some x → x = 0) →
      toward c.g (s.wantGroups k 0) 1 ≠ c.g → exec (.tensionerStep k e) s = .next { s with dom := { s.dom with
        cores := setAt s.dom.cores k { c with g := toward c.g (s.wantGroups k 0) 1, lastStep := s.time.tick, lastMa := 600 } } }))

/-- Where the packet passes its checks, with trace off: DRAFT_OPEN ends NO_SPACE 9 with 64 drafts of the context open; otherwise it opens a draft one level up with the packet's own draft as parent and reports the level and the page budget. TWIST puts its draft in Twisting and waits. UNRAVEL unravels the draft and what lies under it and reports drafts, lines and pages. DRAFT_QUERY of the context reports its open tags; of a tag that is free it reports zeros, and of an open draft its state, its parent and how many drafts it has below it; it changes nothing else. The end of a writeback frees its line. -/
def Obligations.DraftCommands : Prop :=
  (∀ (src : Src) (p : Packet) (s : State), specDraftOpen.accepts src p s = true → s.dbg.traceOn = false →
    let q := specDraftOpen.pkt p
    let u := specDraftOpen.taken src p s
    (64 ≤ (s.ownDrafts q.ctx).length → exec (.draftOpen src p) s = .next (u.finish s.q.nextId 0x0200 [9]))
    ∧ ((s.ownDrafts q.ctx).length < 64 → ∃ v : State, exec (.draftOpen src p) s = .next (v.finish s.q.nextId 0 [q.level + 1, v.capacity q.ctx .pages])
      ∧ v.dr.drafts = s.dr.drafts ++ [{ ctx := q.ctx, tag := q.f 3 5 0, level := q.level + 1, parent := q.tag, opener := src.bob, order := s.dr.nextOrder }]
      ∧ v.dr.nextOrder = s.dr.nextOrder + 1 ∧ v.mem = s.mem ∧ v.pkts = u.pkts
      ∧ (q.f 3 27 16 = 0 → v.dom = s.dom)
      ∧ (∀ x, q.f 3 27 16 ≠ 0 → NMap.get? s.dom.contexts q.ctx = some x → ∃ y, NMap.get? v.dom.contexts q.ctx = some y ∧ y.pageBudget = q.f 3 27 16)))
  ∧ (∀ (src : Src) (p : Packet) (s : State) (d : Draft), specTwist.accepts src p s = true → s.dbg.traceOn = false → s.named? (specTwist.pkt p) = some d →
    ∃ t : State, exec (.twist src p) s = .next t ∧ t.mem = s.mem
      ∧ t.dr.drafts = s.dr.drafts.map (fun x => if x.order = d.order then { x with st := .twisting s.q.nextId } else x)
      ∧ (∃ w, t.dr.twists = s.dr.twists ++ [w] ∧ w.pkt = s.q.nextId ∧ w.started = false ∧ w.committed = false)
      ∧ ((∀ o ∈ s.pkts, o.id ≠ s.q.nextId) → ∃ o ∈ t.pkts, o.id = s.q.nextId ∧ o.job = .waits .twist))
  ∧ (∀ (src : Src) (p : Packet) (s : State) (d : Draft), specUnravel.accepts src p s = true →
    let u := specUnravel.taken src p s
    let r := u.unravelAll d.order ⟨0x0300, [], some s.q.nextId⟩
    u.named? (specUnravel.pkt p) = some d → exec (.unravel src p) s = .next (r.1.finish s.q.nextId 0 [r.2.1, r.2.2.1, r.2.2.2]))
  ∧ (∀ (src : Src) (p : Packet) (s : State), specDraftQuery.accepts src p s = true →
    let q := specDraftQuery.pkt p
    let u := specDraftQuery.taken src p s
    let m := (u.ownDrafts q.ctx).foldl (fun a d => a ||| 2 ^ d.tag) 0
    (q.b 3 31 = true → exec (.draftQuery src p) s = .next (u.finish s.q.nextId 0
      [m % 2 ^ 32, m / 2 ^ 32, ((u.ownDrafts q.ctx).map (fun d => d.pages.length)).sum, u.capacity q.ctx .pages]))
    ∧ (q.b 3 31 = false → u.named? q = none → exec (.draftQuery src p) s = .next (u.finish s.q.nextId 0 [0, 0, 0, 0]))
    ∧ (∀ d, q.b 3 31 = false → u.named? q = some d → ∃ ds : List Nat, exec (.draftQuery src p) s = .next (u.finish s.q.nextId 0 ds)
      ∧ ds.getD 0 0 = d.st.code * 2 ^ 16 + (if d.level = 1 then 0 else d.parent) * 64
          + min ((u.ownDrafts q.ctx).filter (fun x => decide (x.level = d.level + 1) && decide (x.parent = d.tag))).length 63 ∧ ds.length = 4))
  ∧ (∀ (c l : Nat) (s : State), s.clocked = true → exec (.writebackComplete c l) s = .next { s with dr := { s.dr with
      writeback := s.dr.writeback.filter (fun x => !(decide (x = (c, l)))) } })

/-- A twist that may start whose verdict word has GO 0 unravels its draft and completes with DISCARDED; one with at most one local participant and no peer commits at once; any other records the votes it awaits and sends PREPARE to its peers. PREPARE at a local participant freezes the draft. The last READY vote commits the twist; an earlier one is taken off the votes awaited; a FAIL of a peer unravels the draft with DRAFT_EVICTED cause 4. COMMIT at the last participant writes the reply, at an earlier one it is taken off. A peer that has not voted after 200 µs unravels the draft with PEER_LOST. A READY record of a lost owner commits or is discarded. -/
def Obligations.TwistEvents : Prop :=
  (∀ (s : State) (o : OutPkt) (t : Twist) (d : Draft), s.clocked = true → s.pkt? o.id = some o → s.twist? o.id = some t → t.started = false →
    s.flyerHalted o.flyer = false → (∀ i ∈ t.waitFor, s.pkt? i = none) → s.named? o.pkt = some d → d.st = .twisting o.id →
    let v := leNat ((List.range 4).map (fun i => s.byteSeen (s.chain o.pkt.ctx d.level d.tag) (verdictAddr o.pkt + i)))
    let peers := d.peers.filter (s.twistPeers o.pkt).contains
    (o.pkt.f 6 31 30 = 2 → bit v 31 = false →
      exec (.twistStart o.id) s = .next (((s.unravelAll d.order ⟨0x0300, [], some o.id⟩).1.finish o.id 0 [0, 0, 0, 2 ^ 31]).dropTwist o.id))
    ∧ (o.pkt.f 6 31 30 = 0 → peers = [] → d.participants.length ≤ 1 → exec (.twistStart o.id) s = .next
        (((s.setTwist o.id (fun t => { t with started := true, keep := none, startTime := s.now })).decideTwist o.id d none []).endTwist o.id))
    ∧ (o.pkt.f 6 31 30 = 0 → peers = [] → 1 < d.participants.length → ∃ u : State, exec (.twistStart o.id) s = .next u ∧ u.mem = s.mem ∧ u.pkts = s.pkts
        ∧ ∃ x, u.twist? o.id = some x ∧ x.started = true ∧ x.votes = d.participants ∧ x.startTime = s.now))
  ∧ (∀ (s : State) (id part : Nat) (t : Twist), s.clocked = true → s.twist? id = some t → t.started = true → t.committed = false → t.votes.contains part = true →
    t.applying.contains part = false → part < 64 →
    ∃ u : State, exec (.twistPrepare id part) s = .next u ∧ (∀ d ∈ u.dr.drafts, d.st = .twisting id → d.frozen = true) ∧ u.mem = s.mem
      ∧ ∃ x, u.twist? id = some x ∧ x.applying = t.applying ++ [part] ∧ x.votes = t.votes)
  ∧ (∀ (s : State) (id part : Nat) (t : Twist) (d : Draft) (o : OutPkt), s.clocked = true → s.twist? id = some t → s.twisting? id = some d → s.pkt? id = some o →
    t.votes.contains part = true → t.committed = false → s.flyerHalted o.flyer = false → (part < 64 → t.applying.contains part = true) →
    (64 ≤ part → exec (.twistVote id part false) s = .next (s.unravelAll d.order ⟨0x0202, [evictWord d, 4, part - 64, 0], none⟩).1)
    ∧ ((∃ x ∈ t.votes, x ≠ part) → exec (.twistVote id part true) s = .next (s.setTwist id (fun t' => { t' with votes := t.votes.filter (fun x => !(decide (x = part))) })))
    ∧ ((∀ x ∈ t.votes, x = part) → exec (.twistVote id part true) s = .next ((s.decideTwist id d t.keep
        (d.participants ++ (d.peers.filter (s.twistPeers o.pkt).contains).map (fun n => n + 64))).endTwist id)))
  ∧ (∀ (s : State) (id part : Nat) (t : Twist), s.clocked = true → s.twist? id = some t → t.committed = true → t.applying.contains part = true →
    exec (.twistCommit id part) s = .next ((s.setTwist id (fun x => { x with applying := x.applying.filter (fun y => !(decide (y = part))) })).endTwist id))
  ∧ (∀ (s : State) (id node : Nat) (t : Twist) (d : Draft) (o : OutPkt), s.clocked = true → s.twist? id = some t → s.pkt? id = some o → s.twisting? id = some d →
    t.startTime + 200000 ≤ s.now → t.started = true → t.committed = false → s.flyerHalted o.flyer = false → t.votes.contains (64 + node) = true →
    exec (.twistVoteTimeout id node) s = .next (s.unravelAll d.order ⟨0x0304, [node], none⟩).1)
  ∧ (∀ (s : State) (r par : Nat) (d : Draft), s.clocked = true → s.dr.drafts.find? (fun d => decide (d.order = r)) = some d → d.ready = true → d.ownerLost = true →
    exec (.twistOwnerLostTimeout r true par) s = .next (s.commitRecord d par) ∧ exec (.twistOwnerLostTimeout r false par) s = .next (s.discard d))

/-- The commit of a level-1 draft that holds only shadow lines of 64 bytes, with trace off, puts each line's bytes in committed memory, leaves every other byte as it was, closes the draft, and leaves its lines awaiting writeback. A draft at level 2 or higher leaves all of committed memory as it was, and its parent then sees its lines. -/
def Obligations.TwistApplies : Prop :=
  (∀ (s : State) (d : Draft), d.level = 1 → d.peers = [] → d.pages = [] → d.appends = [] → d.deferred = [] → s.dbg.traceOn = false → s.MemOk →
    (∀ l ∈ d.lines, l.2.length = 64) → (d.lines.map (fun l => l.1)).Nodup →
    let t := s.applyDraft d
    (∀ l ∈ d.lines, t.load (l.1 * 64) 64 = l.2) ∧ (∀ a, (∀ l ∈ d.lines, a / 64 ≠ l.1) → memGet t.mem a = memGet s.mem a) ∧ t.MemOk
      ∧ (∀ x ∈ t.dr.drafts, x ∈ s.dr.drafts ∧ x.order ≠ d.order) ∧ (∀ l ∈ d.lines, (d.ctx, l.1) ∈ t.dr.writeback))
  ∧ (∀ (s : State) (d p : Draft), d.level ≠ 1 → d.peers = [] → s.dbg.traceOn = false → s.draft? d.ctx (d.level - 1) d.parent = some p → p.order ≠ d.order →
    let t := s.applyDraft d
    t.mem = s.mem ∧ (∀ x ∈ t.dr.drafts, x.order ≠ d.order)
      ∧ ∃ y ∈ t.dr.drafts, y.order = p.order ∧ y.ctx = p.ctx ∧ y.level = p.level ∧ (∀ k, NMap.get? y.lines k = NMap.get? (mergeLines p.lines d.lines) k))

/-- Where the packet passes its checks: CONTEXT_CREATE for a tenant ends NO_SPACE with resource 5 at 4,096 contexts, with resource 3 where the save area does not fit the quota, else the context exists with the fields of the packet, opened by the packet's bobbin. CONTEXT_DESTROY makes the context one that no longer exists for later packets and waits for its commit point, where the context is removed with its banks and its save area. LANE_RESERVE with more power than is left ends BUDGET_DENIED with what is left; else a reservation with the packet's fields exists under the lowest free handle, every stopped domain restarts, and the packet completes with the handle at once where the cores are drained, and waits otherwise; when it completes the reservation is no longer draining and the cores hold no context. LANE_RELEASE removes the reservation. -/
def Obligations.ContextCommands : Prop :=
  (∀ (src : Src) (p : Packet) (s : State) (t : Nat), specContextCreate.accepts src p s = true →
    let q := specContextCreate.pkt p
    let u := specContextCreate.taken src p s
    u.newCtxTenant src q.ctx = some t →
    let x : Context := { tenant := t, fixed := q.b 3 28, shadowMib := if q.f 3 27 24 = 0 then 2 else q.f 3 27 24, reservation := q.f 3 17 16, coreMask := q.f 3 15 0, maxCores := q.f 4 4 0, opener := (specContextCreate.env src p s).bob }
    exec (.contextCreate src p) s = .next (
      if 4096 ≤ u.dom.contexts.length then u.finish s.q.nextId 0x0200 [5]
      else if (match u.tenant? t with | some y => y.quotaBytes | none => 0) < u.hbmUsed t + q.f 4 4 0 * 18 * 2 ^ 20 then u.finish s.q.nextId 0x0200 [3]
      else ({ u with dom := { u.dom with contexts := NMap.put u.dom.contexts q.ctx x } } : State).finish s.q.nextId 0))
  ∧ (∀ (src : Src) (p : Packet) (s : State), specContextDestroy.accepts src p s = true →
    let c := (specContextDestroy.pkt p).ctx
    ∃ t : State, exec (.contextDestroy src p) s = .next t ∧ (∀ x, s.ctx? c = some x → NMap.get? t.dom.contexts c = some { x with destroying := true })
      ∧ (∀ o ∈ t.pkts, o.id = s.q.nextId → o.job = .waits .destroyCtx) ∧ t.mem = s.mem ∧ t.dom.cores = s.dom.cores ∧ t.ms = s.ms)
  ∧ (∀ (s : State) (id : Nat) (o : OutPkt), s.pkt? id = some o → s.serves = true → s.flyerHalted o.flyer = false → o.job = .waits .destroyCtx →
    ∃ u : State, exec (.commitPoint id) s = .next (u.finish o.id 0) ∧ NMap.get? u.dom.contexts o.pkt.ctx = none
      ∧ (∀ b ∈ u.ms.banks, b.2.ctx ≠ o.pkt.ctx) ∧ (∀ x ∈ u.eng.solves, x.2.ctx ≠ o.pkt.ctx) ∧ (∀ g ∈ u.ply.granted, g.ctx ≠ o.pkt.ctx))
  ∧ (∀ (src : Src) (p : Packet) (s : State) (h : Nat), specLaneReserve.accepts src p s = true →
    let q := specLaneReserve.pkt p
    let u := specLaneReserve.taken src p s
    (u.laneRoom < q.word 5 → exec (.laneReserve src p) s = .next (u.finish s.q.nextId 0x0204 [u.laneRoom]))
    ∧ (q.word 5 ≤ u.laneRoom → h < 4 → NMap.has u.dom.reservations h = false → (∀ k < h, NMap.has u.dom.reservations k = true) →
      let r : Reservation := { tenant := q.f 3 19 16, coreMask := q.f 3 15 0, planShare := q.f 4 29 24, systems := q.f 4 19 16, loops := q.f 4 15 8, powerMw := q.word 5, hbmBw := q.f 6 15 0, draining := true }
      let v : State := { u with dom := { u.dom with reservations := NMap.put u.dom.reservations h r }, pwr := { u.pwr with stopped := [] } }
      exec (.laneReserve src p) s = .next (if v.laneDrained r.coreMask then v.endLane s.q.nextId h else v.setJob s.q.nextId (.waits (.lane h)))))
  ∧ (∀ (s : State) (id h : Nat) (r : Reservation), NMap.get? s.dom.reservations h = some r → s.laneDrained r.coreMask = true →
    ∃ u : State, s.endLane id h = u.finish id 0 [h] ∧ u.dom.reservations = NMap.upd s.dom.reservations h (fun x => { x with draining := false })
      ∧ (∀ k ∈ maskList 16 r.coreMask, (u.core k).holders = [] ∧ (u.core k).lastCtx = none) ∧ u.q = s.q ∧ u.pkts = s.pkts)
  ∧ (∀ (src : Src) (p : Packet) (s : State), specLaneRelease.accepts src p s = true →
    let u := specLaneRelease.taken src p s
    exec (.laneRelease src p) s = .next (({ u with dom := { u.dom with
      reservations := NMap.del u.dom.reservations ((specLaneRelease.pkt p).f 3 1 0) } } : State).endFixed.finish s.q.nextId 0))

/-- Where the packet passes its checks: a MODEL_LOAD for which no slot can be found ends NO_SPACE with resource 2, one that would pin the last slot of its tenant ends NO_SPACE with resource 0x0C, one whose image fails a check ends with that check's status, and any other is in flight until its commit point, where the model of the image goes into the slot chosen; its reply names the slot, the slot evicted or all ones, the resident set and the cores. MODEL_PIN pins or unpins the model of the slot, or ends NO_SPACE with resource 0x0C where that would leave the tenant only pinned models. MODEL_EVICT takes the model out of the hot set. -/
def Obligations.HotSet : Prop :=
  (∀ (src : Src) (p : Packet) (s : State), specModelLoad.accepts src p s = true →
    let q := specModelLoad.pkt p
    let u := specModelLoad.taken src p s
    u.chooseSlot (u.ctxTenant q.ctx) (q.word 3) = none → exec (.modelLoad src p) s = .next (u.finish s.q.nextId 0x0200 [2]))
  ∧ (∀ (src : Src) (p : Packet) (s : State) (slot : Nat) (ev : Option Nat) (obj : ModelObject), specModelLoad.accepts src p s = true →
    let q := specModelLoad.pkt p
    let u := specModelLoad.taken src p s
    let e := specModelLoad.env src p s
    let t := u.ctxTenant q.ctx
    let h := headerOf obj.body
    u.chooseSlot t (q.word 3) = some (slot, ev) → u.object? t (q.word 3) = some obj →
    (q.b 4 0 = true → u.pinFull t slot = true → exec (.modelLoad src p) s = .next (u.finish s.q.nextId 0x0200 [0xC]))
    ∧ (q.b 4 0 = false ∨ u.pinFull t slot = false →
      match u.checkImage obj.body with
      | .inl x => exec (.modelLoad src p) s = .next (u.finish s.q.nextId x.1 x.2)
      | .inr secs => ∃ (v : State) (w : Work) (m : HotModel), exec (.modelLoad src p) s = .next (v.startWork e w)
          ∧ w.details = [slot, ev.getD 0xFFFFFFFF, h.resident, h.cores] ∧ w.after = [.swap slot m ev] ∧ w.writes = [] ∧ w.dma = []
          ∧ m.tenant = t ∧ m.imageId = q.word 3 ∧ m.resident = h.resident ∧ m.cores = h.cores ∧ m.schedules = h.schedules ∧ m.sections = secs
          ∧ (q.b 4 0 = true → m.pinned = true) ∧ v.mem = s.mem ∧ v.dom.hot = s.dom.hot ∧ v.dom.objects = s.dom.objects))
  ∧ (∀ (s : State) (slot : Nat) (m : HotModel), ∃ x : HotModel, NMap.get? (s.swapModel slot m).dom.hot slot = some x ∧ x.imageId = m.imageId ∧ x.sections = m.sections
    ∧ x.pinned = m.pinned ∧ x.recency = s.now ∧ ∀ k, k ≠ slot → NMap.get? (s.swapModel slot m).dom.hot k = NMap.get? s.dom.hot k)
  ∧ (∀ (src : Src) (p : Packet) (s : State), specModelPin.accepts src p s = true →
    let q := specModelPin.pkt p
    let u := specModelPin.taken src p s
    exec (.modelPin src p) s = .next (if q.b 3 8 && u.pinFull (u.ctxTenant q.ctx) (q.f 3 4 0) then u.finish s.q.nextId 0x0200 [0xC]
      else ({ u with dom := { u.dom with hot := NMap.upd u.dom.hot (q.f 3 4 0) (fun m => { m with pinned := q.b 3 8 }) } } : State).finish s.q.nextId 0))
  ∧ (∀ (src : Src) (p : Packet) (s : State), specModelEvict.accepts src p s = true →
    let u := specModelEvict.taken src p s
    exec (.modelEvict src p) s = .next (({ u with dom := { u.dom with hot := NMap.del u.dom.hot ((specModelEvict.pkt p).f 3 4 0) } } : State).finish s.q.nextId 0))

/-- Where the packet passes its checks: open ends NO_SPACE with resource 0x0A beyond 448 GB or 0x0B at 256 objects of the tenant, else adds an object without blocks. write stores the 64 KiB at its address as the block where their CRC-32C is the one given, and otherwise ends CHECK_FAILED with the block's number and stores nothing. seal of a complete object whose header has the magic, the format and the part makes it sealed, and otherwise ends 0x0106 with code 3. delete removes the object. The reply of a completed operation has the blocks present, the blocks of the object and the tenant's objects. -/
def Obligations.ModelStore : Prop :=
  (∀ (src : Src) (p0 : Packet) (s : State), let p := p0.withField 3 31 30 0
    specStoreOpen.accepts src p s = true →
    let q := specStoreOpen.pkt p
    let u := specStoreOpen.taken src p s
    let t := u.storeTenant src q
    let v : State := { u with dom := { u.dom with objects := u.dom.objects ++ [{ tenant := t, imageId := q.word 4, bytes := storeBytes q }] } }
    exec (.modelStoreOpen src p0) s = .next (
      if 448 * 10 ^ 9 < (u.dom.objects.map (fun o => o.bytes)).sum + storeBytes q then u.finish s.q.nextId 0x0200 [0xA]
      else if 256 ≤ (u.dom.objects.filter (fun o => o.tenant = t)).length then u.finish s.q.nextId 0x0200 [0xB]
      else v.finish s.q.nextId 0 (v.storeReply t (q.word 4))))
  ∧ (∀ (src : Src) (p0 : Packet) (s : State), let p := p0.withField 3 31 30 1
    specStoreWrite.accepts src p s = true →
    let q := specStoreWrite.pkt p
    let u := specStoreWrite.taken src p s
    let t := u.storeTenant src q
    let bs := u.load (q.addr 5) 65536
    let n := q.f 3 19 0
    let v := u.setObject t (q.word 4) (fun o => { o with blocks := NMap.put o.blocks n (bs.zipIdx.map (fun (b : Byte × Nat) => if n * 65536 + b.2 < o.bytes then b.1 else 0)) })
    exec (.modelStoreWrite src p0) s = .next (
      if crc32c bs = q.word 7 then v.finish s.q.nextId 0 (v.storeReply t (q.word 4)) else u.finish s.q.nextId 0x0503 [n]))
  ∧ (∀ (src : Src) (p0 : Packet) (s : State) (o : ModelObject), let p := p0.withField 3 31 30 2
    specStoreSeal.accepts src p s = true →
    let q := specStoreSeal.pkt p
    let u := specStoreSeal.taken src p s
    let t := u.storeTenant src q
    let h := headerOf (NMap.getD o.blocks 0 [])
    let v := u.setObject t (q.word 4) (fun x => { x with isSealed := true })
    u.object? t (q.word 4) = some o →
    exec (.modelStoreSeal src p0) s = .next (
      if h.magic = 0x4D444C31 ∧ h.format = 1 ∧ h.part = 0x4800 then v.finish s.q.nextId 0 (v.storeReply t (q.word 4)) else u.finish s.q.nextId 0x0106 [3]))
  ∧ (∀ (src : Src) (p0 : Packet) (s : State), let p := p0.withField 3 31 30 3
    specStoreDelete.accepts src p s = true →
    let q := specStoreDelete.pkt p
    let u := specStoreDelete.taken src p s
    let t := u.storeTenant src q
    let v : State := { u with dom := { u.dom with objects := u.dom.objects.filter (fun o => !(o.tenant = t && o.imageId = q.word 4)) } }
    exec (.modelStoreDelete src p0) s = .next (v.finish s.q.nextId 0 (v.storeReply t (q.word 4))))
  ∧ (∀ (s : State) (t id : Nat) (o : ModelObject), s.object? t id = some o →
    s.storeReply t id = [o.blocks.length, ceilDiv o.bytes 65536, (s.dom.objects.filter (fun x => x.tenant = t)).length, 0])

/-- While Distaff runs an image, a frame on a carrier that admits it is dropped and logged where it does not authenticate, and otherwise its counter is accepted and its packet starts as one of that carrier and port, whose halted target flyers resume. A frame that is not admitted changes nothing. While Distaff runs no image, a frame is held, at most four a carrier. MBOX_SEND with the mailbox free hands MBOX_TX over as such a frame; while Distaff runs no image it holds the frame and MBOX_SEND stays 1. MBOX_RELEASE clears RX_VALID. When Distaff runs the new image the held frames are taken in their order. -/
def Obligations.OobFrames : Prop :=
  (∀ (s : State) (c : Carrier) (port id : Nat) (f : List Byte), s.frameAdmitted c port id = true → s.clocked = true → s.distaffRuns = true →
    (s.frameOk c f = false → c ≠ .mbox →
      let x := s.oob.get c
      exec (.oobFrame c port id f) s = .next (({ s with oob := s.oob.set c { x with dropped := x.dropped + 1 } } : State).logIt .oobDropped port))
    ∧ (if s.frameOk c f then
        let p : Packet := ⟨bytesWords 16 (f.take 64)⟩
        let v := s.acceptCounter c (frameCounter f)
        let e := (v.newPkt (.oob c port) p (v.q.nextId, v.q.endSeq)).env
        exec (.oobFrame c port id f) s = .next (((specOf p).start e (v.takeIn (.oob c port) p (v.q.nextId, v.q.endSeq))).resumeOrdered v.q.nextId)
      else ∃ t : State, exec (.oobFrame c port id f) s = .next t ∧ t.pkts = s.pkts ∧ t.q = s.q ∧ t.mem = s.mem ∧ (t.oob.get c).accepted = (s.oob.get c).accepted))
  ∧ (∀ (s : State) (c : Carrier) (port id : Nat) (f : List Byte), s.frameAdmitted c port id = false → exec (.oobFrame c port id f) s = .next s)
  ∧ (∀ (s : State) (c : Carrier) (port id : Nat) (f : List Byte), s.frameAdmitted c port id = true → s.clocked = true → s.distaffRuns = false →
    (s.oob.heldFrames.filter (fun h => h.1 = c)).length < 4 →
    exec (.oobFrame c port id f) s = .next { s with oob := { s.oob with heldFrames := s.oob.heldFrames ++ [(c, port, f)] } })
  ∧ (∀ s : State, s.hasMbox = true → s.oob.mboxSend = false →
    let v := s.frameIn .mbox 0 s.oob.mboxTx
    exec .mboxSend s = .next { v with oob := { v.oob with mboxSend := !s.distaffRuns } })
  ∧ (∀ s : State, s.hasMbox = true → exec .mboxRelease s = .next { s with oob := { s.oob with mboxRxValid := false } })
  ∧ (∀ (s : State) (a : Activation), s.clocked = true → s.actIn .held = some a →
    let v := s.setStage a .imageRunning
    exec .distaffImageRunning s = .next (s.oob.heldFrames.foldl (fun x h => x.takeFrame h.1 h.2.1 h.2.2)
      ({ v with oob := { v.oob with heldFrames := [], mboxSend := false } } : State)))

/-- When the service link comes up with the port as an endpoint, in a module that is up with no service bobbin left, bobbins 224 to 231 exist, Running and empty, homed on the flyer that serves role 2: work bobbins of 256 entries where the number is even, control bobbins of 16 where odd; no other bobbin changes. When it goes down, the service bobbins without an outstanding packet are destroyed, and those with one have stopped and fetch no more; no other bobbin and no packet changes. A flyer that has not reported for 100 µs is fenced with cause 1, unless it is halted at a breakpoint. A fenced flyer is in the list of fenced flyers; its die's spare takes its bobbins, and without a spare they do not run. -/
def Obligations.ServicePort : Prop :=
  (∀ s : State, s.q.endpoint = true → s.q.serviceUp = false → s.pwr.phase = .up → (∀ b ∈ s.q.bobbins, b.1 < 224) →
    ∃ t : State, exec .serviceLinkUp s = .next t ∧ t.q.serviceUp = true ∧ t.pkts = s.pkts ∧ t.mem = s.mem
      ∧ (∀ k, k < 8 → let b := t.bob (224 + k)
          b.mode = .running ∧ b.tenant = 0 ∧ b.flyer = s.flyerFor 2 ∧ b.control = decide (k % 2 = 1) ∧ b.sizeLog2 = (if k % 2 = 0 then 8 else 4)
          ∧ b.tail = 0 ∧ b.cmdHead = 0 ∧ b.cplTail = 0 ∧ b.cplDoorbell = 0 ∧ b.cmdBase + 64 * 2 ^ b.sizeLog2 ≤ b.cplBase)
      ∧ ∀ n, n < 224 → t.bob n = s.bob n)
  ∧ (∀ s : State, s.q.serviceUp = true →
    ∃ t : State, exec .serviceLinkDown s = .next t ∧ t.q.serviceUp = false ∧ t.pkts = s.pkts ∧ t.mem = s.mem ∧ (∀ n, n < 224 → t.bob n = s.bob n)
      ∧ ∀ k, k < 8 → (t.outstanding (224 + k) = [] → (t.bob (224 + k)).mode = .unused) ∧ (t.bob (224 + k)).mode ≠ .running)
  ∧ (∀ (s : State) (f : Nat), s.clocked = true → exec (.flyerReportTimeout f) s = .next (if bit s.dbg.haltedFl f then s else s.fenceFlyer f 1))
  ∧ (∀ (s : State) (f cause : Nat), s.dev.flyersFenced.contains f = false → f < 10 → s.pkts = [] → s.flyerServes f = true →
    ∃ t : State, s.fenceFlyer f cause = t ∧ t.dev.flyersFenced = f :: s.dev.flyersFenced
      ∧ (s.spareFlyer (f / 5) = none → ∀ n, (s.bob n).flyer = f → (t.bob n).mode ≠ .running)
      ∧ ∀ sp, s.spareFlyer (f / 5) = some sp → ∀ n, NMap.has s.q.bobbins n = true → (s.bob n).flyer = f → (t.bob n).flyer = sp)

/-- Where the packet passes its checks: configure ends BUSY where the number is in use or another stream has the same flow, NO_SPACE with resource 0x0E where the port has all its streams, and otherwise the stream exists with the packet's fields, the supply of an SPI port on. release of a stream with no frame open ends it at once: the stream is gone, the packet completes, and a started group that has it as a member is fenced; with a frame open the release waits for the frame's end. -/
def Obligations.StreamCommands : Prop :=
  (∀ (src : Src) (p0 : Packet) (s : State), let p := p0.withField 3 31 30 0
    specStreamConfigure.accepts src p s = true →
    let e := specStreamConfigure.env src p s
    let u := specStreamConfigure.taken src p s
    let n := (specStreamConfigure.pkt p).f 3 22 16
    let t := streamOf e
    let v : State := { u with sen := { u.sen with streams := NMap.put u.sen.streams n t } }
    exec (.streamConfigConfigure src p0) s = .next (
      if NMap.has u.sen.streams n || u.sen.streams.any (fun x => x.2.sameFlow t) then u.finish s.q.nextId 0x0201
      else if portLimit t.kind ≤ (u.sen.streams.filter (fun x => x.2.kind = t.kind && x.2.port = t.port)).length then u.finish s.q.nextId 0x0200 [0x0E]
      else if t.kind = 2 then ({ v with pwr := { v.pwr with imuOn := setAt v.pwr.imuOn t.port true } } : State).finish s.q.nextId 0
      else v.finish s.q.nextId 0))
  ∧ (∀ (src : Src) (p0 : Packet) (s : State) (t : Stream), let p := p0.withField 3 31 30 1
    specStreamRelease.accepts src p s = true →
    let u := specStreamRelease.taken src p s
    let n := (specStreamRelease.pkt p).f 3 22 16
    let v := u.setJob s.q.nextId (.waits (.streamRelease n))
    NMap.get? u.sen.streams n = some t →
    exec (.streamConfigRelease src p0) s = .next (
      if t.frame.isSome then v.setStreamOpt n (some { t with releasing := some s.q.nextId }) else v.endStream n))
  ∧ (∀ (s : State) (n : Nat) (o : OutPkt), s.sen.groups = [] → s.pkts.filter (fun x => x.job = .waits (.streamRelease n)) = [o] →
    s.endStream n = ({ s with sen := { s.sen with streams := NMap.del s.sen.streams n } } : State).finish o.id 0)
  ∧ (∀ (s : State) (n : Nat), (NMap.get? (s.endStream n).sen.streams n).isNone = true)

/-- On an A-PHY port whose link is up: a packet of a virtual channel without a stream is counted and changes nothing else; a frame start opens a frame in the first free slot from the next one on, captured at its arrival less the stream's offset; a good line of the stream's data type lands after those before it, and a damaged one as zeros and marked damaged; line start and line end change nothing; a frame end closes the frame. A line that is not recovered in 50 µs lands as zeros and is damaged; a frame is closed 100 ms after it opened and when its link drops. Closing a frame with no group started writes its descriptor and damage mask at the slot and zeros where lines are missing, counts it, frees the slot and steps SEQ. -/
def Obligations.CameraFrames : Prop :=
  (∀ (s : State) (port vc : Nat) (k : CsiPacket), s.pwr.phase = .up → s.sen.gears.getD port 0 ≠ 0 →
    s.streamBy (fun t => t.kind = 0 && t.port = port && t.vc = vc) = none →
    exec (.csi2Packet port vc k) s = .next { s with sen := { s.sen with unmatched := setAt s.sen.unmatched port (s.sen.unmatched.getD port 0 + 1) } })
  ∧ (∀ (s : State) (port vc n k : Nat) (t : Stream), s.pwr.phase = .up → s.sen.gears.getD port 0 ≠ 0 →
    s.streamBy (fun t => t.kind = 0 && t.port = port && t.vc = vc) = some (n, t) → NMap.get? s.sen.streams n = some t → t.timeSrc = 1 → t.frame = none →
    ((List.range t.slots).map (fun i => (t.nextSlot + i) % t.slots)).find? (fun k => !s.slotUsed n k) = some k →
    s.ringOk t.ctx t.land (t.slots * t.slotBytes) true = true →
    exec (.csi2Packet port vc .frameStart) s =
      .next (s.setStreamOpt n (some { t with frame := some { slot := k, start := s.now, capture := s.now - t.timeOff } })))
  ∧ (∀ (s : State) (port vc n : Nat) (t : Stream) (f : OpenFrame) (bytes : List Byte) (ok rec : Bool), s.pwr.phase = .up → s.sen.gears.getD port 0 ≠ 0 →
    s.streamBy (fun t => t.kind = 0 && t.port = port && t.vc = vc) = some (n, t) → NMap.get? s.sen.streams n = some t → t.kind = 0 → t.timeSrc ≠ 2 →
    t.frame = some f → f.next < t.lines → 64 + 64 * ceilDiv t.lines 512 + f.next * t.lineBytes + t.lineBytes ≤ t.slotBytes →
    let good := ok && decide (bytes.length = t.lineBytes)
    ∃ u : State, exec (.csi2Packet port vc (.long t.dt bytes ok rec)) s = .next u
      ∧ u.mem = memPuts s.mem (t.payload f.slot + f.next * t.lineBytes) (if good then bytes else List.replicate t.lineBytes 0)
      ∧ NMap.get? u.sen.streams n = some { t with frame := some { f with next := f.next + 1, rx := f.rx + 1, damaged := if good then f.damaged else f.damaged ++ [f.next], recovered := f.recovered + rec.toNat, bytes := f.next * t.lineBytes + t.lineBytes, pkts := [] } }
      ∧ u.pkts = s.pkts ∧ u.q = s.q)
  ∧ (∀ (s : State) (port vc n : Nat) (t : Stream), s.pwr.phase = .up → s.sen.gears.getD port 0 ≠ 0 →
    s.streamBy (fun t => t.kind = 0 && t.port = port && t.vc = vc) = some (n, t) →
    exec (.csi2Packet port vc .lineStart) s = .next s ∧ exec (.csi2Packet port vc .lineEnd) s = .next s
      ∧ exec (.csi2Packet port vc .frameEnd) s = .next (s.closeFrame n false))
  ∧ (∀ (s : State) (port vc n : Nat) (t : Stream) (f : OpenFrame), s.clocked = true →
    s.streamBy (fun t => t.kind = 0 && t.port = port && t.vc = vc) = some (n, t) → t.frame = some f → f.next < t.lines →
    exec (.retransmissionTimeout port vc) s = .next ((s.store (t.payload f.slot + f.next * t.lineBytes) (List.replicate t.lineBytes 0)).setStreamOpt n
      (some { t with frame := some { f with next := f.next + 1, damaged := f.damaged ++ [f.next] } })))
  ∧ (∀ (s : State) (n : Nat) (t : Stream), s.clocked = true → NMap.get? s.sen.streams n = some t → t.kind = 0 →
    exec (.frameCloseTimeout n) s = .next (s.closeFrame n true))
  ∧ (∀ (s : State) (n : Nat) (t : Stream) (f : OpenFrame) (noEnd : Bool), NMap.get? s.sen.streams n = some t → t.frame = some f → t.kind = 0 →
    s.sen.groups = [] → t.releasing = none → t.lines ≤ f.next →
    let desc := f.capture / 10 ^ 9 % 2 ^ 48 * 2 ^ 464 + f.capture % 10 ^ 9 * 2 ^ 432 + t.seq % 2 ^ 32 * 2 ^ 400 + f.rx * 2 ^ 384 + f.damaged.length * 2 ^ 368
      + min f.recovered 0xFFFF * 2 ^ 352 + t.lines * t.lineBytes % 2 ^ 32 * 2 ^ 320 + t.dt * 2 ^ 312 + n * 2 ^ 297
      + f.truncated.toNat * 2 ^ 290 + noEnd.toNat * 2 ^ 289 + (!f.damaged.isEmpty).toNat * 2 ^ 288
    let u := s.closeFrame n noEnd
    u.mem = memPuts s.mem (t.land + f.slot * t.slotBytes) (leBytes 64 desc ++ maskBytes f.damaged (64 * ceilDiv t.lines 512))
      ∧ NMap.get? u.sen.streams n = some { t with frame := none, seq := (t.seq + 1) % 2 ^ 32, nextSlot := (f.slot + 1) % t.slots }
      ∧ u.pkts = s.pkts ∧ u.q = s.q)
  ∧ (∀ (s : State) (port gear : Nat), s.pwr.phase = .up → 1 ≤ gear → gear ≤ 5 → port < 24 →
    exec (.aphyLinkUp port gear) s = .next { s with sen := { s.sen with gears := setAt s.sen.gears port gear } })
  ∧ (∀ (s : State) (port : Nat), s.clocked = true → port < 24 → s.sen.gears.getD port 0 ≠ 0 → s.sen.streams = [] →
    exec (.aphyLinkDrop port) s = .next { s with sen := { s.sen with gears := setAt s.sen.gears port 0 } })

/-- In a module that is up: a frame on a T1 port whose link is up goes to the stream whose filter it matches and else to the host receive queue. A batch whose span has passed closes. A data-ready edge or a sample tick reads one sample of the port's SPI stream of that rate; a missed edge is counted. A T1 link that goes down is counted and no longer up; one that returns is up and its waiting transmit descriptors are served. -/
def Obligations.BatchesAndSamples : Prop :=
  (∀ (s : State) (port : Nat) (frame : List Byte), s.pwr.phase = .up → port < 8 → s.portUp port = true →
    let f (t : Stream) : Bool := t.kind = 1 && t.port = port && t.ether = (ethHead frame).1 && t.vlan = (ethHead frame).2.2.1
      && (!t.matchUdp || (match udpPort frame with | some (d, _) => d = t.udp | none => false))
    (s.streamBy f = none → exec (.t1Frame port frame) s = .next (s.hostReceive port frame))
    ∧ ∀ (n : Nat) (t : Stream), s.streamBy f = some (n, t) → exec (.t1Frame port frame) s = .next (s.landBatch n t (frame.drop (ethHead frame).2.1)))
  ∧ (∀ (s : State) (n : Nat) (t : Stream), s.clocked = true → NMap.get? s.sen.streams n = some t →
    (t.kind = 1 → exec (.batchClose n) s = .next (s.closeFrame n false)) ∧ (t.kind ≠ 1 → exec (.batchClose n) s = .next s))
  ∧ (∀ (s : State) (port n : Nat) (t : Stream) (x : List Byte), s.pwr.phase = .up → s.streamBy (fun t => t.kind = 2 && t.port = port) = some (n, t) →
    s.pwr.imuOn.getD port false = true →
    let v := (((s.emit (.spi port t.cmd)).openFrame n).landLine n ((x ++ List.replicate t.readLen 0).take t.readLen) false false false).closeFrame n false
    (t.rateHz = 0 → s.pwr.imuFolded.getD port false = false → exec (.spiDataReady port x) s = .next v)
    ∧ (t.rateHz = 0 → exec (.spiRateTick port x) s = .next s)
    ∧ (t.rateHz ≠ 0 → exec (.spiRateTick port x) s = .next v ∧ exec (.spiDataReady port x) s = .next s))
  ∧ (∀ (s : State) (port n : Nat) (t : Stream), s.clocked = true → s.streamBy (fun t => t.kind = 2 && t.port = port) = some (n, t) →
    exec (.spiDrdyMiss port) s = .next { s with sen := { s.sen with streams := NMap.put s.sen.streams n { t with misses := t.misses + 1 } } })
  ∧ (∀ (s : State) (port : Nat), s.clocked = true → port < 12 → s.sen.t1Up.getD port false = true →
    let v : State := { s with sen := { s.sen with t1Up := setAt s.sen.t1Up port false, t1Losses := setAt s.sen.t1Losses port (s.sen.t1Losses.getD port 0 + 1) } }
    exec (.t1LinkLoss port) s = .next (if 10 ≤ port then v.logIt .driveRing port else v))
  ∧ (∀ (s : State) (port : Nat), s.pwr.phase = .up → port < 12 →
    let v : State := { s with sen := { s.sen with t1Up := setAt s.sen.t1Up port true } }
    exec (.t1LinkReturn port) s = .next (v.servePort port (v.txWaiting port)))

/-- CHANNEL_ENABLE with ON 1 of a channel that is on completes with its last inrush; of one that is off it unlatches the channel, sets its limit, starts an inrush and waits. With ON 0 it switches the channel off, ends a waiting ON ABORTED and completes. An inrush that completes in its window turns the channel on and completes those that wait with the retries used and the time; one that does not is paused after rail droop and tried again, at most three times, and otherwise the channel is fenced with cause 2. A trip of a fed channel fences it with cause 1: it is off and latched. An IMU supply that is on folds back and comes back. -/
def Obligations.Channels : Prop :=
  (∀ (src : Src) (p0 : Packet) (s : State), let p := p0.withField 3 31 31 1
    specChannelEnable.accepts src p s = true →
    let q := specChannelEnable.pkt p
    let u := specChannelEnable.taken src p s
    let c := channelOf q
    let x := u.chan c
    q.b 3 31 = true →
    exec (.channelEnableOn src p0) s = .next (if x.on then u.finish s.q.nextId 0 [channelNo c, x.used, x.us, 0]
      else (u.setChan c { x with fenced := false, limitMa := if q.f 4 15 0 = 0 then 550 else q.f 4 15 0, inrush := some { start := u.now } }).setJob s.q.nextId (.waits (.channel c))))
  ∧ (∀ (src : Src) (p0 : Packet) (s : State), let p := p0.withField 3 31 31 0
    specChannelEnable.accepts src p s = true →
    let q := specChannelEnable.pkt p
    let u := specChannelEnable.taken src p s
    let c := channelOf q
    let v := u.setChan c { u.chan c with on := false, inrush := none }
    q.b 3 31 = false →
    exec (.channelEnableOff src p0) s = .next (((v.chanWaiters c).foldl (fun y i => y.finish i 0x0300) v).finish s.q.nextId 0 [channelNo c]))
  ∧ (∀ (s : State) (c : Nat) (r : Inrush), s.clocked = true → (s.chan c).inrush = some r → r.paused = false →
    let us := (s.now - r.start) / 1000
    let v := s.setChan c { s.chan c with on := true, inrush := none, used := r.retries, us := us }
    exec (.inrushComplete c) s = .next ((v.chanWaiters c).foldl (fun y i => y.finish i 0 [channelNo c, r.retries, us, 0]) v)
    ∧ (r.retries < 3 → exec (.inrushWindowEnd c true) s = .next (s.setChan c { s.chan c with inrush := some { r with paused := true } }))
    ∧ exec (.inrushWindowEnd c false) s = .next (s.fenceChannel c 2)
    ∧ (3 ≤ r.retries → exec (.inrushWindowEnd c true) s = .next (s.fenceChannel c 2)))
  ∧ (∀ (s : State) (c : Nat) (r : Inrush), s.clocked = true → (s.chan c).inrush = some r → r.paused = true →
    exec (.inrushRetry c) s = .next (s.setChan c { s.chan c with inrush := some { retries := r.retries + 1, start := s.now } }))
  ∧ (∀ (s : State) (c : Nat), s.clocked = true → c < 32 → (s.chan c).on = true → exec (.shortTrip c) s = .next (s.fenceChannel c 1))
  ∧ (∀ (s : State) (c cause : Nat), c < 32 → s.sen.channels.length = 32 → s.chanWaiters c = [] → s.sen.streams = [] →
    ((s.fenceChannel c cause).chan c).on = false ∧ ((s.fenceChannel c cause).chan c).fenced = true)
  ∧ (∀ (s : State) (port : Nat) (folded : Bool), s.clocked = true → s.pwr.imuOn.getD port false = true →
    exec (.imuSupplyLimit port folded) s = .next { s with pwr := { s.pwr with imuFolded := setAt s.pwr.imuFolded port folded } })

/-- A write to bytes 4 to 7 of a NEXT register, from a source that reaches the page, of an output that software drives, arms the value of the upper word just written with the lower word last written (or written with it), at this tick; no other output changes. The same write from a source that does not reach the page is logged and changes no output. A reload at the start of a period puts the last value armed before this tick whole into ACTIVE, names the new period in LOAD_SEQ and leaves armed only what was armed in this tick; with nothing armed before this tick ACTIVE stays. A write of CFG that sets ENABLE starts period 0. -/
def Obligations.PwmRegisters : Prop :=
  (∀ (s : State) (who : Accessor) (n : Nat) (lo : Option Word) (hi : Word), s.clocked = true → pageOpen who = true → n < 24 → s.sen.pwm.length = 24 →
    (16 ≤ n ∨ (s.pwm n).mode ≠ 1) →
    let l := match lo with | some x => x.toNat % 2 ^ 24 | none => (s.pwm n).lo.toNat
    let v := l + hi.toNat % 2 ^ 24 * 2 ^ 32
    ∃ u : State, exec (.pwNextArm who n lo hi) s = .next u ∧ (u.pwm n).armed.getLast? = some (s.time.tick, v) ∧ (u.pwm n).isPending = true
      ∧ (u.pwm n).active = (s.pwm n).active ∧ (u.pwm n).lo = BitVec.ofNat 32 v ∧ (∀ k, k ≠ n → u.pwm k = s.pwm k) ∧ u.mem = s.mem ∧ u.pkts = s.pkts)
  ∧ (∀ (s : State) (who : Accessor) (n : Nat) (lo : Option Word) (hi : Word), s.clocked = true → pageOpen who = false →
    exec (.pwNextArm who n lo hi) s = .next (s.logIt .managementAccess))
  ∧ (∀ (s : State) (n : Nat), s.clocked = true → n < 16 → s.sen.pwm.length = 24 → (s.pwm n).enabled = true → s.sen.highZ = false →
    ∃ u : State, exec (.pwmReload n) s = .next u ∧ (u.pwm n).cur = ((s.pwm n).cur + 1) % 65536 ∧ (∀ k, k ≠ n → u.pwm k = s.pwm k)
      ∧ (∀ a, ((s.pwm n).armed.filter (fun a => a.1 < s.time.tick)).getLast? = some a →
        (u.pwm n).active = a.2 ∧ (u.pwm n).loadSeq = ((s.pwm n).cur + 1) % 65536 ∧ (u.pwm n).armed = (s.pwm n).armed.filter (fun a => decide (s.time.tick ≤ a.1)))
      ∧ ((s.pwm n).armed.filter (fun a => a.1 < s.time.tick) = [] → (u.pwm n).active = (s.pwm n).active ∧ (u.pwm n).loadSeq = (s.pwm n).loadSeq ∧ (u.pwm n).armed = (s.pwm n).armed))
  ∧ (∀ (s : State) (who : Accessor) (n : Nat) (v : Word), s.clocked = true → pageOpen who = true → n < 24 → s.sen.pwm.length = 24 →
    ∃ u : State, exec (.pwCfgWrite who n v) s = .next u ∧ (u.pwm n).cfg = BitVec.ofNat 32 (v.toNat &&& cfgBits n) ∧ (∀ k, k ≠ n → u.pwm k = s.pwm k)
      ∧ (bit (v.toNat &&& cfgBits n) 31 = true → (s.pwm n).enabled = false → (u.pwm n).cur = 0)
      ∧ ((s.pwm n).enabled = true → (u.pwm n).cur = (s.pwm n).cur ∧ (u.pwm n).active = (s.pwm n).active ∧ (u.pwm n).armed = (s.pwm n).armed))

/-- A TIME_STEP that passes its checks sets device time to the time it names, or to the present time plus its signed offset, marks the step as spent and completes with the TS32 before and after. One that would pass its checks but for a step that is spent ends STEP_SPENT. A TIME_RATE that passes its checks puts its rate in force with the increment per tick rounded once to the nearest multiple of 2^-32 ns, ties to even, and completes with the previous rate; device time does not move. A read of TIME_N from a source that reaches the page latches the seconds and the TS32 of the same instant, in the registers that are read with it. -/
def Obligations.DeviceTime : Prop :=
  (∀ (src : Src) (p0 : Packet) (s : State), let p := p0.withField 3 31 31 0
    specTimeStep.accepts src p s = true →
    let q := specTimeStep.pkt p
    let u := specTimeStep.taken src p s
    q.b 3 31 = false →
    let t := (q.word 5 + q.f 6 15 0 * 2 ^ 32) * 10 ^ 9 + q.word 4
    q.word 4 < 10 ^ 9 ∧ exec (.timeStepSet src p0) s =
      .next (({ u with time := { u.time with ns := t, frac := 0, stepUsed := true } } : State).finish s.q.nextId 0 [ts32 s.now, ts32 t]))
  ∧ (∀ (src : Src) (p0 : Packet) (s : State), let p := p0.withField 3 31 31 1
    specTimeStep.accepts src p s = true →
    let q := specTimeStep.pkt p
    let u := specTimeStep.taken src p s
    q.b 3 31 = true →
    let t : Int := s.now + sext 64 (q.word 4 + q.word 5 * 2 ^ 32)
    0 ≤ t ∧ t < 2 ^ 48 * 10 ^ 9 ∧ exec (.timeStepAdd src p0) s =
      .next (({ u with time := { u.time with ns := t.toNat, stepUsed := true } } : State).finish s.q.nextId 0 [ts32 s.now, ts32 t.toNat]))
  ∧ (∀ (src : Src) (p0 : Packet) (s : State), s.time.stepUsed = true →
    let s0 : State := { s with time := { s.time with stepUsed := false } }
    let p := p0.withField 3 31 31 0
    let p1 := p0.withField 3 31 31 1
    (specTimeStep.accepts src p s0 = true → exec (.timeStepSet src p0) s = .next ((specTimeStep.taken src p s).finish s.q.nextId 0x0402))
    ∧ (specTimeStep.accepts src p1 s0 = true → exec (.timeStepAdd src p0) s = .next ((specTimeStep.taken src p1 s).finish s.q.nextId 0x0402)))
  ∧ (∀ (src : Src) (p : Packet) (s : State), specTimeRate.accepts src p s = true →
    let q := specTimeRate.pkt p
    let u := specTimeRate.taken src p s
    let rho := sext 32 (q.word 3)
    rho ≤ 500000 ∧ -500000 ≤ rho ∧ exec (.timeRate src p) s =
      .next (({ u with time := { u.time with rho := rho, inc := tickInc rho } } : State).finish s.q.nextId 0 [(s.time.rho % 2 ^ 32).toNat]))
  ∧ (∀ rho : Int, -500000 ≤ rho → rho ≤ 500000 →
    let x := 4 * 2 ^ 32 * (10 ^ 9 + rho).toNat
    2 * tickInc rho * 10 ^ 9 ≤ 2 * x + 10 ^ 9 ∧ 2 * x ≤ 2 * tickInc rho * 10 ^ 9 + 10 ^ 9
      ∧ (2 * tickInc rho * 10 ^ 9 = 2 * x + 10 ^ 9 ∨ 2 * x = 2 * tickInc rho * 10 ^ 9 + 10 ^ 9 → tickInc rho % 2 = 0))
  ∧ (∀ (s : State) (who : Accessor), s.clocked = true → pageOpen who = true →
    exec (.timeNRead who) s = .next { s with time := { s.time with sLo := BitVec.ofNat 32 (s.now / 10 ^ 9), sHi := BitVec.ofNat 32 (s.now / 10 ^ 9 / 2 ^ 32), ts32 := BitVec.ofNat 32 (s.now % 2 ^ 32) } })

/-- A LAUNCH_CONFIG that passes its checks gives the queue its ring, empty, or with RELEASE takes it away. A DOORBELL write of a queue without a ring changes nothing, one that reaches beyond the ring's entries is ignored and logged, and any other makes the descriptors available, and on a transmit queue sends those that may go. The head descriptor of a transmit queue, whose fields are as they must be, is sent and the head steps; a malformed one is skipped and counted; one with a launch time in the future stays. A received frame goes to the ring of its priority with its completion, or is dropped and logged where there is no ring or no descriptor. A read of a timestamp entry pops it. -/
def Obligations.HostQueues : Prop :=
  (∀ (src : Src) (p0 : Packet) (s : State), let p := p0.withField 3 23 23 0
    specLaunchConfig.accepts src p s = true →
    let q := specLaunchConfig.pkt p
    let u := specLaunchConfig.taken src p s
    q.b 3 23 = false →
    exec (.launchConfigConfigure src p0) s = .next ((u.setQueue (queueKey (q.f 3 12 8) (q.f 3 28 28) (q.f 3 2 0))
      { ctx := q.ctx, ring := q.addr 4, sizeLog2 := q.f 3 27 24, launch := q.b 3 29, late := q.f 3 31 30 }).finish s.q.nextId 0))
  ∧ (∀ (src : Src) (p0 : Packet) (s : State), let p := p0.withField 3 23 23 1
    specLaunchConfig.accepts src p s = true →
    let q := specLaunchConfig.pkt p
    let u := specLaunchConfig.taken src p s
    q.b 3 23 = true →
    exec (.launchConfigRelease src p0) s =
      .next (({ u with time := { u.time with queues := NMap.del u.time.queues (queueKey (q.f 3 12 8) (q.f 3 28 28) (q.f 3 2 0)) } } : State).finish s.q.nextId 0))
  ∧ (∀ (s : State) (who : Accessor) (port dir queue : Nat) (v : Word), s.clocked = true → pageOpen who = true →
    let k := queueKey port dir queue
    let x : Index := BitVec.ofNat 16 v.toNat
    (NMap.get? s.time.queues k = none → exec (.hostQueueDoorbell who port dir queue v) s = .next s)
    ∧ ∀ h : HostQueue, NMap.get? s.time.queues k = some h →
      (2 ^ h.sizeLog2 < (x - h.head).toNat → exec (.hostQueueDoorbell who port dir queue v) s = .next (s.logIt .refused k x.toNat))
      ∧ ((x - h.head).toNat ≤ 2 ^ h.sizeLog2 → let u := s.setQueue k { h with tail := x }
          exec (.hostQueueDoorbell who port dir queue v) s = .next (if dir = 0 then u.servePort port (u.txWaiting port) else u)))
  ∧ (∀ (s : State) (port queue : Nat) (h : HostQueue), s.clocked = true → NMap.get? s.time.queues (queueKey port 0 queue) = some h →
    exec (.launchTime port queue) s = .next (s.servePort port (s.txWaiting port)))
  ∧ (∀ (s : State) (port q : Nat) (h : HostQueue), NMap.get? s.time.queues (queueKey port 0 q) = some h →
    let a := h.ring + 32 * (h.head.toNat % 2 ^ h.sizeLog2)
    let d := s.loadNat a 32
    let due := (bits d 159 128 + bits d 175 160 * 2 ^ 32) * 10 ^ 9 + bits d 127 96
    let v := s.setQueue (queueKey port 0 q) { h with head := h.head + 1 }
    (h.tail = h.head → s.txOne port q = none)
    ∧ (h.tail ≠ h.head → s.ringOk h.ctx a 32 false = true →
      (malformed h.launch d = true → s.txOne port q = some (s.setQueue (queueKey port 0 q) { h with head := h.head + 1, malformed := satAdd 0xFFFFFFFF h.malformed 1 }))
      ∧ (malformed h.launch d = false → bit d 95 = true → s.now < due → s.txOne port q = none)
      ∧ (malformed h.launch d = false → bit d 95 = false → bit d 94 = false → s.ringOk h.ctx (bits d 47 0) (bits d 63 48) false = true →
          s.txOne port q = some (v.sendEth port (s.load (bits d 47 0) (bits d 63 48))))
      ∧ (malformed h.launch d = false → bit d 95 = true → due ≤ s.now → s.now ≤ due + 1000 → s.ringOk h.ctx (bits d 47 0) (bits d 63 48) false = true →
          s.txOne port q = some ((v.sendEth port (s.load (bits d 47 0) (bits d 63 48))).pushTs port ⟨0, bits d 79 64, ts32 s.now⟩))))
  ∧ (∀ (s : State) (port : Nat) (frame : List Byte), s.pwr.phase = .up → s.portUp port = true →
    let k := queueKey port 1 (ethHead frame).2.2.2
    (NMap.get? s.time.queues k = none → exec (.hostFrameReceive port frame) s = .next (s.logIt .dropped port 1))
    ∧ ∀ h : HostQueue, NMap.get? s.time.queues k = some h →
      let a := h.ring + 32 * (h.head.toNat % 2 ^ h.sizeLog2)
      let buf := bits (s.loadNat a 32) 47 0
      (h.tail = h.head → exec (.hostFrameReceive port frame) s = .next (s.logIt .dropped port 1))
      ∧ (h.tail ≠ h.head → s.ringOk h.ctx a 32 true = true → s.ringOk h.ctx buf frame.length true = true →
        ∃ u : State, exec (.hostFrameReceive port frame) s = .next u ∧ NMap.get? u.time.queues k = some { h with head := h.head + 1 } ∧ u.pkts = s.pkts ∧ u.q = s.q
          ∧ u.mem = memPuts (memPuts s.mem buf frame) a (leBytes 32 (frame.length % 2 ^ 16 * 2 ^ 48 + (ptpEvent frame).toNat * 2 ^ 95 + ts32 s.now * 2 ^ 96))))
  ∧ (∀ (s : State) (who : Accessor) (port : Nat), s.clocked = true → pageOpen who = true →
    ∃ u : State, exec (.tsqPop who port) s = .next u ∧ (NMap.getD u.time.tsq port {}).entries = (NMap.getD s.time.tsq port {}).entries.drop 1
      ∧ ∀ k, k ≠ port → NMap.getD u.time.tsq k {} = NMap.getD s.time.tsq k {})

/-- Where the packet passes its checks: TRIGGER_SET whose first occurrence that still has its lead is occurrence k, within the trigger's count, replaces the output's trigger, counts the k skipped ones and completes with k and the TS32 at which it is due. With CANCEL the output has no trigger. An occurrence that was set with its lead fires: it is counted, its time is kept and the next one is due, or the trigger is gone after its last; one that lacked its lead is counted as skipped. CAPTURE_ARM arms the input for the edges named, its SEQ at 0, and disarms it. An edge of the armed kind is queued with the next SEQ and its TS32, or counted as lost where the queue is full; an edge of another kind or on a disarmed input does nothing. A read of a captured edge pops it. -/
def Obligations.TriggersAndCaptures : Prop :=
  (∀ (src : Src) (p0 : Packet) (s : State), let p := p0.withField 3 31 31 0
    specTriggerSet.accepts src p s = true →
    let q := specTriggerSet.pkt p
    let u := specTriggerSet.taken src p s
    let n := triggerOutput q
    let t : Trigger := { ctx := q.ctx, first := (q.word 5 + q.f 6 15 0 * 2 ^ 32) * 10 ^ 9 + q.word 4, period := q.word 7, width := q.f 8 19 0, count := q.word 9, since := s.now }
    let k := t.from_ (s.now + u.triggerLead n)
    q.b 3 31 = false → (∀ m, t.limit = some m → k < m) →
    ∃ v : State, exec (.triggerSet src p0) s = .next (v.finish s.q.nextId 0 [k, ts32 (t.first + k * t.period)])
      ∧ NMap.get? v.time.triggers n = some { t with next := k } ∧ (NMap.getD v.time.trigStat n {}).skipped = min k 0xFFFF
      ∧ (∀ j, j ≠ n → NMap.get? v.time.triggers j = NMap.get? s.time.triggers j) ∧ v.mem = s.mem ∧ v.time.captures = s.time.captures)
  ∧ (∀ (src : Src) (p0 : Packet) (s : State), let p := p0.withField 3 31 31 1
    specTriggerSet.accepts src p s = true →
    let q := specTriggerSet.pkt p
    let u := specTriggerSet.taken src p s
    q.b 3 31 = true →
    exec (.triggerCancel src p0) s = .next (({ u with time := { u.time with triggers := NMap.del u.time.triggers (triggerOutput q) } } : State).finish s.q.nextId 0))
  ∧ (∀ (s : State) (n : Nat) (t : Trigger), s.clocked = true → NMap.get? s.time.triggers n = some t → s.tiedLamps n = [] →
    let fires := decide (t.since + s.triggerLead n ≤ t.due t.next)
    let a := NMap.getD s.time.trigStat n {}
    ∃ u : State, exec (.triggerOccurrence n) s = .next u
      ∧ NMap.getD u.time.trigStat n {} = (if fires then { a with fired := (a.fired + 1) % 65536, times := (t.due t.next :: a.times).take 8 } else { a with skipped := satAdd 0xFFFF a.skipped 1 })
      ∧ ((∀ m, t.limit = some m → t.next + 1 < m) → NMap.get? u.time.triggers n = some { t with next := t.next + 1 })
      ∧ (∀ m, t.limit = some m → m ≤ t.next + 1 → NMap.get? u.time.triggers n = none)
      ∧ (∀ j, j ≠ n → NMap.get? u.time.triggers j = NMap.get? s.time.triggers j) ∧ u.mem = s.mem ∧ u.pkts = s.pkts ∧ u.sen = s.sen)
  ∧ (∀ (src : Src) (p0 : Packet) (s : State), let p := p0.withField 3 31 31 0
    specCaptureArm.accepts src p s = true →
    let q := specCaptureArm.pkt p
    let u := specCaptureArm.taken src p s
    let i := q.f 3 1 0
    q.b 3 31 = false →
    exec (.captureArm src p0) s = .next (({ u with time := { u.time with captures := setAt u.time.captures i { u.time.captures.getD i {} with ctx := some q.ctx, edge := q.f 3 30 29, seq := 0 } } } : State).finish s.q.nextId 0))
  ∧ (∀ (src : Src) (p0 : Packet) (s : State), let p := p0.withField 3 31 31 1
    specCaptureArm.accepts src p s = true →
    let q := specCaptureArm.pkt p
    let u := specCaptureArm.taken src p s
    let i := q.f 3 1 0
    q.b 3 31 = true →
    exec (.captureDisarm src p0) s = .next (({ u with time := { u.time with captures := setAt u.time.captures i { u.time.captures.getD i {} with ctx := none } } } : State).finish s.q.nextId 0))
  ∧ (∀ (s : State) (i : Nat) (rising : Bool), s.clocked = true → i < 4 →
    let c := s.time.captures.getD i {}
    let n := (c.seq + 1) % 65536
    (c.ctx = none ∨ bit c.edge (if rising then 0 else 1) = false → exec (.edgeCapture i rising) s = .next s)
    ∧ (c.ctx ≠ none → bit c.edge (if rising then 0 else 1) = true →
      exec (.edgeCapture i rising) s = .next { s with time := { s.time with captures := setAt s.time.captures i (if 16 ≤ c.entries.length then { c with seq := n, overflow := true, lost := satAdd 0xFFFF c.lost 1 } else { c with seq := n, entries := c.entries ++ [⟨rising, n, ts32 s.now⟩] }) } }))
  ∧ (∀ (s : State) (who : Accessor) (i : Nat), s.clocked = true → pageOpen who = true →
    exec (.capPop who i) s = .next { s with time := { s.time with captures := setAt s.time.captures i { s.time.captures.getD i {} with entries := (s.time.captures.getD i {}).entries.drop 1 } } })

/-- Where the packet passes its checks: create copies the group record into the lowest free of 16 groups and completes with the group and the record's bytes, or ends NO_SPACE with resource 0x0D. reconfigure replaces a stopped group's record, with its fence, counts and voted-out members cleared and its opener and vote parameters kept. delete removes the group. start empties its windows and starts it at the first window whose earliest nominal time is later than now. stop empties its windows and stops it, keeping counts and voted-out members. VOTE_CONFIG sets the vote parameters. -/
def Obligations.GroupCommands : Prop :=
  (∀ (src : Src) (p0 : Packet) (s : State), let p := p0.withField 3 31 30 0
    specGroupCreate.accepts src p s = true →
    let u := specGroupCreate.taken src p s
    let g := u.readGroup (specGroupCreate.env src p s)
    ((∀ k < 16, NMap.has u.sen.groups k = true) → exec (.groupConfigCreate src p0) s = .next (u.finish s.q.nextId 0x0200 [0xD]))
    ∧ ∀ n < 16, NMap.has u.sen.groups n = false → (∀ k < n, NMap.has u.sen.groups k = true) →
      exec (.groupConfigCreate src p0) s =
        .next (({ u with sen := { u.sen with groups := NMap.put u.sen.groups n g } } : State).finish s.q.nextId 0 [n, g.record.length]))
  ∧ (∀ (src : Src) (p0 : Packet) (s : State), let p := p0.withField 3 31 30 1
    specGroupReconfigure.accepts src p s = true →
    let u := specGroupReconfigure.taken src p s
    let n := (specGroupReconfigure.pkt p).f 3 3 0
    let g := u.readGroup (specGroupReconfigure.env src p s)
    exec (.groupConfigReconfigure src p0) s =
      .next ((u.setGroup n (fun o => { g with opener := o.opener, n := o.n, m := o.m, thresh := o.thresh, minCells := o.minCells })).finish s.q.nextId 0 [n, g.record.length]))
  ∧ (∀ (src : Src) (p0 : Packet) (s : State), let p := p0.withField 3 31 30 2
    specGroupDelete.accepts src p s = true →
    let u := specGroupDelete.taken src p s
    let n := (specGroupDelete.pkt p).f 3 3 0
    exec (.groupConfigDelete src p0) s = .next (({ u with sen := { u.sen with groups := NMap.del u.sen.groups n } } : State).finish s.q.nextId 0 [n, 0]))
  ∧ (∀ (src : Src) (p : Packet) (s : State), specGroupStart.accepts src p s = true →
    let u := specGroupStart.taken src p s
    exec (.groupStart src p) s = .next ((u.setGroup ((specGroupStart.pkt p).f 3 3 0) (fun g =>
      { g with started := true, next := g.firstWindow s.now, unpaired := false, windows := [], past := [], lastSample := [], health := [] })).finish s.q.nextId 0))
  ∧ (∀ (src : Src) (p : Packet) (s : State), specGroupStop.accepts src p s = true →
    let u := specGroupStop.taken src p s
    exec (.groupStop src p) s = .next ((u.setGroup ((specGroupStop.pkt p).f 3 3 0) (fun g =>
      { g with started := false, windows := [], past := [], lastSample := [], health := [] })).finish s.q.nextId 0))
  ∧ (∀ (src : Src) (p : Packet) (s : State), specVoteConfig.accepts src p s = true →
    let q := specVoteConfig.pkt p
    let u := specVoteConfig.taken src p s
    exec (.voteConfig src p) s = .next ((u.setGroup (q.f 3 3 0) (fun g =>
      { g with n := q.f 4 31 24, m := q.f 4 23 16, thresh := q.f 4 15 8, minCells := q.f 5 11 0 })).finish s.q.nextId 0))

/-- In a module that is up: the deadline of a group's window releases it and every later window that is complete. A release by a started group whose output ring it can reach moves the group to the next window; a slot still in use drops the window, which is counted as an overrun and changes no memory; a template that finds no room on its bobbin is counted as a miss. A group whose output ring is out of reach is fenced. The supply deadline decides the oldest undecided window of a group without tracks and without a partner: a checked member whose frame was missing counts one disagreement more, members without a check keep their counts, and a member is voted out only where it has reached N disagreements. The health record of a paired group's oldest unsent window goes to its partner, once. -/
def Obligations.GroupWindows : Prop :=
  (∀ (s : State) (n : Nat), s.pwr.phase = .up → exec (.windowDeadline n) s = .next ((s.releaseWindow n true).releaseReady n 9))
  ∧ (∀ (s : State) (n : Nat) (g : Group) (d : Bool), NMap.get? s.sen.groups n = some g → g.started = true → s.outReach g = true →
    let slot := g.outNext % g.outSlots
    let busy := g.posted.any (fun x => x.1 = slot && s.postedBusy (g.head 207 200) x.2)
    ∃ h : Group, NMap.get? (s.releaseWindow n d).sen.groups n = some h ∧ h.next = g.next + 1 ∧ (∀ w ∈ h.windows, w.k ≠ g.next) ∧ h.past.length = g.past.length + 1
      ∧ (busy = true → h.overruns = g.overruns + 1 ∧ h.outNext = g.outNext ∧ (s.releaseWindow n d).mem = s.mem ∧ (s.releaseWindow n d).q = s.q)
      ∧ (busy = false → h.outNext = slot + 1 ∧ ((s.bob (g.head 207 200)).mode ≠ .running → h.misses = g.misses + 1 ∧ (s.releaseWindow n d).q = s.q)))
  ∧ (∀ (s : State) (n : Nat) (g : Group) (d : Bool), NMap.get? s.sen.groups n = some g → g.started = true → s.outReach g = false →
    s.releaseWindow n d = s.fenceGroup n 2)
  ∧ (∀ (s : State) (n : Nat) (g : Group) (p : Past) (rest : List Past), s.pwr.phase = .up → NMap.get? s.sen.groups n = some g → g.past = p :: rest →
    g.lev 2 = false → g.paired = false → 1 ≤ g.m →
    ∃ (t : State) (h : Group), exec (.supplyDeadline n) s = .next t ∧ NMap.get? t.sen.groups n = some h ∧ h.past = rest ∧ h.windows = g.windows
      ∧ (∀ i, i < g.count → g.check i ≠ 0 → p.missing.contains i = true → NMap.getD h.dis i 0 = NMap.getD g.dis i 0 + 1 ∧ NMap.getD h.con i 0 = 0)
      ∧ (∀ i, i < g.count → g.check i = 0 → g.voted.contains i = false → NMap.getD h.dis i 0 = NMap.getD g.dis i 0 ∧ NMap.getD h.con i 0 = NMap.getD g.con i 0)
      ∧ (∀ i ∈ h.voted, i ∈ g.voted ∨ (g.check i ≠ 0 ∧ g.n ≤ NMap.getD g.dis i 0 + 1)))
  ∧ (∀ (s : State) (n m : Nat) (g : Group) (p : Past), s.clocked = true → NMap.get? s.sen.groups n = some g → g.paired = true → s.dev.role ≠ .solo → g.started = true →
    g.mismatch = false → g.past.find? (fun p => !p.sent) = some p → s.partners = [m] →
    exec (.healthRecordDue n) s = .next ((s.plySend m (.health (g.healthOf p p.grids))).setGroup n (fun g =>
      { g with past := g.past.map (fun x => if x.k = p.k then { x with sent := true } else x) })))

/-- Where the packet passes its checks: create ends NO_SPACE with resource 0x21 at eight configurations, else the context has the configuration of the record with an empty map and no plan, as after reconfigure; the reply starts with the store's bytes and the sub-steps. delete removes it. With no earlier planner packet of the context: a plan-mode cycle outside a draft is in flight with the plan set that it made, a check-mode cycle writes its verdict, and a map update whose records would pass PRIM_MAX ends NO_SPACE with resource 0x22 and otherwise is in flight with the map it built; behind an earlier planner packet each of them waits and changes nothing. At its commit point the map built becomes the active one with the next version. A failed slice is out of service, and cause 2 is raised where a reservation then runs on fewer slices than it holds. -/
def Obligations.PlannerCommands : Prop :=
  (∀ (src : Src) (p0 : Packet) (s : State), let p := p0.withField 3 31 30 0
    specPlanCreate.accepts src p s = true →
    let u := specPlanCreate.taken src p s
    let g := u.readPlan (specPlanCreate.env src p s)
    (8 ≤ u.eng.plans.length → exec (.planConfigCreate src p0) s = .next (u.finish s.q.nextId 0x0200 [0x21]))
    ∧ (u.eng.plans.length < 8 → ∃ (v : State) (d : List Nat), exec (.planConfigCreate src p0) s = .next (v.finish s.q.nextId 0 ([g.storeBytes, g.substeps.getD 16] ++ d))
        ∧ v.eng.plans = NMap.put s.eng.plans (specPlanCreate.pkt p).ctx g ∧ g.map = {} ∧ g.committed = none ∧ v.mem = s.mem ∧ v.q.bobbins = u.q.bobbins))
  ∧ (∀ (src : Src) (p0 : Packet) (s : State), let p := p0.withField 3 31 30 1
    specPlanReconfigure.accepts src p s = true →
    let u := specPlanReconfigure.taken src p s
    let g := u.readPlan (specPlanReconfigure.env src p s)
    ∃ (v : State) (d : List Nat), exec (.planConfigReconfigure src p0) s = .next (v.finish s.q.nextId 0 ([g.storeBytes, g.substeps.getD 16] ++ d))
      ∧ v.eng.plans = NMap.put s.eng.plans (specPlanReconfigure.pkt p).ctx g ∧ g.map = {} ∧ g.committed = none ∧ v.mem = s.mem)
  ∧ (∀ (src : Src) (p0 : Packet) (s : State), let p := p0.withField 3 31 30 2
    specPlanDelete.accepts src p s = true →
    ∃ v : State, exec (.planConfigDelete src p0) s = .next (v.finish s.q.nextId 0) ∧ v.eng.plans = NMap.del s.eng.plans (specPlanDelete.pkt p).ctx ∧ v.mem = s.mem)
  ∧ (∀ (src : Src) (p0 : Packet) (s : State) (g : PlanConfig), let p := p0.withField 3 31 30 0
    specPlanCycle.accepts src p s = true →
    let q := specPlanCycle.pkt p
    let u := specPlanCycle.taken src p s
    NMap.get? u.eng.plans q.ctx = some g →
    (((u.plannerOf q.ctx).any (fun o => decide (o.id < s.q.nextId)) = true → exec (.planCyclePlan src p0) s = .next (u.setJob s.q.nextId (.waits .retry)))
    ∧ ((u.plannerOf q.ctx).any (fun o => decide (o.id < s.q.nextId)) = false → q.level = 0 →
      ∃ (v : State) (w : Work) (h : PlanConfig), exec (.planCyclePlan src p0) s = .next (v.startWork (specPlanCycle.env src p s) w)
        ∧ w.after = [.plan q.ctx (some s.q.nextId)] ∧ w.writes = [] ∧ NMap.get? v.eng.plans q.ctx = some h
        ∧ NMap.get? h.made s.q.nextId = some (g.cycleSet (u.cycleIn g q) (u.planSeen g q)) ∧ h.committed = g.committed ∧ h.map = g.map ∧ v.mem = s.mem)))
  ∧ (∀ (src : Src) (p0 : Packet) (s : State) (g : PlanConfig), let p := p0.withField 3 31 30 1
    specPlanCheck.accepts src p s = true →
    let q := specPlanCheck.pkt p
    let u := specPlanCheck.taken src p s
    NMap.get? u.eng.plans q.ctx = some g →
    let v := g.verdict (u.load (q.addr 4) 64) (u.load (refAddr q) 64)
    exec (.planCycleCheck src p0) s = .next (if (u.plannerOf q.ctx).any (fun o => decide (o.id < s.q.nextId)) then u.setJob s.q.nextId (.waits .retry)
      else u.startWork (specPlanCheck.env src p s) { reads := [(q.addr 4, 64), (refAddr q, 64)], writes := [⟨supAddr q, leBytes 4 v⟩], details := [v, 0, 0, 0] }))
  ∧ (∀ (replace : Bool) (src : Src) (p0 : Packet) (s : State) (g : PlanConfig),
    let sp := if replace then specMapReplace else specMapPatch
    let i := if replace then Instr.mapUpdateReplace src p0 else Instr.mapUpdatePatch src p0
    let p := p0.withField 3 31 30 (if replace then 0 else 1)
    sp.accepts src p s = true →
    let q := sp.pkt p
    let u := sp.taken src p s
    NMap.get? u.eng.plans q.ctx = some g → (u.plannerOf q.ctx).any (fun o => decide (o.id < s.q.nextId)) = false → decide (q.f 3 31 30 = 0) = replace →
    let stamp := ageOf (u.load (q.addr 4) 16)
    let first : PlanMap := if replace then { voxels := (List.range (g.nx * g.ny * g.nz)).filter (fun v => (memGet u.mem (q.addr 4 + 64 + v / 8)).getLsbD (v % 8)), prims := [], stamp := stamp, version := g.map.version }
      else { g.map with stamp := older g.map.stamp stamp }
    match g.applyRecs stamp first (u.mapRecs g q) with
    | none => exec i s = .next (u.finish s.q.nextId 0x0200 [0x22])
    | some m => ∃ (v : State) (h : PlanConfig), exec i s = .next (v.startWork (sp.env src p s) { reads := [(q.addr 4, g.blockBytes q)], after := [.mapSwap q.ctx s.q.nextId] })
        ∧ NMap.get? v.eng.plans q.ctx = some h ∧ NMap.get? h.maps s.q.nextId = some m ∧ h.map = g.map ∧ h.ready = g.ready)
  ∧ (∀ (s : State) (c pkt : Nat) (g : PlanConfig) (m : PlanMap), NMap.get? s.eng.plans c = some g → NMap.get? g.maps pkt = some m → g.committed = none →
    ∃ h : PlanConfig, NMap.get? (s.swapMap c pkt).1.eng.plans c = some h ∧ h.map = { m with version := g.map.version + 1 } ∧ h.ready = true
      ∧ (s.swapMap c pkt).2 = [g.map.version + 1, 3, 0xFFFFFFFF, m.prims.length])
  ∧ (∀ (s : State) (k : Nat), s.clocked = true → k < 32 → s.unitOut 0xC k = false →
    let v : State := { s with spl := { s.spl with out := s.spl.out ++ [unitKey 0xC k] } }
    let u := v.fence 0 0 0 0xC k 1
    exec (.plannerSliceFault k none) s = .next (if u.slicesWhole then u else (u.fence 0 0 0 0xC k 2).raise 2))

/-- Where the packet passes its checks: create ends NO_SPACE with resource 0x23 at eight systems, else the system is that of the record on its own pipe where that is healthy, as after reconfigure. delete removes it. A SOLVE behind an earlier one of its system waits; one of a fenced system ends FENCED with unit class 0x0D, the pipe and the cause; one of a system whose store is poisoned ends FENCED for data loss and the system is invalid; any other is in flight with the solution it found for its working parameters, and the system is otherwise as it was. A pipe without a system that fails is fenced. -/
def Obligations.SolveCommands : Prop :=
  (∀ (src : Src) (p0 : Packet) (s : State), let p := p0.withField 3 31 30 0
    specSolveCreate.accepts src p s = true →
    let u := specSolveCreate.taken src p s
    let n := (specSolveCreate.pkt p).f 3 2 0
    let y := u.readSystem (specSolveCreate.env src p s)
    (8 ≤ u.eng.solves.length → exec (.solveConfigCreate src p0) s = .next (u.finish s.q.nextId 0x0200 [0x23]))
    ∧ (u.eng.solves.length < 8 → u.freePipe n = some n → ∃ (v : State) (t : Nat),
        exec (.solveConfigCreate src p0) s = .next (v.finish s.q.nextId 0 [y.storeBytes, y.tAsm, t, 0]) ∧ v.eng.solves = NMap.put s.eng.solves n { y with pipe := n } ∧ v.mem = s.mem))
  ∧ (∀ (src : Src) (p0 : Packet) (s : State), let p := p0.withField 3 31 30 1
    specSolveReconfigure.accepts src p s = true →
    let u := specSolveReconfigure.taken src p s
    let n := (specSolveReconfigure.pkt p).f 3 2 0
    let y := u.readSystem (specSolveReconfigure.env src p s)
    u.freePipe n = some n → ∃ (v : State) (t : Nat), exec (.solveConfigReconfigure src p0) s = .next (v.finish s.q.nextId 0 [y.storeBytes, y.tAsm, t, 0])
      ∧ v.eng.solves = NMap.put s.eng.solves n { y with pipe := n } ∧ v.mem = s.mem)
  ∧ (∀ (src : Src) (p0 : Packet) (s : State), let p := p0.withField 3 31 30 2
    specSolveDelete.accepts src p s = true →
    let u := specSolveDelete.taken src p s
    exec (.solveConfigDelete src p0) s =
      .next (({ u with eng := { u.eng with solves := NMap.del u.eng.solves ((specSolveDelete.pkt p).f 3 2 0) } } : State).finish s.q.nextId 0))
  ∧ (∀ (src : Src) (p : Packet) (s : State) (y : SolveSys), specSolve.accepts src p s = true →
    let q := specSolve.pkt p
    let u := specSolve.taken src p s
    let n := q.f 3 2 0
    let first := !(u.solvesOf n).any (fun o => decide (o.id < s.q.nextId))
    NMap.get? u.eng.solves n = some y →
    (first = false → exec (.solve src p) s = .next (u.setJob s.q.nextId (.waits .retry)))
    ∧ (first = true → ∀ c, y.fenced = some c → exec (.solve src p) s = .next (u.finish s.q.nextId 0x0303 [0xD, y.pipe, c, 0]))
    ∧ (first = true → y.fenced = none → u.storePoison y = true →
        ∃ (v : State) (d : List Nat), exec (.solve src p) s = .next (v.finish s.q.nextId 0x0303 d) ∧ NMap.get? v.eng.solves n = some { y with valid := false } ∧ v.mem = s.mem)
    ∧ (first = true → y.fenced = none → u.storePoison y = false →
        let k := q.f 5 31 16
        let b := q.f 6 15 0
        let meas := u.words (measAddr q + 64) k
        let ps := (List.range y.nParam).map (fun i => if b ≤ i && i < b + k then meas.getD (i - b) 0 else y.params.getD i 0)
        let r := { y.solve ps (q.b 3 31) with stamp := older (if k = 0 then none else ageOf (u.load (measAddr q) 16)) (if y.usePlan then y.planStamp else none) }
        ∃ (v : State) (z : SolveSys), exec (.solve src p) s = .next (v.startWork (specSolve.env src p s) { reads := if k = 0 then [] else [(measAddr q, 64 + 4 * k)], after := [.solve n s.q.nextId] })
          ∧ NMap.get? v.eng.solves n = some z ∧ NMap.get? z.found s.q.nextId = some r ∧ z.params = y.params ∧ z.warm = y.warm ∧ v.mem = s.mem))
  ∧ (∀ (s : State) (pipe cause : Nat), s.clocked = true → pipe < 8 → (cause = 1 ∨ cause = 2) → s.unitOut 0xD pipe = false →
    (∀ x ∈ s.eng.solves, x.2.pipe ≠ pipe) →
    exec (.solvePipeFault pipe cause) s = .next (({ s with spl := { s.spl with out := s.spl.out ++ [unitKey 0xD pipe] } } : State).fence 0 0 0 0xD pipe cause))

/-- Where the packet passes its checks: create and reconfigure give the loop its record, with SAFE_VAL as its output, and complete with the loop and its depth; delete removes it; the ring record is read whole. A start without its outer loops makes the loop run from the first tick of START's grid at least 20 µs ahead, with its histories cleared to the output in force, unfenced and with its counts at 0, and completes with that tick and its TS32. A stop or hold of a stopped loop completes at once, and of any other waits for its tick. -/
def Obligations.LoopCommands : Prop :=
  (∀ (op : Nat) (src : Src) (p0 : Packet) (s : State), op < 2 →
    let sp := if op = 0 then specLoopCreate else specLoopReconfigure
    let i := if op = 0 then Instr.loopConfigCreate src p0 else Instr.loopConfigReconfigure src p0
    let p := p0.withField 3 31 30 op
    sp.accepts src p s = true →
    let u := sp.taken src p s
    let n := (sp.pkt p).f 3 6 0
    let l := u.readLoop (sp.env src p s)
    exec i s = .next (({ u with eng := { u.eng with loops := NMap.put u.eng.loops n { l with out := l.safeVal, outSafe := true } } } : State).finish s.q.nextId 0
      [n, loopDepth u.eng.loops l, 0, 0]))
  ∧ (∀ (src : Src) (p0 : Packet) (s : State), let p := p0.withField 3 31 30 2
    specLoopDelete.accepts src p s = true →
    let u := specLoopDelete.taken src p s
    let n := (specLoopDelete.pkt p).f 3 6 0
    exec (.loopConfigDelete src p0) s = .next (({ u with eng := { u.eng with loops := NMap.del u.eng.loops n } } : State).finish s.q.nextId 0 [n]))
  ∧ (∀ (src : Src) (p0 : Packet) (s : State), let p := p0.withField 3 31 30 3
    specLoopRing.accepts src p s = true →
    let u := specLoopRing.taken src p s
    exec (.loopConfigRing src p0) s = .next (({ u with eng := { u.eng with ring := some (u.load ((specLoopRing.pkt p).addr 4) 320) } } : State).finish s.q.nextId 0))
  ∧ (∀ (src : Src) (p : Packet) (s : State) (l : Loop), specLoopStart.accepts src p s = true →
    let q := specLoopStart.pkt p
    let u := specLoopStart.taken src p s
    let n := q.f 3 6 0
    let start := startTime q
    let k := if s.now + 20000 ≤ start then 0 else (s.now + 20000 - start + l.period - 1) / l.period
    q.b 3 31 = false → u.loop? n = some l →
    ∃ (v : State) (m : Loop), exec (.loopStart src p) s = .next (v.finish s.q.nextId 0 [k, ts32 (start + k * l.period)]) ∧ v.loop? n = some m
      ∧ m.mode = .running ∧ m.fenced = false ∧ m.start = start ∧ m.tick = k ∧ m.record = l.record ∧ m.e = [0, 0, 0] ∧ m.implausible = 0 ∧ m.missing = 0 ∧ m.model = none
      ∧ m.out = (if l.mode = .held then l.holdVal else l.safeVal) ∧ v.mem = s.mem ∧ ∀ j, j ≠ n → v.loop? j = s.loop? j)
  ∧ (∀ (hold : Bool) (src : Src) (p0 : Packet) (s : State) (l : Loop),
    let i := if hold then Instr.loopStopHold src p0 else Instr.loopStopStop src p0
    let p := p0.withField 3 31 30 hold.toNat
    specLoopStop.accepts src p s = true →
    let q := specLoopStop.pkt p
    let u := specLoopStop.taken src p s
    let n := q.f 3 6 0
    u.loop? n = some l →
    (l.mode = .stopped → exec i s = .next (u.finish s.q.nextId 0))
    ∧ (l.mode ≠ .stopped → exec i s = .next ((u.setJob s.q.nextId (.waits (.loopStop n))).setLoop n
        (fun x => { x with ending := x.ending ++ [⟨some s.q.nextId, decide (q.f 3 31 30 = 1), s.now + 2000⟩] }))))

/-- In a module that is up, with one loop configured: before its next tick is due nothing happens. At a due tick outside a pause, a running loop with a finite, plausible sample and a valid set-point takes the sample, steps its compensator to that set-point and moves to the next tick; a fenced loop outputs SAFE_VAL; a loop whose allowed number of samples is now missing is fenced, with SAFE_VAL as its output. Memory does not change. A feedback frame that is well formed and new stores each of its values with its capture time and arrival; a copy of the latest one is counted; a frame that fails its form or its CRC does nothing. -/
def Obligations.LoopTicks : Prop :=
  (∀ (s : State), s.pwr.phase = .up → (∀ x ∈ s.eng.loops, x.2.mode = .stopped ∨ s.now < x.2.start + x.2.tick * x.2.period) → exec .loopTick s = .next s)
  ∧ (∀ (s : State) (n f w : Nat) (l m : Loop), s.pwr.phase = .up → s.eng.loops = [(n, l)] → l.mode = .running → l.fenced = false → l.stuck = false → l.ending = [] →
    s.pauseStage = 0 → l.outer? = none → l.spKind = 2 → l.start + l.tick * l.period ≤ s.now → s.sample l (l.start + l.tick * l.period) = some f → finite32 f = true →
    ({ l with missing := 0, f := f } : Loop).plausible f = (m, false) → s.setPoint m = some w →
    ∃ u : State, exec .loopTick s = .next u ∧ u.loop? n = some { m.compensate w with tick := l.tick + 1 } ∧ u.mem = s.mem ∧ u.pkts = s.pkts ∧ u.q = s.q)
  ∧ (∀ (s : State) (n : Nat) (l : Loop), s.pwr.phase = .up → s.eng.loops = [(n, l)] → l.mode = .running → l.fenced = true → l.ending = [] →
    s.pauseStage = 0 → l.start + l.tick * l.period ≤ s.now →
    ∃ u : State, exec .loopTick s = .next u ∧ u.loop? n = some { l with out := l.safeVal, outSafe := true, tick := l.tick + 1 } ∧ u.mem = s.mem ∧ u.pkts = s.pkts)
  ∧ (∀ (s : State) (n : Nat) (l : Loop), s.pwr.phase = .up → s.eng.loops = [(n, l)] → l.mode = .running → l.fenced = false → l.ending = [] →
    s.pauseStage = 0 → l.outer? = none → l.start + l.tick * l.period ≤ s.now → s.sample l (l.start + l.tick * l.period) = none → l.hd 400 397 ≤ l.missing + 1 →
    ∃ (u : State) (m : Loop), exec .loopTick s = .next u ∧ u.loop? n = some m ∧ m.fenced = true ∧ m.out = l.safeVal ∧ m.outSafe = true ∧ u.pkts = s.pkts)
  ∧ (∀ (s : State) (can : Bool) (port id : Nat) (x : List Byte),
    let b (i : Nat) : Nat := (x.getD i 0).toNat
    let n := b 3
    let seq := b 4 + b 5 * 256
    let key := if can then 512 + (port * 2048 + id) * 16 else b 2 * 16
    let good := b 0 = 1 ∧ b 1 = 2 ∧ 1 ≤ n ∧ n ≤ 16 ∧ 16 + 8 * n ≤ x.length ∧ leNat ((x.drop (12 + 8 * n)).take 4) = crc32c (x.take (12 + 8 * n)) ∧ (can = true ∨ (1 ≤ b 2 ∧ b 2 ≤ 31))
    s.pwr.phase = .up → (can = true ∨ (port < 2 ∧ s.portUp (10 + port) = true)) →
    (¬ good → exec (.loopFeedbackFrame can port id x) s = .next s)
    ∧ (good → NMap.get? s.eng.ringRx key = some seq → exec (.loopFeedbackFrame can port id x) s = .next { s with eng := { s.eng with copies := s.eng.copies + 1 } })
    ∧ (good → NMap.get? s.eng.ringRx key ≠ some seq → ∃ u : State, exec (.loopFeedbackFrame can port id x) s = .next u
      ∧ NMap.get? u.eng.ringRx key = some seq ∧ u.eng.loops = s.eng.loops ∧ u.mem = s.mem
      ∧ ∀ i < n, (NMap.getD u.eng.feedback (key + i) []).getLast? =
          some ⟨s.now, leNat ((x.drop 6).take 4), bit (b (12 + 8 * i + 1)) 0, leNat ((x.drop (12 + 8 * i + 4)).take 4)⟩))

/-- In a module that is up: a named port in training, or down, that completes training is in training with trained lanes and sends a HELLO. The first lane error of a port splices in its spare lane, the second fences the port. A frame that failed at the neighbour is sent again as it stands in the retry buffer. A port that times out is down; a sender that has trained emits IDLE. Every 10 ms a node with a port that is up floods its record under the next sequence number, and a record not refreshed is removed. A table that follows from the database and differs from the active one is swapped in, with the next version; with no node left in the table cause 0 is in force, and with a node it is not. -/
def Obligations.PlyLinks : Prop :=
  (∀ (s : State) (n : Nat), s.pwr.phase = .up → s.ply.named.contains n = true → n < 6 →
    ((s.plyPort n).mode = .training → (s.plyPort n).trained = false → exec (.plyLinkTrained n) s = .next ((s.setPlyPort n (fun q => { q with trained := true })).sendHello n))
    ∧ ((s.plyPort n).mode = .down → exec (.plyLinkTrained n) s = .next ((s.setPlyPort n (fun q => { q with mode := .training, trained := true })).sendHello n)))
  ∧ (∀ (s : State) (n : Nat), s.clocked = true → n < 6 → (s.plyPort n).mode ≠ .down → (s.plyPort n).mode ≠ .fenced →
    ((s.plyPort n).spareIn = false → exec (.plyLaneError n) s = .next ((s.setPlyPort n (fun q => { q with spareIn := true })).logIt .laneRepair 0xF n))
    ∧ ((s.plyPort n).spareIn = true → exec (.plyLaneError n) s = .next ((s.portDown n .fenced).fence 0 0 0 0xF n 1)))
  ∧ (∀ (s : State) (n k : Nat) (r : RetryFrame), s.clocked = true → n < 6 → (s.plyPort n).buffer.find? (fun r => r.seq = k) = some r → s.ply.ports.length = 6 →
    ∃ t : State, exec (.plyCrcFail n k) s = .next t ∧ t.out = s.out ++ [.ply n r.dst r.msg] ∧ (t.plyPort n).retries = satAdd 0xFF (s.plyPort n).retries 1
      ∧ (t.plyPort n).buffer = (s.plyPort n).buffer ∧ t.mem = s.mem ∧ t.pkts = s.pkts)
  ∧ (∀ (s : State) (n : Nat), s.clocked = true → (s.plyPort n).mode = .up →
    exec (.plyLinkTimeout n) s = .next ((s.portDown n .down).logIt .plyPort n) ∧ exec (.plyIdleEmit n) s = .next (s.plyOut n 0x3F .idle))
  ∧ (∀ (s : State) (n : Nat) (m : PlyPortMode), n < 6 → s.ply.ports.length = 6 → m ≠ .up → ((s.portDown n m).plyPort n).mode = m ∧ ((s.portDown n m).plyPort n).buffer = [])
  ∧ (∀ s : State, s.pwr.phase = .up → s.upPorts ≠ [] → ∃ t : State, exec .lsrRefresh s = .next t ∧ t.ply.ownSeq = s.ply.ownSeq + 1 ∧ t.out.length = s.out.length + s.upPorts.length
    ∧ t.mem = s.mem ∧ t.pkts = s.pkts ∧ t.ply.table = s.ply.table)
  ∧ (∀ (s : State) (n : Nat), s.clocked = true → exec (.lsrExpiry n) s = .next { s with ply := { s.ply with db := NMap.del s.ply.db n } })
  ∧ (∀ s : State, s.ply.joined = true → s.pwr.phase = .up → s.routes ≠ s.ply.table → exec .routingTableSwap s = .next (s.swapTable s.routes))
  ∧ (∀ s : State, s.routes = s.ply.table → exec .routingTableSwap s = .next s)
  ∧ (∀ (s : State) (t : NMap Route), s.ply.table = [] → t ≠ [] → s.ply.remote = [] → s.ply.revoking = [] →
    (s.swapTable t).ply.table = t ∧ (s.swapTable t).ply.version = s.ply.version + 1 ∧ bit (s.swapTable t).saf.causes 0 = false)

/-- On a port whose lanes have trained, a frame whose CRC or form fails is discarded, and counted. Of those that pass: IDLE only acknowledges. A third consistent HELLO brings a link up and floods this module's record. A link-state record that is newer than the one held replaces it. A port that is up passes ETHERNET to its receive queue. On a module that has joined, a frame for another node with hops left goes out on the first minimal port of the table with one hop fewer; a WRITE to a granted segment is stored whole and acknowledged, and outside one discarded; a READ_REQ of a granted segment is answered with its bytes; a WRITE_ACK and a READ_RSP end the access that waits for them; a collective contribution goes to the oldest local packet that lacks it, or waits; a CONTROL or a SAFETY frame does what its message says, and is discarded where it carries another. -/
def Obligations.PlyFrames : Prop :=
  (∀ (s : State) (port : Nat) (h : PlyHead) (m : PlyMsg) (f : State → State), s.pwr.phase = .up → port < 6 → (s.plyPort port).mode = .up → (h.crcOk && h.formOk) = false →
    s.plyReceive port h m f = s.plyDiscard port)
  ∧ (∀ (s : State) (port : Nat) (h : PlyHead) (m : PlyMsg) (f : State → State) (r : Route), s.plyHears port h = true → (s.plyPort port).mode = .up → s.ply.joined = true →
    m.isLocal = false → h.dst ≠ s.dev.node → 1 < h.hops → NMap.get? s.ply.table h.dst = some r →
    s.plyReceive port h m f = (s.plyAcked port h).emit (.plyForward (r.ports.headD 0) h.src h.dst (h.hops - 1) m))
  ∧ (∀ (s : State) (port : Nat) (h : PlyHead), s.plyHears port h = true → exec (.idle port h) s = .next (s.plyAcked port h))
  ∧ (∀ (s : State) (port : Nat) (h : PlyHead) (node serial peer epoch : Nat), s.plyHears port h = true → (s.plyPort port).mode = .training →
    s.ply.ports.length = 6 → (s.plyPort port).hello = some (node, serial, peer, epoch) → (s.plyPort port).hellos = 2 →
    ∃ t : State, exec (.hello port h node serial peer epoch) s = .next t ∧ (t.plyPort port).mode = .up ∧ (t.plyPort port).nbrNode = node ∧ (t.plyPort port).nbrPort = peer
      ∧ t.ply.ownSeq = s.ply.ownSeq + 1 ∧ t.mem = s.mem)
  ∧ (∀ (s : State) (port : Nat) (h : PlyHead) (r : Lsr), s.plyHears port h = true → r.node ≠ s.plyId → (∀ x, NMap.get? s.ply.db r.node = some x → x.seq < r.seq) →
    ∃ t : State, exec (.lsr port h r) s = .next t ∧ NMap.get? t.ply.db r.node = some r ∧ (∀ k, k ≠ r.node → NMap.get? t.ply.db k = NMap.get? s.ply.db k) ∧ t.mem = s.mem)
  ∧ (∀ (s : State) (port : Nat) (h : PlyHead) (d : List Byte), s.plyHears port h = true → (s.plyPort port).mode = .up →
    exec (.ethernet port h d) s = .next ((s.plyAcked port h).hostReceive (12 + port) d))
  ∧ (∀ (s : State) (port : Nat) (h : PlyHead) (off tag tenant ctx dt : Nat) (d : List Byte), s.plyHere port h = true →
    let u := s.plyAcked port h
    (u.grantedAt h.src tenant off d.length true = none → exec (.write port h off tag tenant ctx dt 0 d) s = .next (u.plyDiscard port))
    ∧ ∀ g a, u.grantedAt h.src tenant off d.length true = some (g, a) → u.frozen a d.length = false →
      exec (.write port h off tag tenant ctx dt 0 d) s = .next ((u.store a d).plySend h.src (.writeAck tag)))
  ∧ (∀ (s : State) (port : Nat) (h : PlyHead) (off tag tenant ctx n : Nat) (g : Segment) (a : Addr), s.plyHere port h = true → 0x200000 ≤ off →
    let u := s.plyAcked port h
    u.grantedAt h.src tenant off n false = some (g, a) → u.frozen a n = false → exec (.readReq port h off tag tenant ctx n) s = .next (u.plySend h.src (.readRsp tag (u.load a n))))
  ∧ (∀ (s : State) (port : Nat) (h : PlyHead) (tag : Nat), s.plyHere port h = true → s.ply.revoking = [] →
    let u := s.plyAcked port h
    exec (.writeAck port h tag) s = .next { u with ply := { u.ply with remote := u.ply.remote.filter (fun r => !(r.tag = tag && r.node = h.src && !r.isRead)) } })
  ∧ (∀ (s : State) (port : Nat) (h : PlyHead) (tag : Nat) (d : List Byte) (r : RemoteOp), s.plyHere port h = true → s.ply.revoking = [] →
    let u := s.plyAcked port h
    u.ply.remote.find? (fun r => r.tag = tag && r.node = h.src && r.isRead) = some r → r.pkt = none →
    exec (.readRsp port h tag d) s = .next { u with ply := { u.ply with remote := u.ply.remote.filter (fun x => x ≠ r), loads := u.ply.loads ++ [(r.dst, d)] } })
  ∧ (∀ (s : State) (port : Nat) (h : PlyHead) (k : CollKey) (d : List Byte), s.plyHere port h = true →
    let u := s.plyAcked port h
    u.ply.colls.find? (fun c => c.key.tenant = k.tenant && c.key.id = k.id && !NMap.has c.got h.src) = none →
    exec (.collectiveFrame port h k d) s = .next { u with ply := { u.ply with collEarly := u.ply.collEarly ++ [(h.src, k, d)] } })
  ∧ (∀ (s : State) (port : Nat) (h : PlyHead) (m : PlyMsg), s.plyHere port h = true → m.isLocal = false →
    let u := s.plyAcked port h
    exec (.control port h m) s = .next (match u.takeControl h.src m with | some v => v | none => u.plyDiscard port)
      ∧ exec (.safety port h m) s = .next (match u.takeSafety h.src m with | some v => v | none => u.plyDiscard port))

/-- A PLY_JOIN that passes its checks puts the ports it names, but for fenced ones, in training, forgets the database, steps the epoch and waits. With no named port trained after 1,000 ms it ends BAD_STATE, precondition 60, with every port that is not fenced down. Once the database has settled with a port up, at most 32 nodes and no lower serial under its node ID, the module takes the node ID, has joined, has the table that follows and the packet completes. A PLY_LEAVE floods LEAVING and waits, or takes the ports down at once; when it has drained, or at once, every port that is not fenced is down, the table is empty, the role Solo, and a PLY_LEAVE that waits completes. -/
def Obligations.PlyMembership : Prop :=
  (∀ (src : Src) (p : Packet) (s : State), specPlyJoin.accepts src p s = true → s.ply.ports.length = 6 →
    let q := specPlyJoin.pkt p
    let ports := maskList 6 (q.f 3 5 0)
    ∃ t : State, exec (.plyJoin src p) s = .next t ∧ t.ply.joining = some (s.q.nextId, q.f 3 13 8, ports) ∧ t.ply.named = ports ∧ t.ply.epoch = s.ply.epoch + 1 ∧ t.ply.db = []
      ∧ (∀ n < 6, (t.plyPort n).mode = if ports.contains n && decide ((s.plyPort n).mode ≠ .fenced) then .training else (s.plyPort n).mode)
      ∧ (∀ o ∈ t.pkts, o.id = s.q.nextId → o.job = .waits (.join ports)) ∧ t.mem = s.mem)
  ∧ (∀ (s : State) (id n : Nat) (ports : List Nat), s.clocked = true → s.ply.joining = some (id, n, ports) → (∀ k ∈ ports, (s.plyPort k).trained = false ∧ (s.plyPort k).mode ≠ .up) →
    s.ply.ports.length = 6 →
    ∃ u : State, exec .joinTrainingTimeout s = .next (u.finish id 0x0108 [60]) ∧ u.ply.joining = none ∧ u.ply.named = [] ∧ u.pkts = s.pkts
      ∧ ∀ k < 6, (u.plyPort k).mode = if (s.plyPort k).mode = .fenced then .fenced else .down)
  ∧ (∀ (s : State) (id n : Nat) (ports : List Nat), s.clocked = true → s.ply.joining = some (id, n, ports) → s.upPorts ≠ [] →
    (∀ r, NMap.get? s.ply.db n = some r → s.dev.serial ≤ r.serial) → (s.ply.db.filter (fun r => r.1 ≠ n)).length < 32 →
    let v : State := { s with dev := { s.dev with node := n }, ply := { s.ply with joining := none, joined := true } }
    exec .joinDatabaseSettled s = .next ((v.swapTable s.routes).finish id 0))
  ∧ (∀ (src : Src) (p0 : Packet) (s : State), let p := p0.withField 3 0 0 0
    specPlyLeaveGraceful.accepts src p s = true →
    let u := specPlyLeaveGraceful.taken src p s
    exec (.plyLeaveGraceful src p0) s = .next ((({ u with ply := { u.ply with leaving := true } } : State).floodOwn).setJob s.q.nextId (.waits (.leave false))))
  ∧ (∀ (src : Src) (p0 : Packet) (s : State), let p := p0.withField 3 0 0 1
    specPlyLeaveNow.accepts src p s = true →
    let u := specPlyLeaveNow.taken src p s
    exec (.plyLeaveNow src p0) s = .next (u.setJob s.q.nextId (.waits (.leave true))).leaveFabric)
  ∧ (∀ s : State, s.clocked = true → (s.ply.leaving = true → exec .leaveDrainEnd s = .next s.leaveFabric) ∧ (s.ply.leaving = false → exec .leaveDrainEnd s = .next s))
  ∧ (∀ s : State, s.ply.ports.length = 6 → (s.leaveFabric).ply.table = [] ∧ (s.leaveFabric).ply.joined = false ∧ (s.leaveFabric).ply.leaving = false ∧ (s.leaveFabric).dev.role = .solo
    ∧ (∀ o ∈ (s.leaveFabric).pkts, o.job ≠ .waits (.leave false) ∧ o.job ≠ .waits (.leave true)))

/-- Where the packet passes its checks and its peers can be reached: a grant takes the lowest free segment of the peer, or ends NO_SPACE with resource 0x27, sends the segment to the peer and waits; a revoke tells the peer and waits; a COLLECTIVE takes the contributions that came early, sends its own to every other member and waits. When every contribution is there and all agree, the result is in flight to the destination; where one disagrees the packet ends BAD_STATE, precondition 58; before, nothing happens. An application core's access to a peer's window that is not in supervisor mode, not of 4 or 8 bytes or not to a reachable peer is refused and logged; a store to the control page, another store and a load leave as CONTROL, WRITE and READ_REQ. -/
def Obligations.PlyOperations : Prop :=
  (∀ (src : Src) (p0 : Packet) (s : State), let p := p0.withField 3 31 31 0
    specWindowGrant.accepts src p s = true →
    let q := specWindowGrant.pkt p
    let u := specWindowGrant.taken src p s
    let n := q.f 3 13 8
    u.noRouteTo [n] = none →
    ((∀ k < 16, u.ply.granted.any (fun g => g.node = n && g.seg = k) = true) → exec (.remoteWindowGrant src p0) s = .next (u.finish s.q.nextId 0x0200 [0x27]))
    ∧ ∀ k < 16, u.ply.granted.any (fun g => g.node = n && g.seg = k) = false → (∀ j < k, u.ply.granted.any (fun g => g.node = n && g.seg = j) = true) →
      let g : Segment := { node := n, seg := k, ctx := q.ctx, tenant := q.f 3 23 20, offset := q.word 4 + q.f 5 7 0 * 2 ^ 32, base := q.addr 6, granules := q.word 8, read := q.b 3 30, write := q.b 3 29, pending := some s.q.nextId }
      exec (.remoteWindowGrant src p0) s = .next ((({ u with ply := { u.ply with granted := u.ply.granted ++ [g] } } : State).plySend n
        (.windowTable k true g.tenant g.offset g.granules g.read g.write)).setJob s.q.nextId (.waits (.revoke n k))))
  ∧ (∀ (src : Src) (p0 : Packet) (s : State), let p := p0.withField 3 31 31 1
    specWindowRevoke.accepts src p s = true →
    let q := specWindowRevoke.pkt p
    let u := specWindowRevoke.taken src p s
    u.noRouteTo [q.f 3 13 8] = none →
    exec (.remoteWindowRevoke src p0) s = .next ((u.plySend (q.f 3 13 8) (.windowTable (q.f 3 19 16) false 0 0 0 false false)).setJob s.q.nextId (.waits (.revoke (q.f 3 13 8) (q.f 3 19 16)))))
  ∧ (∀ (src : Src) (p : Packet) (s : State), specCollective.accepts src p s = true →
    let q := specCollective.pkt p
    let u := specCollective.taken src p s
    let k := u.collKey q
    u.noRouteTo (k.members.filter (· ≠ s.dev.node)) = none → u.ply.collEarly = [] →
    ∃ (t : State) (c : CollWait), exec (.collective src p) s = .next t ∧ t.ply.colls = s.ply.colls ++ [c] ∧ c.pkt = s.q.nextId ∧ c.key = k
      ∧ c.got = [(s.dev.node, u.contribution k q)] ∧ (∀ o ∈ t.pkts, o.id = s.q.nextId → o.job = .waits (.collective k.id)) ∧ t.mem = s.mem)
  ∧ (∀ (s : State) (id w : Nat) (c : CollWait) (o : OutPkt), s.clocked = true → s.ply.colls.find? (fun c => c.pkt = id) = some c → s.pkt? id = some o → o.job = .waits (.collective w) →
    (c.key.members.all (fun n => NMap.has c.got n) = false → exec (.collectiveMatch id) s = .next s)
    ∧ (c.key.members.all (fun n => NMap.has c.got n) = true →
      (c.keys.any (fun x => x.2 ≠ c.key) = true → exec (.collectiveMatch id) s = .next (s.finish id 0x0108 [58]))
      ∧ (c.keys.any (fun x => x.2 ≠ c.key) = false → s.frozen (collDst o.pkt) c.key.dstBytes = false →
        let r := c.result s.dev.node
        exec (.collectiveMatch id) s = .next (s.startWork o.env { writes := [⟨collDst o.pkt, r.1⟩], reads := [(collSrc o.pkt, c.key.srcBytes)], details := [0, 0, 0, evWord r.2.1 r.2.2] }))))
  ∧ (∀ (s : State) (who : Accessor) (a : Nat) (d : Option (List Byte)) (k node off : Nat), place a = .remote node off →
    let n := match d with | some x => x.length | none => k
    let reached := who = .supervisor ∧ (n = 4 ∨ n = 8) ∧ s.reachable node = true ∧ s.pwr.phase = .up
    let op (x : State) (rd : Bool) : State := { x with ply := { x.ply with nextTag := (s.ply.nextTag + 1) % 65536, remote := x.ply.remote ++ [⟨s.ply.nextTag, none, node, rd, a, n⟩] } }
    (¬ reached → exec (.remoteAccess who a d k) s = .next (s.logIt .refused 0x0900 node))
    ∧ (reached → d = none → exec (.remoteAccess who a d k) s = .next (op (s.plySend node (.readReq off s.ply.nextTag 0 0 n)) true))
    ∧ (reached → ∀ x, d = some x → exec (.remoteAccess who a d k) s = .next
        (if off < 0x200000 then s.plySend node (.ctlStore off x) else op (s.plySend node (.write off s.ply.nextTag 0 0 0 0 x)) false)))

/-- A PHASE_HINT that passes its checks ends TIME_PASSED where its window has passed, NO_SPACE with resource 0x26 where sixteen other hints stand, BUDGET_DENIED with the room where the limit leaves less than it asks for, and otherwise it replaces its context's hint and reports its window; CLEAR takes the hint away; a hint opens, closes and is disarmed. BUDGET_REQUEST sets this module's want and waits for a grant, or sets the machine budget at the manager, which refuses one below the floors; a grant that arrives is in force and ends the request that waits. A division of a budget that covers the floors gives every node its floor or more, nobody more than 480 W, and never more than the budget in all. Each governor decision takes or undoes one step. The calibration takes the draw, the reserve and the rails' factors. A droop and a failed phase do what Tables 18.10 and 18.11 say. A reading at a Safe-hold threshold raises cause 5, a trip leaves the module unpowered. -/
def Obligations.PowerSharing : Prop :=
  (∀ (src : Src) (p0 : Packet) (s : State), let p := p0.withField 3 31 31 0
    specPhaseHint.accepts src p s = true →
    let q := specPhaseHint.pkt p
    let u := specPhaseHint.taken src p s
    let others := u.tens.hints.filter (fun h => h.ctx ≠ q.ctx)
    let drawn := ((others.filter (fun h => h.stage ≠ .closed)).map (fun h => h.powerMw)).sum
    let room := (if q.word 5 ≤ 10000 then min 600000 (u.shareNow + 120000) else u.shareNow) - u.tens.draw - drawn
    let start := (hintStart q).getD 0
    let open_ := max (u.now + 12000) start
    let h : Hint := { ctx := q.ctx, cores := hintCores u q, powerMw := q.word 4, durUs := q.word 5, start := start, openAt := open_ }
    exec (.phaseHint src p0) s = .next (
      if (hintStart q).isSome && decide (start + q.word 5 * 1000 ≤ u.now) then u.finish s.q.nextId 0x0401 [start % 2 ^ 32]
      else if 16 ≤ others.length then u.finish s.q.nextId 0x0200 [0x26]
      else if room < q.word 4 then u.finish s.q.nextId 0x0204 [room]
      else ({ u with tens := { u.tens with hints := others ++ [h] } } : State).finish s.q.nextId 0 [open_ % 2 ^ 32, (open_ + q.word 5 * 1000) % 2 ^ 32, room - q.word 4, 0]))
  ∧ (∀ (src : Src) (p0 : Packet) (s : State), let p := p0.withField 3 31 31 1
    specPhaseHintClear.accepts src p s = true →
    let q := specPhaseHintClear.pkt p
    let u := specPhaseHintClear.taken src p s
    exec (.phaseHintClear src p0) s = .next (({ u with tens := { u.tens with hints := u.tens.hints.filter (fun h => h.ctx ≠ q.ctx) } } : State).finish s.q.nextId 0))
  ∧ (∀ (s : State) (c : Nat), s.clocked = true →
    let stage (a b : HintStage) : State := { s with tens := { s.tens with hints := s.tens.hints.map (fun h => if h.ctx = c && h.stage = a then { h with stage := b } else h) } }
    exec (.hintWindowOpen c) s = .next (stage .armed .opened)
    ∧ exec (.hintWindowClose c) s = .next (stage .opened .closed)
    ∧ exec (.hintRailsDisarm c) s = .next { s with tens := { s.tens with hints := s.tens.hints.filter (fun h => !(h.ctx = c && h.stage = .closed)) } })
  ∧ (∀ (src : Src) (p0 : Packet) (s : State), let p := p0.withField 3 31 30 0
    specBudgetWant.accepts src p s = true →
    let u := specBudgetWant.taken src p s
    exec (.budgetRequestWant src p0) s = .next (({ u with tens := { u.tens with want := (specBudgetWant.pkt p).word 4 } } : State).setJob s.q.nextId (.waits .budget)))
  ∧ (∀ (s : State) (mw i : Nat), s.pwr.phase = .up → mw ≤ 480000 → s.budgetWaits 0 = [i] →
    exec (.grantReceived mw) s = .next (({ s with tens := { s.tens with share := mw } } : State).finish i (if mw < s.tens.want then 0x0204 else 0) [mw, s.budgetNow]))
  ∧ (∀ (src : Src) (p0 : Packet) (s : State), let p := p0.withField 3 31 30 1
    specBudgetMachine.accepts src p s = true →
    let mw := (specBudgetMachine.pkt p).word 4
    let u := specBudgetMachine.taken src p s
    let v : State := { u with tens := { u.tens with budget := mw, learned := true } }
    let w := ((u.fabricNodes.filter (· ≠ u.dev.node)).foldl (fun (x : State) n => x.plySend n (.machineBudget mw)) v).recompute
    (u.isManager = true → exec (.budgetRequestBudget src p0) s = .next (
      if mw < u.floorSum then u.finish s.q.nextId 0x0204 [u.floorSum, u.budgetNow] else w.finish s.q.nextId 0 [w.tens.share, w.budgetNow]))
    ∧ ∀ c, u.isManager = false → u.fabricNodes.head? = some c →
      exec (.budgetRequestBudget src p0) s = .next ((u.setJob s.q.nextId (.waits .budget)).plySend c (.budgetRequest mw)))
  ∧ (∀ (budget : Nat) (rs : NMap TensReport), (rs.map (fun r => r.1)).Nodup → (∀ r ∈ rs, r.2.floor ≤ 480000) → (rs.map (fun r => r.2.floor)).sum ≤ budget →
    ((grantsOf budget rs).map (fun g => g.2)).sum ≤ budget ∧ ∀ r ∈ rs, ∃ g, (r.1, g) ∈ grantsOf budget rs ∧ r.2.floor ≤ g ∧ g ≤ 480000)
  ∧ (∀ (src : Src) (p : Packet) (s : State), specPowerQuery.accepts src p s = true →
    let u := specPowerQuery.taken src p s
    let t := u.tens
    let deg (x : Int) : Nat := (x + 64).toNat % 256
    let hints := (t.hints.filter (fun h => h.stage ≠ .closed)).length
    exec (.powerQuery src p) s = .next (({ u with tens := { t with droops := 0 } } : State).finish s.q.nextId 0 [t.draw, u.shareNow, t.reserve / 1000 * 2 ^ 21 + t.gov * 2 ^ 17 + (!t.throttled.isEmpty).toNat * 2 ^ 16 + t.overBudget.toNat * 2 ^ 15 + t.sensorFault.toNat * 2 ^ 14 + min t.droops 0x3FFF, deg t.hotCore * 2 ^ 24 + deg t.hotHub * 2 ^ 16 + deg t.hotHbm * 2 ^ 8 + hints]))
  ∧ (∀ (s : State) (est : Nat) (cores : List Nat), s.pwr.phase = .up →
    (s.limitNow < est → exec (.governorDecision est cores) s = .next (s.govDown cores))
    ∧ (est ≤ s.limitNow → ∀ t, s.tens.calmSince = some t → 0 < s.tens.gov → t + 5000000 ≤ s.now → exec (.governorDecision est cores) s = .next s.govUp)
    ∧ (est ≤ s.limitNow → s.tens.calmSince = none → exec (.governorDecision est cores) s = .next s))
  ∧ (∀ (s : State) (cores : List Nat), s.dbg.traceOn = false →
    let t := s.tens
    let fast := t.acMhz.any (fun f => decide (1200 < f))
    (fast = true → s.govDown cores = { s with tens := { t with gov := max t.gov 1, calmSince := none, acMhz := t.acMhz.map (fun f => max 1200 (f - 100)) } })
    ∧ (∀ k, fast = false → s.hottest cores = some k → s.govDown cores = { s with tens := { t with gov := max t.gov 2, calmSince := none, coreCap := setAt t.coreCap k (t.coreCap.getD k 1400 - 100) } })
    ∧ (t.gov = 4 → s.govUp = { s with tens := { t with gov := 3, calmSince := none } }))
  ∧ (∀ (s : State) (draw : Nat) (energy : List (Nat × Nat)) (bad : List Nat), s.pwr.phase = .up →
    ∃ t : State, exec (.powerCalibration draw energy bad) s = .next t ∧ t.tens.draw = draw ∧ t.tens.share = s.tens.share ∧ t.mem = s.mem ∧ t.pkts = s.pkts
      ∧ t.tens.reserve = (if s.shareNow < draw then s.tens.reserve - (draw - s.shareNow) else min 1200000 (s.tens.reserve + 24000))
      ∧ t.tens.calmSince = (if draw * 100 ≤ s.limitNow * 95 then some (s.tens.calmSince.getD s.now) else none)
      ∧ ∀ (i : Nat) (r : Rail), s.tens.rails[i]? = some r → r.faulty = false →
        (i ∈ bad → t.tens.rails[i]? = some { r with faulty := true, factor := 0x3FA00000 })
        ∧ (∀ e m, i ∉ bad → energy[i]? = some (e, m) → t.tens.rails[i]? = some { r with factor := calFactor e m }))
  ∧ (∀ (s : State) (rail : Nat), s.pwr.phase = .up → rail < 44 →
    let rails (f : Rail → Rail) : List Rail := updAt s.tens.rails rail f
    exec (.droopDetect rail true) s = .next { s with tens := { s.tens with rails := rails (fun r => { r with stretched := false }) } }
    ∧ ((s.tens.rails.getD rail {}).stretched = true → exec (.droopDetect rail false) s = .next s)
    ∧ ((s.tens.rails.getD rail {}).stretched = false → exec (.droopDetect rail false) s = .next ((({ s with tens := { s.tens with rails := rails (fun r => { r with stretched := true, droops := r.droops + 1 }), droops := s.tens.droops + 1 } } : State).bump 6 0 rail 0 1 0xFFFFFFFF).logIt .droop rail)))
  ∧ (∀ (s : State) (rail : Nat) (carries : Bool), rail < 64 →
    let set (x : State) (f : Rail → Rail) : State := { x with tens := { x.tens with rails := updAt x.tens.rails rail f } }
    let u := (set s (fun r => { r with phaseFaults := r.phaseFaults + 1 })).bump 6 0 rail 3 1 0xFFFFFFFF
    let v := (((set u (fun r => { r with derated := r.derated + 1 })).spliceRec { event := 3, cls := 0x0B, from_ := rail, logical := rail, trigger := 3 }).fence 0 0 0 0x0B rail 2).raise 10
    exec (.regulatorPhaseFault rail carries) s = .next (
      if (s.tens.rails.getD rail {}).spareUsed then
        match s.railCore rail with
        | none => v
        | some k => if s.slowable k then { v with tens := { v.tens with groupCap := (v.tens.groupCap ++ [k]).eraseDups } } else if carries then v else v.fenceCore k 5
      else ((set u (fun r => { r with spareUsed := true })).spliceRec { event := 1, cls := 0x0B, from_ := rail, to_ := rail, logical := rail, trigger := 3 }).fence 0 0 0 0x0B rail 1))
  ∧ (∀ (s : State), s.pwr.phase = .up →
    (s.isManager = true → exec .tensionReportDue s = .next (s.takeReport s.dev.node s.ownReport)
      ∧ ∀ node floor want power, node ∈ s.fabricNodes → exec (.tensionReport node floor want power) s = .next (s.takeReport node ⟨floor, want, power⟩))
    ∧ ∀ c, s.isManager = false → s.fabricNodes.head? = some c → exec .tensionReportDue s = .next (s.plySend c (.report s.floorMw s.tens.want s.tens.draw)))
  ∧ (∀ (s : State) (node : Nat) (r : TensReport), s.tens.collecting = true → NMap.get? s.tens.reports node = none →
    s.takeReport node r = { s with tens := { s.tens with reports := NMap.put s.tens.reports node r, lowered := s.tens.lowered.filter (fun n => !(n = node && decide (r.power ≤ NMap.getD s.tens.grants n 0))) } })
  ∧ (∀ (s : State) (node mw : Nat), s.clocked = true → s.isManager = true → s.tens.raised = [(node, mw)] → s.tens.loweredAt + 20000000 ≤ s.now →
    exec .raisedGrantTimeout s = .next (({ s with tens := { s.tens with raised := [], lowered := [] } } : State).sendGrant node mw))
  ∧ (∀ (s : State), s.clocked = true → s.tens.collecting = true →
    exec .coordinatorCollectEnd s = .next ({ s with tens := { s.tens with collecting := false } } : State).recompute)
  ∧ (∀ (s : State) (temps : List Int), s.pwr.phase = .up → s.dbg.queuedAcks = [] →
    let t := s.thermalSample temps
    exec (.thermalSample temps) s = .next t
    ∧ (∀ (n : Nat) (x : Int), n < 22 → temps[n]? = some x → (thermLimits n).1 ≤ x → NMap.has t.tens.throttled n = true)
    ∧ (∀ (n : Nat) (x : Int), n < 22 → temps[n]? = some x → (thermLimits n).2.2 ≤ x → bit s.saf.causes 5 = false →
      t.saf.causes = (s.saf.causes ||| 32) ∧ t.tens.gov = 4 ∧ t.tens.acMhz = [1200, 1200]))
  ∧ (∀ (s : State), s.pwr.phase = .up → exec .thermalTrip s = .next { s with pwr := { s.pwr with phase := .tripped } })

/-- Raising a cause adds it, and one of 4, 5, 6, 11 and 13 makes the mode Safe-hold. AGE_REGISTER registers a stream or changes its age, or ends NO_SPACE with resource 0x25, and deregisters; the periodic check clears the validity of a result that is too old. An overrun is raised once. A failed pair raises cause 4. The status frame goes out on an enabled carrier, periodically and where what it shows has changed, with the carrier's next counter. Writes of STATUS_CFG and HOST_WD by the supervisor and Distaff take effect, others are logged; the watchdog's expiry raises cause 12. SAFE_STATE_REQUEST raises cause 6 and releases 5 and 6; AT_REST_ASSERT asserts, withdraws and lapses. A comparison configured is told to the partner, a record that matches is judged, one that does not waits, and DIV_N disagreements raise cause 7. -/
def Obligations.SafetyChannel : Prop :=
  (∀ (s : State) (n : Nat), (s.raise n).saf.causes = (s.saf.causes ||| 1 <<< n) ∧ (n ∈ [4, 5, 6, 11, 13] → (s.raise n).safety = .safeHold)
    ∧ (s.endCause n).saf.causes = if s.saf.causes.testBit n then s.saf.causes - 2 ^ n else s.saf.causes)
  ∧ (∀ (src : Src) (p0 : Packet) (s : State), let p := p0.withField 3 31 30 0
    specAgeRegister.accepts src p s = true →
    let q := specAgeRegister.pkt p
    let u := specAgeRegister.taken src p s
    exec (.ageRegister src p0) s = .next (
      match (if q.b 3 29 then (List.range 256).find? (fun n => !NMap.has u.saf.ages n) else some (q.f 3 7 0)) with
      | none => u.finish s.q.nextId 0x0200 [0x25]
      | some n => ({ u with saf := { u.saf with ages := NMap.put u.saf.ages n { NMap.getD u.saf.ages n { maxAgeUs := 0 } with maxAgeUs := q.word 4 } } } : State).finish s.q.nextId 0 [n]))
  ∧ (∀ (src : Src) (p0 : Packet) (s : State), let p := p0.withField 3 31 30 1
    specAgeDeregister.accepts src p s = true →
    let n := (specAgeDeregister.pkt p).f 3 7 0
    let u := specAgeDeregister.taken src p s
    exec (.ageDeregister src p0) s = .next (({ u with saf := { u.saf with ages := NMap.del u.saf.ages n } } : State).finish s.q.nextId 0 [n]))
  ∧ (∀ (s : State) (n t : Nat) (a : AgeStream), s.distaffRuns = true → s.saf.ages = [(n, a)] → a.valid = true → a.latest = some t →
    ∃ u : State, exec .ageCheck s = .next u ∧ (a.maxAgeUs * 1000 < s.now - t → NMap.get? u.saf.ages n = some { a with valid := false } ∧ u.saf.expired = satAdd 0xFFFF s.saf.expired 1)
      ∧ (s.now - t ≤ a.maxAgeUs * 1000 → u = s))
  ∧ (∀ (s : State) (id : Nat) (o : OutPkt), s.pkt? id = some o → o.pkt.opcode ∈ [0x0310, 0x0701, 0x0711] → s.isFixed o.pkt.ctx = true → o.job ≠ .held → s.distaffRuns = true →
    (id ∉ s.saf.overruns → exec (.deadlineOverrun id) s = .next ((({ s with saf := { s.saf with overruns := s.saf.overruns ++ [id] } } : State).logIt .overrun o.pkt.reqTag).raise 8))
    ∧ (id ∈ s.saf.overruns → exec (.deadlineOverrun id) s = .next s))
  ∧ (∀ (s : State), s.clocked = true → s.pkts = [] → exec .overrunClear s = .next (({ s with saf := { s.saf with overruns := [] } } : State).endCause 8))
  ∧ (∀ (s : State) (pair : Nat), s.clocked = true → pair ≤ 2 → s.dbg.queuedAcks = [] →
    ∃ u : State, exec (.distaffFault pair) s = .next u ∧ u.saf.daFailed = (s.saf.daFailed || decide (pair = 0)) ∧ u.saf.dbFailed = (s.saf.dbFailed || decide (pair = 1))
      ∧ u.saf.causes = (s.saf.causes ||| 16) ∧ u.safeLow = true ∧ u.dbg.haltedAc = 0 ∧ u.dbg.haltedFl = 0)
  ∧ (∀ (s : State) (c : Carrier), s.statusOn c = true → s.distaffRuns = true → s.inPause = false →
    let t := s.sendStatus c
    exec (.statusFramePeriodic c) s = .next { t with saf := if c = .ve then { t.saf with vePeriod := t.saf.periodMs } else { t.saf with cxPeriod := t.saf.periodMs } }
    ∧ exec (.statusFrameChange c) s = .next (if s.shown = (if c = .ve then s.saf.veShown else s.saf.cxShown) then s else t))
  ∧ (∀ (s : State), s.statusBlock.length = 64 ∧ (s.oobKey = none →
    let t := s.sendStatus .ve
    t.out = s.out ++ [.status .ve (s.statusBlock ++ leBytes 8 s.oob.ve.next ++ List.replicate 16 0)] ∧ t.oob.ve.next = s.oob.ve.next + 1 ∧ t.saf.veShown = s.shown ∧ t.saf.expired = 0))
  ∧ (∀ (s : State) (who : Accessor) (v : Word), s.clocked = true →
    let w := v.toNat
    let ms := min 10000 (max 1 (bits w 15 0))
    let set (run : Option Nat) : State := { s with saf := { s.saf with wdEnable := w.testBit 31, wdTimeout := ms, wdRunning := run } }
    (who ≠ .supervisor → who ≠ .distaff → ∀ c ∈ [Instr.statusCfgWrite who v, .hostWdEnable who v, .hostWdKick who v], exec c s = .next (s.logIt .managementAccess))
    ∧ (who = .supervisor ∨ who = .distaff →
      exec (.statusCfgWrite who v) s = .next { s with saf := { s.saf with veEn := w.testBit 31, cxEn := w.testBit 30, cxPort := bits w 29 28, periodMs := min 100 (max 1 (bits w 22 16)), statusCxId := bits w 10 0 } }
      ∧ exec (.hostWdEnable who v) s = .next (set (if w.testBit 31 then (if s.saf.wdEnable then s.saf.wdRunning else some ms) else none))
      ∧ exec (.hostWdKick who v) s = .next ((set (if w.testBit 31 then some ms else none)).endCause 12)))
  ∧ (∀ (s : State) (ms : Nat), s.saf.wdRunning = some ms → s.distaffRuns = true →
    exec .hostWdExpiry s = .next ((({ s with saf := { s.saf with wdRunning := none } } : State).logIt .hostWd).raise 12))
  ∧ (∀ (src : Src) (p0 : Packet) (s : State), let p := p0.withField 3 31 30 0
    specSafeEnter.accepts src p s = true →
    let u := (specSafeEnter.taken src p s).logIt .reason ((specSafeEnter.pkt p).f 3 15 0) 0
    exec (.safeStateRequestEnter src p0) s = .next ((if u.saf.causes.testBit 6 then u else u.raiseHold 6).finish s.q.nextId 0))
  ∧ (∀ (src : Src) (p0 : Packet) (s : State), let p := p0.withField 3 31 30 1
    specSafeRelease.accepts src p s = true →
    let u := (specSafeRelease.taken src p s).logIt .reason ((specSafeRelease.pkt p).f 3 15 0) 1
    exec (.safeStateRequestRelease src p0) s = .next (((u.endCause 5).endCause 6).finish s.q.nextId 0))
  ∧ (∀ (src : Src) (p0 : Packet) (s : State), let p := p0.withField 3 31 31 1
    specAtRest.accepts src p s = true →
    let q := specAtRest.pkt p
    let u := specAtRest.taken src p s
    let t := u.now + q.word 4 * 1000000
    q.b 3 31 = true →
    exec (.atRestAssert src p0) s = .next (({ u with saf := { u.saf with atRest := some t } } : State).finish s.q.nextId 0 [t % 2 ^ 32]))
  ∧ (∀ (src : Src) (p0 : Packet) (s : State), let p := p0.withField 3 31 31 0
    specAtRest.accepts src p s = true →
    let q := specAtRest.pkt p
    let u := specAtRest.taken src p s
    let v : State := { u with saf := { u.saf with atRest := none } }
    q.b 3 31 = false →
    exec (.atRestWithdraw src p0) s = .next ((if u.upd.act.isSome then v.logIt .update 1 else v).finish s.q.nextId 0 [(u.now + q.word 4 * 1000000) % 2 ^ 32]))
  ∧ (∀ (s : State) (t : Nat), s.clocked = true → s.saf.atRest = some t →
    let v : State := { s with saf := { s.saf with atRest := none } }
    exec .atRestTimeout s = .next (if s.upd.act.isSome then v.logIt .update 1 else v))
  ∧ (∀ (src : Src) (p0 : Packet) (s : State), let p := p0.withField 3 31 30 0
    specPairConfigure.accepts src p s = true →
    let q := specPairConfigure.pkt p
    let u := specPairConfigure.taken src p s
    let crc := crc32c (wordBytes [q.word 3 - q.f 3 21 16 * 2 ^ 16, q.word 4, q.word 5, q.word 6, q.word 7])
    let differs := match NMap.get? u.saf.peerCrc (q.f 3 7 0) with | some x => decide (x ≠ crc) | none => false
    let c : PairCompare := { mode := q.f 3 29 28, partner := q.f 3 21 16, tolAbs := q.word 4, tolRel := q.word 5, matchUs := q.f 6 31 16, divN := q.f 6 15 8, count := q.f 6 7 0, first := q.word 7, crc := crc, mismatch := differs }
    let v := ((u.setCompare (q.f 3 7 0) c).settlePairs).plySend (q.f 3 21 16) (.compareCfg (q.f 3 7 0) crc)
    exec (.pairCompareConfigure src p0) s = .next ((if differs then v.logIt .pairMismatch (q.f 3 7 0) crc else v).finish s.q.nextId 0))
  ∧ (∀ (src : Src) (p0 : Packet) (s : State), let p := p0.withField 3 31 30 1
    specPairRemove.accepts src p s = true →
    let u := specPairRemove.taken src p s
    let v : State := { u with saf := { u.saf with compares := NMap.del u.saf.compares ((specPairRemove.pkt p).f 3 7 0) } }
    exec (.pairCompareRemove src p0) s = .next ((if v.saf.compares.any (fun c => c.2.diverged) then v else v.endCause 7).finish s.q.nextId 0))
  ∧ (∀ (s : State) (node n stamp : Nat) (vals : List Nat) (c : PairCompare), s.clocked = true → s.reachable node = true → NMap.get? s.saf.compares n = some c →
    c.partner = node → c.mismatch = false →
    exec (.pairCompareRecord node n stamp vals) s = .next (
      match c.own.find? (fun x => c.matches_ ⟨stamp, vals⟩ x) with
      | some x => (s.setCompare n { c with own := c.own.filter (fun y => y ≠ x) }).verdictOf n (c.agree ⟨stamp, vals⟩ x)
      | none => s.setCompare n { c with peer := c.peer ++ [⟨stamp, vals⟩] }))
  ∧ (∀ (s : State) (n : Nat) (c : PairCompare), NMap.get? s.saf.compares n = some c →
    (c.disagree + 1 < c.divN → s.verdictOf n false = s.setCompare n { c with disagree := c.disagree + 1, agreeRun := 0 })
    ∧ (c.divN ≤ c.disagree + 1 → (s.verdictOf n false).saf.causes = (s.saf.causes ||| 128) ∧ (s.verdictOf n false).saf.divStream = n)
    ∧ NMap.get? (s.verdictOf n true).saf.compares n = some { c with disagree := 0, agreeRun := c.agreeRun + 1, diverged := c.diverged && decide (c.agreeRun + 1 < 100) })
  ∧ (∀ (s : State) (n : Nat) (c : PairCompare) (r : CompareRec) (rest : List CompareRec), s.clocked = true → NMap.get? s.saf.compares n = some c → c.own = r :: rest →
    exec (.pairMatchTimeout n) s = .next (s.setCompare n { c with own := rest, misses := c.misses + 1, peer := c.peer.filter (fun x => decide (r.stamp ≤ x.stamp + c.matchUs * 1000)) }))

/-- A write of PWR_CTL by the supervisor or Distaff sets DOZE_EN and DOZE_IDLE_US, and clearing DOZE_EN restarts stopped domains; in Doze an idle on-demand domain stops. ENTER_SLEEP is refused with the first failing condition of R464, or the entry begins, the assertion ends and what is outstanding is aborted; its stages follow, and its end is Sleep, in which nothing outside HBM is held. A source that WAKE_CFG enables starts the wake from Sleep, is kept during entry, and does nothing where it is not enabled. Each ready signal takes the wake to its next row, a missing one pauses the source and tries again, and where its attempts are spent the module stays in Sleep and sends WAKE_FAIL three times. -/
def Obligations.SleepAndWake : Prop :=
  (∀ (s : State) (who : Accessor) (v : Word), s.clocked = true → who = .supervisor ∨ who = .distaff →
    let w := v.toNat
    let u : State := { s with pwr := { s.pwr with dozeEn := w.testBit 30, idleUs := bits w 13 0, stopped := if w.testBit 30 then s.pwr.stopped else [] } }
    let refuse := if s.saf.atRest = none then 1 else if s.dev.update = .activating then 2 else if s.upd.sched.isSome then 3 else if s.dbg.haltedAc ≠ 0 ∨ s.dbg.haltedFl ≠ 0 then 4 else 0
    let e : State := { u with pwr := { u.pwr with entry := 1, refuse := 0, phase := .entering 0, qualified := 0 }, saf := { u.saf with atRest := none } }
    exec (.dozeEnWrite who v) s = .next u
    ∧ (s.pwr.phase = .up → exec (.enterSleep who v) s = .next (if refuse ≠ 0 then { u with pwr := { u.pwr with entry := 2, refuse := refuse } } else ((e.stopMany .abort (e.pkts.map (fun o => o.id))).1).logIt .sleep 0))
    ∧ (s.pwr.phase ≠ .up → exec (.enterSleep who v) s = .next u))
  ∧ (∀ (s : State) (d : Nat), s.pwr.phase = .up → s.power = .doze → s.domainIdle d = true →
    exec (.dozeIdleExpiry d) s = .next (if s.pwr.stopped.contains d then s else { s with pwr := { s.pwr with stopped := s.pwr.stopped ++ [d] } }))
  ∧ (∀ (s : State) (n : Nat), s.pwr.phase = .entering n →
    let go (x : State) : State := { x with pwr := { x.pwr with phase := .entering (n + 1) } }
    (n = 0 → exec .sleepEntryStage s = .next (go s))
    ∧ (n = 1 → s.saf.veEn = false → s.saf.cxEn = false → exec .sleepEntryStage s = .next (go s))
    ∧ (n = 2 → s.dev.role = .solo → exec .sleepEntryStage s = .next (go s.leaveFabric))
    ∧ (n = 3 → (s.pkts.any (fun o => s.twistCommitted o.id) = true → exec .sleepEntryStage s = .next s)
      ∧ (s.pkts.any (fun o => s.twistCommitted o.id) = false → s.dr.drafts = [] → ∃ t : State, exec .sleepEntryStage s = .next t
          ∧ t.pwr.phase = .entering 4 ∧ t.sen.highZ = true ∧ t.tens.hints = [] ∧ t.time.queues = [] ∧ t.time.triggers = [] ∧ t.dr.drafts = []))
    ∧ (n = 4 → exec .sleepEntryStage s = .next (go (s.logIt .sleep 1)))
    ∧ (5 ≤ n → s.pkts = [] → s.pwr.qualified = 0 → s.pwr.wakeCfg.toNat.testBit 30 = false → exec .sleepEntryStage s = .next s.toSleep))
  ∧ (∀ (s : State), let t := s.toSleep
    t.pwr.phase = .asleep ∧ t.saf.compares = [] ∧ t.vault.slots = s.vault.slots ∧ t.log = s.log ∧ t.kv = s.kv ∧ t.dom.tenants = s.dom.tenants
      ∧ (∀ a, 0x001800000000 ≤ a → memGet t.mem a = 0) ∧ (∀ b ∈ t.q.bobbins, b.1 < 224 ∧ b ∈ s.q.bobbins))
  ∧ (∀ (s : State) (port id : Nat),
    let cfg := s.pwr.wakeCfg.toNat
    let wake (source : Nat) : State := { s with pwr := { s.pwr with phase := .waking { reset := s.pwr.needReset }, needReset := false, lastWake := source + (if s.pwr.needReset then 8 else 0), retries := 0, qualified := 0, wakeAt := s.time.tick } }
    let kept (source : Nat) : State := { s with pwr := { s.pwr with qualified := s.pwr.qualified ||| source } }
    let frame := port < 4 ∧ cfg.testBit (26 + port) = true ∧ id = bits cfg 10 0
    (s.pwr.phase = .asleep → exec .wakeIn s = .next (if cfg.testBit 31 then wake 1 else s) ∧ exec .wakeTimer s = .next (if cfg.testBit 30 then wake 4 else s)
      ∧ (frame → exec (.wakeFrame port id) s = .next (wake 2)))
    ∧ (∀ n, s.pwr.phase = .entering n → exec .wakeIn s = .next (if cfg.testBit 31 then kept 1 else s) ∧ exec .wakeTimer s = .next (if cfg.testBit 30 then kept 4 else s)
      ∧ (frame → exec (.wakeFrame port id) s = .next (kept 2)))
    ∧ (¬ frame → exec (.wakeFrame port id) s = .next s))
  ∧ (∀ (s : State) (w : Waking), s.pwr.phase = .waking w → w.paused = false →
    let next (x : State) : State := { x with pwr := { x.pwr with failed := x.pwr.failed.filter (· ≠ w.row), phase := .waking { w with row := w.row + 1, attempts := 1, unit := 0 } } }
    (w.row < 5 → exec .wakeReady s = .next (next (if s.onSpare w then s.takeSpare w.row w.unit else s)))
    ∧ (w.row = 5 → exec .wakeReady s = .next ((next (if s.onSpare w then s.takeSpare w.row w.unit else s)).restartTime w.reset))
    ∧ (w.row = 6 → exec .wakeReady s = .next (next s))
    ∧ (7 ≤ w.row → w.reset = false → exec .wakeReady s = .next (next s).wakeUp)
    ∧ (w.row ≤ 5 → w.attempts < s.wakeAttempts w.row → ∀ unit island, exec (.wakeReadyTimeout unit island) s = .next { s with pwr := { s.pwr with phase := .waking { w with paused := true, unit := unit } } })
    ∧ (w.row ≤ 5 → s.wakeAttempts w.row ≤ w.attempts → ∀ unit island, ∃ t : State, exec (.wakeReadyTimeout unit island) s = .next t
        ∧ t.pwr.phase = .asleep ∧ t.pwr.needReset = w.reset ∧ t.pwr.failWords = (w.row, w.attempts) ∧ t.pwr.failLeft = (if island then 0 else 2) ∧ w.row ∈ t.pwr.failed
        ∧ (island = true → t.out = s.out) ∧ (island = false → ∃ bytes, t.out = s.out ++ [.canFd (bits s.pwr.wakeCfg.toNat 25 24) (bits s.pwr.wakeCfg.toNat 23 13) bytes] ∧ bytes.take 2 = [0x09, 0x03])
        ∧ t.mem = s.mem ∧ t.q = s.q ∧ t.saf = s.saf))
  ∧ (∀ (s : State) (reset : Bool), let t := s.restartTime reset
    t.time.inc = 4 * 2 ^ 32 ∧ t.time.rho = 0 ∧ (reset = true → t.time.ns = 0)
      ∧ (reset = false → t.time.ns = s.pwr.slept.1 + ((s.time.tick - s.pwr.slept.2) * 4 * 32768 / 1000000000 * 30517578125) / 1000000))
  ∧ (∀ (s : State), (s.wakeCauses).saf.causes = (s.saf.causes &&& fm [(1, 1), (6, 3), (10, 10)]) + 1 + (if s.fixedWhole then 0 else 4))
  ∧ (∀ (s : State) (w : Waking), s.pwr.phase = .waking w → w.paused = true →
    exec .wakeRetryPauseEnd s = .next { s with pwr := { s.pwr with phase := .waking { w with paused := false, attempts := w.attempts + 1 }, retries := min 15 (s.pwr.retries + 1) } })
  ∧ (∀ (s : State), (s.pwr.failLeft = 0 → exec .wakeFailRepeat s = .next s)
    ∧ (0 < s.pwr.failLeft → exec .wakeFailRepeat s = .next ({ s with pwr := { s.pwr with failLeft := s.pwr.failLeft - 1 } } : State).wakeFailFrame))

/-- A path-delay monitor below 3 percent of the cycle asks for an immediate splice, below 8 percent for a planned one, and otherwise for nothing; a ring oscillator 6 percent down asks for a planned one; a flagged array column takes a spare column, and where none is left its core fails. A core selected for a splice waits for the die's spare, and with the spare spent cause 10 is raised. The selected core, once it is due, gives its logical number to the spare. A failed oscillator or PLL hands over to its spare, and without one raises cause 13. The rotation selects the next core where nothing holds it. BIST_RUN queues a test at the engine of its unit, and the end of a test writes the splice log and completes the packet with the verdict; a rotated core that passes becomes the spare of a die without one. -/
def Obligations.SplicesAndTests : Prop :=
  (∀ (s : State) (cls unit slack : Nat), s.pwr.phase = .up → cls ≠ 0x22 →
    exec (.pathDelayCheck cls unit slack) s = .next (if slack < 30 then s.immediateSplice cls unit 1 else if slack < 80 then s.plannedSplice cls unit 1 else s)
    ∧ exec (.ringOscCheck cls unit slack) s = .next (if slack < 60 then s else s.plannedSplice cls unit 2))
  ∧ (∀ (s : State) (pc col : Nat), s.pwr.phase = .up →
    let used := s.spl.cols.getD pc 2
    let logical := (s.logicalOf pc).getD 0xFFFF
    (used < 2 → exec (.pathDelayCheck 0x22 pc col) s = .next (({ s with spl := { s.spl with cols := setAt s.spl.cols pc (used + 1) } } : State).spliceRec { event := 2, cls := 0x22, from_ := col, to_ := 256 + used, logical := logical, trigger := 3, host := pc }))
    ∧ (2 ≤ used → ∀ k, s.logicalOf pc = some k → exec (.pathDelayCheck 0x22 pc col) s = .next ((s.spareSpent 0x22 col k 3).failCore k 3 3)))
  ∧ (∀ (s : State) (unit trigger k : Nat), s.logicalOf unit = some k →
    s.plannedSplice 1 unit trigger = s.selectSplice k trigger false true ∧ s.immediateSplice 1 unit trigger = s.failCore k 1 trigger)
  ∧ (∀ (s : State) (k trigger : Nat) (now retire : Bool), (∀ x ∈ s.spl.splices, x.logical ≠ k ∧ dieOf x.logical ≠ dieOf k) → s.spareInTest (dieOf k) = false →
    (∀ sp, s.spl.spare.getD (dieOf k) none = some sp → s.selectSplice k trigger now retire = { s with spl := { s.spl with splices := s.spl.splices ++ [⟨k, trigger, now, retire⟩] } })
    ∧ (s.spl.spare.getD (dieOf k) none = none → (s.selectSplice k trigger now retire).saf.causes = (s.saf.causes ||| 1024) ∧ (s.selectSplice k trigger now retire).spl.splices = s.spl.splices))
  ∧ (∀ (s : State) (k sp : Nat) (x : CoreSplice), s.clocked = true → s.spl.splices.find? (fun y => y.logical = k) = some x → s.spl.spare.getD (dieOf k) none = some sp →
    (s.spliceDue x = false → exec (.coreSplice k) s = .next s)
    ∧ (s.spliceDue x = true → x.immediate = false → ∃ t : State, exec (.coreSplice k) s = .next t ∧ t.spl.map = setAt s.spl.map k sp ∧ t.spl.spare = setAt s.spl.spare (dieOf k) none
      ∧ t.spl.splices = s.spl.splices.filter (fun y => y.logical ≠ k) ∧ t.pkts = s.pkts))
  ∧ (∀ (s : State), s.clocked = true → s.dbg.queuedAcks = [] →
    (s.pwr.spareRef = false → exec (.clockFailure 0) s = .next (({ s with pwr := { s.pwr with spareRef := true }, time := { s.time with spareOsc := true } } : State).spliceRec { event := 1, cls := 0x25, from_ := 0, to_ := 1, trigger := 3, host := 0x200 }))
    ∧ (s.pwr.spareRef = true → exec (.clockFailure 0) s = .next ((s.spareSpent 0x25 1 0xFFFF 3).raise 13))
    ∧ (s.spl.plls.getD 2 0 = 0 → exec (.clockFailure 3) s = .next ((s.spareSpent 0x24 2 0xFFFF 3).raise 13))
    ∧ ∀ d, d < 2 → 0 < s.spl.plls.getD d 0 → exec (.clockFailure (d + 1)) s = .next (({ s with spl := { s.spl with plls := setAt s.spl.plls d (s.spl.plls.getD d 0 - 1) } } : State).spliceRec { event := 1, cls := 0x24, from_ := d, to_ := s.spl.plls.getD d 0, trigger := 3, host := 0x100 + d }))
  ∧ (∀ (s : State) (die : Nat), s.clocked = true →
    (s.rotationHeld die = true → exec (.rotationSelect die) s = .next s)
    ∧ ∀ pc rest k, s.rotationHeld die = false → pcOrder die (s.spl.lastRot.getD die 0) = pc :: rest → s.logicalOf pc = some k → pc ∉ s.spl.retired → (s.core k).fenced = false → s.inFixed k = false →
      exec (.rotationSelect die) s = .next (({ s with spl := { s.spl with lastRot := setAt s.spl.lastRot die pc }, pwr := { s.pwr with stopped := s.pwr.stopped.filter (· ≠ 4 + pc) } } : State).selectSplice k 4 false false))
  ∧ (∀ (src : Src) (p : Packet) (s : State), specBistRun.accepts src p s = true →
    let q := specBistRun.pkt p
    let u := specBistRun.taken src p s
    let t : Test := { engine := engineOf (q.f 3 23 16) (q.f 3 15 0), cls := q.f 3 23 16, unit := q.f 3 15 0, kind := q.f 3 31 30, pkt := some s.q.nextId }
    exec (.bistRun src p) s = .next ((u.setJob s.q.nextId (.waits (.bist t.unit))).addTest t))
  ∧ (∀ (s : State) (t : Test), t.pkt.isSome = true → (s.addTest t).spl.tests.filter (fun x => x.engine = t.engine) = s.spl.tests.filter (fun x => x.engine = t.engine) ++ [t])
  ∧ (∀ (s : State) (engine us sig addr : Nat) (pass : Bool) (cols : List Nat), (s.spl.tests.find? (fun t => t.engine = engine) = none → exec (.selfTestDone engine us pass sig addr cols) s = .next s)
    ∧ ∀ t, s.pwr.phase = .up → s.spl.tests.find? (fun t => t.engine = engine) = some t →
      let rest := (s.spl.tests.filter (fun x => x.engine = engine)).drop 1 ++ s.spl.tests.filter (fun x => x.engine ≠ engine)
      let u : State := { s with spl := { s.spl with tests := rest } }
      (∀ id, t.pkt = some id → t.cls ≠ 1 → t.retire = false →
        let v := u.spliceRec { event := if pass then 4 else 5, cls := t.cls, from_ := t.unit, trigger := 6, host := if engine = 2 then 0x200 else 0x100 + engine, durUs := us, sig := sig, addr := addr }
        exec (.selfTestDone engine us pass sig addr cols) s = .next ((if pass then v.unitPasses t else v.unitRetired t).finish id 0 [pass.toNat * 2 ^ 31 + ((s.spl.seq + 1) % 65536 + 65535) % 65536, us, 0, 0]))
      ∧ (t.pkt = none → t.cls = 1 → t.retire = false → engine < 2 → t.engine = pcDie t.unit → pass = true → cols = [] → s.logicalOf t.unit = none → t.unit ∉ s.spl.retired →
        s.spl.outRetired.contains (unitKey 1 t.unit) = false → s.spl.spare = [none, none] →
        ∃ w : State, exec (.selfTestDone engine us pass sig addr cols) s = .next w ∧ w.spl.spare.getD engine none = some t.unit ∧ w.spl.tests = rest ∧ w.spl.seq = (s.spl.seq + 1) % 65536 ∧ w.pkts = s.pkts))

/-- Each TAP instruction selects its register; EXTEST and INTEST run only at FULL under a machine-at-rest assertion and otherwise BYPASS is in force. A nonce that the supervisor, Distaff or the TAP reads is kept with its time, other readers are logged. A token that does not name this unit and its nonce, or whose signatures fail, changes no level; a good one spends the nonce and never lowers the level; DEBUG_UNLOCK and DBG_TOKEN use the same rule. BREAK_SET writes and empties a slot, resumes and halts its scope; a core that reaches a slot in use halts, and while Activating the halt is held. The debug transport writes memory only for a halted core, and does nothing while the level is LOCKED. TRACE_CONFIG sets the ring and the filters; COUNTER_READ writes the entries at its destination and clears them where asked. -/
def Obligations.DebugAndTrace : Prop :=
  (∀ (s : State), let sel (t : TapInstr) : State := { s with dbg := { s.dbg with tap := t } }
    exec .idcode s = .next (sel .idcode) ∧ exec .bypass s = .next (sel .bypass) ∧ exec .samplePreload s = .next (sel .sample)
    ∧ (s.dbg.level = .full → s.saf.atRest.isSome = true → exec .extest s = .next (sel .extest) ∧ exec .intest s = .next (sel .intest))
    ∧ (s.dbg.level ≠ .full ∨ s.saf.atRest = none → exec .extest s = .next (sel .bypass) ∧ exec .intest s = .next (sel .bypass)))
  ∧ (∀ (s : State), s.serves = true → ∃ v : Nat,
    let t : State := { s with free := s.free + 8, vault := { s.vault with nonce := some (v, s.now) } }
    v < 2 ^ 64 ∧ exec (.debugNonceRead .supervisor) s = .next t ∧ exec (.debugNonceRead .distaff) s = .next t
      ∧ exec .dbgNonce s = .next { t with dbg := { t.dbg with tap := .dbgNonce } }
      ∧ ∀ who, who ≠ .supervisor → who ≠ .distaff → exec (.debugNonceRead who) s = .next (s.logIt .managementAccess 0x209008))
  ∧ (∀ (s : State) (token : List Byte), s.serves = true → token.length = tokenBytes →
    ∃ t : State, exec (.dbgToken token) s = .next t ∧ t.dbg.tap = .dbgToken ∧ t.pkts = s.pkts ∧ t.mem = s.mem
      ∧ (s.tokenNamesUs token = false → t.vault.tokenResult = 2 ∧ t.dbg.level = s.dbg.level ∧ t.vault.nonce = s.vault.nonce)
      ∧ (s.tokenNamesUs token = true → s.tokenSig token ≠ 0 → t.vault.tokenResult = 1 ∧ t.dbg.level = s.dbg.level)
      ∧ (s.tokenNamesUs token = true → s.tokenSig token = 0 → t.vault.nonce = none ∧ s.dbg.level.code ≤ t.dbg.level.code))
  ∧ (∀ (src : Src) (p : Packet) (s : State), specDebugUnlock.accepts src p s = true →
    let u := specDebugUnlock.taken src p s
    let token := u.load ((specDebugUnlock.pkt p).addr 3) tokenBytes
    let want := (token.getD 5 0).toNat
    let v : State := { u with vault := { u.vault with nonce := none }, dbg := { u.dbg with level := if u.dbg.level.code < want then levelOf want else u.dbg.level } }
    let n := max u.dbg.level.code want
    want = 1 ∨ want = 2 →
    exec (.debugUnlock src p) s = .next (if u.tokenSig token ≠ 0 then (u.logIt .debugLevel u.dbg.level.code (u.tokenSig token)).finish s.q.nextId 0x0502 [u.tokenSig token]
      else (v.logIt .debugLevel n).finish s.q.nextId 0 [n]))
  ∧ (∀ (src : Src) (p0 : Packet) (s : State), let p := p0.withField 3 31 30 0
    specBreakSet.accepts src p s = true →
    let q := specBreakSet.pkt p
    let u := specBreakSet.taken src p s
    let key := (q.f 3 7 4 + (if q.b 3 27 then 16 else 0)) * 4 + q.f 3 3 0
    exec (.breakSetSet src p0) s = .next (({ u with dbg := { u.dbg with breaks := NMap.put u.dbg.breaks key (q.word 4 + q.word 5 * 2 ^ 32 + q.f 3 29 28 * 2 ^ 64) } } : State).finish s.q.nextId 0))
  ∧ (∀ (src : Src) (p0 : Packet) (s : State), let p := p0.withField 3 31 30 1
    specBreakClear.accepts src p s = true →
    let q := specBreakClear.pkt p
    let u := specBreakClear.taken src p s
    let key := (q.f 3 7 4 + (if q.b 3 27 then 16 else 0)) * 4 + q.f 3 3 0
    exec (.breakSetClear src p0) s = .next (({ u with dbg := { u.dbg with breaks := NMap.del u.dbg.breaks key } } : State).finish s.q.nextId 0))
  ∧ (∀ (src : Src) (p0 : Packet) (s : State), let p := p0.withField 3 31 30 2
    specBreakResume.accepts src p s = true →
    let q := specBreakResume.pkt p
    let u := specBreakResume.taken src p s
    exec (.breakSetResume src p0) s = .next ((if q.f 3 29 28 = 1 then u.resume 0xFFFF u.flexFlyers else if q.b 3 27 then u.resume 0 (2 ^ q.f 3 7 4) else u.resume (2 ^ q.f 3 7 4) 0).finish s.q.nextId 0))
  ∧ (∀ (s : State) (ac fl : Nat), s.dbg.queuedAcks = [] →
    s.resume ac fl = { s with dbg := { s.dbg with haltedAc := s.dbg.haltedAc &&& (0xFFFF ^^^ (ac % 2 ^ 16)), haltedFl := s.dbg.haltedFl &&& (0x3FF ^^^ (fl % 2 ^ 10)) } })
  ∧ (∀ (src : Src) (p0 : Packet) (s : State), let p := p0.withField 3 31 30 3
    specBreakHalt.accepts src p s = true →
    let q := specBreakHalt.pkt p
    let u := specBreakHalt.taken src p s
    exec (.breakSetHaltNow src p0) s = .next ((u.halt (q.f 3 7 4 + (if q.b 3 27 then 16 else 0)) (q.f 3 29 28 = 1)).finish s.q.nextId 0))
  ∧ (∀ (s : State) (n : Nat) (all : Bool),
    let ac := if all then 0xFFFF else if n < 16 then 2 ^ n else 0
    let fl := if all then s.flexFlyers else if n < 16 then 0 else 2 ^ (n - 16)
    (s.dev.update = .activating → s.halt n all = { s with dbg := { s.dbg with heldHalts := s.dbg.heldHalts ++ [(n, all)] } })
    ∧ (s.dev.update ≠ .activating → s.halt n all = ({ s with dbg := { s.dbg with haltedAc := s.dbg.haltedAc ||| ac, haltedFl := s.dbg.haltedFl ||| fl } } : State).trace { type := 8, unit := n }))
  ∧ (∀ (s : State) (core slot : Nat), s.pwr.phase = .up → slot ≤ 3 →
    (NMap.get? s.dbg.breaks (core * 4 + slot) = none → exec (.breakpointHit core slot) s = .next s)
    ∧ ∀ a, NMap.get? s.dbg.breaks (core * 4 + slot) = some a → exec (.breakpointHit core slot) s = .next (if s.coreHalted core then s else s.halt core (a.testBit 64)))
  ∧ (∀ (s : State) (core addr : Nat) (data : List Byte), s.pwr.phase = .up →
    (s.dbg.level = .locked → ∀ op, exec (.debugTransportAccess core op addr data) s = .next s)
    ∧ (s.dbg.level ≠ .locked → core < 16 → s.dbg.queuedAcks = [] →
      let u : State := { s with dbg := { s.dbg with tap := .transport } }
      exec (.debugTransportAccess core 0 addr data) s = .next (u.halt core false)
      ∧ exec (.debugTransportAccess core 1 addr data) s = .next (u.resume (2 ^ core) 0)
      ∧ exec (.debugTransportAccess core 4 addr data) s = .next u
      ∧ exec (.debugTransportAccess core 5 addr data) s = .next (if s.dbg.haltedAc.testBit core && s.served addr data.length then u.store addr data else u)))
  ∧ (∀ (src : Src) (p : Packet) (s : State), specTraceConfig.accepts src p s = true →
    let q := specTraceConfig.pkt p
    let u := specTraceConfig.taken src p s
    let size := q.f 3 10 0
    let d := u.dbg
    let at_ := if size = d.sizeMib then d.traceHead else 0
    (1024 < size → exec (.traceConfig src p) s = .next (u.finish s.q.nextId 0x0200 [0x28]))
    ∧ (size ≤ 1024 → at_ < size * 2 ^ 20 / 32 → exec (.traceConfig src p) s = .next (({ u with dbg := { d with traceOn := q.b 3 31, stopFull := q.b 3 30, sizeMib := size, typeMask := q.word 4, tenants := q.f 5 31 16, ctxOnly := if q.b 5 12 then some (q.f 5 11 0) else none, traceStop := false, traceHead := at_ } } : State).finish s.q.nextId 0 [d.traceBase % 2 ^ 32, d.traceBase / 2 ^ 32])))
  ∧ (∀ (src : Src) (p : Packet) (s : State), specCounterRead.accepts src p s = true →
    let q := specCounterRead.pkt p
    let u := specCounterRead.taken src p s
    let g := q.f 3 18 16
    let tenants := if g < 4 then (if q.b 3 30 then List.range 16 else [q.f 3 27 24]) else [0]
    let bytes := (List.range (q.f 4 15 0)).flatMap (fun i => u.ctrBytes g tenants (q.f 3 15 0 + i))
    let v := u.store (q.word 5 + q.f 6 15 0 * 2 ^ 32) bytes
    exec (.counterRead src p) s = .next ((if q.b 3 31 then v.ctrClear g tenants (q.f 3 15 0) (q.f 4 15 0) else v).finish s.q.nextId 0 [bytes.length, u.now % 2 ^ 32, u.dbg.wakes, 0]))

/-- KEY_WRITE stores a key made from its source, which raises the slot's generation, holds its type, use and bytes, and takes USE OOB from every other slot; a failed envelope ends SIGNATURE_INVALID. KEY_ERASE empties a slot, raises its generation and, urgent, ends its users. A failed vault cell takes a spare cell, and without one raises cause 10; both cells failed empty and fence the slot. ATTEST writes the evidence or ends NO_SPACE with its length. IMAGE_BLOCK stores a block whose CRC-32C matches and otherwise ends CHECK_FAILED; IMAGE_VERIFY whose manifest is signed becomes outstanding. ACTIVATE discards an image that the counter cannot reach, begins a pause for KIND 0x1 and puts the others in force at once. ACTIVATE_AT sets, clears and discards; at the due time the image activates with a pause, or stays Pending with BAD_STATE in UPD_LAST. The pause begins once what is outstanding has ended, stops it after 20 ms, holds its loops, and ends with the counter raised and the state Idle. -/
def Obligations.KeysAndUpdates : Prop :=
  (∀ (src : Src) (p : Packet) (s : State), specKeyWrite.accepts src p s = true →
    let q := specKeyWrite.pkt p
    let u := specKeyWrite.taken src p s
    let n := q.f 3 4 0
    let t := q.f 3 27 24
    let len := keyWriteLen (q.f 3 31 30) t
    let bytes := u.load (q.addr 4) len
    let put (x : State) (key : List Byte) (d : Nat) : State := let y := x.putKey n t (q.f 3 23 20) key; y.finish s.q.nextId 0 [(y.slot n).gen, d]
    (q.f 3 31 30 = 0 → ∃ key : List Byte, key.length = keyBytes t ∧ exec (.keyWrite src p) s = .next (put ({ u with free := u.free + keyBytes t } : State) key 0))
    ∧ (q.f 3 31 30 = 1 → exec (.keyWrite src p) s = .next (match Config.hpkeOpen (envelopeInfo u.dev.serial n) bytes with | some key => put u key 0 | none => u.finish s.q.nextId 0x0502 [0]))
    ∧ (q.f 3 31 30 = 2 → exec (.keyWrite src p) s = .next (put u ((List.range (keyBytes t)).map (Config.hkdf (u.slot (q.f 3 12 8)).key bytes)) 0))
    ∧ (q.f 3 31 30 = 3 → exec (.keyWrite src p) s = .next (put u bytes (Config.sha384 bytes % 2 ^ 32))))
  ∧ (∀ (s : State) (n type use : Nat) (key : List Byte), n < s.vault.slots.length →
    let x := (s.putKey n type use key).slot n
    x.gen = ((s.slot n).gen + 1) % 2 ^ 32 ∧ x.type = type ∧ x.use = use ∧ x.key = key
      ∧ (use.testBit 3 = true → ∀ m, m ≠ n → (((s.putKey n type use key).slot m).use).testBit 3 = false)
      ∧ (use.testBit 3 = false → ∀ m, m ≠ n → (s.putKey n type use key).slot m = s.slot m)
      ∧ (s.emptySlot n).slot n = { s.slot n with gen := ((s.slot n).gen + 1) % 2 ^ 32, type := 0, use := 0, key := [] })
  ∧ (∀ (src : Src) (p : Packet) (s : State), specKeyErase.accepts src p s = true →
    let q := specKeyErase.pkt p
    let u := specKeyErase.taken src p s
    let n := q.f 3 4 0
    let users := u.keyUsers n
    let v := (if q.b 0 24 then (users.map (fun o => o.id)).foldl (fun x i => (x.dropEsc i).finish i 0x0500 [n]) u else u).emptySlot n
    exec (.keyErase src p) s = .next ((v.logIt .keyErase n (q.b 0 24).toNat).finish s.q.nextId 0 [(v.slot n).gen, if q.b 0 24 then users.length else 0]))
  ∧ (∀ (s : State) (n : Nat), s.clocked = true → n < 32 →
    exec (.keyCellFail n true) s = .next (((s.emptySlot n).setSlot n (fun k => { k with oneCell := false })).fence 0 0 0 0x13 n 0)
    ∧ ((s.slot n).oneCell = false → s.vault.spareCells = 0 → exec (.keyCellFail n false) s = .next ((s.setSlot n (fun k => { k with oneCell := true })).raise 10))
    ∧ ∀ c, (s.slot n).oneCell = false → s.vault.spareCells = c + 1 →
      let u := ({ s with vault := { s.vault with spareCells := c } } : State).spliceRec { event := 1, cls := 0x27, from_ := n, to_ := c, logical := n, trigger := 3 }
      exec (.keyCellFail n false) s = .next (if c = 0 then u.raise 10 else u))
  ∧ (∀ (src : Src) (p : Packet) (s : State), specAttest.accepts src p s = true →
    let q := specAttest.pkt p
    let u := specAttest.taken src p s
    let ev := u.evidence (q.f 3 1 0) (wordBytes ((List.range 8).map (fun i => q.word (4 + i))))
    exec (.attest src p) s = .next (if q.word 14 < ev.length then u.finish s.q.nextId 0x0200 [ev.length] else (u.store (q.addr 12) ev).finish s.q.nextId 0 [ev.length, u.vault.value]))
  ∧ (∀ (src : Src) (p : Packet) (s : State), specImageBlock.accepts src p s = true →
    let q := specImageBlock.pkt p
    let u := specImageBlock.taken src p s
    let data := u.load (q.addr 7) 65536
    let fresh : Bool := u.dev.update = .idle || q.b 3 31
    let staged := NMap.put (if fresh then [] else u.upd.staged) (q.f 3 9 0) data
    let v : State := { u with dev := { u.dev with update := .staging }, upd := { u.upd with imageId := q.word 4, kind := q.f 3 13 12, blocks := q.f 5 10 0, staged := staged } }
    exec (.imageBlock src p) s = .next (if crc32c data ≠ q.word 6 then u.finish s.q.nextId 0x0503 [q.f 3 9 0] else v.finish s.q.nextId 0 [staged.length, q.f 3 9 0]))
  ∧ (∀ (src : Src) (p : Packet) (s : State),
    let unsigned : OpSpec := { specImageVerify with pre := fun e x => firstFail [(x.dev.update ≠ .staging || x.received ≠ x.upd.blocks, badState 74), (x.manifestDiffers (x.manifestOf e.p), badParam 3)] }
    unsigned.accepts src p s = true →
    let u := specImageVerify.taken src p s
    let m := u.manifestOf (specImageVerify.pkt p)
    exec (.imageVerify src p) s = .next (if u.manifestSig m ≠ 0 then u.finish s.q.nextId 0x0502 [u.manifestSig m]
      else u.setJob s.q.nextId (.waits (.verify m (if manifestF m 471 468 = 1 then [] else [30, 31])))))
  ∧ (∀ (src : Src) (p : Packet) (s : State), specActivate.accepts src p s = true →
    let u := specActivate.taken src p s
    let a : Activation := { pkt := some s.q.nextId, kind := u.upd.kind, sv := u.upd.sv }
    let r := ({ u with upd := { u.upd with sched := none } } : State).putInForce
    let v := (if u.upd.kind = 2 then r.1.restartCores else r.1).endActivation r.1.upd.sv
    exec (.activate src p) s = .next (
      if u.vault.value + u.vault.capacity < u.upd.sv then u.discardImage.finish s.q.nextId 0x0501
      else if u.upd.kind = 1 then ({ u with dev := { u.dev with update := .activating }, upd := { u.upd with sched := none, act := some a } } : State).setJob s.q.nextId (.waits .activate)
      else if r.2 then v.finish s.q.nextId 0 [0, v.vault.value, u.upd.kind]
      else (({ r.1 with upd := { r.1.upd with last := 0x0503 } } : State).logIt .update 0 0x0503).finish s.q.nextId 0x0503 [0xFFFFFFFE]))
  ∧ (∀ (src : Src) (p0 : Packet) (s : State), let p := p0.withField 3 31 30 0
    specActivateSchedule.accepts src p s = true →
    let q := specActivateSchedule.pkt p
    let u := specActivateSchedule.taken src p s
    let t := (q.word 5 + q.f 6 15 0 * 2 ^ 32) * 1000000000 + q.word 4
    let set (due : Nat) : State := ({ u with upd := { u.upd with sched := some (due, q.b 0 24) } } : State).finish s.q.nextId 0 [due % 2 ^ 32]
    exec (.activateAtSchedule src p0) s = .next (if u.now < t then set t else if q.b 0 24 then set u.now else u.finish s.q.nextId 0x0401 [t % 2 ^ 32]))
  ∧ (∀ (src : Src) (p0 : Packet) (s : State), let p := p0.withField 3 31 30 1
    specActivateCancel.accepts src p s = true →
    let u := specActivateCancel.taken src p s
    exec (.activateAtCancel src p0) s = .next (({ u with upd := { u.upd with sched := none } } : State).finish s.q.nextId 0))
  ∧ (∀ (src : Src) (p0 : Packet) (s : State), let p := p0.withField 3 31 30 2
    specActivateDiscard.accepts src p s = true →
    let u := specActivateDiscard.taken src p s
    exec (.activateAtDiscard src p0) s = .next (u.discardImage.finish s.q.nextId 0) ∧ u.discardImage.dev.update = .idle ∧ u.discardImage.upd.staged = [] ∧ u.discardImage.upd.sched = none)
  ∧ (∀ (s : State) (due : Nat × Bool), s.upd.sched = some due → s.dev.update = .pending → s.pwr.phase = .up →
    let u : State := { s with upd := { s.upd with sched := none } }
    let a : Activation := { pkt := none, kind := s.upd.kind, sv := s.upd.sv }
    (s.saf.atRest = none ∨ s.dbg.haltedAc ≠ 0 ∨ s.dbg.haltedFl ≠ 0 → exec .activationDue s = .next (({ u with upd := { u.upd with last := 0x0108 } } : State).logIt .update 0 0x0108))
    ∧ (s.saf.atRest.isSome = true → s.dbg.haltedAc = 0 → s.dbg.haltedFl = 0 → s.upd.sv ≤ s.vault.value + s.vault.capacity →
      exec .activationDue s = .next { u with dev := { u.dev with update := .activating }, upd := { u.upd with act := some a } }))
  ∧ (∀ (s : State) (a : Activation), s.clocked = true → s.upd.act = some a → a.stage = .drain →
    let others := (s.pkts.filter (fun o => some o.id ≠ a.pkt)).map (fun o => o.id)
    let w := ({ s with upd := { s.upd with act := some { a with pauseStart := s.now, stage := .paused } } } : State).sendAllStatus
    let r := ({ w with dom := { w.dom with cores := w.dom.cores.map (fun c => { c with g := 0, v0 := 0, v1 := 0 }) } } : State).putInForce
    exec .activationDrainTimeout s = .next (s.stopMany .abort others).1
    ∧ (others ≠ [] → exec .activationPauseBegin s = .next s)
    ∧ (others = [] → exec .activationPauseBegin s = .next (if r.2 then r.1
        else ((({ r.1 with dev := { r.1.dev with update := .pending }, upd := { r.1.upd with act := none, last := 0x0503 } } : State).sendAllStatus).logIt .update 0 0x0503).applyHalts)))
  ∧ (∀ (s : State) (a : Activation), s.clocked = true → s.upd.act = some a →
    (a.stage = .paused → exec .activationHoldStage s = .next { s with upd := { s.upd with act := some { a with stage := .held } } })
    ∧ (a.stage = .imageRunning →
      let x := ({ s with upd := { s.upd with act := none } } : State).resumeLoops
      let t := ((if a.pkt = none ∨ a.kind = 2 then x.restartCores else x).endActivation a.sv).sendAllStatus
      exec .activationPauseEnd s = .next (match a.pkt with | some id => t.finish id 0 [(s.now - a.pauseStart) / 1000, t.vault.value, a.kind, 0] | none => t).applyHalts))
  ∧ (∀ (s : State) (sv : Nat), let t := s.endActivation sv
    t.dev.update = .idle ∧ t.upd.last = 0 ∧ t.upd.staged = [] ∧ t.upd.act = none ∧ s.vault.value ≤ t.vault.value)

/-- The input that rises after Off, or returns while the hold-up store still runs the module, starts a module reset, whose first step is the wake sequence and which keeps what the manual keeps: serial, fuses, keys and splice log; after Off WAKE_TIME is at its reset value. A loss of the input, with no packet outstanding and no acknowledgement queued, raises cause 11, switches the channels off and makes the outputs high-impedance; in Sleep or a wake the module goes Off, as it does when the hold-up store is empty. The store charged, or its timeout, opens the hold-up gate, the timeout with a log record. The low band is entered once with a log record and left. The discharge sink and the inlet temperature are taken as given, and a sensor that fails is logged once. -/
def Obligations.InputPower : Prop :=
  (∀ (s : State) (endpoint : Bool),
    let u : State := { s with pwr := { s.pwr with lowBand := false } }
    (s.pwr.phase = .off → exec (.powerUp endpoint) s = .next (u.moduleReset true endpoint) ∧ exec (.inputReturn endpoint) s = .next (u.moduleReset true endpoint))
    ∧ (s.pwr.phase = .lost → exec (.inputReturn endpoint) s = .next (u.moduleReset false endpoint) ∧ exec (.powerUp endpoint) s = .next s ∧ exec .inputLoss s = .next s
      ∧ exec .holdupDisconnect s = .next { s with pwr := { s.pwr with phase := .off } })
    ∧ (s.pwr.phase = .up → exec (.powerUp endpoint) s = .next s ∧ exec (.inputReturn endpoint) s = .next s ∧ exec .holdupDisconnect s = .next s))
  ∧ (∀ (s : State) (loss endpoint : Bool), let t := s.moduleReset loss endpoint
    t.pwr.phase = .waking { reset := true } ∧ t.pkts = [] ∧ t.mem = [] ∧ t.q.bobbins = State.reset.q.bobbins ∧ t.q.endpoint = endpoint ∧ t.saf = State.reset.saf ∧ t.kv = []
      ∧ t.dom.contexts = [] ∧ t.dev.serial = s.dev.serial ∧ t.dev.resets = s.dev.resets + 1 ∧ t.vault.banks = s.vault.banks ∧ t.vault.slots.map (fun k => (k.gen, k.type, k.key)) = s.vault.slots.map (fun k => (k.gen, k.type, k.key))
      ∧ t.spl.log = s.spl.log ∧ t.spl.map = s.spl.map ∧ t.log = s.log ∧ t.upd.configs = s.upd.configs ∧ t.pwr.wakeTimeN = (if loss then 0 else s.pwr.wakeTimeN) ∧ t.pending = s.pending)
  ∧ (∀ s : State, s.pkts = [] → s.dbg.queuedAcks = [] →
    (s.pwr.phase = .up ∨ s.pwr.phase = .recovery ∨ s.pwr.phase = .tripped ∨ (∃ n, s.pwr.phase = .entering n) → ∃ t : State, exec .inputLoss s = .next t ∧ t.pwr.phase = .lost ∧ t.pwr.lowBand = false
      ∧ t.saf.causes = (s.saf.causes ||| 2048) ∧ t.sen.highZ = true ∧ (∀ c ∈ t.sen.channels, c.on = false ∧ c.inrush = none) ∧ t.safeLow = true ∧ t.pkts = [])
    ∧ (s.pwr.phase = .asleep ∨ (∃ w, s.pwr.phase = .waking w) → exec .inputLoss s = .next { s with pwr := { s.pwr with lowBand := false, phase := .off } })
    ∧ (s.pwr.phase = .off → exec .inputLoss s = .next s))
  ∧ (∀ s : State, s.pwr.phase ≠ .off → s.pwr.phase ≠ .lost →
    let gate : State := { s with pwr := { s.pwr with holdupGate := true } }
    exec .holdupCharged s = .next gate ∧ exec .holdupTimeout s = .next (if s.pwr.holdupGate then s else gate.logIt .holdup)
    ∧ exec .inputLowBand s = .next (if s.pwr.lowBand then s else ({ s with pwr := { s.pwr with lowBand := true } } : State).logIt .inputBand)
    ∧ exec .inputFullFunctionReturn s = .next { s with pwr := { s.pwr with lowBand := false } })
  ∧ (∀ (s : State) (on : Bool) (inlet : Option Int),
    exec (.activeDischarge on) s = .next { s with pwr := { s.pwr with discharge := on } }
    ∧ (s.clocked = true →
      let v : State := { s with pwr := { s.pwr with inlet := inlet } }
      exec (.coolantSample inlet) s = .next (if inlet = none ∧ s.pwr.inlet ≠ none then v.logIt .sensorFault 0xFFFF else v))
    ∧ (s.clocked = false → exec (.coolantSample inlet) s = .next s))
end

