-- ==== Sys2Proof/Laws/Maps.lean ====
section
/-! SUPPORT. Reading a number-keyed map after each of its operations, and lists after a change at a position. -/

namespace Sys2Proof

theorem NMap.get?_put {α : Type} (m : NMap α) (k : Nat) (v : α) (j : Nat) :
    NMap.get? (NMap.put m k v) j = if j = k then some v else NMap.get? m j := by
  induction m with
  | nil =>
    by_cases h : j = k
    · simp [NMap.put, NMap.get?, h]
    · have : ¬ k = j := fun e => h e.symm
      simp [NMap.put, NMap.get?, h, this]
  | cons x r ih =>
    obtain ⟨a, b⟩ := x
    by_cases h1 : k < a
    · by_cases hj : j = k
      · subst hj; simp [NMap.put, h1, NMap.get?]
      · have : ¬ k = j := fun e => hj e.symm
        simp [NMap.put, h1, NMap.get?, hj, this]
    · by_cases h2 : k = a
      · subst h2
        by_cases hj : j = k
        · subst hj; simp [NMap.put, NMap.get?]
        · have : ¬ k = j := fun e => hj e.symm
          simp [NMap.put, NMap.get?, hj, this]
      · by_cases hj : j = k
        · subst hj
          have : ¬ a = j := fun e => h2 e.symm
          simp [NMap.put, h1, h2, NMap.get?, ih, this]
        · simp [NMap.put, h1, h2, NMap.get?, ih, hj]

@[simp] theorem NMap.get?_put_same {α : Type} (m : NMap α) (k : Nat) (v : α) : NMap.get? (NMap.put m k v) k = some v := by
  simp [NMap.get?_put]

theorem NMap.get?_put_ne {α : Type} {m : NMap α} {k j : Nat} {v : α} (h : j ≠ k) : NMap.get? (NMap.put m k v) j = NMap.get? m j := by
  simp [NMap.get?_put, h]

end Sys2Proof
end

