-- ==== Sys2Proof/Laws/Memory.lean ====
section
/-! SUPPORT. Memory bytes: every memory operation keeps the canonical form (addresses strictly rising, no 0 listed), a read after a write gives the
byte written, and a write leaves every other address alone. -/

namespace Sys2Proof.Machine

/-! ### The canonical form -/

/-- The canonical form, said of the list as a whole. -/
theorem memWf_iff (m : List Host.Cell) : memWf m = true ↔ m.Pairwise (fun x y => x.1 < y.1) ∧ ∀ c ∈ m, c.2 ≠ 0 := by
  induction m with
  | nil => simp [memWf]
  | cons x r ih =>
    obtain ⟨a, b⟩ := x
    cases r with
    | nil => simp [memWf]
    | cons y t =>
      obtain ⟨a', b'⟩ := y
      simp only [memWf, Bool.and_eq_true, bne_iff_ne, ne_eq, decide_eq_true_eq, ih]
      constructor
      · rintro ⟨⟨hb, hlt⟩, hp, hz⟩
        refine ⟨List.pairwise_cons.2 ⟨?_, hp⟩, ?_⟩
        · intro c hc
          rcases List.mem_cons.1 hc with rfl | hc
          · exact hlt
          · exact Nat.lt_trans hlt ((List.pairwise_cons.1 hp).1 c hc)
        · intro c hc
          rcases List.mem_cons.1 hc with rfl | hc
          · exact hb
          · exact hz c hc
      · rintro ⟨hp, hz⟩
        have h := List.pairwise_cons.1 hp
        exact ⟨⟨hz _ (List.mem_cons_self ..), h.1 _ (List.mem_cons_self ..)⟩, h.2, fun c hc => hz c (List.mem_cons_of_mem _ hc)⟩

/-- A part of a canonical list is canonical. -/
theorem memWf_filter {m : List Host.Cell} (p : Host.Cell → Bool) (h : memWf m = true) : memWf (m.filter p) = true := by
  rw [memWf_iff] at *
  exact ⟨h.1.filter p, fun c hc => h.2 c (List.mem_filter.1 hc).1⟩

/-- A cell after one write is the written one or was there before. -/
theorem mem_memPut {m : List Host.Cell} {a : Nat} {b : Byte} {c : Host.Cell} (h : c ∈ memPut m a b) : c ∈ m ∨ (c = (a, b) ∧ b ≠ 0) := by
  induction m with
  | nil =>
    unfold memPut at h
    split at h
    · cases h
    · rename_i hb; exact .inr ⟨by simpa using h, hb⟩
  | cons x r ih =>
    obtain ⟨a', b'⟩ := x
    unfold memPut at h
    split at h
    · split at h
      · exact .inl h
      · rename_i hb
        rcases List.mem_cons.1 h with rfl | h
        · exact .inr ⟨rfl, hb⟩
        · exact .inl h
    · split at h
      · split at h
        · exact .inl (List.mem_cons_of_mem _ h)
        · rename_i hb
          rcases List.mem_cons.1 h with rfl | h
          · exact .inr ⟨rfl, hb⟩
          · exact .inl (List.mem_cons_of_mem _ h)
      · rcases List.mem_cons.1 h with rfl | h
        · exact .inl (List.mem_cons_self ..)
        · rcases ih h with h | h
          · exact .inl (List.mem_cons_of_mem _ h)
          · exact .inr h

/-- One write keeps the canonical form. -/
theorem memWf_memPut {m : List Host.Cell} (a : Nat) (b : Byte) (h : memWf m = true) : memWf (memPut m a b) = true := by
  rw [memWf_iff] at *
  obtain ⟨hp, hz⟩ := h
  refine ⟨?_, fun c hc => ?_⟩
  · clear hz
    induction m with
    | nil => unfold memPut; split <;> simp
    | cons x r ih =>
      obtain ⟨a', b'⟩ := x
      have hr := List.pairwise_cons.1 hp
      unfold memPut
      split
      · rename_i hlt
        split
        · exact hp
        · refine List.pairwise_cons.2 ⟨fun c hc => ?_, hp⟩
          rcases List.mem_cons.1 hc with rfl | hc
          · exact hlt
          · exact Nat.lt_trans hlt (hr.1 c hc)
      · rename_i hnlt
        split
        · rename_i heq
          subst heq
          split
          · exact hr.2
          · exact List.pairwise_cons.2 ⟨fun c hc => hr.1 c hc, hr.2⟩
        · rename_i hne
          refine List.pairwise_cons.2 ⟨fun c hc => ?_, ih hr.2⟩
          rcases mem_memPut hc with hc | ⟨rfl, -⟩
          · exact hr.1 c hc
          · exact Nat.lt_of_le_of_ne (Nat.le_of_not_lt hnlt) (fun e => hne e.symm)
  · rcases mem_memPut hc with hc | ⟨rfl, hb⟩
    · exact hz c hc
    · exact hb

/-- Writes of consecutive bytes keep the canonical form. -/
theorem memWf_memPuts {m : List Host.Cell} (a : Addr) (bs : List Byte) (h : memWf m = true) : memWf (memPuts m a bs) = true := by
  induction bs generalizing m a with
  | nil => exact h
  | cons b r ih => exact ih (a + 1) (memWf_memPut a b h)

/-- Writes of single cells, one after another, keep the canonical form. -/
theorem memWf_memPutCells {m : List Host.Cell} (cs : List Host.Cell) (h : memWf m = true) : memWf (cs.foldl (fun m b => memPut m b.1 b.2) m) = true := by
  induction cs generalizing m with
  | nil => exact h
  | cons c r ih => exact ih (memWf_memPut c.1 c.2 h)

/-- Clearing a range keeps the canonical form. -/
theorem memWf_memClear {m : List Host.Cell} (a n : Nat) (h : memWf m = true) : memWf (memClear m a n) = true := memWf_filter _ h

/-! ### Read after write -/

/-- A byte below every listed address reads 0. -/
theorem memGet_of_lt {m : List Host.Cell} {a : Addr} (h : ∀ c ∈ m, a < c.1) : memGet m a = 0 := by
  cases m with
  | nil => rfl
  | cons x r =>
    obtain ⟨a', b'⟩ := x
    have h1 := h (a', b') (List.mem_cons_self ..)
    simp only [memGet]
    rw [if_neg (fun e => by simp [e] at h1), if_pos h1]

/-- What an address reads after one write. -/
theorem memGet_memPut {m : List Host.Cell} (a j : Nat) (b : Byte) (h : memWf m = true) : memGet (memPut m a b) j = if j = a then b else memGet m j := by
  rw [memWf_iff] at h
  obtain ⟨hp, -⟩ := h
  induction m with
  | nil =>
    by_cases hj : j = a
    · subst hj
      by_cases hb : b = 0#8 <;> simp [memPut, memGet, hb]
    · have : ¬ a = j := fun e => hj e.symm
      by_cases hb : b = 0#8 <;> simp [memPut, memGet, hb, hj, this]
  | cons x r ih =>
    obtain ⟨a', b'⟩ := x
    have hr := List.pairwise_cons.1 hp
    by_cases h1 : a < a'
    · by_cases hb : b = 0#8
      · by_cases hj : j = a
        · subst hj
          have : ¬ a' = j := by omega
          simp [memPut, memGet, h1, hb, this]
        · simp [memPut, h1, hb, hj]
      · by_cases hj : j = a
        · subst hj; simp [memPut, memGet, h1, hb]
        · have h2 : ¬ a = j := fun e => hj e.symm
          have hput : memPut ((a', b') :: r) a b = (a, b) :: (a', b') :: r := by simp [memPut, h1, hb]
          rw [hput, if_neg hj]
          by_cases h3 : j < a
          · have h4 : ¬ a' = j := by omega
            have h5 : j < a' := by omega
            simp [memGet, h2, h3, h4, h5]
          · simp [memGet, h2, h3]
    · by_cases h2 : a = a'
      · subst h2
        by_cases hj : j = a
        · subst hj
          by_cases hb : b = 0#8
          · simp only [memPut, Nat.lt_irrefl, if_false, if_true, hb]
            exact memGet_of_lt hr.1
          · simp [memPut, memGet, hb]
        · have h3 : ¬ a = j := fun e => hj e.symm
          by_cases hb : b = 0#8
          · simp only [memPut, Nat.lt_irrefl, if_false, if_true, hb, memGet, h3, hj]
            by_cases h4 : j < a
            · simp only [h4, if_true]
              exact memGet_of_lt (fun c hc => Nat.lt_trans h4 (hr.1 c hc))
            · simp [h4]
          · simp [memPut, memGet, hb, h3, hj]
      · simp only [memPut, h1, if_false, h2, memGet, ih hr.2]
        by_cases hj : j = a
        · subst hj
          have h3 : ¬ a' = j := fun e => h2 e.symm
          simp [h3, h1]
        · simp [hj]

/-- Writes of consecutive bytes leave an address outside them alone. -/
theorem memGet_memPuts_out {m : List Host.Cell} (a j : Nat) (bs : List Byte) (h : memWf m = true) (ho : j < a ∨ a + bs.length ≤ j) :
    memGet (memPuts m a bs) j = memGet m j := by
  induction bs generalizing m a with
  | nil => rfl
  | cons b r ih =>
    simp only [List.length_cons] at ho
    have hj : j ≠ a := by omega
    simp only [memPuts]
    rw [ih (a + 1) (memWf_memPut a b h) (by omega), memGet_memPut a j b h, if_neg hj]

/-- Writes of consecutive bytes give each address among them its byte. -/
theorem memGet_memPuts_in {m : List Host.Cell} (a : Nat) (i : Nat) (bs : List Byte) (h : memWf m = true) (hi : i < bs.length) :
    memGet (memPuts m a bs) (a + i) = bs[i] := by
  induction bs generalizing m a i with
  | nil => cases hi
  | cons b r ih =>
    simp only [memPuts]
    cases i with
    | zero =>
      have h0 := memGet_memPuts_out (a + 1) a r (memWf_memPut a b h) (.inl (Nat.lt_succ_self a))
      rw [memGet_memPut a a b h, if_pos rfl] at h0
      exact h0
    | succ i =>
      have := ih (m := memPut m a b) (a + 1) i (memWf_memPut a b h) (Nat.lt_of_succ_lt_succ hi)
      rw [show a + (i + 1) = a + 1 + i by omega, this]
      rfl

/-- Reading back what was written. -/
theorem memGets_memPuts {m : List Host.Cell} (a : Nat) (bs : List Byte) (h : memWf m = true) : memGets (memPuts m a bs) a bs.length = bs := by
  have key : ∀ (k : Nat) (xs : List Byte) (m' : List Host.Cell), xs.length = k → (∀ (i : Nat) (hi : i < xs.length), memGet m' (a + (bs.length - k) + i) = xs[i]) →
      memGets m' (a + (bs.length - k)) k = xs ∨ bs.length < k := by
    intro k
    induction k with
    | zero => intro xs m' hl _; exact .inl (by simp [memGets, List.length_eq_zero_iff.1 hl])
    | succ k ih =>
      intro xs m' hl hg
      by_cases hk : bs.length < k + 1
      · exact .inr hk
      · cases xs with
        | nil => cases hl
        | cons x r =>
          left
          have h0 := hg 0 (by simp)
          rcases ih r m' (by simpa using hl) (fun i hi => by
            have := hg (i + 1) (by simpa using hi)
            rw [show a + (bs.length - k) + i = a + (bs.length - (k + 1)) + (i + 1) by omega, this]
            rfl) with h1 | h1
          · simp only [memGets]
            rw [show a + (bs.length - (k + 1)) + 1 = a + (bs.length - k) by omega, h1]
            congr 1
          · omega
  rcases key bs.length bs (memPuts m a bs) rfl (fun i hi => by
    rw [Nat.sub_self, Nat.add_zero]; exact memGet_memPuts_in a i bs h hi) with h1 | h1
  · simpa using h1
  · exact absurd h1 (Nat.lt_irrefl _)

/-! ### The state's memory operations -/

/-- `s` holds memory in canonical form. -/
abbrev State.MemCanon (s : State) : Prop := memWf s.mem = true

theorem State.store_canon {s : State} (a : Addr) (bs : List Byte) (h : s.MemCanon) : (s.store a bs).MemCanon := memWf_memPuts a bs h
theorem State.clear_canon {s : State} (a n : Nat) (h : s.MemCanon) : (s.clear a n).MemCanon := memWf_memClear a n h
theorem State.scramble_canon {s : State} (a n : Nat) (h : s.MemCanon) : (s.scramble a n).MemCanon := memWf_memPuts a _ h

/-- The trace unit writes one record or none, and its own registers. -/
theorem State.trace_cases (s : State) (t : TraceEv) : (∃ d, s.trace t = { s with dbg := d }) ∨ ∃ a bs d, s.trace t = { s.store a bs with dbg := d } := by
  unfold State.trace
  extract_lets d pass entries s1 next wrapped
  by_cases h : pass = true
  · rw [if_neg (by simp [h])]
    split
    · exact .inl ⟨_, rfl⟩
    · exact .inr ⟨d.traceBase + 32 * d.traceHead, traceBytes t (ts32 s.now), _, rfl⟩
  · exact .inl ⟨s.dbg, if_pos (by simpa using h)⟩

/-- The trace unit keeps the canonical form. -/
theorem State.trace_canon {s : State} (t : TraceEv) (h : s.MemCanon) : (s.trace t).MemCanon := by
  rcases s.trace_cases t with ⟨_, e⟩ | ⟨a, bs, d, e⟩
  · rw [e]; exact h
  · rw [e]; exact memWf_memPuts a bs h

/-- Sleep keeps the canonical form: it drops what lies outside HBM. -/
theorem State.toSleep_canon {s : State} (h : s.MemCanon) : s.toSleep.MemCanon := by
  unfold State.MemCanon State.toSleep
  dsimp only
  exact memWf_filter _ h

/-- Memory at reset is canonical. -/
theorem State.reset_canon : State.reset.MemCanon := rfl

/-- A store is read back. -/
theorem State.load_store {s : State} (a : Addr) (bs : List Byte) (h : s.MemCanon) : (s.store a bs).load a bs.length = bs := memGets_memPuts a bs h

/-- A store leaves the bytes outside it alone. -/
theorem State.memGet_store_out {s : State} (a j : Addr) (bs : List Byte) (h : s.MemCanon) (ho : j < a ∨ a + bs.length ≤ j) :
    memGet (s.store a bs).mem j = memGet s.mem j := memGet_memPuts_out a j bs h ho

end Sys2Proof.Machine
end

