-- ==== Sys2Proof/Laws/State.lean ====
section
/-! SUPPORT. What each small update of the state leaves in each field, and what the shared operations over causes, traces and bobbins do. -/

namespace Sys2Proof.Machine

@[simp] theorem State.bob_setBob (s : State) (n m : Nat) (b : Bobbin) : (s.setBob n b).bob m = if m = n then b else s.bob m := by
  unfold State.bob State.setBob NMap.getD
  simp only [NMap.get?_put]
  by_cases h : m = n <;> simp [h]

/-! ### setBob -/

@[simp] theorem State.setBob_dev (s : State) (n : Nat) (b : Bobbin) : (s.setBob n b).dev = s.dev := rfl
@[simp] theorem State.setBob_q (s : State) (n : Nat) (b : Bobbin) : (s.setBob n b).q = { s.q with bobbins := NMap.put s.q.bobbins n b } := rfl
@[simp] theorem State.setBob_oob (s : State) (n : Nat) (b : Bobbin) : (s.setBob n b).oob = s.oob := rfl
@[simp] theorem State.setBob_pkts (s : State) (n : Nat) (b : Bobbin) : (s.setBob n b).pkts = s.pkts := rfl
@[simp] theorem State.setBob_dom (s : State) (n : Nat) (b : Bobbin) : (s.setBob n b).dom = s.dom := rfl
@[simp] theorem State.setBob_ms (s : State) (n : Nat) (b : Bobbin) : (s.setBob n b).ms = s.ms := rfl
@[simp] theorem State.setBob_mem (s : State) (n : Nat) (b : Bobbin) : (s.setBob n b).mem = s.mem := rfl
@[simp] theorem State.setBob_dr (s : State) (n : Nat) (b : Bobbin) : (s.setBob n b).dr = s.dr := rfl
@[simp] theorem State.setBob_kv (s : State) (n : Nat) (b : Bobbin) : (s.setBob n b).kv = s.kv := rfl
@[simp] theorem State.setBob_ply (s : State) (n : Nat) (b : Bobbin) : (s.setBob n b).ply = s.ply := rfl
@[simp] theorem State.setBob_time (s : State) (n : Nat) (b : Bobbin) : (s.setBob n b).time = s.time := rfl
@[simp] theorem State.setBob_saf (s : State) (n : Nat) (b : Bobbin) : (s.setBob n b).saf = s.saf := rfl
@[simp] theorem State.setBob_dbg (s : State) (n : Nat) (b : Bobbin) : (s.setBob n b).dbg = s.dbg := rfl
@[simp] theorem State.setBob_vault (s : State) (n : Nat) (b : Bobbin) : (s.setBob n b).vault = s.vault := rfl
@[simp] theorem State.setBob_upd (s : State) (n : Nat) (b : Bobbin) : (s.setBob n b).upd = s.upd := rfl
@[simp] theorem State.setBob_pwr (s : State) (n : Nat) (b : Bobbin) : (s.setBob n b).pwr = s.pwr := rfl
@[simp] theorem State.setBob_spl (s : State) (n : Nat) (b : Bobbin) : (s.setBob n b).spl = s.spl := rfl
@[simp] theorem State.setBob_tens (s : State) (n : Nat) (b : Bobbin) : (s.setBob n b).tens = s.tens := rfl
@[simp] theorem State.setBob_sen (s : State) (n : Nat) (b : Bobbin) : (s.setBob n b).sen = s.sen := rfl
@[simp] theorem State.setBob_eng (s : State) (n : Nat) (b : Bobbin) : (s.setBob n b).eng = s.eng := rfl
@[simp] theorem State.setBob_log (s : State) (n : Nat) (b : Bobbin) : (s.setBob n b).log = s.log := rfl
@[simp] theorem State.setBob_out (s : State) (n : Nat) (b : Bobbin) : (s.setBob n b).out = s.out := rfl
@[simp] theorem State.setBob_free (s : State) (n : Nat) (b : Bobbin) : (s.setBob n b).free = s.free := rfl
@[simp] theorem State.setBob_pending (s : State) (n : Nat) (b : Bobbin) : (s.setBob n b).pending = s.pending := rfl

/-! ### logIt -/

@[simp] theorem State.logIt_dev (s : State) (k : LogKind) (a b c : Nat) : (s.logIt k a b c).dev = s.dev := rfl
@[simp] theorem State.logIt_q (s : State) (k : LogKind) (a b c : Nat) : (s.logIt k a b c).q = s.q := rfl
@[simp] theorem State.logIt_oob (s : State) (k : LogKind) (a b c : Nat) : (s.logIt k a b c).oob = s.oob := rfl
@[simp] theorem State.logIt_pkts (s : State) (k : LogKind) (a b c : Nat) : (s.logIt k a b c).pkts = s.pkts := rfl
@[simp] theorem State.logIt_dom (s : State) (k : LogKind) (a b c : Nat) : (s.logIt k a b c).dom = s.dom := rfl
@[simp] theorem State.logIt_ms (s : State) (k : LogKind) (a b c : Nat) : (s.logIt k a b c).ms = s.ms := rfl
@[simp] theorem State.logIt_mem (s : State) (k : LogKind) (a b c : Nat) : (s.logIt k a b c).mem = s.mem := rfl
@[simp] theorem State.logIt_dr (s : State) (k : LogKind) (a b c : Nat) : (s.logIt k a b c).dr = s.dr := rfl
@[simp] theorem State.logIt_kv (s : State) (k : LogKind) (a b c : Nat) : (s.logIt k a b c).kv = s.kv := rfl
@[simp] theorem State.logIt_ply (s : State) (k : LogKind) (a b c : Nat) : (s.logIt k a b c).ply = s.ply := rfl
@[simp] theorem State.logIt_time (s : State) (k : LogKind) (a b c : Nat) : (s.logIt k a b c).time = s.time := rfl
@[simp] theorem State.logIt_saf (s : State) (k : LogKind) (a b c : Nat) : (s.logIt k a b c).saf = s.saf := rfl
@[simp] theorem State.logIt_dbg (s : State) (k : LogKind) (a b c : Nat) : (s.logIt k a b c).dbg = s.dbg := rfl
@[simp] theorem State.logIt_vault (s : State) (k : LogKind) (a b c : Nat) : (s.logIt k a b c).vault = s.vault := rfl
@[simp] theorem State.logIt_upd (s : State) (k : LogKind) (a b c : Nat) : (s.logIt k a b c).upd = s.upd := rfl
@[simp] theorem State.logIt_pwr (s : State) (k : LogKind) (a b c : Nat) : (s.logIt k a b c).pwr = s.pwr := rfl
@[simp] theorem State.logIt_spl (s : State) (k : LogKind) (a b c : Nat) : (s.logIt k a b c).spl = s.spl := rfl
@[simp] theorem State.logIt_tens (s : State) (k : LogKind) (a b c : Nat) : (s.logIt k a b c).tens = s.tens := rfl
@[simp] theorem State.logIt_sen (s : State) (k : LogKind) (a b c : Nat) : (s.logIt k a b c).sen = s.sen := rfl
@[simp] theorem State.logIt_eng (s : State) (k : LogKind) (a b c : Nat) : (s.logIt k a b c).eng = s.eng := rfl
@[simp] theorem State.logIt_log (s : State) (k : LogKind) (a b c : Nat) : (s.logIt k a b c).log = s.log ++ [⟨k, a, b, c, s.now⟩] := rfl
@[simp] theorem State.logIt_out (s : State) (k : LogKind) (a b c : Nat) : (s.logIt k a b c).out = s.out := rfl
@[simp] theorem State.logIt_free (s : State) (k : LogKind) (a b c : Nat) : (s.logIt k a b c).free = s.free := rfl
@[simp] theorem State.logIt_pending (s : State) (k : LogKind) (a b c : Nat) : (s.logIt k a b c).pending = s.pending := rfl

/-! ### emit -/

@[simp] theorem State.emit_dev (s : State) (o : Out) : (s.emit o).dev = s.dev := rfl
@[simp] theorem State.emit_q (s : State) (o : Out) : (s.emit o).q = s.q := rfl
@[simp] theorem State.emit_oob (s : State) (o : Out) : (s.emit o).oob = s.oob := rfl
@[simp] theorem State.emit_pkts (s : State) (o : Out) : (s.emit o).pkts = s.pkts := rfl
@[simp] theorem State.emit_dom (s : State) (o : Out) : (s.emit o).dom = s.dom := rfl
@[simp] theorem State.emit_ms (s : State) (o : Out) : (s.emit o).ms = s.ms := rfl
@[simp] theorem State.emit_mem (s : State) (o : Out) : (s.emit o).mem = s.mem := rfl
@[simp] theorem State.emit_dr (s : State) (o : Out) : (s.emit o).dr = s.dr := rfl
@[simp] theorem State.emit_kv (s : State) (o : Out) : (s.emit o).kv = s.kv := rfl
@[simp] theorem State.emit_ply (s : State) (o : Out) : (s.emit o).ply = s.ply := rfl
@[simp] theorem State.emit_time (s : State) (o : Out) : (s.emit o).time = s.time := rfl
@[simp] theorem State.emit_saf (s : State) (o : Out) : (s.emit o).saf = s.saf := rfl
@[simp] theorem State.emit_dbg (s : State) (o : Out) : (s.emit o).dbg = s.dbg := rfl
@[simp] theorem State.emit_vault (s : State) (o : Out) : (s.emit o).vault = s.vault := rfl
@[simp] theorem State.emit_upd (s : State) (o : Out) : (s.emit o).upd = s.upd := rfl
@[simp] theorem State.emit_pwr (s : State) (o : Out) : (s.emit o).pwr = s.pwr := rfl
@[simp] theorem State.emit_spl (s : State) (o : Out) : (s.emit o).spl = s.spl := rfl
@[simp] theorem State.emit_tens (s : State) (o : Out) : (s.emit o).tens = s.tens := rfl
@[simp] theorem State.emit_sen (s : State) (o : Out) : (s.emit o).sen = s.sen := rfl
@[simp] theorem State.emit_eng (s : State) (o : Out) : (s.emit o).eng = s.eng := rfl
@[simp] theorem State.emit_log (s : State) (o : Out) : (s.emit o).log = s.log := rfl
@[simp] theorem State.emit_out (s : State) (o : Out) : (s.emit o).out = s.out ++ [o] := rfl
@[simp] theorem State.emit_free (s : State) (o : Out) : (s.emit o).free = s.free := rfl
@[simp] theorem State.emit_pending (s : State) (o : Out) : (s.emit o).pending = s.pending := rfl

/-! ### drawn -/

@[simp] theorem State.drawn_dev (s : State) (n : Nat) : (s.drawn n).dev = s.dev := rfl
@[simp] theorem State.drawn_q (s : State) (n : Nat) : (s.drawn n).q = s.q := rfl
@[simp] theorem State.drawn_oob (s : State) (n : Nat) : (s.drawn n).oob = s.oob := rfl
@[simp] theorem State.drawn_pkts (s : State) (n : Nat) : (s.drawn n).pkts = s.pkts := rfl
@[simp] theorem State.drawn_dom (s : State) (n : Nat) : (s.drawn n).dom = s.dom := rfl
@[simp] theorem State.drawn_ms (s : State) (n : Nat) : (s.drawn n).ms = s.ms := rfl
@[simp] theorem State.drawn_mem (s : State) (n : Nat) : (s.drawn n).mem = s.mem := rfl
@[simp] theorem State.drawn_dr (s : State) (n : Nat) : (s.drawn n).dr = s.dr := rfl
@[simp] theorem State.drawn_kv (s : State) (n : Nat) : (s.drawn n).kv = s.kv := rfl
@[simp] theorem State.drawn_ply (s : State) (n : Nat) : (s.drawn n).ply = s.ply := rfl
@[simp] theorem State.drawn_time (s : State) (n : Nat) : (s.drawn n).time = s.time := rfl
@[simp] theorem State.drawn_saf (s : State) (n : Nat) : (s.drawn n).saf = s.saf := rfl
@[simp] theorem State.drawn_dbg (s : State) (n : Nat) : (s.drawn n).dbg = s.dbg := rfl
@[simp] theorem State.drawn_vault (s : State) (n : Nat) : (s.drawn n).vault = s.vault := rfl
@[simp] theorem State.drawn_upd (s : State) (n : Nat) : (s.drawn n).upd = s.upd := rfl
@[simp] theorem State.drawn_pwr (s : State) (n : Nat) : (s.drawn n).pwr = s.pwr := rfl
@[simp] theorem State.drawn_spl (s : State) (n : Nat) : (s.drawn n).spl = s.spl := rfl
@[simp] theorem State.drawn_tens (s : State) (n : Nat) : (s.drawn n).tens = s.tens := rfl
@[simp] theorem State.drawn_sen (s : State) (n : Nat) : (s.drawn n).sen = s.sen := rfl
@[simp] theorem State.drawn_eng (s : State) (n : Nat) : (s.drawn n).eng = s.eng := rfl
@[simp] theorem State.drawn_log (s : State) (n : Nat) : (s.drawn n).log = s.log := rfl
@[simp] theorem State.drawn_out (s : State) (n : Nat) : (s.drawn n).out = s.out := rfl
@[simp] theorem State.drawn_free (s : State) (n : Nat) : (s.drawn n).free = s.free + n := rfl
@[simp] theorem State.drawn_pending (s : State) (n : Nat) : (s.drawn n).pending = s.pending := rfl

/-! ### setJob -/

@[simp] theorem State.setJob_dev (s : State) (i : Nat) (j : Job) : (s.setJob i j).dev = s.dev := rfl
@[simp] theorem State.setJob_q (s : State) (i : Nat) (j : Job) : (s.setJob i j).q = s.q := rfl
@[simp] theorem State.setJob_oob (s : State) (i : Nat) (j : Job) : (s.setJob i j).oob = s.oob := rfl
@[simp] theorem State.setJob_pkts (s : State) (i : Nat) (j : Job) : (s.setJob i j).pkts = s.pkts.map (fun o => if o.id = i then { o with job := j } else o) := rfl
@[simp] theorem State.setJob_dom (s : State) (i : Nat) (j : Job) : (s.setJob i j).dom = s.dom := rfl
@[simp] theorem State.setJob_ms (s : State) (i : Nat) (j : Job) : (s.setJob i j).ms = s.ms := rfl
@[simp] theorem State.setJob_mem (s : State) (i : Nat) (j : Job) : (s.setJob i j).mem = s.mem := rfl
@[simp] theorem State.setJob_dr (s : State) (i : Nat) (j : Job) : (s.setJob i j).dr = s.dr := rfl
@[simp] theorem State.setJob_kv (s : State) (i : Nat) (j : Job) : (s.setJob i j).kv = s.kv := rfl
@[simp] theorem State.setJob_ply (s : State) (i : Nat) (j : Job) : (s.setJob i j).ply = s.ply := rfl
@[simp] theorem State.setJob_time (s : State) (i : Nat) (j : Job) : (s.setJob i j).time = s.time := rfl
@[simp] theorem State.setJob_saf (s : State) (i : Nat) (j : Job) : (s.setJob i j).saf = s.saf := rfl
@[simp] theorem State.setJob_dbg (s : State) (i : Nat) (j : Job) : (s.setJob i j).dbg = s.dbg := rfl
@[simp] theorem State.setJob_vault (s : State) (i : Nat) (j : Job) : (s.setJob i j).vault = s.vault := rfl
@[simp] theorem State.setJob_upd (s : State) (i : Nat) (j : Job) : (s.setJob i j).upd = s.upd := rfl
@[simp] theorem State.setJob_pwr (s : State) (i : Nat) (j : Job) : (s.setJob i j).pwr = s.pwr := rfl
@[simp] theorem State.setJob_spl (s : State) (i : Nat) (j : Job) : (s.setJob i j).spl = s.spl := rfl
@[simp] theorem State.setJob_tens (s : State) (i : Nat) (j : Job) : (s.setJob i j).tens = s.tens := rfl
@[simp] theorem State.setJob_sen (s : State) (i : Nat) (j : Job) : (s.setJob i j).sen = s.sen := rfl
@[simp] theorem State.setJob_eng (s : State) (i : Nat) (j : Job) : (s.setJob i j).eng = s.eng := rfl
@[simp] theorem State.setJob_log (s : State) (i : Nat) (j : Job) : (s.setJob i j).log = s.log := rfl
@[simp] theorem State.setJob_out (s : State) (i : Nat) (j : Job) : (s.setJob i j).out = s.out := rfl
@[simp] theorem State.setJob_free (s : State) (i : Nat) (j : Job) : (s.setJob i j).free = s.free := rfl
@[simp] theorem State.setJob_pending (s : State) (i : Nat) (j : Job) : (s.setJob i j).pending = s.pending := rfl

/-! ### restart -/

@[simp] theorem State.restart_dev (s : State) (d : Nat) : (s.restart d).dev = s.dev := rfl
@[simp] theorem State.restart_q (s : State) (d : Nat) : (s.restart d).q = s.q := rfl
@[simp] theorem State.restart_oob (s : State) (d : Nat) : (s.restart d).oob = s.oob := rfl
@[simp] theorem State.restart_pkts (s : State) (d : Nat) : (s.restart d).pkts = s.pkts := rfl
@[simp] theorem State.restart_dom (s : State) (d : Nat) : (s.restart d).dom = s.dom := rfl
@[simp] theorem State.restart_ms (s : State) (d : Nat) : (s.restart d).ms = s.ms := rfl
@[simp] theorem State.restart_mem (s : State) (d : Nat) : (s.restart d).mem = s.mem := rfl
@[simp] theorem State.restart_dr (s : State) (d : Nat) : (s.restart d).dr = s.dr := rfl
@[simp] theorem State.restart_kv (s : State) (d : Nat) : (s.restart d).kv = s.kv := rfl
@[simp] theorem State.restart_ply (s : State) (d : Nat) : (s.restart d).ply = s.ply := rfl
@[simp] theorem State.restart_time (s : State) (d : Nat) : (s.restart d).time = s.time := rfl
@[simp] theorem State.restart_saf (s : State) (d : Nat) : (s.restart d).saf = s.saf := rfl
@[simp] theorem State.restart_dbg (s : State) (d : Nat) : (s.restart d).dbg = s.dbg := rfl
@[simp] theorem State.restart_vault (s : State) (d : Nat) : (s.restart d).vault = s.vault := rfl
@[simp] theorem State.restart_upd (s : State) (d : Nat) : (s.restart d).upd = s.upd := rfl
@[simp] theorem State.restart_pwr (s : State) (d : Nat) : (s.restart d).pwr = { s.pwr with stopped := s.pwr.stopped.filter (· ≠ d) } := rfl
@[simp] theorem State.restart_spl (s : State) (d : Nat) : (s.restart d).spl = s.spl := rfl
@[simp] theorem State.restart_tens (s : State) (d : Nat) : (s.restart d).tens = s.tens := rfl
@[simp] theorem State.restart_sen (s : State) (d : Nat) : (s.restart d).sen = s.sen := rfl
@[simp] theorem State.restart_eng (s : State) (d : Nat) : (s.restart d).eng = s.eng := rfl
@[simp] theorem State.restart_log (s : State) (d : Nat) : (s.restart d).log = s.log := rfl
@[simp] theorem State.restart_out (s : State) (d : Nat) : (s.restart d).out = s.out := rfl
@[simp] theorem State.restart_free (s : State) (d : Nat) : (s.restart d).free = s.free := rfl
@[simp] theorem State.restart_pending (s : State) (d : Nat) : (s.restart d).pending = s.pending := rfl

/-! ### bump -/

@[simp] theorem State.bump_dev (s : State) (g t e f n l : Nat) : (s.bump g t e f n l).dev = s.dev := rfl
@[simp] theorem State.bump_q (s : State) (g t e f n l : Nat) : (s.bump g t e f n l).q = s.q := rfl
@[simp] theorem State.bump_oob (s : State) (g t e f n l : Nat) : (s.bump g t e f n l).oob = s.oob := rfl
@[simp] theorem State.bump_pkts (s : State) (g t e f n l : Nat) : (s.bump g t e f n l).pkts = s.pkts := rfl
@[simp] theorem State.bump_dom (s : State) (g t e f n l : Nat) : (s.bump g t e f n l).dom = s.dom := rfl
@[simp] theorem State.bump_ms (s : State) (g t e f n l : Nat) : (s.bump g t e f n l).ms = s.ms := rfl
@[simp] theorem State.bump_mem (s : State) (g t e f n l : Nat) : (s.bump g t e f n l).mem = s.mem := rfl
@[simp] theorem State.bump_dr (s : State) (g t e f n l : Nat) : (s.bump g t e f n l).dr = s.dr := rfl
@[simp] theorem State.bump_kv (s : State) (g t e f n l : Nat) : (s.bump g t e f n l).kv = s.kv := rfl
@[simp] theorem State.bump_ply (s : State) (g t e f n l : Nat) : (s.bump g t e f n l).ply = s.ply := rfl
@[simp] theorem State.bump_time (s : State) (g t e f n l : Nat) : (s.bump g t e f n l).time = s.time := rfl
@[simp] theorem State.bump_saf (s : State) (g t e f n l : Nat) : (s.bump g t e f n l).saf = s.saf := rfl
@[simp] theorem State.bump_vault (s : State) (g t e f n l : Nat) : (s.bump g t e f n l).vault = s.vault := rfl
@[simp] theorem State.bump_upd (s : State) (g t e f n l : Nat) : (s.bump g t e f n l).upd = s.upd := rfl
@[simp] theorem State.bump_pwr (s : State) (g t e f n l : Nat) : (s.bump g t e f n l).pwr = s.pwr := rfl
@[simp] theorem State.bump_spl (s : State) (g t e f n l : Nat) : (s.bump g t e f n l).spl = s.spl := rfl
@[simp] theorem State.bump_tens (s : State) (g t e f n l : Nat) : (s.bump g t e f n l).tens = s.tens := rfl
@[simp] theorem State.bump_sen (s : State) (g t e f n l : Nat) : (s.bump g t e f n l).sen = s.sen := rfl
@[simp] theorem State.bump_eng (s : State) (g t e f n l : Nat) : (s.bump g t e f n l).eng = s.eng := rfl
@[simp] theorem State.bump_log (s : State) (g t e f n l : Nat) : (s.bump g t e f n l).log = s.log := rfl
@[simp] theorem State.bump_out (s : State) (g t e f n l : Nat) : (s.bump g t e f n l).out = s.out := rfl
@[simp] theorem State.bump_free (s : State) (g t e f n l : Nat) : (s.bump g t e f n l).free = s.free := rfl
@[simp] theorem State.bump_pending (s : State) (g t e f n l : Nat) : (s.bump g t e f n l).pending = s.pending := rfl

/-! ### store -/

@[simp] theorem State.store_dev (s : State) (a : Addr) (bs : List Byte) : (s.store a bs).dev = s.dev := rfl
@[simp] theorem State.store_q (s : State) (a : Addr) (bs : List Byte) : (s.store a bs).q = s.q := rfl
@[simp] theorem State.store_oob (s : State) (a : Addr) (bs : List Byte) : (s.store a bs).oob = s.oob := rfl
@[simp] theorem State.store_pkts (s : State) (a : Addr) (bs : List Byte) : (s.store a bs).pkts = s.pkts := rfl
@[simp] theorem State.store_dom (s : State) (a : Addr) (bs : List Byte) : (s.store a bs).dom = s.dom := rfl
@[simp] theorem State.store_ms (s : State) (a : Addr) (bs : List Byte) : (s.store a bs).ms = { s.ms with poison := poisonAfter s.ms.poison a bs.length } := rfl
@[simp] theorem State.store_mem (s : State) (a : Addr) (bs : List Byte) : (s.store a bs).mem = memPuts s.mem a bs := rfl
@[simp] theorem State.store_kv (s : State) (a : Addr) (bs : List Byte) : (s.store a bs).kv = s.kv := rfl
@[simp] theorem State.store_ply (s : State) (a : Addr) (bs : List Byte) : (s.store a bs).ply = s.ply := rfl
@[simp] theorem State.store_time (s : State) (a : Addr) (bs : List Byte) : (s.store a bs).time = s.time := rfl
@[simp] theorem State.store_saf (s : State) (a : Addr) (bs : List Byte) : (s.store a bs).saf = s.saf := rfl
@[simp] theorem State.store_dbg (s : State) (a : Addr) (bs : List Byte) : (s.store a bs).dbg = s.dbg := rfl
@[simp] theorem State.store_vault (s : State) (a : Addr) (bs : List Byte) : (s.store a bs).vault = s.vault := rfl
@[simp] theorem State.store_upd (s : State) (a : Addr) (bs : List Byte) : (s.store a bs).upd = s.upd := rfl
@[simp] theorem State.store_pwr (s : State) (a : Addr) (bs : List Byte) : (s.store a bs).pwr = s.pwr := rfl
@[simp] theorem State.store_spl (s : State) (a : Addr) (bs : List Byte) : (s.store a bs).spl = s.spl := rfl
@[simp] theorem State.store_tens (s : State) (a : Addr) (bs : List Byte) : (s.store a bs).tens = s.tens := rfl
@[simp] theorem State.store_sen (s : State) (a : Addr) (bs : List Byte) : (s.store a bs).sen = s.sen := rfl
@[simp] theorem State.store_eng (s : State) (a : Addr) (bs : List Byte) : (s.store a bs).eng = s.eng := rfl
@[simp] theorem State.store_log (s : State) (a : Addr) (bs : List Byte) : (s.store a bs).log = s.log := rfl
@[simp] theorem State.store_out (s : State) (a : Addr) (bs : List Byte) : (s.store a bs).out = s.out := rfl
@[simp] theorem State.store_free (s : State) (a : Addr) (bs : List Byte) : (s.store a bs).free = s.free := rfl
@[simp] theorem State.store_pending (s : State) (a : Addr) (bs : List Byte) : (s.store a bs).pending = s.pending := rfl

/-! ### clear -/

@[simp] theorem State.clear_dev (s : State) (a n : Nat) : (s.clear a n).dev = s.dev := rfl
@[simp] theorem State.clear_q (s : State) (a n : Nat) : (s.clear a n).q = s.q := rfl
@[simp] theorem State.clear_oob (s : State) (a n : Nat) : (s.clear a n).oob = s.oob := rfl
@[simp] theorem State.clear_pkts (s : State) (a n : Nat) : (s.clear a n).pkts = s.pkts := rfl
@[simp] theorem State.clear_dom (s : State) (a n : Nat) : (s.clear a n).dom = s.dom := rfl
@[simp] theorem State.clear_ms (s : State) (a n : Nat) : (s.clear a n).ms = { s.ms with poison := poisonAfter s.ms.poison a n } := rfl
@[simp] theorem State.clear_mem (s : State) (a n : Nat) : (s.clear a n).mem = memClear s.mem a n := rfl
@[simp] theorem State.clear_dr (s : State) (a n : Nat) : (s.clear a n).dr = s.dr := rfl
@[simp] theorem State.clear_kv (s : State) (a n : Nat) : (s.clear a n).kv = s.kv := rfl
@[simp] theorem State.clear_ply (s : State) (a n : Nat) : (s.clear a n).ply = s.ply := rfl
@[simp] theorem State.clear_time (s : State) (a n : Nat) : (s.clear a n).time = s.time := rfl
@[simp] theorem State.clear_saf (s : State) (a n : Nat) : (s.clear a n).saf = s.saf := rfl
@[simp] theorem State.clear_dbg (s : State) (a n : Nat) : (s.clear a n).dbg = s.dbg := rfl
@[simp] theorem State.clear_vault (s : State) (a n : Nat) : (s.clear a n).vault = s.vault := rfl
@[simp] theorem State.clear_upd (s : State) (a n : Nat) : (s.clear a n).upd = s.upd := rfl
@[simp] theorem State.clear_pwr (s : State) (a n : Nat) : (s.clear a n).pwr = s.pwr := rfl
@[simp] theorem State.clear_spl (s : State) (a n : Nat) : (s.clear a n).spl = s.spl := rfl
@[simp] theorem State.clear_tens (s : State) (a n : Nat) : (s.clear a n).tens = s.tens := rfl
@[simp] theorem State.clear_sen (s : State) (a n : Nat) : (s.clear a n).sen = s.sen := rfl
@[simp] theorem State.clear_eng (s : State) (a n : Nat) : (s.clear a n).eng = s.eng := rfl
@[simp] theorem State.clear_log (s : State) (a n : Nat) : (s.clear a n).log = s.log := rfl
@[simp] theorem State.clear_out (s : State) (a n : Nat) : (s.clear a n).out = s.out := rfl
@[simp] theorem State.clear_free (s : State) (a n : Nat) : (s.clear a n).free = s.free := rfl
@[simp] theorem State.clear_pending (s : State) (a n : Nat) : (s.clear a n).pending = s.pending := rfl

/-! ### setCtx -/

@[simp] theorem State.setCtx_dev (s : State) (c : Nat) (f : Context → Context) : (s.setCtx c f).dev = s.dev := rfl
@[simp] theorem State.setCtx_q (s : State) (c : Nat) (f : Context → Context) : (s.setCtx c f).q = s.q := rfl
@[simp] theorem State.setCtx_oob (s : State) (c : Nat) (f : Context → Context) : (s.setCtx c f).oob = s.oob := rfl
@[simp] theorem State.setCtx_pkts (s : State) (c : Nat) (f : Context → Context) : (s.setCtx c f).pkts = s.pkts := rfl
@[simp] theorem State.setCtx_dom (s : State) (c : Nat) (f : Context → Context) : (s.setCtx c f).dom = { s.dom with contexts := NMap.upd s.dom.contexts c f } := rfl
@[simp] theorem State.setCtx_ms (s : State) (c : Nat) (f : Context → Context) : (s.setCtx c f).ms = s.ms := rfl
@[simp] theorem State.setCtx_mem (s : State) (c : Nat) (f : Context → Context) : (s.setCtx c f).mem = s.mem := rfl
@[simp] theorem State.setCtx_dr (s : State) (c : Nat) (f : Context → Context) : (s.setCtx c f).dr = s.dr := rfl
@[simp] theorem State.setCtx_kv (s : State) (c : Nat) (f : Context → Context) : (s.setCtx c f).kv = s.kv := rfl
@[simp] theorem State.setCtx_ply (s : State) (c : Nat) (f : Context → Context) : (s.setCtx c f).ply = s.ply := rfl
@[simp] theorem State.setCtx_time (s : State) (c : Nat) (f : Context → Context) : (s.setCtx c f).time = s.time := rfl
@[simp] theorem State.setCtx_saf (s : State) (c : Nat) (f : Context → Context) : (s.setCtx c f).saf = s.saf := rfl
@[simp] theorem State.setCtx_dbg (s : State) (c : Nat) (f : Context → Context) : (s.setCtx c f).dbg = s.dbg := rfl
@[simp] theorem State.setCtx_vault (s : State) (c : Nat) (f : Context → Context) : (s.setCtx c f).vault = s.vault := rfl
@[simp] theorem State.setCtx_upd (s : State) (c : Nat) (f : Context → Context) : (s.setCtx c f).upd = s.upd := rfl
@[simp] theorem State.setCtx_pwr (s : State) (c : Nat) (f : Context → Context) : (s.setCtx c f).pwr = s.pwr := rfl
@[simp] theorem State.setCtx_spl (s : State) (c : Nat) (f : Context → Context) : (s.setCtx c f).spl = s.spl := rfl
@[simp] theorem State.setCtx_tens (s : State) (c : Nat) (f : Context → Context) : (s.setCtx c f).tens = s.tens := rfl
@[simp] theorem State.setCtx_sen (s : State) (c : Nat) (f : Context → Context) : (s.setCtx c f).sen = s.sen := rfl
@[simp] theorem State.setCtx_eng (s : State) (c : Nat) (f : Context → Context) : (s.setCtx c f).eng = s.eng := rfl
@[simp] theorem State.setCtx_log (s : State) (c : Nat) (f : Context → Context) : (s.setCtx c f).log = s.log := rfl
@[simp] theorem State.setCtx_out (s : State) (c : Nat) (f : Context → Context) : (s.setCtx c f).out = s.out := rfl
@[simp] theorem State.setCtx_free (s : State) (c : Nat) (f : Context → Context) : (s.setCtx c f).free = s.free := rfl
@[simp] theorem State.setCtx_pending (s : State) (c : Nat) (f : Context → Context) : (s.setCtx c f).pending = s.pending := rfl

/-! ### endHint -/

@[simp] theorem State.endHint_dev (s : State) (c : Nat) : (s.endHint c).dev = s.dev := rfl
@[simp] theorem State.endHint_q (s : State) (c : Nat) : (s.endHint c).q = s.q := rfl
@[simp] theorem State.endHint_oob (s : State) (c : Nat) : (s.endHint c).oob = s.oob := rfl
@[simp] theorem State.endHint_pkts (s : State) (c : Nat) : (s.endHint c).pkts = s.pkts := rfl
@[simp] theorem State.endHint_dom (s : State) (c : Nat) : (s.endHint c).dom = s.dom := rfl
@[simp] theorem State.endHint_ms (s : State) (c : Nat) : (s.endHint c).ms = s.ms := rfl
@[simp] theorem State.endHint_mem (s : State) (c : Nat) : (s.endHint c).mem = s.mem := rfl
@[simp] theorem State.endHint_dr (s : State) (c : Nat) : (s.endHint c).dr = s.dr := rfl
@[simp] theorem State.endHint_kv (s : State) (c : Nat) : (s.endHint c).kv = s.kv := rfl
@[simp] theorem State.endHint_ply (s : State) (c : Nat) : (s.endHint c).ply = s.ply := rfl
@[simp] theorem State.endHint_time (s : State) (c : Nat) : (s.endHint c).time = s.time := rfl
@[simp] theorem State.endHint_saf (s : State) (c : Nat) : (s.endHint c).saf = s.saf := rfl
@[simp] theorem State.endHint_dbg (s : State) (c : Nat) : (s.endHint c).dbg = s.dbg := rfl
@[simp] theorem State.endHint_vault (s : State) (c : Nat) : (s.endHint c).vault = s.vault := rfl
@[simp] theorem State.endHint_upd (s : State) (c : Nat) : (s.endHint c).upd = s.upd := rfl
@[simp] theorem State.endHint_pwr (s : State) (c : Nat) : (s.endHint c).pwr = s.pwr := rfl
@[simp] theorem State.endHint_spl (s : State) (c : Nat) : (s.endHint c).spl = s.spl := rfl
@[simp] theorem State.endHint_tens (s : State) (c : Nat) : (s.endHint c).tens = { s.tens with hints := s.tens.hints.filter (fun h => h.ctx ≠ c) } := rfl
@[simp] theorem State.endHint_sen (s : State) (c : Nat) : (s.endHint c).sen = s.sen := rfl
@[simp] theorem State.endHint_eng (s : State) (c : Nat) : (s.endHint c).eng = s.eng := rfl
@[simp] theorem State.endHint_log (s : State) (c : Nat) : (s.endHint c).log = s.log := rfl
@[simp] theorem State.endHint_out (s : State) (c : Nat) : (s.endHint c).out = s.out := rfl
@[simp] theorem State.endHint_free (s : State) (c : Nat) : (s.endHint c).free = s.free := rfl
@[simp] theorem State.endHint_pending (s : State) (c : Nat) : (s.endHint c).pending = s.pending := rfl

/-! ### setAge -/

@[simp] theorem State.setAge_dev (s : State) (n : Nat) (a : AgeStream) : (s.setAge n a).dev = s.dev := rfl
@[simp] theorem State.setAge_q (s : State) (n : Nat) (a : AgeStream) : (s.setAge n a).q = s.q := rfl
@[simp] theorem State.setAge_oob (s : State) (n : Nat) (a : AgeStream) : (s.setAge n a).oob = s.oob := rfl
@[simp] theorem State.setAge_pkts (s : State) (n : Nat) (a : AgeStream) : (s.setAge n a).pkts = s.pkts := rfl
@[simp] theorem State.setAge_dom (s : State) (n : Nat) (a : AgeStream) : (s.setAge n a).dom = s.dom := rfl
@[simp] theorem State.setAge_ms (s : State) (n : Nat) (a : AgeStream) : (s.setAge n a).ms = s.ms := rfl
@[simp] theorem State.setAge_mem (s : State) (n : Nat) (a : AgeStream) : (s.setAge n a).mem = s.mem := rfl
@[simp] theorem State.setAge_dr (s : State) (n : Nat) (a : AgeStream) : (s.setAge n a).dr = s.dr := rfl
@[simp] theorem State.setAge_kv (s : State) (n : Nat) (a : AgeStream) : (s.setAge n a).kv = s.kv := rfl
@[simp] theorem State.setAge_ply (s : State) (n : Nat) (a : AgeStream) : (s.setAge n a).ply = s.ply := rfl
@[simp] theorem State.setAge_time (s : State) (n : Nat) (a : AgeStream) : (s.setAge n a).time = s.time := rfl
@[simp] theorem State.setAge_saf (s : State) (n : Nat) (a : AgeStream) : (s.setAge n a).saf = { s.saf with ages := NMap.put s.saf.ages n a } := rfl
@[simp] theorem State.setAge_dbg (s : State) (n : Nat) (a : AgeStream) : (s.setAge n a).dbg = s.dbg := rfl
@[simp] theorem State.setAge_vault (s : State) (n : Nat) (a : AgeStream) : (s.setAge n a).vault = s.vault := rfl
@[simp] theorem State.setAge_upd (s : State) (n : Nat) (a : AgeStream) : (s.setAge n a).upd = s.upd := rfl
@[simp] theorem State.setAge_pwr (s : State) (n : Nat) (a : AgeStream) : (s.setAge n a).pwr = s.pwr := rfl
@[simp] theorem State.setAge_spl (s : State) (n : Nat) (a : AgeStream) : (s.setAge n a).spl = s.spl := rfl
@[simp] theorem State.setAge_tens (s : State) (n : Nat) (a : AgeStream) : (s.setAge n a).tens = s.tens := rfl
@[simp] theorem State.setAge_sen (s : State) (n : Nat) (a : AgeStream) : (s.setAge n a).sen = s.sen := rfl
@[simp] theorem State.setAge_eng (s : State) (n : Nat) (a : AgeStream) : (s.setAge n a).eng = s.eng := rfl
@[simp] theorem State.setAge_log (s : State) (n : Nat) (a : AgeStream) : (s.setAge n a).log = s.log := rfl
@[simp] theorem State.setAge_out (s : State) (n : Nat) (a : AgeStream) : (s.setAge n a).out = s.out := rfl
@[simp] theorem State.setAge_free (s : State) (n : Nat) (a : AgeStream) : (s.setAge n a).free = s.free := rfl
@[simp] theorem State.setAge_pending (s : State) (n : Nat) (a : AgeStream) : (s.setAge n a).pending = s.pending := rfl

/-! ### setCompare -/

@[simp] theorem State.setCompare_dev (s : State) (n : Nat) (c : PairCompare) : (s.setCompare n c).dev = s.dev := rfl
@[simp] theorem State.setCompare_q (s : State) (n : Nat) (c : PairCompare) : (s.setCompare n c).q = s.q := rfl
@[simp] theorem State.setCompare_oob (s : State) (n : Nat) (c : PairCompare) : (s.setCompare n c).oob = s.oob := rfl
@[simp] theorem State.setCompare_pkts (s : State) (n : Nat) (c : PairCompare) : (s.setCompare n c).pkts = s.pkts := rfl
@[simp] theorem State.setCompare_dom (s : State) (n : Nat) (c : PairCompare) : (s.setCompare n c).dom = s.dom := rfl
@[simp] theorem State.setCompare_ms (s : State) (n : Nat) (c : PairCompare) : (s.setCompare n c).ms = s.ms := rfl
@[simp] theorem State.setCompare_mem (s : State) (n : Nat) (c : PairCompare) : (s.setCompare n c).mem = s.mem := rfl
@[simp] theorem State.setCompare_dr (s : State) (n : Nat) (c : PairCompare) : (s.setCompare n c).dr = s.dr := rfl
@[simp] theorem State.setCompare_kv (s : State) (n : Nat) (c : PairCompare) : (s.setCompare n c).kv = s.kv := rfl
@[simp] theorem State.setCompare_ply (s : State) (n : Nat) (c : PairCompare) : (s.setCompare n c).ply = s.ply := rfl
@[simp] theorem State.setCompare_time (s : State) (n : Nat) (c : PairCompare) : (s.setCompare n c).time = s.time := rfl
@[simp] theorem State.setCompare_saf (s : State) (n : Nat) (c : PairCompare) : (s.setCompare n c).saf = { s.saf with compares := NMap.put s.saf.compares n c } := rfl
@[simp] theorem State.setCompare_dbg (s : State) (n : Nat) (c : PairCompare) : (s.setCompare n c).dbg = s.dbg := rfl
@[simp] theorem State.setCompare_vault (s : State) (n : Nat) (c : PairCompare) : (s.setCompare n c).vault = s.vault := rfl
@[simp] theorem State.setCompare_upd (s : State) (n : Nat) (c : PairCompare) : (s.setCompare n c).upd = s.upd := rfl
@[simp] theorem State.setCompare_pwr (s : State) (n : Nat) (c : PairCompare) : (s.setCompare n c).pwr = s.pwr := rfl
@[simp] theorem State.setCompare_spl (s : State) (n : Nat) (c : PairCompare) : (s.setCompare n c).spl = s.spl := rfl
@[simp] theorem State.setCompare_tens (s : State) (n : Nat) (c : PairCompare) : (s.setCompare n c).tens = s.tens := rfl
@[simp] theorem State.setCompare_sen (s : State) (n : Nat) (c : PairCompare) : (s.setCompare n c).sen = s.sen := rfl
@[simp] theorem State.setCompare_eng (s : State) (n : Nat) (c : PairCompare) : (s.setCompare n c).eng = s.eng := rfl
@[simp] theorem State.setCompare_log (s : State) (n : Nat) (c : PairCompare) : (s.setCompare n c).log = s.log := rfl
@[simp] theorem State.setCompare_out (s : State) (n : Nat) (c : PairCompare) : (s.setCompare n c).out = s.out := rfl
@[simp] theorem State.setCompare_free (s : State) (n : Nat) (c : PairCompare) : (s.setCompare n c).free = s.free := rfl
@[simp] theorem State.setCompare_pending (s : State) (n : Nat) (c : PairCompare) : (s.setCompare n c).pending = s.pending := rfl

/-! ### setSlot -/

@[simp] theorem State.setSlot_dev (s : State) (n : Nat) (f : KeySlot → KeySlot) : (s.setSlot n f).dev = s.dev := rfl
@[simp] theorem State.setSlot_q (s : State) (n : Nat) (f : KeySlot → KeySlot) : (s.setSlot n f).q = s.q := rfl
@[simp] theorem State.setSlot_oob (s : State) (n : Nat) (f : KeySlot → KeySlot) : (s.setSlot n f).oob = s.oob := rfl
@[simp] theorem State.setSlot_pkts (s : State) (n : Nat) (f : KeySlot → KeySlot) : (s.setSlot n f).pkts = s.pkts := rfl
@[simp] theorem State.setSlot_dom (s : State) (n : Nat) (f : KeySlot → KeySlot) : (s.setSlot n f).dom = s.dom := rfl
@[simp] theorem State.setSlot_ms (s : State) (n : Nat) (f : KeySlot → KeySlot) : (s.setSlot n f).ms = s.ms := rfl
@[simp] theorem State.setSlot_mem (s : State) (n : Nat) (f : KeySlot → KeySlot) : (s.setSlot n f).mem = s.mem := rfl
@[simp] theorem State.setSlot_dr (s : State) (n : Nat) (f : KeySlot → KeySlot) : (s.setSlot n f).dr = s.dr := rfl
@[simp] theorem State.setSlot_kv (s : State) (n : Nat) (f : KeySlot → KeySlot) : (s.setSlot n f).kv = s.kv := rfl
@[simp] theorem State.setSlot_ply (s : State) (n : Nat) (f : KeySlot → KeySlot) : (s.setSlot n f).ply = s.ply := rfl
@[simp] theorem State.setSlot_time (s : State) (n : Nat) (f : KeySlot → KeySlot) : (s.setSlot n f).time = s.time := rfl
@[simp] theorem State.setSlot_saf (s : State) (n : Nat) (f : KeySlot → KeySlot) : (s.setSlot n f).saf = s.saf := rfl
@[simp] theorem State.setSlot_dbg (s : State) (n : Nat) (f : KeySlot → KeySlot) : (s.setSlot n f).dbg = s.dbg := rfl
@[simp] theorem State.setSlot_vault (s : State) (n : Nat) (f : KeySlot → KeySlot) : (s.setSlot n f).vault = { s.vault with slots := updAt s.vault.slots n f } := rfl
@[simp] theorem State.setSlot_upd (s : State) (n : Nat) (f : KeySlot → KeySlot) : (s.setSlot n f).upd = s.upd := rfl
@[simp] theorem State.setSlot_pwr (s : State) (n : Nat) (f : KeySlot → KeySlot) : (s.setSlot n f).pwr = s.pwr := rfl
@[simp] theorem State.setSlot_spl (s : State) (n : Nat) (f : KeySlot → KeySlot) : (s.setSlot n f).spl = s.spl := rfl
@[simp] theorem State.setSlot_tens (s : State) (n : Nat) (f : KeySlot → KeySlot) : (s.setSlot n f).tens = s.tens := rfl
@[simp] theorem State.setSlot_sen (s : State) (n : Nat) (f : KeySlot → KeySlot) : (s.setSlot n f).sen = s.sen := rfl
@[simp] theorem State.setSlot_eng (s : State) (n : Nat) (f : KeySlot → KeySlot) : (s.setSlot n f).eng = s.eng := rfl
@[simp] theorem State.setSlot_log (s : State) (n : Nat) (f : KeySlot → KeySlot) : (s.setSlot n f).log = s.log := rfl
@[simp] theorem State.setSlot_out (s : State) (n : Nat) (f : KeySlot → KeySlot) : (s.setSlot n f).out = s.out := rfl
@[simp] theorem State.setSlot_free (s : State) (n : Nat) (f : KeySlot → KeySlot) : (s.setSlot n f).free = s.free := rfl
@[simp] theorem State.setSlot_pending (s : State) (n : Nat) (f : KeySlot → KeySlot) : (s.setSlot n f).pending = s.pending := rfl

/-! ### setStage -/

@[simp] theorem State.setStage_dev (s : State) (a : Activation) (k : ActStage) : (s.setStage a k).dev = s.dev := rfl
@[simp] theorem State.setStage_q (s : State) (a : Activation) (k : ActStage) : (s.setStage a k).q = s.q := rfl
@[simp] theorem State.setStage_oob (s : State) (a : Activation) (k : ActStage) : (s.setStage a k).oob = s.oob := rfl
@[simp] theorem State.setStage_pkts (s : State) (a : Activation) (k : ActStage) : (s.setStage a k).pkts = s.pkts := rfl
@[simp] theorem State.setStage_dom (s : State) (a : Activation) (k : ActStage) : (s.setStage a k).dom = s.dom := rfl
@[simp] theorem State.setStage_ms (s : State) (a : Activation) (k : ActStage) : (s.setStage a k).ms = s.ms := rfl
@[simp] theorem State.setStage_mem (s : State) (a : Activation) (k : ActStage) : (s.setStage a k).mem = s.mem := rfl
@[simp] theorem State.setStage_dr (s : State) (a : Activation) (k : ActStage) : (s.setStage a k).dr = s.dr := rfl
@[simp] theorem State.setStage_kv (s : State) (a : Activation) (k : ActStage) : (s.setStage a k).kv = s.kv := rfl
@[simp] theorem State.setStage_ply (s : State) (a : Activation) (k : ActStage) : (s.setStage a k).ply = s.ply := rfl
@[simp] theorem State.setStage_time (s : State) (a : Activation) (k : ActStage) : (s.setStage a k).time = s.time := rfl
@[simp] theorem State.setStage_saf (s : State) (a : Activation) (k : ActStage) : (s.setStage a k).saf = s.saf := rfl
@[simp] theorem State.setStage_dbg (s : State) (a : Activation) (k : ActStage) : (s.setStage a k).dbg = s.dbg := rfl
@[simp] theorem State.setStage_vault (s : State) (a : Activation) (k : ActStage) : (s.setStage a k).vault = s.vault := rfl
@[simp] theorem State.setStage_upd (s : State) (a : Activation) (k : ActStage) : (s.setStage a k).upd = { s.upd with act := some { a with stage := k } } := rfl
@[simp] theorem State.setStage_pwr (s : State) (a : Activation) (k : ActStage) : (s.setStage a k).pwr = s.pwr := rfl
@[simp] theorem State.setStage_spl (s : State) (a : Activation) (k : ActStage) : (s.setStage a k).spl = s.spl := rfl
@[simp] theorem State.setStage_tens (s : State) (a : Activation) (k : ActStage) : (s.setStage a k).tens = s.tens := rfl
@[simp] theorem State.setStage_sen (s : State) (a : Activation) (k : ActStage) : (s.setStage a k).sen = s.sen := rfl
@[simp] theorem State.setStage_eng (s : State) (a : Activation) (k : ActStage) : (s.setStage a k).eng = s.eng := rfl
@[simp] theorem State.setStage_log (s : State) (a : Activation) (k : ActStage) : (s.setStage a k).log = s.log := rfl
@[simp] theorem State.setStage_out (s : State) (a : Activation) (k : ActStage) : (s.setStage a k).out = s.out := rfl
@[simp] theorem State.setStage_free (s : State) (a : Activation) (k : ActStage) : (s.setStage a k).free = s.free := rfl
@[simp] theorem State.setStage_pending (s : State) (a : Activation) (k : ActStage) : (s.setStage a k).pending = s.pending := rfl

/-! ### setBand -/

@[simp] theorem State.setBand_dev (s : State) (b : Bool) : (s.setBand b).dev = s.dev := rfl
@[simp] theorem State.setBand_q (s : State) (b : Bool) : (s.setBand b).q = s.q := rfl
@[simp] theorem State.setBand_oob (s : State) (b : Bool) : (s.setBand b).oob = s.oob := rfl
@[simp] theorem State.setBand_pkts (s : State) (b : Bool) : (s.setBand b).pkts = s.pkts := rfl
@[simp] theorem State.setBand_dom (s : State) (b : Bool) : (s.setBand b).dom = s.dom := rfl
@[simp] theorem State.setBand_ms (s : State) (b : Bool) : (s.setBand b).ms = s.ms := rfl
@[simp] theorem State.setBand_mem (s : State) (b : Bool) : (s.setBand b).mem = s.mem := rfl
@[simp] theorem State.setBand_dr (s : State) (b : Bool) : (s.setBand b).dr = s.dr := rfl
@[simp] theorem State.setBand_kv (s : State) (b : Bool) : (s.setBand b).kv = s.kv := rfl
@[simp] theorem State.setBand_ply (s : State) (b : Bool) : (s.setBand b).ply = s.ply := rfl
@[simp] theorem State.setBand_time (s : State) (b : Bool) : (s.setBand b).time = s.time := rfl
@[simp] theorem State.setBand_saf (s : State) (b : Bool) : (s.setBand b).saf = s.saf := rfl
@[simp] theorem State.setBand_dbg (s : State) (b : Bool) : (s.setBand b).dbg = s.dbg := rfl
@[simp] theorem State.setBand_vault (s : State) (b : Bool) : (s.setBand b).vault = s.vault := rfl
@[simp] theorem State.setBand_upd (s : State) (b : Bool) : (s.setBand b).upd = s.upd := rfl
@[simp] theorem State.setBand_pwr (s : State) (b : Bool) : (s.setBand b).pwr = { s.pwr with lowBand := b } := rfl
@[simp] theorem State.setBand_spl (s : State) (b : Bool) : (s.setBand b).spl = s.spl := rfl
@[simp] theorem State.setBand_tens (s : State) (b : Bool) : (s.setBand b).tens = s.tens := rfl
@[simp] theorem State.setBand_sen (s : State) (b : Bool) : (s.setBand b).sen = s.sen := rfl
@[simp] theorem State.setBand_eng (s : State) (b : Bool) : (s.setBand b).eng = s.eng := rfl
@[simp] theorem State.setBand_log (s : State) (b : Bool) : (s.setBand b).log = s.log := rfl
@[simp] theorem State.setBand_out (s : State) (b : Bool) : (s.setBand b).out = s.out := rfl
@[simp] theorem State.setBand_free (s : State) (b : Bool) : (s.setBand b).free = s.free := rfl
@[simp] theorem State.setBand_pending (s : State) (b : Bool) : (s.setBand b).pending = s.pending := rfl

/-! ### trace -/

@[simp] theorem State.trace_dev (s : State) (t : TraceEv) : (s.trace t).dev = s.dev := by rcases s.trace_cases t with ⟨_, e⟩ | ⟨_, _, _, e⟩ <;> rw [e] <;> rfl
@[simp] theorem State.trace_q (s : State) (t : TraceEv) : (s.trace t).q = s.q := by rcases s.trace_cases t with ⟨_, e⟩ | ⟨_, _, _, e⟩ <;> rw [e] <;> rfl
@[simp] theorem State.trace_oob (s : State) (t : TraceEv) : (s.trace t).oob = s.oob := by rcases s.trace_cases t with ⟨_, e⟩ | ⟨_, _, _, e⟩ <;> rw [e] <;> rfl
@[simp] theorem State.trace_pkts (s : State) (t : TraceEv) : (s.trace t).pkts = s.pkts := by rcases s.trace_cases t with ⟨_, e⟩ | ⟨_, _, _, e⟩ <;> rw [e] <;> rfl
@[simp] theorem State.trace_dom (s : State) (t : TraceEv) : (s.trace t).dom = s.dom := by rcases s.trace_cases t with ⟨_, e⟩ | ⟨_, _, _, e⟩ <;> rw [e] <;> rfl
@[simp] theorem State.trace_kv (s : State) (t : TraceEv) : (s.trace t).kv = s.kv := by rcases s.trace_cases t with ⟨_, e⟩ | ⟨_, _, _, e⟩ <;> rw [e] <;> rfl
@[simp] theorem State.trace_ply (s : State) (t : TraceEv) : (s.trace t).ply = s.ply := by rcases s.trace_cases t with ⟨_, e⟩ | ⟨_, _, _, e⟩ <;> rw [e] <;> rfl
@[simp] theorem State.trace_time (s : State) (t : TraceEv) : (s.trace t).time = s.time := by rcases s.trace_cases t with ⟨_, e⟩ | ⟨_, _, _, e⟩ <;> rw [e] <;> rfl
@[simp] theorem State.trace_saf (s : State) (t : TraceEv) : (s.trace t).saf = s.saf := by rcases s.trace_cases t with ⟨_, e⟩ | ⟨_, _, _, e⟩ <;> rw [e] <;> rfl
@[simp] theorem State.trace_vault (s : State) (t : TraceEv) : (s.trace t).vault = s.vault := by rcases s.trace_cases t with ⟨_, e⟩ | ⟨_, _, _, e⟩ <;> rw [e] <;> rfl
@[simp] theorem State.trace_upd (s : State) (t : TraceEv) : (s.trace t).upd = s.upd := by rcases s.trace_cases t with ⟨_, e⟩ | ⟨_, _, _, e⟩ <;> rw [e] <;> rfl
@[simp] theorem State.trace_pwr (s : State) (t : TraceEv) : (s.trace t).pwr = s.pwr := by rcases s.trace_cases t with ⟨_, e⟩ | ⟨_, _, _, e⟩ <;> rw [e] <;> rfl
@[simp] theorem State.trace_spl (s : State) (t : TraceEv) : (s.trace t).spl = s.spl := by rcases s.trace_cases t with ⟨_, e⟩ | ⟨_, _, _, e⟩ <;> rw [e] <;> rfl
@[simp] theorem State.trace_tens (s : State) (t : TraceEv) : (s.trace t).tens = s.tens := by rcases s.trace_cases t with ⟨_, e⟩ | ⟨_, _, _, e⟩ <;> rw [e] <;> rfl
@[simp] theorem State.trace_sen (s : State) (t : TraceEv) : (s.trace t).sen = s.sen := by rcases s.trace_cases t with ⟨_, e⟩ | ⟨_, _, _, e⟩ <;> rw [e] <;> rfl
@[simp] theorem State.trace_eng (s : State) (t : TraceEv) : (s.trace t).eng = s.eng := by rcases s.trace_cases t with ⟨_, e⟩ | ⟨_, _, _, e⟩ <;> rw [e] <;> rfl
@[simp] theorem State.trace_log (s : State) (t : TraceEv) : (s.trace t).log = s.log := by rcases s.trace_cases t with ⟨_, e⟩ | ⟨_, _, _, e⟩ <;> rw [e] <;> rfl
@[simp] theorem State.trace_out (s : State) (t : TraceEv) : (s.trace t).out = s.out := by rcases s.trace_cases t with ⟨_, e⟩ | ⟨_, _, _, e⟩ <;> rw [e] <;> rfl
@[simp] theorem State.trace_free (s : State) (t : TraceEv) : (s.trace t).free = s.free := by rcases s.trace_cases t with ⟨_, e⟩ | ⟨_, _, _, e⟩ <;> rw [e] <;> rfl
@[simp] theorem State.trace_pending (s : State) (t : TraceEv) : (s.trace t).pending = s.pending := by rcases s.trace_cases t with ⟨_, e⟩ | ⟨_, _, _, e⟩ <;> rw [e] <;> rfl

/-! ### setCauses, raise and endCause -/

@[simp] theorem State.setCauses_dev (s : State) (c : Nat) : (s.setCauses c).dev = s.dev := by unfold State.setCauses State.holdChange; split <;> (try split) <;> (try split) <;> simp
@[simp] theorem State.setCauses_q (s : State) (c : Nat) : (s.setCauses c).q = s.q := by unfold State.setCauses State.holdChange; split <;> (try split) <;> (try split) <;> simp
@[simp] theorem State.setCauses_oob (s : State) (c : Nat) : (s.setCauses c).oob = s.oob := by unfold State.setCauses State.holdChange; split <;> (try split) <;> (try split) <;> simp
@[simp] theorem State.setCauses_pkts (s : State) (c : Nat) : (s.setCauses c).pkts = s.pkts := by unfold State.setCauses State.holdChange; split <;> (try split) <;> (try split) <;> simp
@[simp] theorem State.setCauses_dom (s : State) (c : Nat) : (s.setCauses c).dom = s.dom := by unfold State.setCauses State.holdChange; split <;> (try split) <;> (try split) <;> simp
@[simp] theorem State.setCauses_kv (s : State) (c : Nat) : (s.setCauses c).kv = s.kv := by unfold State.setCauses State.holdChange; split <;> (try split) <;> (try split) <;> simp
@[simp] theorem State.setCauses_ply (s : State) (c : Nat) : (s.setCauses c).ply = s.ply := by unfold State.setCauses State.holdChange; split <;> (try split) <;> (try split) <;> simp
@[simp] theorem State.setCauses_time (s : State) (c : Nat) : (s.setCauses c).time = s.time := by unfold State.setCauses State.holdChange; split <;> (try split) <;> (try split) <;> simp
@[simp] theorem State.setCauses_vault (s : State) (c : Nat) : (s.setCauses c).vault = s.vault := by unfold State.setCauses State.holdChange; split <;> (try split) <;> (try split) <;> simp
@[simp] theorem State.setCauses_upd (s : State) (c : Nat) : (s.setCauses c).upd = s.upd := by unfold State.setCauses State.holdChange; split <;> (try split) <;> (try split) <;> simp
@[simp] theorem State.setCauses_pwr (s : State) (c : Nat) : (s.setCauses c).pwr = s.pwr := by unfold State.setCauses State.holdChange; split <;> (try split) <;> (try split) <;> simp
@[simp] theorem State.setCauses_spl (s : State) (c : Nat) : (s.setCauses c).spl = s.spl := by unfold State.setCauses State.holdChange; split <;> (try split) <;> (try split) <;> simp
@[simp] theorem State.setCauses_tens (s : State) (c : Nat) : (s.setCauses c).tens = s.tens := by unfold State.setCauses State.holdChange; split <;> (try split) <;> (try split) <;> simp
@[simp] theorem State.setCauses_out (s : State) (c : Nat) : (s.setCauses c).out = s.out := by unfold State.setCauses State.holdChange; split <;> (try split) <;> (try split) <;> simp
@[simp] theorem State.setCauses_free (s : State) (c : Nat) : (s.setCauses c).free = s.free := by unfold State.setCauses State.holdChange; split <;> (try split) <;> (try split) <;> simp
@[simp] theorem State.setCauses_pending (s : State) (c : Nat) : (s.setCauses c).pending = s.pending := by unfold State.setCauses State.holdChange; split <;> (try split) <;> (try split) <;> simp

/-- The causes in force after a change of the set. -/
@[simp] theorem State.setCauses_causes (s : State) (c : Nat) : (s.setCauses c).saf.causes = c := by
  unfold State.setCauses State.holdChange
  split <;> (try split) <;> (try split) <;> simp

/-- Raising a cause adds it. -/
@[simp] theorem State.raise_causes (s : State) (n : Nat) : (s.raise n).saf.causes = s.saf.causes ||| 1 <<< n := by
  unfold State.raise
  dsimp only
  split <;> simp

/-- Ending a cause takes it away where it is in force. -/
theorem State.endCause_causes (s : State) (n : Nat) : (s.endCause n).saf.causes = if bit s.saf.causes n then s.saf.causes - 1 <<< n else s.saf.causes := by
  unfold State.endCause
  split <;> simp_all

/-- A packet that is not outstanding cannot be finished. -/
theorem State.finish_none {s : State} {i : Nat} (st : Nat) (d : List Nat) (t : Nat) (h : s.pkt? i = none) : s.finish i st d t = s := by
  unfold State.finish
  rw [h]

/-- A packet that is outstanding ends. -/
theorem State.finish_some {s : State} {i : Nat} {o : OutPkt} (st : Nat) (d : List Nat) (t : Nat) (h : s.pkt? i = some o) : s.finish i st d t = s.endPkt o st d t := by
  unfold State.finish
  rw [h]

end Sys2Proof.Machine
end

