-- ==== Sys2Proof/Laws/Ops.lean ====
section
/-! SUPPORT. Everything that a shared operation can do, said once: guards of events and register pages, replies and their delivery, interrupts, the
change of the safety mode, stops, memory-ring writes of the trace unit. -/

namespace Sys2Proof.Machine

/-! ### Guards -/

theorem State.whileUp_of {s t : State} (h : s.clocked = true) : s.whileUp t = t := if_pos h
theorem State.whileUp_not {s t : State} (h : s.clocked = false) : s.whileUp t = s := by simp [State.whileUp, h]
theorem State.whileServing_of {s t : State} (h : s.serves = true) : s.whileServing t = t := if_pos h
theorem State.whileServing_not {s t : State} (h : s.serves = false) : s.whileServing t = s := by simp [State.whileServing, h]

/-- An access to a page of R39: without clocks nothing, from an admitted source its effect, from any other a log record. -/
theorem State.paged_cases (s : State) (who : Accessor) (f : State → State) :
    (s.clocked = false ∧ s.paged who f = s) ∨ (s.clocked = true ∧ pageOpen who = true ∧ s.paged who f = f s)
      ∨ (s.clocked = true ∧ pageOpen who = false ∧ s.paged who f = s.logIt .managementAccess) := by
  unfold State.paged
  cases h : s.clocked <;> cases h2 : pageOpen who <;> simp

theorem State.clocked_of_up {s : State} (h : s.pwr.phase = .up) : s.clocked = true := by simp [State.clocked, h]

/-- The first failing check of a list, or none. -/
theorem firstFail_none {l : List (Bool × Rej)} : firstFail l = none ↔ ∀ x ∈ l, x.1 = false := by
  induction l with
  | nil => simp [firstFail]
  | cons x r ih =>
    obtain ⟨b, j⟩ := x
    cases b <;> simp [firstFail, ih]

/-! ### Replies -/

/-- An interrupt that is raised empties the pending replies and sends the vector. -/
theorem State.checkIrq_cases (s : State) (n : Nat) : s.checkIrq n = s ∨ s.checkIrq n = (s.setBob n { s.bob n with irqPending := [] }).emit (.irq (s.bob n).irqVector) := by
  unfold State.checkIrq
  dsimp only
  split
  · exact .inr rfl
  · exact .inl rfl

/-- A reply is written to its slot, or the ring cannot be written and the bobbin is in Error. -/
theorem State.writeReply_cases (s : State) (n : Nat) (r : Reply) :
    let b := s.bob n
    let a := b.cplBase + 32 * (b.cplTail.toNat % 2 ^ b.sizeLog2)
    (s.served a 32 = false ∧ s.writeReply n r = s.setBob n { b with cplFault := true, held := b.held ++ [r], mode := .error })
      ∨ (s.served a 32 = true ∧ s.writeReply n r
          = ((s.store a (wordBytes (replyWords r b.cplTail b.sizeLog2))).setBob n { b with cplTail := b.cplTail + 1, irqPending := if r.irq then b.irqPending ++ [b.cplTail] else b.irqPending }).checkIrq n) := by
  intro b a
  cases h : s.served a 32
  · exact .inl ⟨rfl, by unfold State.writeReply; exact if_pos (by simp [a, b] at h; simp [h])⟩
  · exact .inr ⟨rfl, by unfold State.writeReply; exact if_neg (by simp [a, b] at h; simp [h])⟩

/-- A release of held replies does nothing, or takes the oldest from the held ones, writes it and goes on (R52). -/
theorem State.drainHeld_cases (s : State) (n k : Nat) :
    s.drainHeld n (k + 1) = s
      ∨ ∃ r rest, (s.bob n).held = r :: rest ∧ s.drainHeld n (k + 1) = ((s.setBob n { s.bob n with held := rest }).writeReply n r).drainHeld n k := by
  rw [State.drainHeld]
  dsimp only
  split
  · exact .inl rfl
  · rename_i r rest h
    split
    · exact .inr ⟨r, rest, h, rfl⟩
    · exact .inl rfl

/-- A delivered reply is dropped, logged, written, counted as lost, or held and perhaps written behind the held ones (R52, R74). -/
theorem State.deliver_cases (s : State) (n : Nat) (r : Reply) :
    s.deliver n r = s ∨ s.deliver n r = s.logIt .serviceReply n r.status r.reqTag ∨ s.deliver n r = s.writeReply n r
      ∨ s.deliver n r = s.setBob n { s.bob n with evtLostBit := true, evtLost := satAdd 0xFFFFFFFF (s.bob n).evtLost 1 }
      ∨ ∃ k, s.deliver n r = (s.setBob n { s.bob n with held := (s.bob n).held ++ [r] }).drainHeld n k := by
  unfold State.deliver
  dsimp only
  split
  · exact .inl rfl
  split
  · exact .inr (.inl rfl)
  split
  · exact .inr (.inr (.inl rfl))
  split
  · exact .inr (.inr (.inr (.inl rfl)))
  split
  · exact .inr (.inr (.inr (.inr ⟨_, rfl⟩)))
  · exact .inr (.inr (.inr (.inr ⟨0, rfl⟩)))

/-- Delivering a reply touches bobbins, memory, the log and what is sent, and nothing else. -/
theorem State.deliver_frame (s : State) (n : Nat) (r : Reply) :
    let t := s.deliver n r
    t.pkts = s.pkts ∧ t.dom = s.dom ∧ t.kv = s.kv ∧ t.ply = s.ply ∧ t.time = s.time ∧ t.saf = s.saf ∧ t.dbg = s.dbg ∧ t.vault = s.vault ∧ t.upd = s.upd ∧ t.pwr = s.pwr
      ∧ t.spl = s.spl ∧ t.tens = s.tens ∧ t.sen = s.sen ∧ t.eng = s.eng ∧ t.dev = s.dev ∧ t.oob = s.oob ∧ t.free = s.free ∧ t.pending = s.pending := by
  intro t
  have hw : ∀ (x : State) (k : Nat) (q : Reply), (x.writeReply k q).pkts = x.pkts ∧ (x.writeReply k q).dom = x.dom ∧ (x.writeReply k q).kv = x.kv ∧ (x.writeReply k q).ply = x.ply
      ∧ (x.writeReply k q).time = x.time ∧ (x.writeReply k q).saf = x.saf ∧ (x.writeReply k q).dbg = x.dbg ∧ (x.writeReply k q).vault = x.vault ∧ (x.writeReply k q).upd = x.upd
      ∧ (x.writeReply k q).pwr = x.pwr ∧ (x.writeReply k q).spl = x.spl ∧ (x.writeReply k q).tens = x.tens ∧ (x.writeReply k q).sen = x.sen ∧ (x.writeReply k q).eng = x.eng
      ∧ (x.writeReply k q).dev = x.dev ∧ (x.writeReply k q).oob = x.oob ∧ (x.writeReply k q).free = x.free ∧ (x.writeReply k q).pending = x.pending := by
    intro x k q
    rcases x.writeReply_cases k q with ⟨-, e⟩ | ⟨-, e⟩
    · rw [e]; simp
    · rw [e]
      generalize hy : (State.setBob _ k _) = y
      rcases y.checkIrq_cases k with e2 | e2 <;> rw [e2] <;> subst hy <;> simp
  have hd : ∀ (k : Nat) (x : State), (x.drainHeld n k).pkts = x.pkts ∧ (x.drainHeld n k).dom = x.dom ∧ (x.drainHeld n k).kv = x.kv ∧ (x.drainHeld n k).ply = x.ply
      ∧ (x.drainHeld n k).time = x.time ∧ (x.drainHeld n k).saf = x.saf ∧ (x.drainHeld n k).dbg = x.dbg ∧ (x.drainHeld n k).vault = x.vault ∧ (x.drainHeld n k).upd = x.upd
      ∧ (x.drainHeld n k).pwr = x.pwr ∧ (x.drainHeld n k).spl = x.spl ∧ (x.drainHeld n k).tens = x.tens ∧ (x.drainHeld n k).sen = x.sen ∧ (x.drainHeld n k).eng = x.eng
      ∧ (x.drainHeld n k).dev = x.dev ∧ (x.drainHeld n k).oob = x.oob ∧ (x.drainHeld n k).free = x.free ∧ (x.drainHeld n k).pending = x.pending := by
    intro k
    induction k with
    | zero => intro x; simp [State.drainHeld]
    | succ k ih =>
      intro x
      rcases x.drainHeld_cases n k with e | ⟨q, rest, -, e⟩
      · simp [e]
      · rw [e]
        have h1 := ih ((x.setBob n { x.bob n with held := rest }).writeReply n q)
        have h2 := hw (x.setBob n { x.bob n with held := rest }) n q
        simp [h1, h2]
  rcases s.deliver_cases n r with e | e | e | e | ⟨k, e⟩
  · simp [t, e]
  · simp [t, e]
  · simp only [t, e]; exact hw s n r
  · simp [t, e]
  · simp [t, e, hd]

/-- An event writes a log record and delivers its reply to the object's bobbin (R53). -/
theorem State.event_frame (s : State) (c o st x : Nat) (d : List Nat) :
    let t := s.event c o st x d
    t.pkts = s.pkts ∧ t.dom = s.dom ∧ t.kv = s.kv ∧ t.ply = s.ply ∧ t.time = s.time ∧ t.saf = s.saf ∧ t.dbg = s.dbg ∧ t.vault = s.vault ∧ t.upd = s.upd ∧ t.pwr = s.pwr
      ∧ t.spl = s.spl ∧ t.tens = s.tens ∧ t.sen = s.sen ∧ t.eng = s.eng ∧ t.dev = s.dev ∧ t.oob = s.oob ∧ t.free = s.free ∧ t.pending = s.pending := by
  exact State.deliver_frame (s.logIt .event st (d.headD 0) (d.getD 1 0)) _ _

/-- Delivering a reply keeps memory canonical. -/
theorem State.deliver_canon {s : State} (n : Nat) (r : Reply) (h : s.MemCanon) : (s.deliver n r).MemCanon := by
  have hi : ∀ y : State, (y.checkIrq n).mem = y.mem := by
    intro y
    rcases y.checkIrq_cases n with e | e <;> rw [e] <;> simp
  unfold State.MemCanon at *
  have hw : ∀ (x : State) (q : Reply), memWf x.mem = true → memWf (x.writeReply n q).mem = true := by
    intro x q h
    rcases x.writeReply_cases n q with ⟨-, e⟩ | ⟨-, e⟩
    · rw [e, State.setBob_mem]; exact h
    · rw [e, hi, State.setBob_mem, State.store_mem]; exact memWf_memPuts _ _ h
  have hd : ∀ (k : Nat) (x : State), memWf x.mem = true → memWf (x.drainHeld n k).mem = true := by
    intro k
    induction k with
    | zero => intro x hx; exact hx
    | succ k ih =>
      intro x hx
      rcases x.drainHeld_cases n k with e | ⟨q, rest, -, e⟩
      · rw [e]; exact hx
      · rw [e]; exact ih _ (hw _ _ hx)
  rcases s.deliver_cases n r with e | e | e | e | ⟨k, e⟩
  · rw [e]; exact h
  · rw [e, State.logIt_mem]; exact h
  · rw [e]; exact hw s r h
  · rw [e, State.setBob_mem]; exact h
  · rw [e]; exact hd k _ h

/-! ### Causes -/

/-- A change of the set of causes: what it changes of the mode's loops and outputs, and a log and a trace record where the mode changes (R441). -/
theorem State.setCauses_cases (s : State) (c : Nat) :
    let s1 := State.holdChange { s with saf := { s.saf with causes := c } } s.safety (modeOf c)
    (modeOf c = s.safety ∧ s.setCauses c = s1)
      ∨ (modeOf c ≠ s.safety ∧ s.setCauses c = (s1.logIt .mode (modeOf c).code c).trace { type := 11, status := (modeOf c).code }) := by
  intro s1
  unfold State.setCauses
  by_cases h : modeOf c = s.safety
  · exact .inl ⟨h, if_pos h⟩
  · exact .inr ⟨h, if_neg h⟩

/-- A change of the set of causes keeps memory canonical. -/
theorem State.setCauses_canon {s : State} (c : Nat) (h : s.MemCanon) : (s.setCauses c).MemCanon := by
  have hh : ∀ (x : State) (a b : SafetyMode), (x.holdChange a b).mem = x.mem := by
    intro x a b
    unfold State.holdChange
    split
    · rfl
    · split <;> rfl
  rcases s.setCauses_cases c with ⟨-, e⟩ | ⟨-, e⟩
  · rw [e]
    unfold State.MemCanon at *
    rw [hh]
    exact h
  · rw [e]
    refine State.trace_canon _ ?_
    unfold State.MemCanon at *
    rw [State.logIt_mem, hh]
    exact h

/-! ### Stops -/

/-- A packet that has ended is not stopped. -/
theorem State.stopOne_none {s : State} {i : Nat} (w : StopWhy) (h : s.pkt? i = none) : s.stopOne w i = (s, false) := by
  unfold State.stopOne
  rw [h]

/-- A packet past its commit point is not stopped. -/
theorem State.stopOne_committed {s : State} {i : Nat} (w : StopWhy) (h : s.twistCommitted i = true) : s.stopOne w i = (s, false) := by
  unfold State.stopOne
  split
  · rfl
  · exact if_pos h

end Sys2Proof.Machine
end

