-- ==== Sys2Proof/Laws/Release.lean ====
section
/-! SUPPORT. What a packet row does, once: it is ignored where its source starts nothing, ends with the check it fails, or runs. -/

namespace Sys2Proof.Machine

/-- An accepted packet runs. -/
theorem OpSpec.exec_accepts {sp : OpSpec} {src : Src} {p : Packet} {s : State} (h : sp.accepts src p s = true) :
    sp.exec src p s = sp.run (sp.env src p s) ((sp.taken src p s).restartFor sp.code) := by
  unfold OpSpec.accepts at h
  simp only [Bool.and_eq_true, Option.isNone_iff_eq_none] at h
  obtain ⟨⟨h1, h2⟩, h3⟩ := h
  unfold OpSpec.exec OpSpec.start
  simp only [h1, if_true]
  unfold OpSpec.env OpSpec.taken at *
  simp only [h2, h3]

/-- A packet that fails a check ends with that check's status and details. -/
theorem OpSpec.exec_rejects {sp : OpSpec} {src : Src} {p : Packet} {s : State} {r : Rej} (h : sp.rejects src p s = some r) :
    sp.exec src p s = (sp.taken src p s).finish s.q.nextId r.status r.d := by
  unfold OpSpec.rejects at h
  split at h
  · rename_i h1
    unfold OpSpec.exec OpSpec.start
    simp only [h1, if_true]
    unfold OpSpec.env OpSpec.taken at *
    simp only [h]
    rfl
  · cases h

/-- A source that starts nothing leaves the state as it is. -/
theorem OpSpec.exec_ignored {sp : OpSpec} {src : Src} {p : Packet} {s : State} (h : s.starts src = false) : sp.exec src p s = s := by
  unfold OpSpec.exec
  simp [h]

end Sys2Proof.Machine
end

