-- ==== Sys2Proof/WellFormed.lean ====
section
/-! DEFINITION. Well-formed commands: what a sender can put on the wire or a register can carry. A packet has sixteen 32-bit words; bobbins, ports, cores and
the other named units lie in the ranges that the manual gives them. The meanings are total and do not rest on these checks. -/

namespace Sys2Proof

open Machine

/-- A number lies below a bound. -/
def below (n bound : Nat) : Bool := decide (n < bound)

/-- A carrier: CAN XL ports are numbered 0 to 3 (R70). -/
def Carrier.wf : Carrier → Bool
  | .ve => true
  | .cx n => below n 4
  | .mbox => true

/-- A packet comes from a bobbin of Table 2.1 or from a carrier. -/
def Src.wf : Src → Bool
  | .bobbin n => below n 256
  | .oob c port => c.wf && below port 4

/-- A packet is sixteen words of 32 bits (R46). -/
def Packet.wf (p : Packet) : Bool := p.ws.length = 16 && p.ws.all (fun w => below w (2 ^ 32))

/-- Header fields of a ply frame fit Table 17.2. -/
def Machine.PlyHead.wf (h : PlyHead) : Bool := below h.dst 64 && below h.src 64 && below h.seq 65536 && below h.ack 65536

/-- A link-state record names nodes 0 to 63 and ports 0 to 5. -/
def Machine.Lsr.wf (r : Lsr) : Bool := below r.node 64 && r.ports.all (fun p => below p.port 6 && below p.node 64)

/-- A command is well-formed. -/
def Instr.wf : Instr → Bool
  | .registerWrite _ addr _ _ => below addr (2 ^ 48)
  | .adminCfgEnable _ => true
  | .adminCfgDisable _ => true
  | .doorbellWrite n _ => below n 256
  | .cplDoorbellWrite n _ => below n 256
  | .irqHoldoffExpiry n => below n 256
  | .packetFetch bobbin => below bobbin 256
  | .packetHoldEnd _ => true
  | .commitPoint _ => true
  | .stopOrderArrival flyer => below flyer 10
  | .nop src p => src.wf && p.wf
  | .bobbinCreate src p => src.wf && p.wf
  | .bobbinDestroy src p => src.wf && p.wf
  | .bobbinStop src p => src.wf && p.wf
  | .bobbinResume src p => src.wf && p.wf
  | .abort src p => src.wf && p.wf
  | .quiesce src p => src.wf && p.wf
  | .tenantCreate src p => src.wf && p.wf
  | .tenantDestroy src p => src.wf && p.wf
  | .query src p => src.wf && p.wf
  | .dmaCopy src p => src.wf && p.wf
  | .dmaFill src p => src.wf && p.wf
  | .bankAssign src p => src.wf && p.wf
  | .regionMap src p => src.wf && p.wf
  | .regionUnmap src p => src.wf && p.wf
  | .kvScatterBind src p => src.wf && p.wf
  | .kvScatterOpen src p => src.wf && p.wf
  | .kvScatterClose src p => src.wf && p.wf
  | .kvScatterAppend src p => src.wf && p.wf
  | .pagePin src p => src.wf && p.wf
  | .matmul src p => src.wf && p.wf
  | .conv src p => src.wf && p.wf
  | .attention src p => src.wf && p.wf
  | .recur src p => src.wf && p.wf
  | .vectorOp src p => src.wf && p.wf
  | .sort src p => src.wf && p.wf
  | .scheduleRun src p => src.wf && p.wf
  | .corePlacement _ => true
  | .coreWaitLimit _ => true
  | .draftOpen src p => src.wf && p.wf
  | .twist src p => src.wf && p.wf
  | .twistStart _ => true
  | .twistPrepare _ _ => true
  | .twistVote _ _ _ => true
  | .twistCommit _ _ => true
  | .twistVoteTimeout _ node => below node 64
  | .twistOwnerLostTimeout _ _ _ => true
  | .unravel src p => src.wf && p.wf
  | .draftQuery src p => src.wf && p.wf
  | .writebackComplete ctx _ => below ctx 4096
  | .contextCreate src p => src.wf && p.wf
  | .contextDestroy src p => src.wf && p.wf
  | .contextReset src p => src.wf && p.wf
  | .modelLoad src p => src.wf && p.wf
  | .modelPin src p => src.wf && p.wf
  | .modelEvict src p => src.wf && p.wf
  | .modelStoreOpen src p => src.wf && p.wf
  | .modelStoreWrite src p => src.wf && p.wf
  | .modelStoreSeal src p => src.wf && p.wf
  | .modelStoreDelete src p => src.wf && p.wf
  | .laneReserve src p => src.wf && p.wf
  | .laneRelease src p => src.wf && p.wf
  | .tdescLd core sc td addr => below core 16 && below sc 4 && below td 16 && below addr (2 ^ 48)
  | .tdescSet core sc td _ _ => below core 16 && below sc 4 && below td 16
  | .tIssue core sc q => below core 16 && below sc 4 && below q 7
  | .tWait core _ => below core 16
  | .tWaitq core q => below core 16 && below q 7
  | .tStat core sc q => below core 16 && below sc 4 && below q 7
  | .scalarTrap core sc => below core 16 && below sc 4
  | .tensionerStep core engine => below core 16 && below engine 4
  | .bankConflictWindowEnd c a port => below c 4096 && below a (2 ^ 48) && below port 6
  | .bankHandover _ memory bank port => below memory 3 && below bank 64 && below port 6
  | .pseudoChannelFlagged stack pc => below stack 4 && below pc 32
  | .remapCopyEnd stack => below stack 4
  | .flitCrcFail module => below module 32
  | .dieLinkRetryThreshold module _ => below module 32
  | .patrolScrub addr _ _ slot flyer => below addr (2 ^ 48) && (match slot with | some x => below x 32 | none => true) && (match flyer with | some x => below x 10 | none => true)
  | .hbmClearDone => true
  | .mboxSend => true
  | .mboxRelease => true
  | .oobFrame c port id _ => c.wf && below port 4 && below id 2048
  | .flyerReportTimeout flyer => below flyer 10
  | .serviceLinkUp => true
  | .serviceLinkDown => true
  | .streamConfigConfigure src p => src.wf && p.wf
  | .streamConfigRelease src p => src.wf && p.wf
  | .csi2Packet port vc _ => below port 24 && below vc 4
  | .frameCloseTimeout stream => below stream 96
  | .retransmissionTimeout port vc => below port 24 && below vc 4
  | .aphyLinkUp port gear => below port 24 && below gear 6
  | .aphyLinkDrop port => below port 24
  | .t1Frame port _ => below port 8
  | .batchClose stream => below stream 96
  | .spiDataReady port _ => below port 4
  | .spiRateTick port _ => below port 4
  | .spiDrdyMiss port => below port 4
  | .channelEnableOn src p => src.wf && p.wf
  | .channelEnableOff src p => src.wf && p.wf
  | .inrushComplete channel => below channel 32
  | .inrushWindowEnd channel _ => below channel 32
  | .inrushRetry channel => below channel 32
  | .shortTrip channel => below channel 32
  | .imuSupplyLimit port _ => below port 4
  | .pwNextArm _ n _ _ => below n 24
  | .pwmReload n => below n 24
  | .pwCfgWrite _ n _ => below n 24
  | .timeStepSet src p => src.wf && p.wf
  | .timeStepAdd src p => src.wf && p.wf
  | .timeRate src p => src.wf && p.wf
  | .timeNRead _ => true
  | .launchConfigConfigure src p => src.wf && p.wf
  | .launchConfigRelease src p => src.wf && p.wf
  | .hostQueueDoorbell _ port dir queue _ => below port 18 && below dir 2 && below queue 8
  | .launchTime port queue => below port 18 && below queue 8
  | .hostFrameReceive port _ => below port 18
  | .tsqPop _ port => below port 18
  | .triggerSet src p => src.wf && p.wf
  | .triggerCancel src p => src.wf && p.wf
  | .triggerOccurrence output => below output 40
  | .captureArm src p => src.wf && p.wf
  | .captureDisarm src p => src.wf && p.wf
  | .edgeCapture input _ => below input 4
  | .capPop _ input => below input 4
  | .groupConfigCreate src p => src.wf && p.wf
  | .groupConfigReconfigure src p => src.wf && p.wf
  | .groupConfigDelete src p => src.wf && p.wf
  | .groupStart src p => src.wf && p.wf
  | .groupStop src p => src.wf && p.wf
  | .voteConfig src p => src.wf && p.wf
  | .windowDeadline group => below group 16
  | .supplyDeadline group => below group 16
  | .healthRecordDue group => below group 16
  | .planConfigCreate src p => src.wf && p.wf
  | .planConfigReconfigure src p => src.wf && p.wf
  | .planConfigDelete src p => src.wf && p.wf
  | .planCyclePlan src p => src.wf && p.wf
  | .planCycleCheck src p => src.wf && p.wf
  | .mapUpdateReplace src p => src.wf && p.wf
  | .mapUpdatePatch src p => src.wf && p.wf
  | .plannerSliceFault slice _ => below slice 32
  | .solveConfigCreate src p => src.wf && p.wf
  | .solveConfigReconfigure src p => src.wf && p.wf
  | .solveConfigDelete src p => src.wf && p.wf
  | .solve src p => src.wf && p.wf
  | .solvePipeFault pipe _ => below pipe 8
  | .loopConfigCreate src p => src.wf && p.wf
  | .loopConfigReconfigure src p => src.wf && p.wf
  | .loopConfigDelete src p => src.wf && p.wf
  | .loopConfigRing src p => src.wf && p.wf
  | .loopStart src p => src.wf && p.wf
  | .loopStopStop src p => src.wf && p.wf
  | .loopStopHold src p => src.wf && p.wf
  | .loopTick => true
  | .loopFeedbackFrame _ port _ _ => below port 12
  | .plyLinkTrained port => below port 6
  | .plyLaneError port => below port 6
  | .plyCrcFail port _ => below port 6
  | .plyLinkTimeout port => below port 6
  | .plyIdleEmit port => below port 6
  | .idle port h => below port 6 && h.wf
  | .hello port h node _ peer _ => below port 6 && h.wf && below node 64 && below peer 6
  | .lsr port h r => below port 6 && h.wf && r.wf
  | .lsrRefresh => true
  | .lsrExpiry node => below node 64
  | .routingTableSwap => true
  | .write port h _ tag tenant ctx _ _ _ => below port 6 && h.wf && below tag 65536 && below tenant 16 && below ctx 4096
  | .readReq port h _ tag tenant ctx _ => below port 6 && h.wf && below tag 65536 && below tenant 16 && below ctx 4096
  | .readRsp port h tag _ => below port 6 && h.wf && below tag 65536
  | .writeAck port h tag => below port 6 && h.wf && below tag 65536
  | .control port h m => below port 6 && h.wf && m.vc = 0
  | .safety port h m => below port 6 && h.wf && m.vc = 1
  | .collectiveFrame port h _ _ => below port 6 && h.wf
  | .ethernet port h _ => below port 6 && h.wf
  | .plyJoin src p => src.wf && p.wf
  | .joinTrainingTimeout => true
  | .joinDatabaseSettled => true
  | .plyLeaveGraceful src p => src.wf && p.wf
  | .plyLeaveNow src p => src.wf && p.wf
  | .leaveDrainEnd => true
  | .collective src p => src.wf && p.wf
  | .collectiveMatch _ => true
  | .remoteWindowGrant src p => src.wf && p.wf
  | .remoteWindowRevoke src p => src.wf && p.wf
  | .remoteAccess _ addr _ _ => below addr (2 ^ 48)
  | .phaseHint src p => src.wf && p.wf
  | .phaseHintClear src p => src.wf && p.wf
  | .hintWindowOpen ctx => below ctx 4096
  | .hintWindowClose ctx => below ctx 4096
  | .hintRailsDisarm ctx => below ctx 4096
  | .budgetRequestWant src p => src.wf && p.wf
  | .budgetRequestBudget src p => src.wf && p.wf
  | .powerQuery src p => src.wf && p.wf
  | .governorDecision _ _ => true
  | .powerCalibration _ _ _ => true
  | .droopDetect rail _ => below rail 64
  | .regulatorPhaseFault rail _ => below rail 64
  | .tensionReportDue => true
  | .tensionReport node _ _ _ => below node 64
  | .grantReceived _ => true
  | .raisedGrantTimeout => true
  | .coordinatorCollectEnd => true
  | .thermalSample _ => true
  | .thermalTrip => true
  | .ageRegister src p => src.wf && p.wf
  | .ageDeregister src p => src.wf && p.wf
  | .ageCheck => true
  | .deadlineOverrun _ => true
  | .overrunClear => true
  | .distaffFault pair => below pair 3
  | .statusFramePeriodic carrier => carrier.wf
  | .statusFrameChange carrier => carrier.wf
  | .statusCfgWrite _ _ => true
  | .hostWdEnable _ _ => true
  | .hostWdKick _ _ => true
  | .hostWdExpiry => true
  | .safeStateRequestEnter src p => src.wf && p.wf
  | .safeStateRequestRelease src p => src.wf && p.wf
  | .atRestAssert src p => src.wf && p.wf
  | .atRestWithdraw src p => src.wf && p.wf
  | .atRestTimeout => true
  | .pairCompareConfigure src p => src.wf && p.wf
  | .pairCompareRemove src p => src.wf && p.wf
  | .pairCompareRecord node stream _ _ => below node 64 && below stream 96
  | .pairMatchTimeout stream => below stream 96
  | .enterSleep _ _ => true
  | .sleepEntryStage => true
  | .dozeEnWrite _ _ => true
  | .dozeIdleExpiry domain => below domain 48
  | .wakeIn => true
  | .wakeFrame port id => below port 4 && below id 2048
  | .wakeTimer => true
  | .wakeReady => true
  | .wakeReadyTimeout _ _ => true
  | .wakeRetryPauseEnd => true
  | .wakeFailRepeat => true
  | .pathDelayCheck _ _ _ => true
  | .ringOscCheck _ _ _ => true
  | .coreSplice core => below core 16
  | .clockFailure what => below what 4
  | .rotationSelect die => below die 2
  | .bistRun src p => src.wf && p.wf
  | .selfTestDone engine _ _ _ _ _ => below engine 3
  | .traceConfig src p => src.wf && p.wf
  | .counterRead src p => src.wf && p.wf
  | .breakSetSet src p => src.wf && p.wf
  | .breakSetClear src p => src.wf && p.wf
  | .breakSetResume src p => src.wf && p.wf
  | .breakSetHaltNow src p => src.wf && p.wf
  | .breakpointHit core slot => below core 26 && below slot 4
  | .debugTransportAccess core op addr _ => below core 26 && below op 6 && below addr (2 ^ 48)
  | .idcode => true
  | .bypass => true
  | .samplePreload => true
  | .extest => true
  | .intest => true
  | .dbgNonce => true
  | .dbgToken _ => true
  | .debugNonceRead _ => true
  | .debugUnlock src p => src.wf && p.wf
  | .keyWrite src p => src.wf && p.wf
  | .keyErase src p => src.wf && p.wf
  | .keyCellFail slot _ => below slot 32
  | .attest src p => src.wf && p.wf
  | .imageBlock src p => src.wf && p.wf
  | .imageVerify src p => src.wf && p.wf
  | .activate src p => src.wf && p.wf
  | .activateAtSchedule src p => src.wf && p.wf
  | .activateAtCancel src p => src.wf && p.wf
  | .activateAtDiscard src p => src.wf && p.wf
  | .activationDue => true
  | .activationDrainTimeout => true
  | .activationPauseBegin => true
  | .activationHoldStage => true
  | .distaffImageRunning => true
  | .activationPauseEnd => true
  | .powerUp _ => true
  | .holdupCharged => true
  | .holdupTimeout => true
  | .inputLoss => true
  | .inputReturn _ => true
  | .holdupDisconnect => true
  | .inputLowBand => true
  | .activeDischarge _ => true
  | .coolantSample _ => true
  | .t1LinkLoss port => below port 12
  | .t1LinkReturn port => below port 12
  | .inputFullFunctionReturn => true

end Sys2Proof
end

