-- ==== Sys2Proof/Tests/Slice0.lean ====
section
/-! SUPPORT. Tests: ill-formed commands that WellFormed refuses, and for every statement a state and operands that meet its hypotheses. -/

namespace Sys2Proof.Tests

open Sys2Proof.Machine

/-- A packet with REPLY set, a context word and parameter words; the row adds the opcode. -/
def pk (w1 : Nat) (ps : List Nat) : Packet := ⟨([0x10000, w1, 7] ++ ps ++ List.replicate (13 - ps.length) 0)⟩

/-- A bobbin with rings in HBM behind the firmware reserve. -/
def ring (k : Nat) (control : Bool) (tenant : Nat) : Bobbin :=
  { mode := .running, control := control, tenant := tenant, flyer := 1, sizeLog2 := 4, cmdBase := 0x80000000 + k * 0x10000, cplBase := 0x80008000 + k * 0x10000 }

/-- Context 5 of tenant 0, opened on bobbin 1. -/
def ctx5 : Context := { tenant := 0, fixed := false, shadowMib := 1, reservation := 0, coreMask := 3, maxCores := 2, opener := 1 }

/-- Bobbin 0, work bobbin 1 and control bobbin 2 of tenant 0, context 5 with a region of 64 MiB at 0x8000_0000. -/
def base : State :=
  { State.reset with
    q := { State.reset.q with bobbins := [(0, ring 0 false 0), (1, ring 1 false 0), (2, ring 2 true 0)], adminEnable := true }
    dom := { State.reset.dom with contexts := [(5, ctx5)] }
    ms := { State.reset.ms with regions := [⟨5, 0, 0x80000000, 32, true, true, true⟩] } }

/-! ### Ill-formed commands -/

/-- A ply header within its fields. -/
def plyHd0 : PlyHead := ⟨6, 0, 0, 0, 0, 0, true, true⟩
/-- A key of a collective. -/
def collKey0 : CollKey := ⟨0, 0, 0, 0, 0, 0, 0, 0⟩

/-- Packets, part 1: a bobbin number of 256, a port of 4, a CAN XL carrier of 4, a missing word and a word of 33 bits are refused. -/
theorem test_wf_packets_1 : ∀ c ∈ ([.nop, .bobbinCreate, .bobbinDestroy, .bobbinStop, .bobbinResume, .abort, .quiesce, .tenantCreate, .tenantDestroy, .query, .dmaCopy, .dmaFill, .bankAssign, .regionMap, .regionUnmap, .kvScatterBind, .kvScatterOpen, .kvScatterClose, .kvScatterAppend, .pagePin, .matmul, .conv, .attention, .recur, .vectorOp, .sort, .scheduleRun, .draftOpen, .twist, .unravel, .draftQuery, .contextCreate, .contextDestroy, .contextReset, .modelLoad, .modelPin, .modelEvict, .modelStoreOpen, .modelStoreWrite, .modelStoreSeal, .modelStoreDelete, .laneReserve, .laneRelease, .streamConfigConfigure, .streamConfigRelease, .channelEnableOn, .channelEnableOff, .timeStepSet, .timeStepAdd, .timeRate, .launchConfigConfigure, .launchConfigRelease, .triggerSet, .triggerCancel, .captureArm, .captureDisarm, .groupConfigCreate, .groupConfigReconfigure, .groupConfigDelete, .groupStart] : List (Src → Packet → Instr)),
    (c (.bobbin 0) (pk 0 [])).wf = true ∧ (c (.bobbin 256) (pk 0 [])).wf = false ∧ (c (.oob .ve 4) (pk 0 [])).wf = false ∧ (c (.oob (.cx 4) 0) (pk 0 [])).wf = false
      ∧ (c (.bobbin 0) ⟨[0]⟩).wf = false ∧ (c (.bobbin 0) ⟨2 ^ 32 :: List.replicate 15 0⟩).wf = false := by decide

/-- Packets, part 2: a bobbin number of 256, a port of 4, a CAN XL carrier of 4, a missing word and a word of 33 bits are refused. -/
theorem test_wf_packets_2 : ∀ c ∈ ([.groupStop, .voteConfig, .planConfigCreate, .planConfigReconfigure, .planConfigDelete, .planCyclePlan, .planCycleCheck, .mapUpdateReplace, .mapUpdatePatch, .solveConfigCreate, .solveConfigReconfigure, .solveConfigDelete, .solve, .loopConfigCreate, .loopConfigReconfigure, .loopConfigDelete, .loopConfigRing, .loopStart, .loopStopStop, .loopStopHold, .plyJoin, .plyLeaveGraceful, .plyLeaveNow, .collective, .remoteWindowGrant, .remoteWindowRevoke, .phaseHint, .phaseHintClear, .budgetRequestWant, .budgetRequestBudget, .powerQuery, .ageRegister, .ageDeregister, .safeStateRequestEnter, .safeStateRequestRelease, .atRestAssert, .atRestWithdraw, .pairCompareConfigure, .pairCompareRemove, .bistRun, .traceConfig, .counterRead, .breakSetSet, .breakSetClear, .breakSetResume, .breakSetHaltNow, .debugUnlock, .keyWrite, .keyErase, .attest, .imageBlock, .imageVerify, .activate, .activateAtSchedule, .activateAtCancel, .activateAtDiscard] : List (Src → Packet → Instr)),
    (c (.bobbin 0) (pk 0 [])).wf = true ∧ (c (.bobbin 256) (pk 0 [])).wf = false ∧ (c (.oob .ve 4) (pk 0 [])).wf = false ∧ (c (.oob (.cx 4) 0) (pk 0 [])).wf = false
      ∧ (c (.bobbin 0) ⟨[0]⟩).wf = false ∧ (c (.bobbin 0) ⟨2 ^ 32 :: List.replicate 15 0⟩).wf = false := by decide

/-- Other commands, part 1: the first number past each range is refused. -/
theorem test_wf_ranges_1 : ∀ i ∈ ([.registerWrite .other (2 ^ 48) 0 none, .doorbellWrite 256 0, .cplDoorbellWrite 256 0, .irqHoldoffExpiry 256, .packetFetch 256, .stopOrderArrival 10, .twistVoteTimeout 0 64, .writebackComplete 4096 0, .tdescLd 16 0 0 0, .tdescLd 0 4 0 0, .tdescLd 0 0 16 0, .tdescLd 0 0 0 (2 ^ 48), .tdescSet 16 0 0 0 0, .tdescSet 0 4 0 0 0, .tdescSet 0 0 16 0 0, .tIssue 16 0 0, .tIssue 0 4 0, .tIssue 0 0 7, .tWait 16 0, .tWaitq 16 0, .tWaitq 0 7, .tStat 16 0 0, .tStat 0 4 0, .tStat 0 0 7, .scalarTrap 16 0, .scalarTrap 0 4, .tensionerStep 16 0, .tensionerStep 0 4, .bankConflictWindowEnd 4096 0 0, .bankConflictWindowEnd 0 (2 ^ 48) 0, .bankConflictWindowEnd 0 0 6, .bankHandover 0 3 0 0, .bankHandover 0 0 64 0, .bankHandover 0 0 0 6, .pseudoChannelFlagged 4 0, .pseudoChannelFlagged 0 32, .remapCopyEnd 4, .flitCrcFail 32, .dieLinkRetryThreshold 32 true, .patrolScrub (2 ^ 48) true true none none] : List Instr), i.wf = false := by decide

/-- Other commands, part 2: the first number past each range is refused. -/
theorem test_wf_ranges_2 : ∀ i ∈ ([.patrolScrub 0 true true (some 32) none, .patrolScrub 0 true true none (some 10), .oobFrame (.cx 4) 0 0 [], .oobFrame .ve 4 0 [], .oobFrame .ve 0 2048 [], .flyerReportTimeout 10, .csi2Packet 24 0 .frameStart, .csi2Packet 0 4 .frameStart, .frameCloseTimeout 96, .retransmissionTimeout 24 0, .retransmissionTimeout 0 4, .aphyLinkUp 24 0, .aphyLinkUp 0 6, .aphyLinkDrop 24, .t1Frame 8 [], .batchClose 96, .spiDataReady 4 [], .spiRateTick 4 [], .spiDrdyMiss 4, .inrushComplete 32, .inrushWindowEnd 32 true, .inrushRetry 32, .shortTrip 32, .imuSupplyLimit 4 true, .pwNextArm .other 24 none 0, .pwmReload 24, .pwCfgWrite .other 24 0, .hostQueueDoorbell .other 18 0 0 0, .hostQueueDoorbell .other 0 2 0 0, .hostQueueDoorbell .other 0 0 8 0, .launchTime 18 0, .launchTime 0 8, .hostFrameReceive 18 [], .tsqPop .other 18, .triggerOccurrence 40, .edgeCapture 4 true, .capPop .other 4, .windowDeadline 16, .supplyDeadline 16, .healthRecordDue 16] : List Instr), i.wf = false := by decide

/-- Other commands, part 3: the first number past each range is refused. -/
theorem test_wf_ranges_3 : ∀ i ∈ ([.plannerSliceFault 32 none, .solvePipeFault 8 0, .loopFeedbackFrame true 12 0 [], .plyLinkTrained 6, .plyLaneError 6, .plyCrcFail 6 0, .plyLinkTimeout 6, .plyIdleEmit 6, .idle 6 plyHd0, .idle 0 { plyHd0 with dst := 64 }, .hello 6 plyHd0 0 0 0 0, .hello 0 { plyHd0 with dst := 64 } 0 0 0 0, .hello 0 plyHd0 64 0 0 0, .hello 0 plyHd0 0 0 6 0, .lsr 6 plyHd0 ⟨0, 0, 0, false, []⟩, .lsr 0 { plyHd0 with dst := 64 } ⟨0, 0, 0, false, []⟩, .lsr 0 plyHd0 ⟨64, 0, 0, false, []⟩, .lsrExpiry 64, .write 6 plyHd0 0 0 0 0 0 0 [], .write 0 { plyHd0 with dst := 64 } 0 0 0 0 0 0 [], .write 0 plyHd0 0 65536 0 0 0 0 [], .write 0 plyHd0 0 0 16 0 0 0 [], .write 0 plyHd0 0 0 0 4096 0 0 [], .readReq 6 plyHd0 0 0 0 0 0, .readReq 0 { plyHd0 with dst := 64 } 0 0 0 0 0, .readReq 0 plyHd0 0 65536 0 0 0, .readReq 0 plyHd0 0 0 16 0 0, .readReq 0 plyHd0 0 0 0 4096 0, .readRsp 6 plyHd0 0 [], .readRsp 0 { plyHd0 with dst := 64 } 0 [], .readRsp 0 plyHd0 65536 [], .writeAck 6 plyHd0 0, .writeAck 0 { plyHd0 with dst := 64 } 0, .writeAck 0 plyHd0 65536, .control 6 plyHd0 .idle, .control 0 { plyHd0 with dst := 64 } .idle, .control 0 plyHd0 (.grant 0), .safety 6 plyHd0 .idle, .safety 0 { plyHd0 with dst := 64 } .idle, .safety 0 plyHd0 (.idle)] : List Instr), i.wf = false := by decide

/-- Other commands, part 4: the first number past each range is refused. -/
theorem test_wf_ranges_4 : ∀ i ∈ ([.collectiveFrame 6 plyHd0 collKey0 [], .collectiveFrame 0 { plyHd0 with dst := 64 } collKey0 [], .ethernet 6 plyHd0 [], .ethernet 0 { plyHd0 with dst := 64 } [], .remoteAccess .other (2 ^ 48) none 0, .hintWindowOpen 4096, .hintWindowClose 4096, .hintRailsDisarm 4096, .droopDetect 64 true, .regulatorPhaseFault 64 true, .tensionReport 64 0 0 0, .distaffFault 3, .statusFramePeriodic (.cx 4), .statusFrameChange (.cx 4), .pairCompareRecord 64 0 0 [], .pairCompareRecord 0 96 0 [], .pairMatchTimeout 96, .dozeIdleExpiry 48, .wakeFrame 4 0, .wakeFrame 0 2048, .coreSplice 16, .clockFailure 4, .rotationSelect 2, .selfTestDone 3 0 true 0 0 [], .breakpointHit 26 0, .breakpointHit 0 4, .debugTransportAccess 26 0 0 [], .debugTransportAccess 0 6 0 [], .debugTransportAccess 0 0 (2 ^ 48) [], .keyCellFail 32 true, .t1LinkLoss 12, .t1LinkReturn 12] : List Instr), i.wf = false := by decide

/-- The same commands with numbers in range are well-formed, part 1. -/
theorem test_wf_good_1 : ∀ i ∈ ([.registerWrite .other 0 0 none, .adminCfgEnable 0, .adminCfgDisable 0, .doorbellWrite 0 0, .cplDoorbellWrite 0 0, .irqHoldoffExpiry 0, .packetFetch 0, .packetHoldEnd 0, .commitPoint 0, .stopOrderArrival 0, .corePlacement 0, .coreWaitLimit 0, .twistStart 0, .twistPrepare 0 0, .twistVote 0 0 true, .twistCommit 0 0, .twistVoteTimeout 0 0, .twistOwnerLostTimeout 0 true 0, .writebackComplete 0 0, .tdescLd 0 0 0 0, .tdescSet 0 0 0 0 0, .tIssue 0 0 0, .tWait 0 0, .tWaitq 0 0, .tStat 0 0 0, .scalarTrap 0 0, .tensionerStep 0 0, .bankConflictWindowEnd 0 0 0, .bankHandover 0 0 0 0, .pseudoChannelFlagged 0 0, .remapCopyEnd 0, .flitCrcFail 0, .dieLinkRetryThreshold 0 true, .patrolScrub 0 true true none none, .hbmClearDone, .mboxSend, .mboxRelease, .oobFrame .ve 0 0 [], .flyerReportTimeout 0, .serviceLinkUp, .serviceLinkDown, .csi2Packet 0 0 .frameStart, .frameCloseTimeout 0, .retransmissionTimeout 0 0, .aphyLinkUp 0 0, .aphyLinkDrop 0, .t1Frame 0 [], .batchClose 0, .spiDataReady 0 [], .spiRateTick 0 []] : List Instr), i.wf = true := by decide

/-- The same commands with numbers in range are well-formed, part 2. -/
theorem test_wf_good_2 : ∀ i ∈ ([.spiDrdyMiss 0, .inrushComplete 0, .inrushWindowEnd 0 true, .inrushRetry 0, .shortTrip 0, .imuSupplyLimit 0 true, .pwNextArm .other 0 none 0, .pwmReload 0, .pwCfgWrite .other 0 0, .timeNRead .other, .hostQueueDoorbell .other 0 0 0 0, .launchTime 0 0, .hostFrameReceive 0 [], .tsqPop .other 0, .triggerOccurrence 0, .edgeCapture 0 true, .capPop .other 0, .windowDeadline 0, .supplyDeadline 0, .healthRecordDue 0, .plannerSliceFault 0 none, .solvePipeFault 0 0, .loopTick, .loopFeedbackFrame true 0 0 [], .plyLinkTrained 0, .plyLaneError 0, .plyCrcFail 0 0, .plyLinkTimeout 0, .plyIdleEmit 0, .idle 0 plyHd0, .hello 0 plyHd0 0 0 0 0, .lsr 0 plyHd0 ⟨0, 0, 0, false, []⟩, .lsrRefresh, .lsrExpiry 0, .routingTableSwap, .write 0 plyHd0 0 0 0 0 0 0 [], .readReq 0 plyHd0 0 0 0 0 0, .readRsp 0 plyHd0 0 [], .writeAck 0 plyHd0 0, .control 0 plyHd0 (.collAbort 0 0 0), .safety 0 plyHd0 (.grant 0), .collectiveFrame 0 plyHd0 collKey0 [], .ethernet 0 plyHd0 [], .joinTrainingTimeout, .joinDatabaseSettled, .leaveDrainEnd, .collectiveMatch 0, .remoteAccess .other 0 none 0, .hintWindowOpen 0, .hintWindowClose 0] : List Instr), i.wf = true := by decide

/-- The same commands with numbers in range are well-formed, part 3. -/
theorem test_wf_good_3 : ∀ i ∈ ([.hintRailsDisarm 0, .governorDecision 0 [], .powerCalibration 0 [] [], .droopDetect 0 true, .regulatorPhaseFault 0 true, .tensionReportDue, .tensionReport 0 0 0 0, .grantReceived 0, .raisedGrantTimeout, .coordinatorCollectEnd, .thermalSample [], .thermalTrip, .ageCheck, .deadlineOverrun 0, .overrunClear, .distaffFault 0, .statusFramePeriodic .ve, .statusFrameChange .ve, .statusCfgWrite .other 0, .hostWdEnable .other 0, .hostWdKick .other 0, .hostWdExpiry, .atRestTimeout, .pairCompareRecord 0 0 0 [], .pairMatchTimeout 0, .enterSleep .other 0, .sleepEntryStage, .dozeEnWrite .other 0, .dozeIdleExpiry 0, .wakeIn, .wakeFrame 0 0, .wakeTimer, .wakeReady, .wakeReadyTimeout 0 true, .wakeRetryPauseEnd, .wakeFailRepeat, .pathDelayCheck 0 0 0, .ringOscCheck 0 0 0, .coreSplice 0, .clockFailure 0, .rotationSelect 0, .selfTestDone 0 0 true 0 0 [], .breakpointHit 0 0, .debugTransportAccess 0 0 0 [], .idcode, .bypass, .samplePreload, .extest, .intest, .dbgNonce] : List Instr), i.wf = true := by decide

/-- The same commands with numbers in range are well-formed, part 4. -/
theorem test_wf_good_4 : ∀ i ∈ ([.dbgToken [], .debugNonceRead .other, .keyCellFail 0 true, .activationDue, .activationDrainTimeout, .activationPauseBegin, .activationHoldStage, .distaffImageRunning, .activationPauseEnd, .powerUp true, .holdupCharged, .holdupTimeout, .inputLoss, .inputReturn true, .holdupDisconnect, .inputLowBand, .activeDischarge true, .coolantSample none, .t1LinkLoss 0, .t1LinkReturn 0, .inputFullFunctionReturn] : List Instr), i.wf = true := by decide

/-- StepIdleTick: a state with no command waiting, in a phase in which the time unit runs and in one in which it does not. -/
theorem witness_StepIdleTick : base.pending = [] ∧ base.pwr.phase.timed = true
    ∧ ({ base with pwr := { base.pwr with phase := .asleep } } : State).pwr.phase.timed = false := by decide

/-- AdminConfig: rings at 0x8000_0000 in HBM with 16 entries; a size of 3 that is refused. -/
theorem witness_AdminConfig :
    let s : State := { State.reset with q := { State.reset.q with adminCmdBase := 0x80000000, adminCplBase := 0x80001000 } }
    s.clocked = true ∧ s.q.adminEnable = false ∧ (s.bob 0).mode ≠ .error ∧ 4 ≤ bits (0x80000004 : Word).toNat 3 0
      ∧ s.adminBaseOk s.q.adminCmdBase (64 * 2 ^ 4) = true ∧ s.adminBaseOk s.q.adminCplBase (32 * 2 ^ 4) = true ∧ s.dev.cfgDivReport = none
      ∧ bits (0x80000003 : Word).toNat 3 0 < 4 := by decide

/-- DoorbellWrites: a bobbin that takes the value 3, one that is Unused, a value beyond the ring, the last tail again. -/
theorem witness_DoorbellWrites : base.serves = true ∧ base.cardBobbin 1 = false ∧ (base.bob 1).mode = .running ∧ (base.bob 9).mode = .unused
    ∧ ¬ 2 ^ (base.bob 1).sizeLog2 < ((3 : Index) - (base.bob 1).cmdHead).toNat ∧ (3 : Index) ≠ (base.bob 1).tail
    ∧ 2 ^ (base.bob 1).sizeLog2 < ((17 : Index) - (base.bob 1).cmdHead).toNat ∧ (0 : Index) = (base.bob 1).tail := by decide

/-- CompletionDoorbell: an idle ring, a full ring with one reply held, a pending reply. -/
theorem witness_CompletionDoorbell :
    let b : Bobbin := { ring 1 false 0 with cplTail := 16, held := [{ opcode := 0x0100, status := 0 }] }
    let s := base.setBob 1 b
    let s2 := base.setBob 1 { ring 1 false 0 with irqEnable := true, irqPending := [3] }
    base.serves = true ∧ (base.bob 1).mode ≠ .unused ∧ (base.bob 1).held = []
      ∧ s.serves = true ∧ (s.bob 1).mode ≠ .unused ∧ (s.bob 1).held = [{ opcode := 0x0100, status := 0 }] ∧ (s.bob 1).irqPending = []
      ∧ ((s.bob 1).cplTail - (1 : Index)).toNat < 2 ^ (s.bob 1).sizeLog2
      ∧ s2.clocked = true ∧ (s2.bob 1).irqEnable = true ∧ (s2.bob 1).irqPending ≠ [] := by decide

/-- RegisterWrites: a clocked module, an accessor that reaches the pages and one that does not, the boundary offset and bobbin. -/
theorem witness_RegisterWrites : base.clocked = true ∧ pageOpen .supervisor = true ∧ pageOpen (.user 0) = false ∧ Accessor.user 0 ≠ .serviceHost
    ∧ 0xFFFFC < 0x100000 ∧ 0xFFFFC % 4 = 0 ∧ 255 < 256 := by decide

/-- FetchesInRingOrder: one posted packet in a readable ring; a ring in a hole of the address map. -/
theorem witness_FetchesInRingOrder :
    let s := base.setBob 1 { ring 1 false 0 with tail := 1 }
    let s2 := base.setBob 1 { ring 1 false 0 with tail := 1, cmdBase := 0x600000000000 }
    s.mayFetch 1 = true ∧ s.served 0x80010000 64 = true ∧ s.dbg.traceOn = false
      ∧ (⟨bytesWords 16 (s.load 0x80010000 64)⟩ : Packet).barrier = false ∧ (s.bob 1).last = none
      ∧ s.outstanding 1 = [] ∧ (s.bob 1).held = [] ∧ s2.mayFetch 1 = true ∧ s2.served 0x600000000000 64 = false := by decide

/-- HeldPackets: a held packet whose predecessor has ended ABORTED under CHAIN, and one with no predecessor. -/
theorem witness_HeldPackets :
    let q : OutPkt := { id := 4, src := .bobbin 1, pkt := pk 5 [], flyer := 1, control := false, job := .held, bell := (0, 0), start := 0 }
    let o : OutPkt := { q with pred := some ⟨3, true, some 0x0300⟩ }
    let s : State := { base with pkts := [o] }
    s.pkt? o.id = some o ∧ o.src = .bobbin 1 ∧ o.job = .held ∧ s.serves = true ∧ bit s.dbg.haltedFl o.flyer = false ∧ o.pkt.barrier = false
      ∧ (s.outstanding 1).all (fun x => decide (o.id ≤ x.id)) = true ∧ (s.bob 1).held = [] ∧ ({ base with pkts := [q] } : State).pkt? q.id = some q
      ∧ q.pred = none := by decide

/-- Bobbin 3 Stopped, owned by flyer 6, beside the bobbins of `base`. -/
def base3 : State := base.setBob 3 { ring 3 false 0 with mode := .stopped, flyer := 6 }
/-- BobbinCommands: a work bobbin for NOP; bobbin 0 for the others, with bobbin 7 to create, 1 to create again, 3 to destroy, 1, 2 and 3 to stop, 3 to
resume. -/
theorem witness_BobbinCommands :
    let create (n : Nat) : Packet := ⟨[0x10000, 0, 7, n + 0x40000, 0x80100000, 0, 0x80108000, 0, 5, 0, 0, 0, 0, 0, 0, 0]⟩
    let name (n : Nat) : Packet := ⟨[0x10000, 0, 7, n, 0, 0, 0, 0, 0, 0, 0, 0, 0, 0, 0, 0]⟩
    specNop.accepts (.bobbin 1) (name 0) base = true
      ∧ specBobbinCreate.accepts (.bobbin 0) (create 7) base = true ∧ (base.bob 7).mode = .unused
      ∧ specBobbinCreate.accepts (.bobbin 0) (create 1) base = true ∧ (base.bob 1).mode ≠ .unused
      ∧ specBobbinDestroy.accepts (.bobbin 0) (name 3) base3 = true
      ∧ specBobbinStop.accepts (.bobbin 0) (name 1) base = true ∧ (base.bob 1).flyer = (specBobbinStop.env (.bobbin 0) (name 1) base).flyer
      ∧ specBobbinStop.accepts (.bobbin 0) (name 3) base3 = true ∧ (base3.bob 3).flyer ≠ (specBobbinStop.env (.bobbin 0) (name 3) base3).flyer
      ∧ specBobbinStop.accepts (.bobbin 3) (name 3) (base3.setBob 3 { base3.bob 3 with fetchFault := true }) = true
      ∧ specBobbinResume.accepts (.bobbin 0) (name 3) base3 = true := by decide

/-- Command 5 of tenant 0 on bobbin 1, outstanding with nothing but its result writes. -/
def out1 (id : Nat) (p : Packet) (job : Job) : OutPkt := { id := id, src := .bobbin 1, pkt := p, flyer := 1, control := false, job := job, bell := (0, 0), start := 0 }
/-- TenantCommands: tenant 1 with 1 slot, contexts 64 to 127 and 1 GiB; with 24 slots, and with quotas beyond HBM; tenant 1 destroyed; item 1; context 5
idle, and busy with a DMA_FILL. -/
theorem witness_TenantCommands :
    let create (slots quota : Nat) : Packet := ⟨[0x10000, 0, 7, slots + 0x10000, 64 + 64 * 0x10000, quota, 0, 0, 0, 0, 0, 0, 0, 0, 0, 0]⟩
    let s1 : State := { base with dom := { base.dom with tenants := base.dom.tenants ++ [(1, ⟨false, 1, 64, 64, 4⟩)] } }
    specTenantCreate.accepts (.bobbin 0) (create 1 4) base = true
      ∧ 24 < base.dom.tenants.foldl (fun a t => a + t.2.hotSlots) ((create 24 4).f 3 4 0) ∧ specTenantCreate.accepts (.bobbin 0) (create 24 4) base = true
      ∧ base.usableMib < base.dom.tenants.foldl (fun a t => a + t.2.quota) ((create 1 0xFFFF).f 5 15 0) * 256
      ∧ specTenantCreate.accepts (.bobbin 0) (create 1 0xFFFF) base = true
      ∧ specTenantDestroy.accepts (.bobbin 0) ⟨[0x10000, 0, 7, 1, 0, 0, 0, 0, 0, 0, 0, 0, 0, 0, 0, 0]⟩ s1 = true
      ∧ specQuery.accepts (.bobbin 1) ⟨[0x10000, 0, 7, 1, 0, 0, 0, 0, 0, 0, 0, 0, 0, 0, 0, 0]⟩ base = true
      ∧ specQuiesce.accepts (.bobbin 1) (pk 5 []) base = true ∧ base.busyCtx 5 = false
      ∧ ({ base with pkts := [out1 3 ((pk 5 []).withOpcode 0x0201) (.work {})] } : State).busyCtx 5 = true := by decide

/-- StopCommands: an ABORT by tag of context 5's packets on bobbin 1 from control bobbin 2; with nothing to match, with one DMA_FILL on its own flyer and on
flyer 2; a reset of context 5 with both; orders that arrive. -/
theorem witness_StopCommands :
    let ab : Packet := ⟨[0x10000, 0, 9, 1 + 5 * 0x100, 7, 0, 0, 0, 0, 0, 0, 0, 0, 0, 0, 0]⟩
    let o := out1 3 ((pk 5 []).withOpcode 0x0201) (.work {})
    let o2 := { o with flyer := 2 }
    let nx (ps : List OutPkt) : State := { base with pkts := ps, q := { base.q with nextId := 8 } }
    let st (z : StopOrder) (ps : List OutPkt) : State := { nx ps with q := { (nx ps).q with stops := [z] } }
    let me := { out1 4 (ab.withOpcode 0x0108) (.waits (.abort 0 0 0)) with src := .bobbin 2 }
    specAbort.accepts (.bobbin 2) ab base = true ∧ base.pkts = [] ∧ base.q.ended = []
      ∧ specAbort.accepts (.bobbin 2) ab (nx [o]) = true ∧ abortMatch (specAbort.pkt ab) o.src o.pkt = true ∧ o.id < (nx [o]).q.nextId
      ∧ o.flyer = (specAbort.env (.bobbin 2) ab (nx [o])).flyer ∧ (nx [o]).twistCommitted o.id = false ∧ (nx [o]).q.stops = [] ∧ (nx [o]).q.ended = []
      ∧ specAbort.accepts (.bobbin 2) ab (nx [o2]) = true ∧ o2.flyer ≠ (specAbort.env (.bobbin 2) ab (nx [o2])).flyer
      ∧ specContextReset.accepts (.bobbin 2) (pk 5 []) (nx [o, { o2 with id := 5 }]) = true ∧ (nx [o, { o2 with id := 5 }]).ctxPkts 5 = [o, { o2 with id := 5 }]
      ∧ (st ⟨4, 6, .abort, [], some 1⟩ [me]).clocked = true ∧ (st ⟨4, 6, .abort, [], some 1⟩ [me]).flyerHalted 6 = false
      ∧ ((st ⟨4, 6, .abort, [], some 1⟩ [me]).bob 1).mode = .running
      ∧ (st ⟨4, 2, .abort, [3], none⟩ [o2, me]).clocked = true ∧ (st ⟨4, 2, .abort, [3], none⟩ [o2, me]).twistCommitted 3 = false
      ∧ me.job = .waits (.abort 0 0 0) := by decide

/-- ReplyPhase: the largest fields, and the last slot of the second pass of a ring of 2^15 entries. -/
theorem witness_ReplyPhase :
    let r : Reply := { opcode := 0x0100, status := 0, ctx := 4095, tag := 63, level := 7 }
    r.ctx < 2 ^ 12 ∧ r.tag < 2 ^ 6 ∧ r.level < 2 ^ 3 ∧ 32767 < 2 ^ 15 ∧ 1 * 2 ^ 15 + 32767 < 65536 ∧ 15 < 16 := by decide

/-- ReplyLayout: every field at its largest value. -/
theorem witness_ReplyLayout :
    let r : Reply := { opcode := 0xFFFF, status := 0xFFFF, event := true, ctx := 4095, tag := 63, level := 7, reqTag := 0xFFFFFFFF, d0 := 0xFFFFFFFF,
                       d1 := 0xFFFFFFFF, d2 := 0xFFFFFFFF, d3 := 0xFFFFFFFF }
    r.status < 2 ^ 16 ∧ r.opcode < 2 ^ 16 ∧ r.ctx < 2 ^ 12 ∧ r.tag < 2 ^ 6 ∧ r.level < 2 ^ 3 ∧ r.reqTag < 2 ^ 32 ∧ r.d0 < 2 ^ 32 ∧ r.d1 < 2 ^ 32
      ∧ r.d2 < 2 ^ 32 ∧ r.d3 < 2 ^ 32 := by decide

/-- PacketBytes: sixteen words at the largest value, over canonical memory. -/
theorem witness_PacketBytes :
    let p : Packet := ⟨List.replicate 16 0xFFFFFFFF⟩
    p.ws.length = 16 ∧ (∀ w ∈ p.ws, w < 2 ^ 32) ∧ memWf base.mem = true := by decide

/-- PacketEnds: a packet of bobbin 1 with REPLY and one without. -/
theorem witness_PacketEnds :
    let o := out1 3 ((pk 5 []).withOpcode 0x0100) .held
    let o2 := { o with pkt := ⟨List.replicate 16 0⟩ }
    o.src = .bobbin 1 ∧ 191 < 192 ∧ base.dbg.traceOn = false ∧ (base.bob 1).mode ≠ .unused ∧ (base.bob 1).room = true ∧ (base.bob 1).held = []
      ∧ o.pkt.reply = true ∧ base.served ((base.bob 1).cplBase + 32 * ((base.bob 1).cplTail.toNat % 2 ^ (base.bob 1).sizeLog2)) 32 = true
      ∧ o2.pkt.reply = false ∧ 0 / 256 = 0
      ∧ (({ ring 1 false 0 with cplBase := 0x600000000000 } : Bobbin).room = true ∧ base.served 0x600000000000 32 = false)
      ∧ ({ ring 1 false 0 with cplTail := 16 } : Bobbin).room = false := by decide

/-- PacketRejected: one failing packet of each row named, and an Unused bobbin. -/
theorem witness_PacketRejected :
    specNop.rejects (.bobbin 1) ⟨[0x10000, 0, 7, 5, 0, 0, 0, 0, 0, 0, 0, 0, 0, 0, 0, 0]⟩ base = some ⟨0x0101, [3, 5]⟩
      ∧ specDmaCopy.rejects (.bobbin 1) (pk 9 []) base = some ⟨0x0104, []⟩ ∧ specMatmul.rejects (.bobbin 2) (pk 5 []) base = some ⟨0x0103, []⟩
      ∧ specDraftOpen.rejects (.bobbin 1) (pk 9 []) base = some ⟨0x0104, []⟩ ∧ specContextCreate.rejects (.bobbin 1) (pk 5 []) base = some ⟨0x0104, []⟩
      ∧ specSolve.rejects (.bobbin 1) (pk 9 []) base = some ⟨0x0104, []⟩ ∧ specTimeRate.rejects (.bobbin 1) (pk 0 []) base = some ⟨0x0102, []⟩
      ∧ specAttest.rejects (.bobbin 2) (pk 0 []) base = some ⟨0x0103, []⟩ ∧ base.starts (.bobbin 9) = false := by decide

/-- CommitPoint: a fill of one byte in flight, on a halted flyer too; a QUIESCE alone and beside it; a MATMUL that waits for cores. -/
theorem witness_CommitPoint :
    let w : Work := { writes := [⟨0x80000000, [1]⟩] }
    let o := out1 3 ((pk 5 []).withOpcode 0x0201) (.work w)
    let s : State := { base with pkts := [o] }
    let h : State := { s with dbg := { s.dbg with haltedFl := 2 } }
    let qu := out1 4 ((pk 5 []).withOpcode 0x0109) (.waits .quiesce)
    let m := out1 5 ((pk 5 []).withOpcode 0x0300) .cores
    s.pkt? 3 = some o ∧ s.serves = true ∧ s.flyerHalted o.flyer = false ∧ s.dbg.traceOn = false ∧ o.pkt.level = 0
      ∧ (∀ r ∈ w.writes, remoteNode r.addr = none) ∧ s.ply.remote = [] ∧ s.workFrozen w = false ∧ s.dr.drafts = []
      ∧ h.pkt? 3 = some o ∧ h.serves = true ∧ h.flyerHalted o.flyer = true ∧ h.dbg.queuedAcks.contains (3, none) = false
      ∧ ({ base with pkts := [qu] } : State).pkt? 4 = some qu ∧ ({ base with pkts := [qu] } : State).busyCtx qu.pkt.ctx = false
      ∧ ({ base with pkts := [o, qu] } : State).pkt? 4 = some qu ∧ ({ base with pkts := [o, qu] } : State).busyCtx qu.pkt.ctx = true
      ∧ ({ base with pkts := [m] } : State).pkt? 5 = some m ∧ m.job = .cores ∧ base.pwr.phase = .up ∧ base.dev.update ≠ .activating
      ∧ base.safety ≠ .safeHold ∧ base.clocked = true := by decide

/-- MemInvariant: the state after reset, with a command in the queue and without. -/
theorem witness_MemInvariant : memWf State.reset.mem = true ∧ (∃ t, step State.reset = .next t)
    ∧ ∃ t, step { base with pending := [.nop (.bobbin 1) (pk 0 [])] } = .next t := ⟨rfl, ⟨_, rfl⟩, ⟨_, rfl⟩⟩

/-- A copy of one row of 64 bytes from 0x8020_0000 to 0x8020_1000. -/
def copyPkt : Packet := pk 5 [0, 0x80200000, 0, 0x80201000, 0, 64, 0x10000, 64, 64, 0, 0, 0, 0]
/-- MemoryCommands: a copy and a fill inside the region; banks 0 and 1 to port 0; a region of one granule in stack 0, one beyond the quota, one where
stack 0 is being cleared or is full; the region unmapped. -/
theorem witness_MemoryCommands :
    let fill : Packet := pk 5 [2, 0x80200000, 0, 16, 0, 0xDEADBEEF, 0]
    let bank : Packet := pk 5 [0x000, 3, 0]
    let map (m n : Nat) : Packet := pk 5 [m * 0x1000000 + 0x30000, n]
    let full0 : State := { base with ms := { base.ms with regions := base.ms.regions ++ [⟨9, 1, 0x84000000, 12288 - 1024 - 32, false, true, true⟩] } }
    let clear0 : State := { base with ms := { base.ms with clearing := [(0x84000000, 12288 - 1024 - 32)] } }
    specDmaCopy.accepts (.bobbin 1) copyPkt base = true ∧ (specDmaCopy.pkt copyPkt).level = 0 ∧ base.dbg.traceOn = false ∧ base.pkts = []
      ∧ (∀ d ∈ base.descs copyPkt, ∀ r ∈ Desc.reads d ++ Desc.writes d, remoteNode r.1 = none)
      ∧ base.noRoute ((base.descs copyPkt).flatMap (fun d => [Desc.src d, Desc.dst d])) = none
      ∧ specDmaFill.accepts (.bobbin 1) fill base = true ∧ (specDmaFill.pkt fill).level = 0 ∧ remoteNode ((specDmaFill.pkt fill).addr 4) = none
      ∧ specBankAssign.accepts (.bobbin 1) bank base = true ∧ NMap.get? base.dom.contexts 5 = some ctx5 ∧ 1 < 16 - ctx5.shadowMib
      ∧ specRegionMap.accepts (.bobbin 1) (map 1 1) base = true ∧ (base.findRun 1 1 true).isSome
      ∧ specRegionMap.accepts (.bobbin 1) (map 1 11000) base = true
      ∧ specRegionMap.accepts (.bobbin 1) (map 1 1) clear0 = true ∧ clear0.findRun 1 1 true = none ∧ clear0.findRun 1 1 false ≠ none
      ∧ specRegionMap.accepts (.bobbin 1) (map 1 1) full0 = true ∧ full0.findRun 1 1 true = none ∧ full0.findRun 1 1 false = none
      ∧ specRegionUnmap.accepts (.bobbin 1) (pk 5 [0x80000000, 0]) (base.setBob 1 { base.bob 1 with flyer := 2 }) = true
      ∧ (base.regionAt? 5 0x80000000).isSome := by decide

/-- CopyLands: the copy of 64 bytes on bobbin 1, whose next completion slot is at 0x8001_8000. -/
theorem witness_CopyLands :
    let q := specDmaCopy.pkt copyPkt
    specDmaCopy.accepts (.bobbin 1) copyPkt base = true ∧ q.level = 0 ∧ base.pkts = [] ∧ base.ply.remote = [] ∧ base.dr.drafts = [] ∧ base.ms.poison = []
      ∧ q.b 3 31 = false ∧ q.b 12 31 = false ∧ q.f 9 31 16 = 1 ∧ q.reply = true ∧ q.word 8 = 64
      ∧ (∀ i < 64, remoteNode (q.addr 4 + i) = none ∧ remoteNode (q.addr 6 + i) = none) ∧ base.serves = true ∧ (base.bob 1).room = true
      ∧ (base.bob 1).held = [] ∧ base.flyerHalted (base.bob 1).flyer = false ∧ (base.bob 1).cplBase + 32 ≤ q.addr 6
      ∧ (∃ t, exec (.dmaCopy (.bobbin 1) copyPkt) base = .next t) := by
  refine ⟨?_, ?_, ?_, ?_, ?_, ?_, ?_, ?_, ?_, ?_, ?_, ?_, ?_, ?_, ?_, ?_, ?_, ⟨_, rfl⟩⟩ <;> decide

/-- MemoryEvents: context 5 with bank 0 at port 0; bank 1 is not its own; bank 14 is its shadow bank's neighbour. -/
theorem witness_MemoryEvents :
    let s : State := { base with dom := { base.dom with contexts := [(5, { ctx5 with coreBanks := [(0, 0)] })] } }
    let o := out1 3 ((pk 5 []).withOpcode 0x0310) (.work {})
    let r : State := { base with ms := { base.ms with hbmStacks := [{ remapped := some 31, copying := true }, {}, {}, {}], clearing := [(0x90000000, 2)] } }
    s.clocked = true ∧ s.isShadowBank 5 0x010000000000 = false ∧ s.portOf 5 0x010000000000 = some 0 ∧ s.portOf 5 0x010000100000 = none
      ∧ s.isShadowBank 5 0x010000100000 = false ∧ bankOf 0x010000100000 ≠ none ∧ bankOf 0x010000000000 = some (0, 0)
      ∧ ({ s with pkts := [o] } : State).pkt? 3 = some o ∧ o.pkt.opcode = 0x0310 ∧ ({ s with pkts := [o] } : State).bankPort o.pkt.ctx 0 0 ≠ none
      ∧ portAllowed 0 1 = true ∧ (NMap.getD base.ms.links 3 {}).fenced = false ∧ (base.ms.hbmStacks.getD 3 {}).remapped = none
      ∧ (base.ms.hbmStacks.getD 3 {}).withdrawn = false ∧ (r.ms.hbmStacks.getD 0 {}).remapped = some 31 ∧ (r.ms.hbmStacks.getD 0 {}).copying = true
      ∧ r.clocked = true ∧ base.pwr.phase = .up ∧ 0x0017FFFFFFFF < 0x001800000000 ∧ r.ms.clearing = [(0x90000000, 2)] ∧ r.pkts = [] ∧ memWf r.mem = true := by decide

/-- A pool of tenant 0 over the first two granules of context 5's region: BF16, one head of 32 dimensions, one layer, pages of 256 tokens. -/
def poolPkt : Packet := pk 5 [0, 0x80000000, 2 * 0x10000, 0, 0, 0, 0, 0, 0, 0x7010020, 0x20001, 2, 0]
def pool0 : KvPool := bindPool (poolPkt.withOpcode 0x0210)
/-- Sequence 1 with one pinned page in frame 0. -/
def pool1 : KvPool := { pool0 with seqs := [(1, ⟨5, 1, [10], [(0, { valid := true, pinned := true, fill := 10, frame := 0 })]⟩)], frames := [(0, ⟨1, 0⟩)] }
/-- KvCommands: the pool bound; sequence 0 opened alone; sequence 1 closed; one token appended to sequence 0; page 0 of sequence 1 unpinned; a pool of one
frame, where a pin exceeds seven eighths. -/
theorem witness_KvCommands :
    let s : State := { base with kv := [(0, pool1)] }
    let opn : Packet := pk 5 [0, 0xFFFF0000, 0]
    let app : Packet := pk 5 [0, 0x00000000, 0x10100, 0x00000400, 0x10100, 0]
    let b : State := { base with kv := [(0, { pool0 with seqs := [(0, ⟨5, 1, [0], []⟩)] })], mem := [(0x010000000004, 1)]
                                 dom := { base.dom with contexts := [(5, { ctx5 with coreBanks := [(0, 4)] })] } }
    let one : State := { base with kv := [(0, { pool1 with heads := 64 })] }
    let pin (v : Nat) : Packet := pk 5 [v * 2 ^ 31 + 1, 0, 1]
    let aq := specKvScatterAppend.pkt (kvAction app 0)
    let u := specKvScatterAppend.taken (.bobbin 1) (kvAction app 0) b
    let es := u.lenTable aq (aq.addr 4) (aq.f 5 31 16)
    let todo := es.zipIdx.flatMap (fun x => x.1.pages.map (fun pg => (x.2, x.1, pg)))
    specKvScatterBind.accepts (.bobbin 1) (kvAction poolPkt 3) base = true
      ∧ specKvScatterOpen.accepts (.bobbin 1) (kvAction opn 1) s = true ∧ s.seqFrozen 0 0xFFFF = false
      ∧ specKvScatterClose.accepts (.bobbin 1) (kvAction (pk 5 [1]) 2) s = true ∧ NMap.get? s.kv 0 = some pool1
      ∧ specKvScatterAppend.accepts (.bobbin 1) (kvAction app 0) b = true ∧ aq.level = 0 ∧ b.ms.poison = [] ∧ todo.length = 1
      ∧ (match u.prepare (specKvScatterAppend.env (.bobbin 1) (kvAction app 0) b) 0 0 (todo.map (fun t => (t.2.1.seq, t.2.2))) todo [] 0 with
         | .inl (s1, ps, n) => decide (ps.length = 1) && decide (n = 0) && (s1.pool? 0).isSome | .inr _ => false) = true
      ∧ specPagePin.accepts (.bobbin 1) (pin 0) s = true ∧ specPagePin.accepts (.bobbin 1) (pin 1) one = true
      ∧ NMap.get? one.kv 0 = some { pool1 with heads := 64 } ∧ ({ pool1 with heads := 64 } : KvPool).frameCount * 7 < 8 := by decide

/-- Context 5 with banks 0 and 3 of core memory at the activation port, 1 at the weight port, 2 at a vector port, 4 at the DMA port. -/
def core0 : State := { base with dom := { base.dom with contexts := [(5, { ctx5 with coreBanks := [(0, 1), (1, 0), (2, 2), (3, 1), (4, 4)] })] } }
/-- The same with a convolution descriptor (maximum of one pixel) at 0x0100_0000_0000, or a recurrence descriptor (one channel, one step). -/
def convState : State :=
  { core0 with mem := [(0x010000000023, 0x10), (0x01000000002C, 1), (0x01000000002E, 1), (0x010000000030, 1), (0x010000000032, 1), (0x01000000003C, 0x20), (0x01000000003F, 1)] }
def recState0 : State :=
  { core0 with mem := [(0x010000000016, 0x80), (0x010000000018, 0x20), (0x01000000001B, 1), (0x010000000028, 0x40), (0x01000000002A, 0x20), (0x01000000002D, 1),
                       (0x01000000003C, 0x20), (0x01000000003F, 1)] }
def mmPkt : Packet := pk 5 [0x070077F0, 0, 0, 0, 0, 0x10100, 0x100000, 0x10100, 0x300000, 0x10100, 0, 0, 0]
def convPkt : Packet := pk 5 [0x070097F0, 0, 0, 0, 0, 0x80000100, 0x300000, 0x100, 0, 0, 0]
def recPkt : Packet := pk 5 [0x070097F0, 0, 0, 0, 0, 0x10100, 0x300000, 0x100, 0, 0, 0, 0xC0000000, 1]
def vecPkt : Packet := pk 5 [0x7000700, 0, 0x04000000, 0x200000, 0x100, 0, 0, 0x200400, 0x100, 0, 0, 4]
def sortPkt : Packet := pk 5 [0x7000700, 0, 0, 0x200000, 0x10100, 4, 0x10000, 0x20100, 0x200400, 0, 0, 0]
set_option maxRecDepth 8000 in
/-- ComputeCommands: one packet of each row on core 0, which is free; and core 0 executing another packet. -/
theorem witness_ComputeCommands :
    let busy : State := { core0 with dom := { core0.dom with cores := setAt core0.dom.cores 0 { busy := some 9 } } }
    let e := specMatmul.env (.bobbin 1) mmPkt core0
    specMatmul.accepts (.bobbin 1) mmPkt core0 = true ∧ specConv.accepts (.bobbin 1) convPkt convState = true
      ∧ (convAt (specConv.taken (.bobbin 1) convPkt convState) (specConv.pkt convPkt)).isSome
      ∧ specRecur.accepts (.bobbin 1) recPkt recState0 = true
      ∧ (recDescs (specRecur.taken (.bobbin 1) recPkt recState0) (specRecur.pkt recPkt)).isSome
      ∧ specVectorOp.accepts (.bobbin 1) vecPkt core0 = true ∧ specSort.accepts (.bobbin 1) sortPkt core0 = true
      ∧ (match core0.claimFor e [0] with | some s1 => (s1.poisonIn (mmRanges core0 mmPkt).rd).isEmpty | none => false) = true
      ∧ (busy.claimFor e [0]).isNone := by decide

/-- WorkStarts: the MATMUL of one element. -/
theorem witness_WorkStarts :
    let e := specMatmul.env (.bobbin 1) mmPkt core0
    let w : Work := { writes := [⟨0x010000300000, [0, 0]⟩] }
    e.p.level = 0 ∧ w.esc = false ∧ core0.dbg.traceOn = false ∧ (∀ r ∈ w.writes, remoteNode r.addr = none) ∧ memWf core0.mem = true := by decide

def attPkt : Packet := pk 5 [0x070077F0, 0, 0, 0, 0, 0x10100, 0x300000, 0x100, 0, 0x10100, 0x10810, 0x20000, 0x3F800000]
def attState : State := { core0 with kv := [(0, { pool0 with seqs := [(0, ⟨5, 1, [0], []⟩)] })] }
/-- A model of one schedule that needs one core and writes one output of 64 bytes through the DMA port; its binding table lies at 0x8020_0000. -/
def runState : State :=
  { core0 with
    dom := { core0.dom with hot := [(0, { tenant := 0, imageId := 1, pinned := false, resident := 0, cores := 1, schedules := 1, sections := [], recency := 0
                                          scheds := [{ bindings := [⟨0, 64, true, 4⟩] }] })] }
    mem := [(0x80200001, 0x10), (0x80200002, 0x20), (0x80200003, 0x80), (0x80200007, 1), (0x80200008, 64)] }
def runPkt : Packet := pk 5 [0, 0, 0, 0, 0, 0x80200000, 0x10000]
/-- RunCommands: an ATTENTION of an empty sequence on core 0, free and busy; one of 256 tokens whose page is dropped; a run on core 0, free and busy. -/
theorem witness_RunCommands :
    let q := specAttention.pkt attPkt
    let e := specAttention.env (.bobbin 1) attPkt attState
    let b (s : State) : State := { s with dom := { s.dom with cores := setAt (setAt s.dom.cores 0 { busy := some 9 }) 1 { busy := some 9 } } }
    let pd : KvPool := { pool0 with seqs := [(0, ⟨5, 1, [10], [(0, { valid := false, dropped := true, fill := 10, frame := 0 })]⟩)] }
    let ds : State := { core0 with kv := [(0, pd)], mem := [(0x010000000004, 1), (0x010000000008, 10)] }
    let er := specScheduleRun.env (.bobbin 1) runPkt runState
    let u := specScheduleRun.taken (.bobbin 1) runPkt runState
    let ub := specScheduleRun.taken (.bobbin 1) runPkt (b runState)
    let x : Context := { ctx5 with coreBanks := [(0, 1), (1, 0), (2, 2), (3, 1), (4, 4)] }
    specAttention.accepts (.bobbin 1) attPkt attState = true ∧ (attPool attState q).isSome
      ∧ (attTable attState q).any (fun x => attState.seqFrozen 0 x.seq) = false
      ∧ (match attState.claimFor e (attCores q) with | some s1 => (attDropped s1 q pool0).isNone && s1.ms.poison.isEmpty | none => false) = true
      ∧ specAttention.accepts (.bobbin 1) attPkt (b attState) = true ∧ ((b attState).claimFor e (attCores q)).isNone
      ∧ specAttention.accepts (.bobbin 1) attPkt ds = true
      ∧ (match ds.claimFor e (attCores q) with | some s1 => (attDropped s1 q pd).isSome | none => false) = true
      ∧ specScheduleRun.accepts (.bobbin 1) runPkt runState = true ∧ (u.runModel? (specScheduleRun.pkt runPkt) 0).isSome ∧ u.ctx? 5 = some x
      ∧ (u.runCores er x 1 false).isSome ∧ specScheduleRun.accepts (.bobbin 1) runPkt (b runState) = true ∧ (ub.runCores er x 1 false).isNone := by decide

/-- ScalarCores: core 0 executing a run, with an operation of queue 0 in flight; a full queue is not met; a step before its gap; a due step of the array
towards its target and of the clock. -/
theorem witness_ScalarCores :
    let o := out1 3 ((pk 5 []).withOpcode 0x0310) (.work {})
    let s : State := { core0 with pkts := [o], dom := { core0.dom with cores := setAt core0.dom.cores 0 { busy := some 3, ops := [⟨0, 7⟩], nextToken := 8, g := 3, mhz := 900 } } }
    let early : State := { s with dom := { s.dom with cores := setAt s.dom.cores 0 { lastMa := 600, lastStep := 0 } } }
    s.clocked = true ∧ ((s.core 0).ops.filter (fun o => o.queue = 0)).length < queueDepth 0 ∧ (∀ o ∈ (s.core 0).ops, o.token ≠ 6) ∧ 0 < s.dom.cores.length
      ∧ s.corePkt? 0 = some o ∧ s.pwr.phase = .up ∧ (early.dom.cores.getD 0 {}).lastMa ≠ 0
      ∧ (early.time.tick - (early.dom.cores.getD 0 {}).lastStep) * 4 < early.stepGap 0 ∧ toward 3 (s.wantGroups 0 0) 1 ≠ 3
      ∧ toward 900 (s.wantMhz 0) 100 ≠ 900 ∧ s.firstEngine 0 = some 0 := by decide

/-- Context 5 with an open draft of tag 2 at level 1. -/
def draftState : State := { core0 with dr := { core0.dr with drafts := [{ ctx := 5, tag := 2, level := 1, opener := 1, order := 0 }], nextOrder := 1 } }
/-- DraftCommands: a first draft opened with a budget of 5 pages; 64 drafts open; tag 2 twisted, unravelled and queried; a free tag queried. -/
theorem witness_DraftCommands :
    let many : State := { core0 with dr := { core0.dr with drafts := (List.range 64).map (fun i => { ctx := 5, tag := if i = 63 then 62 else i, level := 1 }) } }
    let q (w : Nat) : Packet := pk 5 [w]
    let one : Packet := pk 5 [0x42, 0, 0, 0]
    specDraftOpen.accepts (.bobbin 1) (q 0x50002) core0 = true ∧ (core0.ownDrafts 5).length < 64
      ∧ specDraftOpen.accepts (.bobbin 1) (q 0x3F) many = true ∧ 64 ≤ (many.ownDrafts 5).length
      ∧ specTwist.accepts (.bobbin 1) one draftState = true ∧ (draftState.named? (specTwist.pkt one)).isSome
      ∧ specUnravel.accepts (.bobbin 1) (q 0x42) draftState = true ∧ (draftState.named? (specUnravel.pkt (q 0x42))).isSome
      ∧ specDraftQuery.accepts (.bobbin 1) (q 0x80000000) draftState = true ∧ specDraftQuery.accepts (.bobbin 1) (q 0x42) draftState = true
      ∧ (draftState.named? (specDraftQuery.pkt (q 0x42))).isSome ∧ specDraftQuery.accepts (.bobbin 1) (q 0x43) draftState = true
      ∧ draftState.named? (specDraftQuery.pkt (q 0x43)) = none ∧ core0.dbg.traceOn = false ∧ core0.clocked = true
      ∧ (specDraftOpen.pkt (q 0x50002)).f 3 27 16 = 5 ∧ core0.pkts = [] := by decide

/-- TwistEvents: a TWIST of tag 2, mode 0 and mode 2, about to start; with two participants; with two votes awaited; with one; committed; a READY record. -/
theorem witness_TwistEvents :
    let o : OutPkt := out1 0 ((pk 5 [0x42, 0, 0, 0]).withOpcode 0x0401) (.waits .twist)
    let ov : OutPkt := out1 0 ((pk 5 [0x42, 0, 0, 0x80000000, 0, 0x100]).withOpcode 0x0401) (.waits .twist)
    let d : Draft := { ctx := 5, tag := 2, level := 1, opener := 1, order := 0, st := .twisting 0 }
    let d2 : Draft := { d with lines := [(0x010000000000 / 64, List.replicate 64 1), (0x010002000000 / 64, List.replicate 64 1)] }
    let t : Twist := { pkt := 0, ctx := 5, tag := 2 }
    let st (o : OutPkt) (d : Draft) (t : Twist) : State := { core0 with pkts := [o], dr := { core0.dr with drafts := [d], twists := [t], nextOrder := 1 }, q := { core0.q with nextId := 1 } }
    let v (l a : List Nat) : State := st o d2 { t with started := true, votes := l, applying := a }
    let rec_ : Draft := { ctx := 5, tag := 2, level := 1, order := 0, node := some 3, ready := true, ownerLost := true }
    let late : State := { v [65] [] with time := { core0.time with ns := 200000 } }
    (st o d t).clocked = true ∧ (st o d t).pkt? 0 = some o ∧ (st o d t).twist? 0 = some t ∧ (st o d t).flyerHalted 1 = false ∧ (st o d t).named? o.pkt = some d
      ∧ o.pkt.f 6 31 30 = 0 ∧ d.participants.length ≤ 1 ∧ 1 < d2.participants.length ∧ (st o d2 t).named? o.pkt = some d2
      ∧ ov.pkt.f 6 31 30 = 2 ∧ (st ov d t).named? ov.pkt = some d
      ∧ leNat ((List.range 4).map (fun i => (st ov d t).byteSeen ((st ov d t).chain 5 1 2) (verdictAddr ov.pkt + i))) = 0
      ∧ (v [0, 1] []).twist? 0 = some { t with started := true, votes := [0, 1] } ∧ (v [0, 1] [0]).twisting? 0 = some d2
      ∧ (v [1] [1]).twist? 0 = some { t with started := true, votes := [1], applying := [1] } ∧ (v [65] []).twisting? 0 = some d2
      ∧ (st o d { t with committed := true, applying := [0] }).twist? 0 = some { t with committed := true, applying := [0] }
      ∧ late.twist? 0 = some { t with started := true, votes := [65] } ∧ 0 + 200000 ≤ late.now
      ∧ (st o rec_ t).dr.drafts.find? (fun d => decide (d.order = 0)) = some rec_ := by decide

/-- TwistApplies: a draft of one line at level 1, and one at level 2 under it. -/
theorem witness_TwistApplies :
    let p : Draft := { ctx := 5, tag := 2, level := 1, order := 0, lines := [(0x010000000000 / 64, List.replicate 64 1)] }
    let d : Draft := { ctx := 5, tag := 3, level := 2, parent := 2, order := 1 }
    let s : State := { core0 with dr := { core0.dr with drafts := [p, d], nextOrder := 2 } }
    p.level = 1 ∧ p.peers = [] ∧ p.pages = [] ∧ p.appends = [] ∧ p.deferred = [] ∧ s.dbg.traceOn = false ∧ memWf s.mem = true
      ∧ (∀ l ∈ p.lines, l.2.length = 64) ∧ d.level ≠ 1 ∧ s.draft? 5 1 2 = some p ∧ p.order ≠ d.order := by decide

/-- Reservation 0 of tenant 0: cores 0 and 1. -/
def res0 : Reservation := { tenant := 0, coreMask := 3, planShare := 4, systems := 1, loops := 8, powerMw := 1000, hbmBw := 100 }
/-- ContextCommands: context 6 created; context 5 destroyed, and at its commit point; a reservation of cores 0 and 1 granted, denied, drained; reservation 0
released. -/
theorem witness_ContextCommands :
    let create : Packet := pk 6 [3, 1]
    let lane (mw : Nat) : Packet := ⟨[0x10000, 0, 7, 3, 0x04010800, mw, 100, 0, 0, 0, 0, 0, 0, 0, 0, 0]⟩
    let d := out1 3 ((pk 5 []).withOpcode 0x0501) (.waits .destroyCtx)
    let s1 : State := { base with pkts := [d] }
    let s2 : State := { base with dom := { base.dom with reservations := [(0, { res0 with draining := true })] } }
    specContextCreate.accepts (.bobbin 1) create base = true ∧ base.newCtxTenant (.bobbin 1) 6 = some 0
      ∧ specContextDestroy.accepts (.bobbin 1) (pk 5 []) base = true ∧ (base.ctx? 5).isSome
      ∧ s1.pkt? 3 = some d ∧ s1.serves = true ∧ s1.flyerHalted d.flyer = false
      ∧ specLaneReserve.accepts (.bobbin 0) (lane 1000) base = true ∧ 1000 ≤ base.laneRoom ∧ NMap.has base.dom.reservations 0 = false
      ∧ specLaneReserve.accepts (.bobbin 0) (lane 0xFFFFFFF) base = true ∧ base.laneRoom < 0xFFFFFFF
      ∧ s2.laneDrained 3 = true
      ∧ specLaneRelease.accepts (.bobbin 0) ⟨[0x10000, 0, 7, 0, 0, 0, 0, 0, 0, 0, 0, 0, 0, 0, 0, 0]⟩ s2 = true := by decide

/-- An empty model of tenant 0. -/
def hot0 : HotModel := { tenant := 0, imageId := 9, pinned := false, resident := 0, cores := 1, schedules := 1, sections := [], recency := 0 }
/-- Object 9 of tenant 0, sealed, beside `hot0` in slots. -/
def hotState (hot : NMap HotModel) : State :=
  { base with dom := { base.dom with objects := [{ tenant := 0, imageId := 9, bytes := 4160, isSealed := true }, { tenant := 0, imageId := 8, bytes := 4160, isSealed := true }], hot := hot } }
/-- HotSet: image 9 or 8 loaded into an empty hot set, into one whose four slots are pinned, and pinned as the fourth; slot 0 pinned, pinned as the last
of four, and evicted. -/
theorem witness_HotSet :
    let load (id pin : Nat) : Packet := pk 5 [id, pin]
    let pinned : HotModel := { hot0 with pinned := true }
    let full := hotState [(0, pinned), (1, { pinned with imageId := 10 }), (2, { pinned with imageId := 11 }), (3, { pinned with imageId := 12 })]
    let three := hotState [(1, { pinned with imageId := 10 }), (2, { pinned with imageId := 11 }), (3, { pinned with imageId := 12 })]
    let four := hotState [(0, hot0), (1, { pinned with imageId := 10 }), (2, { pinned with imageId := 11 }), (3, { pinned with imageId := 12 })]
    specModelLoad.accepts (.bobbin 1) (load 9 0) (hotState []) = true ∧ (hotState []).chooseSlot 0 9 = some (0, none) ∧ ((hotState []).object? 0 9).isSome
      ∧ specModelLoad.accepts (.bobbin 1) (load 8 0) full = true ∧ full.chooseSlot 0 8 = none
      ∧ specModelLoad.accepts (.bobbin 1) (load 9 1) three = true ∧ three.chooseSlot 0 9 = some (0, none) ∧ three.pinFull 0 0 = true
      ∧ specModelPin.accepts (.bobbin 1) (pk 5 [0x100]) (hotState [(0, hot0)]) = true ∧ specModelPin.accepts (.bobbin 1) (pk 5 [0x100]) four = true
      ∧ four.pinFull 0 0 = true ∧ specModelEvict.accepts (.bobbin 1) (pk 5 [0]) (hotState [(0, hot0)]) = true := by decide

/-- ModelStore: object 7 opened; block 0 of it written; sealed once complete (with and without a good header); object 9 deleted. -/
theorem witness_ModelStore :
    let op (k : Nat) (ps : List Nat) : Packet := (⟨[0x10000, 0, 7] ++ ps ++ List.replicate (13 - ps.length) 0⟩ : Packet).withField 3 31 30 k
    let good : List Byte := List.replicate 56 0 ++ [0x00, 0x48, 0, 1, 0x31, 0x4C, 0x44, 0x4D]
    let one (bl : NMap (List Byte)) : State := { base with dom := { base.dom with objects := [{ tenant := 0, imageId := 7, bytes := 4160, blocks := bl }] } }
    specStoreOpen.accepts (.bobbin 0) (op 0 [0, 7, 0, 0, 0, 4160]) base = true
      ∧ specStoreWrite.accepts (.bobbin 1) (op 1 [0, 7, 0x80000000, 0, 0x1234]) (one []) = true
      ∧ specStoreSeal.accepts (.bobbin 0) (op 2 [0, 7]) (one [(0, good)]) = true ∧ specStoreSeal.accepts (.bobbin 0) (op 2 [0, 7]) (one [(0, [])]) = true
      ∧ ((one [(0, good)]).object? 0 7).isSome ∧ (headerOf good).magic = 0x4D444C31 ∧ (headerOf good).part = 0x4800
      ∧ specStoreDelete.accepts (.bobbin 1) (op 3 [0, 9]) (hotState []) = true := by decide

/-- OobFrames: a short frame on VE0, on a port that does not exist, and while Distaff's image is replaced; the mailbox of a service host; a held frame. -/
theorem witness_OobFrames :
    let up : State := { base with q := { base.q with serviceUp := true } }
    let act (g : ActStage) : State := { base with dev := { base.dev with update := .activating }, upd := { base.upd with act := some { pkt := none, kind := 1, sv := 7, stage := g } }, oob := { base.oob with heldFrames := [(.ve, 1, [1])] } }
    base.frameAdmitted .ve 0 0 = true ∧ base.clocked = true ∧ base.distaffRuns = true ∧ base.frameOk .ve [1, 2, 3] = false ∧ base.frameAdmitted .ve 2 0 = false
      ∧ (act .held).frameAdmitted .ve 0 0 = true ∧ (act .held).clocked = true ∧ (act .held).distaffRuns = false ∧ ((act .held).actIn .held).isSome
      ∧ up.hasMbox = true ∧ up.oob.mboxSend = false := by decide

/-- ServicePort: the link up, down with a bobbin idle, a flyer that does not report, with and without a spare. -/
theorem witness_ServicePort :
    let up : State := { (base.setBob 224 (ring 4 false 0)) with q := { (base.setBob 224 (ring 4 false 0)).q with serviceUp := true } }
    let none' : State := { base with dev := { base.dev with flyersFenced := [4, 9] } }
    base.q.endpoint = true ∧ base.q.serviceUp = false ∧ base.pwr.phase = .up ∧ (∀ b ∈ base.q.bobbins, b.1 < 224)
      ∧ up.q.serviceUp = true ∧ up.outstanding 224 = [] ∧ base.clocked = true
      ∧ none'.dev.flyersFenced.contains 1 = false ∧ none'.pkts = [] ∧ none'.flyerServes 1 = true ∧ none'.spareFlyer 0 = none ∧ (none'.bob 1).flyer = 1 ∧ base.spareFlyer 0 = some 4 ∧ NMap.has base.q.bobbins 1 = true ∧ (base.bob 1).flyer = 1 := by decide

/-- A camera stream of two lines of 64 bytes on port 0, virtual channel 0, in two slots of 256 bytes. -/
def cam (frame : Option OpenFrame) : Stream :=
  { ctx := 5, opener := 1, kind := 0, port := 0, vc := 0, timeSrc := 1, dt := 0x2A, lines := 2, timeOff := 0, land := 0x80010000, slots := 2, slotBytes := 256
    lineBytes := 64, ether := 0, matchUdp := false, vlan := 0, udp := 0, batchUs := 0, spiMode := false, sclk := 0, cmd := [], readLen := 0, rateHz := 0, frame := frame }
/-- `base` with a stream 1 and its A-PHY link at gear 5. -/
def camState (t : Stream) : State := { base with sen := { base.sen with streams := [(1, t)], gears := setAt base.sen.gears 0 5 } }
def open0 : OpenFrame := { slot := 0, start := 0, capture := 0 }
/-- StreamCommands: stream 1 configured, in use, and released with a frame open and without. -/
theorem witness_StreamCommands :
    let c : Packet := pk 5 [0x00010000, 0x402A0002, 0, 0x80010000, 0x20000, 256, 0x400000]
    let r : Packet := pk 5 [0x40010000]
    let o := out1 3 ((pk 5 []).withOpcode 0x0600) (.waits (.streamRelease 1))
    specStreamConfigure.accepts (.bobbin 1) (c.withField 3 31 30 0) base = true
      ∧ specStreamConfigure.accepts (.bobbin 1) (c.withField 3 31 30 0) (camState (cam none)) = true ∧ NMap.has (camState (cam none)).sen.streams 1 = true
      ∧ specStreamRelease.accepts (.bobbin 1) (r.withField 3 31 30 1) (camState (cam none)) = true
      ∧ specStreamRelease.accepts (.bobbin 1) (r.withField 3 31 30 1) (camState (cam (some open0))) = true
      ∧ base.sen.groups = [] ∧ ({ base with pkts := [o] } : State).pkts.filter (fun x => x.job = .waits (.streamRelease 1)) = [o] := by decide

set_option maxRecDepth 8000 in
/-- CameraFrames: virtual channel 1 without a stream; a frame opened, its first line landed, the next one lost, and closed. -/
theorem witness_CameraFrames :
    let f (t : Stream) : Bool := t.kind = 0 && t.port = 0 && t.vc = 0
    let idle := camState (cam none)
    let live := camState (cam (some open0))
    let done := camState (cam (some { open0 with next := 2, rx := 2 }))
    base.pwr.phase = .up ∧ idle.sen.gears.getD 0 0 ≠ 0 ∧ idle.streamBy (fun t => t.kind = 0 && t.port = 0 && t.vc = 1) = none
      ∧ idle.streamBy f = some (1, cam none) ∧ NMap.get? idle.sen.streams 1 = some (cam none) ∧ (cam none).timeSrc = 1
      ∧ ((List.range 2).map (fun i => (0 + i) % 2)).find? (fun k => !idle.slotUsed 1 k) = some 0 ∧ idle.ringOk 5 0x80010000 512 true = true
      ∧ live.streamBy f = some (1, cam (some open0)) ∧ open0.next < 2 ∧ 64 + 64 * ceilDiv 2 512 + 0 + 64 ≤ 256 ∧ live.clocked = true
      ∧ done.sen.groups = [] ∧ (NMap.get? done.sen.streams 1).isSome
      ∧ ({ base with sen := { base.sen with gears := setAt base.sen.gears 0 5 } } : State).sen.gears.getD 0 0 ≠ 0 ∧ base.sen.streams = [] := by decide

/-- BatchesAndSamples: a frame of EtherType 0x88B5 with a stream for it and without; a batch; SPI streams by edge and by rate; a T1 link. -/
theorem witness_BatchesAndSamples :
    let t1 : Stream := { cam none with kind := 1, lineBytes := 64, ether := 0x88B5, batchUs := 100, dt := 0 }
    let spi (hz : Nat) : Stream := { cam none with kind := 2, lineBytes := 0, dt := 0, lines := 1, readLen := 4, rateHz := hz }
    let frame : List Byte := List.replicate 12 0 ++ [0x88, 0xB5] ++ List.replicate 50 0
    let on (t : Stream) : State := let s := camState t; { s with pwr := { s.pwr with imuOn := setAt s.pwr.imuOn 0 true } }
    base.pwr.phase = .up ∧ base.portUp 0 = true ∧ base.clocked = true
      ∧ base.streamBy (fun t => t.kind = 1 && t.port = 0 && t.ether = (ethHead frame).1 && t.vlan = (ethHead frame).2.2.1 && (!t.matchUdp || (match udpPort frame with | some (d, _) => d = t.udp | none => false))) = none
      ∧ (camState t1).streamBy (fun t => t.kind = 1 && t.port = 0 && t.ether = (ethHead frame).1 && t.vlan = (ethHead frame).2.2.1 && (!t.matchUdp || (match udpPort frame with | some (d, _) => d = t.udp | none => false))) = some (1, t1)
      ∧ NMap.get? (camState t1).sen.streams 1 = some t1
      ∧ (on (spi 0)).streamBy (fun t => t.kind = 2 && t.port = 0) = some (1, spi 0) ∧ (on (spi 0)).pwr.imuOn.getD 0 false = true
      ∧ (on (spi 0)).pwr.imuFolded.getD 0 false = false ∧ (on (spi 200)).streamBy (fun t => t.kind = 2 && t.port = 0) = some (1, spi 200)
      ∧ base.sen.t1Up.getD 0 false = true := by decide

/-- Channels: channel 3 off, on, and in an inrush that runs or waits. -/
theorem witness_Channels :
    let on : Packet := ⟨[0x10000, 0, 7, 0x80000003, 0, 0, 0, 0, 0, 0, 0, 0, 0, 0, 0, 0]⟩
    let with_ (x : Channel) : State := base.setChan 3 x
    specChannelEnable.accepts (.bobbin 0) (on.withField 3 31 31 1) base = true ∧ (specChannelEnable.pkt (on.withField 3 31 31 1)).b 3 31 = true
      ∧ specChannelEnable.accepts (.bobbin 0) (on.withField 3 31 31 1) (with_ { on := true }) = true
      ∧ specChannelEnable.accepts (.bobbin 0) (on.withField 3 31 31 0) (with_ { on := true }) = true
      ∧ (specChannelEnable.pkt (on.withField 3 31 31 0)).b 3 31 = false
      ∧ ((with_ { inrush := some { start := 0 } }).chan 3).inrush = some { start := 0 }
      ∧ ((with_ { inrush := some { start := 0, retries := 3 } }).chan 3).inrush = some { start := 0, retries := 3 }
      ∧ ((with_ { inrush := some { start := 0, paused := true } }).chan 3).inrush = some { start := 0, paused := true }
      ∧ ((with_ { on := true }).chan 3).on = true ∧ (with_ { on := true }).clocked = true ∧ (with_ { on := true }).sen.channels.length = 32
      ∧ (with_ { on := true }).chanWaiters 3 = [] ∧ base.sen.streams = []
      ∧ ({ base with pwr := { base.pwr with imuOn := setAt base.pwr.imuOn 0 true } } : State).pwr.imuOn.getD 0 false = true := by decide

/-- PwmRegisters: output 2 and strobe 20, from Distaff and from elsewhere; output 2 enabled with a value armed at an earlier tick and without. -/
theorem witness_PwmRegisters :
    let on (a : List (Nat × Nat)) : State := { base.setPwm 2 { cfg := 0x80000000, armed := a } with time := { base.time with tick := 5 } }
    base.clocked = true ∧ pageOpen .distaff = true ∧ pageOpen .other = false ∧ base.sen.pwm.length = 24 ∧ (base.pwm 2).mode ≠ 1
      ∧ (on [(3, 7)]).sen.pwm.length = 24 ∧ ((on [(3, 7)]).pwm 2).enabled = true ∧ (on [(3, 7)]).sen.highZ = false ∧ (on [(3, 7)]).clocked = true
      ∧ (((on [(3, 7)]).pwm 2).armed.filter (fun a => a.1 < 5)).getLast? = some (3, 7) ∧ ((on []).pwm 2).armed = []
      ∧ bit ((0x80000000 : Word).toNat &&& cfgBits 2) 31 = true ∧ (base.pwm 2).enabled = false := by decide

/-- DeviceTime: time set to 5 s and stepped by 1000 ns; a spent step; a rate of -100000. -/
theorem witness_DeviceTime :
    let w (a b c : Nat) : Packet := ⟨[0x10000, 0, 7, a, b, c, 0, 0, 0, 0, 0, 0, 0, 0, 0, 0]⟩
    specTimeStep.accepts (.bobbin 0) ((w 0 0 5).withField 3 31 31 0) base = true ∧ (specTimeStep.pkt ((w 0 0 5).withField 3 31 31 0)).b 3 31 = false
      ∧ specTimeStep.accepts (.bobbin 0) ((w 0 1000 0).withField 3 31 31 1) base = true ∧ (specTimeStep.pkt ((w 0 1000 0).withField 3 31 31 1)).b 3 31 = true
      ∧ (let s : State := { base with time := { base.time with stepUsed := true } }
         s.time.stepUsed = true
          ∧ specTimeStep.accepts (.bobbin 0) ((w 0 0 5).withField 3 31 31 0) { s with time := { s.time with stepUsed := false } } = true
          ∧ specTimeStep.accepts (.bobbin 0) ((w 0 1000 0).withField 3 31 31 1) { s with time := { s.time with stepUsed := false } } = true)
      ∧ specTimeRate.accepts (.bobbin 0) (w (2 ^ 32 - 100000) 0 0) base = true ∧ base.clocked = true ∧ pageOpen .supervisor = true := by decide

/-- Transmit and receive rings of 16 descriptors of port 8 for context 5, with cells of memory. -/
def netState (tail : Index) (m : List Host.Cell) : State :=
  { base with time := { base.time with queues := [(128, { ctx := 5, ring := 0x80020000, sizeLog2 := 4, launch := true, late := 1, tail := tail }), (136, { ctx := 5, ring := 0x80021000, sizeLog2 := 4, launch := false, late := 0, tail := tail })], ns := 5000 }, mem := m }
set_option maxRecDepth 8000 in
/-- HostQueues: a ring given, taken away, rung too far; descriptors malformed, held, plain and at their time; a frame without a ring, a full ring, a free
descriptor. -/
theorem witness_HostQueues :
    let c : Packet := pk 5 [0x24000800, 0x80020000, 0]
    let r : Packet := pk 5 [0x00800800, 0, 0]
    let plain := netState 1 [(0x80020003, 0x80), (0x80020006, 60)]
    let held := netState 1 [(0x80020003, 0x80), (0x80020006, 60), (0x8002000B, 0x80), (0x80020010, 1)]
    let due := netState 1 [(0x80020003, 0x80), (0x80020006, 60), (0x8002000B, 0x80), (0x8002000C, 0x88), (0x8002000D, 0x13)]
    let frame : List Byte := List.replicate 60 0
    specLaunchConfig.accepts (.bobbin 1) (c.withField 3 23 23 0) base = true ∧ (specLaunchConfig.pkt (c.withField 3 23 23 0)).b 3 23 = false
      ∧ specLaunchConfig.accepts (.bobbin 1) (r.withField 3 23 23 1) plain = true ∧ (specLaunchConfig.pkt (r.withField 3 23 23 1)).b 3 23 = true
      ∧ base.clocked = true ∧ base.time.queues = [] ∧ (NMap.get? plain.time.queues (queueKey 8 0 0)).isSome ∧ queueKey 8 1 0 = 136
      ∧ plain.ringOk 5 0x80020000 32 false = true ∧ malformed true ((netState 1 []).loadNat 0x80020000 32) = true
      ∧ malformed true (plain.loadNat 0x80020000 32) = false ∧ bit (plain.loadNat 0x80020000 32) 95 = false ∧ bit (plain.loadNat 0x80020000 32) 94 = false
      ∧ plain.ringOk 5 0x80000000 60 false = true
      ∧ malformed true (held.loadNat 0x80020000 32) = false ∧ bit (held.loadNat 0x80020000 32) 95 = true ∧ held.now < bits (held.loadNat 0x80020000 32) 159 128 * 10 ^ 9
      ∧ malformed true (due.loadNat 0x80020000 32) = false ∧ bits (due.loadNat 0x80020000 32) 127 96 = 5000 ∧ due.now = 5000 ∧ bits (due.loadNat 0x80020000 32) 175 128 = 0
      ∧ base.pwr.phase = .up ∧ base.portUp 8 = true ∧ (ethHead frame).2.2.2 = 0
      ∧ plain.ringOk 5 0x80021000 32 true = true ∧ (netState 1 [(0x80021003, 0x80)]).ringOk 5 (bits ((netState 1 [(0x80021003, 0x80)]).loadNat 0x80021000 32) 47 0) 60 true = true := by
  decide

/-- TriggersAndCaptures: a trigger of camera 2 at 1 s, 100 ms apart, that recurs, ends, or lacks its lead; input 1 armed, disarmed, full. -/
theorem witness_TriggersAndCaptures :
    let set : Packet := pk 5 [2, 0, 1, 0, 100000000, 2000, 3]
    let t : Trigger := { ctx := 5, first := 10 ^ 9, period := 10 ^ 8, width := 2000, count := 3 }
    let trig (t : Trigger) : State := { base with time := { base.time with triggers := [(2, t)] } }
    let arm (c : Capture) : State := { base with time := { base.time with captures := setAt base.time.captures 1 c } }
    specTriggerSet.accepts (.bobbin 1) (set.withField 3 31 31 0) base = true ∧ (specTriggerSet.pkt (set.withField 3 31 31 0)).b 3 31 = false
      ∧ t.from_ (base.now + base.triggerLead 2) = 0 ∧ t.limit = some 3
      ∧ specTriggerSet.accepts (.bobbin 1) ((pk 5 [2]).withField 3 31 31 1) (trig t) = true
      ∧ (trig t).clocked = true ∧ NMap.get? (trig t).time.triggers 2 = some t ∧ (trig t).tiedLamps 2 = [] ∧ t.since + (trig t).triggerLead 2 ≤ t.due 0
      ∧ ({ t with next := 2 } : Trigger).limit = some 3 ∧ t.due 2 < (2 ^ 40 : Nat) + (trig t).triggerLead 2
      ∧ specCaptureArm.accepts (.bobbin 1) ((pk 5 [0x60000001]).withField 3 31 31 0) base = true
      ∧ (specCaptureArm.pkt ((pk 5 [0x60000001]).withField 3 31 31 0)).b 3 31 = false
      ∧ specCaptureArm.accepts (.bobbin 1) ((pk 5 [1]).withField 3 31 31 1) (arm { ctx := some 5, edge := 3 }) = true
      ∧ bit ((arm { ctx := some 5, edge := 1 }).time.captures.getD 1 {}).edge 0 = true ∧ bit ((arm { ctx := some 5, edge := 1 }).time.captures.getD 1 {}).edge 1 = false
      ∧ (base.time.captures.getD 1 {}).ctx = none ∧ pageOpen .distaff = true := by decide

/-- The record of a group of one image member, stream 1: period 1 ms, grace 1 ms, two output slots of 128 bytes, bobbin 1. -/
def grpMem : List Host.Cell :=
  [(0x80030019, 1), (0x8003001B, 0x10), (0x8003001C, 0x03), (0x8003001D, 0x80), (0x80030021, 0x10), (0x80030022, 0x80), (0x80030027, 0x20), (0x80030028, 0x03), (0x80030029, 0x80),
   (0x8003002C, 0xE8), (0x8003002D, 0x03), (0x8003002E, 1), (0x80030030, 0xE8), (0x80030031, 0x03), (0x80030032, 0x40), (0x80030033, 0x42), (0x80030034, 0x0F), (0x800300DF, 2)]
/-- `camState` with that record in memory, and with groups. -/
def grpState (gs : NMap Group) : State :=
  { camState (cam none) with mem := grpMem, sen := { (camState (cam none)).sen with groups := gs } }
/-- That record as a stopped group. -/
def grp0 : Group := { ctx := 5, opener := 1, record := (grpState []).load 0x80030000 224 }
set_option maxRecDepth 8000 in
/-- GroupCommands: group 0 created, reconfigured, deleted, started, stopped, its votes configured; 16 groups in use. -/
theorem witness_GroupCommands :
    let c : Packet := pk 5 [0, 0x80030000]
    let all : NMap Group := (List.range 16).map (fun n => (n, { ctx := 6, opener := 1, record := [] }))
    specGroupCreate.accepts (.bobbin 1) (c.withField 3 31 30 0) (grpState []) = true ∧ NMap.has (grpState []).sen.groups 0 = false
      ∧ specGroupCreate.accepts (.bobbin 1) (c.withField 3 31 30 0) (grpState all) = true ∧ (∀ k < 16, NMap.has (grpState all).sen.groups k = true)
      ∧ specGroupReconfigure.accepts (.bobbin 1) (c.withField 3 31 30 1) (grpState [(0, grp0)]) = true
      ∧ specGroupDelete.accepts (.bobbin 1) ((pk 5 []).withField 3 31 30 2) (grpState [(0, grp0)]) = true
      ∧ specGroupStart.accepts (.bobbin 1) (pk 5 []) (grpState [(0, grp0)]) = true
      ∧ specGroupStop.accepts (.bobbin 1) (pk 5 []) (grpState [(0, { grp0 with started := true })]) = true
      ∧ specVoteConfig.accepts (.bobbin 1) (pk 5 [0, 0x03142000, 64]) (grpState [(0, grp0)]) = true := by decide

set_option maxRecDepth 8000 in
/-- GroupWindows: the group of `grp0` started, with its slot free or posted and in use, its output ring out of reach, a past window with a missing
member, and paired with module 4. -/
theorem witness_GroupWindows :
    let g : Group := { grp0 with started := true }
    let s := grpState [(0, g)]
    let b := grpState [(0, { g with posted := [(0, 0)] })]
    let used : State := b.setBob 1 { ring 1 false 0 with tail := 1 }
    let away : State := { s with ms := { s.ms with regions := [] } }
    let p : Past := { k := 0, missing := [0], bad := [], damaged := [], grids := [], stamp := none }
    let checked : Group := { g with record := setAt (setAt grp0.record 222 0x40) 23 0, past := [p] }
    let pair : Group := { g with record := setAt grp0.record 32 2, past := [p] }
    let two : State := { grpState [(0, pair)] with dev := { s.dev with role := .member }, ply := { s.ply with table := [(4, { hops := 1, ports := [0] })] } }
    s.pwr.phase = .up ∧ NMap.get? s.sen.groups 0 = some g ∧ g.started = true ∧ s.outReach g = true ∧ away.outReach g = false
      ∧ (used.sen.groups.any (fun x => x.2.posted.any (fun x => x.1 = 0 && used.postedBusy 1 x.2))) = true ∧ used.outReach { g with posted := [(0, 0)] } = true
      ∧ (s.bob (g.head 207 200)).mode = .running ∧ checked.check 0 = 2 ∧ checked.lev 2 = false ∧ checked.paired = false ∧ p.missing.contains 0 = true ∧ checked.count = 1
      ∧ grp0.check 0 = 0
      ∧ two.clocked = true ∧ pair.paired = true ∧ two.dev.role ≠ .solo ∧ pair.mismatch = false ∧ pair.past.find? (fun p => !p.sent) = some p ∧ two.partners = [4] := by decide

/-- Records for context 5: a loop at 0x8003_6000 (1 ms, ring station 1), a plan at 0x8003_8000 (one voxel, 16 samples of 60 ms), a map patch that removes
primitive 0 at 0x8003_A000, a conjugate-gradient system of one unknown at 0x8003_C000. -/
def engMem : List Host.Cell :=
  [(0x80036030, 0x7D), (0x80036031, 0x20), (0x80036032, 2), (0x80036036, 0x20), (0x80036037, 0x40), (0x8003603B, 2), (0x8003603C, 0x40), (0x8003603D, 0x42), (0x8003603E, 0x0F),
   (0x80036066, 0x80), (0x80036067, 0x3F), (0x8003606A, 0x80), (0x8003606B, 0x3F), (0x80036077, 0x3F), (0x8003607E, 0x80), (0x8003607F, 0x3F),
   (0x8003801C, 0x04), (0x8003801D, 0x80), (0x80038022, 0x80), (0x80038024, 0x88), (0x8003802A, 0x60), (0x8003802B, 0xEA), (0x8003803E, 0x80), (0x8003803F, 0x3F),
   (0x80038042, 0x80), (0x80038043, 0x3F), (0x80038046, 0x80), (0x80038047, 0x3F), (0x8003804A, 0x80), (0x8003804B, 0x40), (0x8003804E, 0x80), (0x8003804F, 0x3F), (0x80038053, 0x41),
   (0x80038056, 0x80), (0x80038057, 0x3F), (0x8003805A, 0x80), (0x8003805B, 0x40), (0x8003A05F, 0x80)]
  ++ [(0x8003C00F, 0x10), (0x8003C017, 0xE0), (0x8003C018, 0x03), (0x8003C019, 0x80), (0x8003C01C, 0xC0), (0x8003C01D, 0xD0), (0x8003C01E, 0x03), (0x8003C01F, 0x80), (0x8003C022, 0x80),
   (0x8003C023, 0xD0), (0x8003C024, 0x03), (0x8003C025, 0x80), (0x8003C034, 0x40), (0x8003C035, 0xD0), (0x8003C036, 0x03), (0x8003C037, 0x80), (0x8003C03B, 0xD0), (0x8003C03C, 0x03), (0x8003C03D, 0x80),
   (0x8003C069, 4), (0x8003C071, 0x20), (0x8003C073, 0x20), (0x8003C079, 2), (0x8003C07D, 0x80)]
  ++ (List.range 8).flatMap (fun i => [(0x8003C082 + 4 * i, 0x80), (0x8003C083 + 4 * i, 0x3F)]) ++ [(0x8003D004, 1)]
/-- `core0` with those records, hub bank 0 at the hub port, and engines. -/
def engState (e : Engines) : State := { core0 with mem := engMem, ms := { core0.ms with banks := [(128, ⟨5, 5⟩)] }, eng := e }
/-- The plan of that record, with a map. -/
def plan0 : PlanConfig := { ctx := 5, opener := 1, record := (engState {}).load 0x80038000 176, banks := 1, ready := true }
set_option maxRecDepth 20000 in
/-- PlannerCommands: configured, reconfigured, deleted; a cycle planned and checked; a map replaced and patched, and behind another update; a map built;
slice 3 failed. -/
theorem witness_PlannerCommands :
    let c (op : Nat) : Packet := (pk 5 [0, 0x80038000, 0x10000]).withField 3 31 30 op
    let withPlan := engState { plans := [(5, plan0)] }
    let eight := engState { plans := (List.range 8).map (fun i => (100 + i, { plan0 with ctx := 100 + i })) }
    let cyc : Packet := (pk 5 [0, 0x80039000, 0x20000, 0x80039100, 0, 0, 0]).withField 3 31 30 0
    let chk : Packet := (pk 5 [0, 0x80039000, 0, 0x80039100, 0, 0x400000, 0x100]).withField 3 31 30 1
    let map (op n : Nat) : Packet := (pk 5 [0, 0x8003A000, n * 0x10000]).withField 3 31 30 op
    let other := out1 0 ((pk 5 []).withOpcode 0x0702) (.waits .retry)
    let behind : State := { withPlan with pkts := [other], q := { withPlan.q with nextId := 1 } }
    let built : PlanConfig := { plan0 with maps := [(4, {})] }
    specPlanCreate.accepts (.bobbin 1) (c 0) (engState {}) = true ∧ specPlanCreate.accepts (.bobbin 1) (c 0) eight = true
      ∧ specPlanReconfigure.accepts (.bobbin 1) (c 1) withPlan = true
      ∧ specPlanDelete.accepts (.bobbin 1) ((pk 5 []).withField 3 31 30 2) withPlan = true
      ∧ specPlanCycle.accepts (.bobbin 1) cyc withPlan = true ∧ specPlanCycle.accepts (.bobbin 1) cyc behind = true
      ∧ (specPlanCycle.taken (.bobbin 1) cyc behind).plannerOf 5 ≠ [] ∧ (specPlanCycle.pkt cyc).level = 0
      ∧ ((specPlanCycle.taken (.bobbin 1) cyc withPlan).plannerOf 5).any (fun o => decide (o.id < withPlan.q.nextId)) = false
      ∧ specPlanCheck.accepts (.bobbin 1) chk withPlan = true
      ∧ specMapReplace.accepts (.bobbin 1) (map 0 0) withPlan = true ∧ (specMapReplace.pkt (map 0 0)).f 3 31 30 = 0
      ∧ specMapPatch.accepts (.bobbin 1) (map 1 1) withPlan = true ∧ (specMapPatch.pkt (map 1 1)).f 3 31 30 ≠ 0
      ∧ NMap.get? (engState { plans := [(5, built)] }).eng.plans 5 = some built ∧ NMap.get? built.maps 4 = some {} ∧ built.committed = none
      ∧ withPlan.clocked = true ∧ withPlan.unitOut 0xC 3 = false := by decide

/-- The system of that record. -/
def sys0 : SolveSys :=
  { ctx := 5, opener := 1, record := (engState {}).load 0x8003C000 192, banks := 1, hbm := none, pPtr := [0, 1], pIdx := [0], aPtr := [], aIdx := [], terms := [0], params := [0], pipe := 0 }
set_option maxRecDepth 20000 in
/-- SolveCommands: system 0 configured, reconfigured, deleted; a SOLVE of it, behind another one, on a fenced pipe, on a poisoned store; eight systems; pipe
3 failed. -/
theorem witness_SolveCommands :
    let c (op : Nat) : Packet := (pk 5 [0, 0x8003C000, 0x10000]).withField 3 31 30 op
    let one (y : SolveSys) := engState { solves := [(0, y)] }
    let eight := engState { solves := (List.range 8).map (fun i => (8 + i, { sys0 with ctx := 6 })) }
    let bad : State := { one sys0 with ms := { (one sys0).ms with poison := [hubBase] } }
    let behind : State := { one sys0 with pkts := [out1 0 ((pk 5 []).withOpcode 0x0711) (.waits .retry)], q := { (one sys0).q with nextId := 1 } }
    let go := pk 5 [0]
    specSolveCreate.accepts (.bobbin 1) (c 0) (engState {}) = true ∧ (specSolveCreate.taken (.bobbin 1) (c 0) (engState {})).freePipe 0 = some 0
      ∧ specSolveCreate.accepts (.bobbin 1) (c 0) eight = true
      ∧ specSolveReconfigure.accepts (.bobbin 1) (c 1) (one sys0) = true ∧ (specSolveReconfigure.taken (.bobbin 1) (c 1) (one sys0)).freePipe 0 = some 0
      ∧ specSolveDelete.accepts (.bobbin 1) ((pk 5 []).withField 3 31 30 2) (one sys0) = true
      ∧ specSolve.accepts (.bobbin 1) go (one sys0) = true ∧ specSolve.accepts (.bobbin 1) go behind = true
      ∧ (specSolve.taken (.bobbin 1) go behind).solvesOf 0 ≠ []
      ∧ specSolve.accepts (.bobbin 1) go (one { sys0 with fenced := some 2 }) = true
      ∧ specSolve.accepts (.bobbin 1) go bad = true ∧ bad.storePoison sys0 = true ∧ (one sys0).storePoison sys0 = false
      ∧ base.clocked = true ∧ base.unitOut 0xD 3 = false ∧ base.eng.solves = [] := by decide

/-- The loop of that record. -/
def loop0 : Loop := { ctx := 5, opener := 1, record := (engState {}).load 0x80036000 128 }
def loopState (l : Loop) : State := engState { loops := [(0, l)], ring := some (List.replicate 320 0) }
set_option maxRecDepth 20000 in
/-- LoopCommands: loop 0 configured, reconfigured, deleted, started at 1 s, stopped, held; the ring configured. -/
theorem witness_LoopCommands :
    let c (op : Nat) : Packet := (pk 5 [0, 0x80036000]).withField 3 31 30 op
    let st := pk 5 [0, 0, 1]
    let stop (op : Nat) : Packet := (pk 5 []).withField 3 31 30 op
    specLoopCreate.accepts (.bobbin 1) (c 0) (engState {}) = true ∧ specLoopReconfigure.accepts (.bobbin 1) (c 1) (loopState loop0) = true
      ∧ specLoopDelete.accepts (.bobbin 1) ((pk 5 []).withField 3 31 30 2) (loopState loop0) = true
      ∧ specLoopRing.accepts (.bobbin 0) ((pk 5 [0, 0x8003F000]).withField 3 31 30 3) (loopState loop0) = true
      ∧ specLoopStart.accepts (.bobbin 1) st (loopState loop0) = true ∧ (specLoopStart.pkt st).b 3 31 = false ∧ (loopState loop0).loop? 0 = some loop0
      ∧ specLoopStop.accepts (.bobbin 1) (stop 0) (loopState loop0) = true ∧ specLoopStop.accepts (.bobbin 1) (stop 0) (loopState { loop0 with mode := .running }) = true
      ∧ specLoopStop.accepts (.bobbin 1) (stop 1) (loopState { loop0 with mode := .running }) = true
      ∧ (specLoopStop.pkt (stop 1)).f 3 31 30 = 1 := by decide

set_option maxRecDepth 20000 in
/-- LoopTicks: loop 0 running at its first tick, with a sample of 1.0 captured and received just before it, without, fenced; no tick due; a frame of one
value, its copy, and one whose CRC fails. -/
theorem witness_LoopTicks :
    let run : Loop := { loop0 with mode := .running, start := 2000000 }
    let at_ (l : Loop) (fb : NMap (List Feedback)) : State :=
      let s := loopState l; { s with time := { s.time with ns := 2000000 }, eng := { s.eng with feedback := fb } }
    let fb : NMap (List Feedback) := [(16, [⟨1998000, 1997000, true, 0x3F800000⟩])]
    let s := at_ run fb
    let body : List Byte := [1, 2, 1, 1, 5, 0, 0, 0, 0, 0, 0, 0] ++ [0, 1, 0, 0, 0, 0, 0x80, 0x3F]
    let x : List Byte := body ++ leBytes 4 (crc32c body)
    (∀ y ∈ (loopState loop0).eng.loops, y.2.mode = .stopped)
      ∧ s.pwr.phase = .up ∧ s.pauseStage = 0 ∧ run.outer? = none ∧ run.spKind = 2 ∧ run.period = 1000000
      ∧ s.sample run 2000000 = some 0x3F800000 ∧ finite32 0x3F800000 = true
      ∧ (({ run with missing := 0, f := 0x3F800000 } : Loop).plausible 0x3F800000).2 = false
      ∧ s.setPoint (({ run with missing := 0, f := 0x3F800000 } : Loop).plausible 0x3F800000).1 = some 0
      ∧ (at_ run []).sample run 2000000 = none ∧ run.hd 400 397 ≤ run.missing + 1
      ∧ s.portUp 10 = true ∧ leNat ((x.drop 20).take 4) = crc32c (x.take 20) ∧ (x.getD 2 0).toNat = 1 ∧ NMap.get? s.eng.ringRx 16 ≠ some 5
      ∧ NMap.get? ({ s with eng := { s.eng with ringRx := [(16, 5)] } } : State).eng.ringRx 16 = some 5
      ∧ leNat ((body.drop 20).take 4) ≠ crc32c (body.take 20) := by decide

/-- `base` with ply port 0 in a mode, in a fabric with module 4. -/
def plyState (q : PlyPort) : State :=
  { base with
    dev := { base.dev with role := .coordinator, node := 1 }
    ply := { base.ply with ports := setAt base.ply.ports 0 q, named := [0], joined := true, table := [(4, { hops := 1, ports := [0] })] } }
/-- PlyLinks: port 0 in training, down, up with its spare lane free and used, with a frame to send again; an empty database beside a table of one node. -/
theorem witness_PlyLinks :
    let up (sp : Bool) : State := plyState { mode := .up, spareIn := sp, nbrNode := 4, buffer := [⟨7, 4, .idle⟩] }
    let none' : State := { up false with ply := { (up false).ply with table := [] } }
    (plyState { mode := .training }).pwr.phase = .up ∧ (plyState { mode := .training }).ply.named.contains 0 = true ∧ ((plyState { mode := .training }).plyPort 0).mode = .training
      ∧ ((plyState {}).plyPort 0).mode = .down ∧ (up false).clocked = true ∧ ((up false).plyPort 0).mode = .up ∧ ((up true).plyPort 0).spareIn = true
      ∧ ((up false).plyPort 0).buffer.find? (fun r => r.seq = 7) = some ⟨7, 4, .idle⟩ ∧ (up false).ply.ports.length = 6
      ∧ (up false).upPorts ≠ [] ∧ (up false).ply.joined = true ∧ (up false).routes ≠ (up false).ply.table ∧ none'.routes = none'.ply.table
      ∧ none'.ply.table = [] ∧ none'.ply.remote = [] ∧ none'.ply.revoking = [] := by decide

/-- Module 1 with port 0 up towards module 4, which holds a segment over context 5's region. -/
def plyUp : State :=
  let s := plyState { mode := .up, nbrNode := 4 }
  { s with ply := { s.ply with granted := [{ node := 4, seg := 0, ctx := 5, tenant := 0, offset := 0x200000, base := 0x80000000, granules := 1, read := true, write := true }] } }
/-- Header of a frame from module 4. -/
def plyHd (dst : Nat) : PlyHead := ⟨dst, 4, 8, 1, 0, 0, true, true⟩
/-- PlyFrames: frames heard, for this node, for module 4, from a port in training; a segment granted, an access waiting. -/
theorem witness_PlyFrames :
    let tr := plyState { mode := .training, trained := true, hello := some (4, 9, 2, 1), hellos := 2 }
    let wait : State := { plyUp with ply := { plyUp.ply with remote := [⟨3, none, 4, true, 0, 8⟩] } }
    plyUp.pwr.phase = .up ∧ (plyUp.plyPort 0).mode = .up ∧ ((⟨1, 4, 8, 1, 0, 0, false, true⟩ : PlyHead).crcOk && true) = false
      ∧ plyUp.plyHears 0 (plyHd 4) = true ∧ plyUp.ply.joined = true ∧ (4 : Nat) ≠ plyUp.dev.node ∧ (NMap.get? plyUp.ply.table 4).isSome
      ∧ tr.plyHears 0 (plyHd 0x3F) = true ∧ (tr.plyPort 0).mode = .training ∧ (tr.plyPort 0).hellos = 2 ∧ tr.ply.ports.length = 6
      ∧ (4 : Nat) ≠ plyUp.plyId ∧ plyUp.ply.db = [] ∧ plyUp.plyHere 0 (plyHd 1) = true
      ∧ ((plyUp.plyAcked 0 (plyHd 1)).grantedAt 4 0 0x200000 8 true).isSome ∧ (plyUp.plyAcked 0 (plyHd 1)).grantedAt 4 1 0x200000 8 true = none
      ∧ (plyUp.plyAcked 0 (plyHd 1)).frozen 0x80000000 8 = false ∧ ((plyUp.plyAcked 0 (plyHd 1)).grantedAt 4 0 0x200000 8 false).isSome
      ∧ wait.plyHere 0 (plyHd 1) = true ∧ wait.ply.revoking = [] ∧ (wait.plyAcked 0 (plyHd 1)).ply.remote.find? (fun r => r.tag = 3 && r.node = 4 && r.isRead) = some ⟨3, none, 4, true, 0, 8⟩
      ∧ plyUp.ply.colls = [] ∧ PlyMsg.isLocal (.writeAck 1) = false := by decide

/-- PlyMembership: a join on ports 0 and 1, timed out, settled beside module 4; a leave from a fabric, drained, and not under way. -/
theorem witness_PlyMembership :
    let w (a : Nat) : Packet := ⟨[0x10000, 0, 7, a, 0, 0, 0, 0, 0, 0, 0, 0, 0, 0, 0, 0]⟩
    let joining (q : PlyPort) : State := let s := plyState q; { s with dev := { s.dev with role := .solo }, ply := { s.ply with joining := some (3, 2, [0]), joined := false, table := [] } }
    specPlyJoin.accepts (.bobbin 0) (w 0x103) base = true ∧ base.ply.ports.length = 6
      ∧ (joining { mode := .training }).ply.joining = some (3, 2, [0]) ∧ ((joining { mode := .training }).plyPort 0).trained = false
      ∧ ((joining { mode := .training }).plyPort 0).mode ≠ .up ∧ (joining { mode := .up, nbrNode := 4 }).upPorts ≠ [] ∧ (joining { mode := .up, nbrNode := 4 }).ply.db = []
      ∧ specPlyLeaveGraceful.accepts (.bobbin 0) ((w 0).withField 3 0 0 0) plyUp = true ∧ specPlyLeaveNow.accepts (.bobbin 0) ((w 1).withField 3 0 0 1) plyUp = true
      ∧ ({ plyUp with ply := { plyUp.ply with leaving := true } } : State).ply.leaving = true ∧ plyUp.ply.leaving = false ∧ plyUp.clocked = true := by decide

/-- `plyUp` with a second packet for control. -/
def collWait0 (got : NMap (List Byte)) (id : Nat) : CollWait :=
  let k : CollKey := ⟨0, 9, 1, 0, 7, 0, 0x12, 64⟩
  { pkt := 3, key := k, got := got, keys := [(1, k), (4, { k with id := id })] }
/-- PlyOperations: a segment granted to module 4, and with 16 granted; one revoked; an all-gather of modules 1 and 4, sent, incomplete, complete, disagreeing;
accesses by a core. -/
theorem witness_PlyOperations :
    let grant := pk 5 [0x60000400, 0x400000, 0, 0x80200000, 0, 1]
    let revoke := pk 5 [0x80000400]
    let coll := pk 5 [0x47000000, 9, 0x12, 0, 0x80001000, 0, 0x80002000, 0, 64]
    let plain : State := { plyUp with ply := { plyUp.ply with granted := [] } }
    let full : State := { plyUp with ply := { plyUp.ply with granted := (List.range 16).map (fun k => { node := 4, seg := k, ctx := 5, tenant := 0, offset := 0x1000000 * (k + 1), base := 0x80000000, granules := 1, read := true, write := true }) } }
    let o := out1 3 (coll.withOpcode 0x0902) (.waits (.collective 9))
    let w (c : CollWait) : State := { plyUp with ply := { plyUp.ply with colls := [c] }, pkts := [o] }
    specWindowGrant.accepts (.bobbin 0) (grant.withField 3 31 31 0) plain = true ∧ (specWindowGrant.taken (.bobbin 0) (grant.withField 3 31 31 0) plain).noRouteTo [4] = none
      ∧ specWindowGrant.accepts (.bobbin 0) (grant.withField 3 31 31 0) full = true
      ∧ specWindowRevoke.accepts (.bobbin 0) (revoke.withField 3 31 31 1) plyUp = true
      ∧ specCollective.accepts (.bobbin 1) coll plyUp = true ∧ (plyUp.collKey coll).members = [1, 4] ∧ plyUp.noRouteTo [4] = none ∧ plyUp.ply.collEarly = []
      ∧ (w (collWait0 [(1, [])] 9)).pkt? 3 = some o ∧ (collWait0 [(1, [])] 9).key.members.all (fun n => NMap.has (collWait0 [(1, [])] 9).got n) = false
      ∧ (collWait0 [(1, []), (4, [])] 9).key.members.all (fun n => NMap.has (collWait0 [(1, []), (4, [])] 9).got n) = true
      ∧ (collWait0 [(1, []), (4, [])] 9).keys.any (fun x => x.2 ≠ (collWait0 [(1, []), (4, [])] 9).key) = false
      ∧ (collWait0 [(1, []), (4, [])] 8).keys.any (fun x => x.2 ≠ (collWait0 [(1, []), (4, [])] 8).key) = true
      ∧ (w (collWait0 [(1, []), (4, [])] 9)).frozen (collDst o.pkt) (collWait0 [(1, []), (4, [])] 9).key.dstBytes = false
      ∧ place (0x030000000000 + 4 * 2 ^ 40) = .remote 4 0 ∧ plyUp.reachable 4 = true ∧ plyUp.reachable 7 = false := by decide

/-- A hint of context 5 in a stage. -/
def hint5 (st : HintStage) : Hint := { ctx := 5, cores := 1, powerMw := 1000, durUs := 100, start := 0, stage := st }
/-- `base` with changed tension state. -/
def tensState (f : TensionUnit → TensionUnit) : State := { base with tens := f base.tens }
/-- PowerSharing: hints in each stage, a budget above the floors and below them, a member of a fabric, governor steps, rails and temperatures. -/
theorem witness_PowerSharing :
    let ph : Packet := pk 5 [0x1, 1000, 100]
    let cl : Packet := pk 5 [0]
    let budget (w3 mw : Nat) : Packet := ⟨[0x10000, 0, 7, w3, mw, 0, 0, 0, 0, 0, 0, 0, 0, 0, 0, 0]⟩
    let o := out1 3 ((budget 0 200000).withOpcode 0x0A01) (.waits .budget)
    let member : State := { base with dev := { base.dev with role := .member, node := 3 }, ply := { base.ply with table := [(1, ⟨1, [0]⟩), (3, ⟨0, []⟩)] } }
    let gov (g : Nat) : State := tensState (fun t => { t with gov := g, calmSince := some 0 })
    let late (s : State) : State := { s with time := { s.time with ns := 30000000 } }
    let coll := tensState (fun t => { t with collecting := true })
    let rs : NMap TensReport := [(0, ⟨110000, 480000, 0⟩), (1, ⟨110000, 480000, 0⟩)]
    let used := tensState (fun t => { t with rails := updAt t.rails 0 (fun r => { r with spareUsed := true, stretched := true }) })
    specPhaseHint.accepts (.bobbin 1) (ph.withField 3 31 31 0) base = true
      ∧ specPhaseHint.accepts (.bobbin 1) (ph.withField 3 31 31 0) (tensState (fun t => { t with hints := [hint5 .armed] })) = true
      ∧ specPhaseHintClear.accepts (.bobbin 1) (cl.withField 3 31 31 1) (tensState (fun t => { t with hints := [hint5 .opened] })) = true
      ∧ base.clocked = true ∧ base.pwr.phase = .up
      ∧ specBudgetWant.accepts (.bobbin 0) ((budget 0 200000).withField 3 31 30 0) base = true
      ∧ ({ base with pkts := [o] } : State).budgetWaits 0 = [3]
      ∧ specBudgetMachine.accepts (.bobbin 0) ((budget 0 200000).withField 3 31 30 1) base = true ∧ (specBudgetMachine.taken (.bobbin 0) ((budget 0 200000).withField 3 31 30 1) base).isManager = true
      ∧ specBudgetMachine.accepts (.bobbin 0) ((budget 0 200000).withField 3 31 30 1) member = true ∧ (specBudgetMachine.taken (.bobbin 0) ((budget 0 200000).withField 3 31 30 1) member).isManager = false
      ∧ (specBudgetMachine.taken (.bobbin 0) ((budget 0 200000).withField 3 31 30 1) member).fabricNodes.head? = some 1
      ∧ (rs.map (fun r => r.1)).Nodup ∧ (∀ r ∈ rs, r.2.floor ≤ 480000) ∧ (rs.map (fun r => r.2.floor)).sum ≤ 700000
      ∧ specPowerQuery.accepts (.bobbin 0) (budget 0 0) base = true
      ∧ base.limitNow < 700000 ∧ (late (gov 4)).limitNow ≥ 1 ∧ (late (gov 4)).tens.calmSince = some 0 ∧ 0 + 5000000 ≤ (late (gov 4)).now ∧ base.tens.calmSince = none
      ∧ base.dbg.traceOn = false ∧ base.tens.acMhz.any (fun f => decide (1200 < f)) = true
      ∧ (tensState (fun t => { t with acMhz := [1200, 1200] })).tens.acMhz.any (fun f => decide (1200 < f)) = false
      ∧ (tensState (fun t => { t with acMhz := [1200, 1200] })).hottest [5, 9] = some 1 ∧ (gov 4).tens.gov = 4
      ∧ base.tens.rails[0]? = some ({} : Rail) ∧ (used.tens.rails.getD 0 {}).stretched = true ∧ (base.tens.rails.getD 0 {}).stretched = false
      ∧ (used.tens.rails.getD 0 {}).spareUsed = true ∧ used.railCore 0 = some 0
      ∧ base.isManager = true ∧ 0 ∈ base.fabricNodes ∧ member.isManager = false ∧ member.fabricNodes.head? = some 1
      ∧ coll.tens.collecting = true ∧ NMap.get? coll.tens.reports 0 = none
      ∧ (late (tensState (fun t => { t with raised := [(0, 300000)] }))).isManager = true ∧ 0 + 20000000 ≤ (late base).now
      ∧ base.dbg.queuedAcks = [] ∧ [(120 : Int)][0]? = some 120 ∧ (thermLimits 0).2.2 ≤ 120 ∧ bit base.saf.causes 5 = false := by decide

/-- `base` with changed safety state. -/
def safState (f : SafetyState → SafetyState) : State := { base with saf := f base.saf }
/-- A comparison with node 1. -/
def cmp1 : PairCompare := { mode := 0, partner := 1, tolAbs := 0, tolRel := 0, matchUs := 100, divN := 2, count := 0, first := 0 }
/-- `base` in a fabric with node 1, comparing stream 4. -/
def cmpState (c : PairCompare) : State :=
  let s := safState (fun f => { f with ages := [(4, { maxAgeUs := 1000 })], compares := [(4, c)] })
  { s with ply := { s.ply with table := [(1, ⟨1, [0]⟩)] } }
set_option maxRecDepth 8000 in
/-- SafetyChannel: streams, an overrun, both writers and another, requests, an assertion, and a comparison of stream 4. -/
theorem witness_SafetyChannel :
    let w (ws : List Nat) : Packet := ⟨[0x10000, 0, 7] ++ ws ++ List.replicate (13 - ws.length) 0⟩
    let aged : AgeStream := { maxAgeUs := 100, latest := some 0, valid := true }
    let old (ns : Nat) : State := let s := safState (fun f => { f with ages := [(4, aged)] }); { s with time := { s.time with ns := ns } }
    let run := out1 3 ((pk 5 []).withOpcode 0x0310) (.waits .budget)
    let fixedCtx : Context := { ctx5 with fixed := true }
    let late (l : List Nat) : State := let s := safState (fun f => { f with overruns := l }); { s with pkts := [run], dom := { s.dom with contexts := [(5, fixedCtx)] } }
    let ve := safState (fun f => { f with veEn := true, veShown := [9] })
    let rest := safState (fun f => { f with atRest := some 5 })
    let rec1 : CompareRec := ⟨1000, [7]⟩
    let cfg : Packet := w [0x00010004, 0, 0, 0x00640200]
    (4 : Nat) ∈ [4, 5, 6, 11, 13] ∧ base.clocked = true ∧ base.distaffRuns = true ∧ base.inPause = false
      ∧ specAgeRegister.accepts (.bobbin 0) ((w [0x4, 1000]).withField 3 31 30 0) base = true
      ∧ specAgeRegister.accepts (.bobbin 0) ((w [0x20000000, 1000]).withField 3 31 30 0) base = true
      ∧ specAgeDeregister.accepts (.bobbin 0) ((w [0x4, 0]).withField 3 31 30 1) (cmpState cmp1) = true
      ∧ (old 200000).saf.ages = [(4, aged)] ∧ (old 200000).distaffRuns = true ∧ 100 * 1000 < (old 200000).now - 0 ∧ (old 50000).now - 0 ≤ 100 * 1000
      ∧ (late []).pkt? 3 = some run ∧ run.pkt.opcode ∈ [0x0310, 0x0701, 0x0711] ∧ (late []).isFixed 5 = true ∧ run.job ≠ .held ∧ (late []).distaffRuns = true
      ∧ 3 ∉ (late []).saf.overruns ∧ 3 ∈ (late [3]).saf.overruns ∧ base.pkts = [] ∧ base.dbg.queuedAcks = []
      ∧ ve.statusOn .ve = true ∧ ve.distaffRuns = true ∧ ve.inPause = false ∧ base.oobKey = none
      ∧ (safState (fun f => { f with wdRunning := some 100 })).saf.wdRunning = some 100
      ∧ specSafeEnter.accepts (.bobbin 0) ((w [7]).withField 3 31 30 0) base = true
      ∧ specSafeRelease.accepts (.bobbin 0) ((w [7]).withField 3 31 30 1) rest = true
      ∧ specAtRest.accepts (.bobbin 0) ((w [0, 100]).withField 3 31 31 1) base = true ∧ (specAtRest.pkt ((w [0, 100]).withField 3 31 31 1)).b 3 31 = true
      ∧ specAtRest.accepts (.bobbin 0) ((w [0, 0]).withField 3 31 31 0) rest = true ∧ (specAtRest.pkt ((w [0, 0]).withField 3 31 31 0)).b 3 31 = false
      ∧ rest.saf.atRest = some 5
      ∧ specPairConfigure.accepts (.bobbin 0) (cfg.withField 3 31 30 0) (cmpState cmp1) = true
      ∧ specPairRemove.accepts (.bobbin 0) ((w [4]).withField 3 31 30 1) (cmpState cmp1) = true
      ∧ (cmpState cmp1).clocked = true ∧ (cmpState cmp1).reachable 1 = true ∧ NMap.get? (cmpState cmp1).saf.compares 4 = some cmp1 ∧ cmp1.mismatch = false
      ∧ cmp1.disagree + 1 < cmp1.divN ∧ ({ cmp1 with disagree := 1 } : PairCompare).divN ≤ 1 + 1
      ∧ NMap.get? (cmpState { cmp1 with own := [rec1] }).saf.compares 4 = some { cmp1 with own := [rec1] } := by decide

/-- `base` in a phase of its power state. -/
def inPhase (ph : Phase) : State := { base with pwr := { base.pwr with phase := ph } }
/-- SleepAndWake: Doze, entry refused and begun, its stages, each source, and wakes that go on, pause and fail. -/
theorem witness_SleepAndWake :
    let doze : State := { base with pwr := { base.pwr with dozeEn := true } }
    let timed (ph : Phase) : State := { base with pwr := { base.pwr with phase := ph, wakeCfg := 0xC4000123 } }
    base.clocked = true ∧ base.pwr.phase = .up ∧ (inPhase (.entering 0)).clocked = true ∧ (inPhase (.entering 0)).pwr.phase ≠ .up
      ∧ doze.power = .doze ∧ doze.domainIdle 4 = true
      ∧ (inPhase (.entering 1)).saf.veEn = false ∧ (inPhase (.entering 1)).saf.cxEn = false ∧ (inPhase (.entering 2)).dev.role = .solo
      ∧ (inPhase (.entering 3)).pkts.any (fun o => (inPhase (.entering 3)).twistCommitted o.id) = false ∧ (inPhase (.entering 3)).dr.drafts = []
      ∧ (inPhase (.entering 5)).pkts = [] ∧ (inPhase (.entering 5)).pwr.qualified = 0 ∧ (inPhase (.entering 5)).pwr.wakeCfg.toNat.testBit 30 = false
      ∧ (0 < 4 ∧ (timed .asleep).pwr.wakeCfg.toNat.testBit 26 = true ∧ 0x123 = bits (timed .asleep).pwr.wakeCfg.toNat 10 0) ∧ (timed .asleep).pwr.phase = .asleep
      ∧ (inPhase (.waking {})).pwr.phase = .waking {} ∧ ({} : Waking).paused = false ∧ ({} : Waking).row < 5 ∧ ({} : Waking).attempts < (inPhase (.waking {})).wakeAttempts 1
      ∧ (inPhase (.waking { attempts := 5 })).wakeAttempts 1 ≤ 5 ∧ 0 < ({ base with pwr := { base.pwr with failLeft := 2 } } : State).pwr.failLeft := by decide

/-- `base` with changed splice state. -/
def splState (f : SpliceUnit → SpliceUnit) : State := { base with spl := f base.spl }
/-- SplicesAndTests: columns left and spent, a core selected with and without a spare, oscillators, rotation, a link module and a core tested. -/
theorem witness_SplicesAndTests :
    let x1 : CoreSplice := ⟨1, 4, false, false⟩
    let due := splState (fun u => { u with splices := [x1] })
    let busy : State := { due with dom := { due.dom with cores := updAt due.dom.cores 1 (fun c => { c with busy := some 9 }) } }
    let out := splState (fun u => { u with spare := [none, none] })
    let fencedHub : Test := { engine := 2, cls := 0xC, unit := 3, kind := 0, pkt := some 3 }
    let rot : Test := { engine := 0, cls := 1, unit := 8, kind := 2, pkt := none }
    let tested (t : Test) : State := splState (fun u => { u with tests := [t], spare := [none, none] })
    let bist : Packet := ⟨[0x10000, 0, 7, 0x000C0003, 0, 0, 0, 0, 0, 0, 0, 0, 0, 0, 0, 0]⟩
    base.pwr.phase = .up ∧ base.clocked = true ∧ base.spl.cols.getD 3 2 < 2 ∧ 2 ≤ (splState (fun u => { u with cols := setAt u.cols 3 2 })).spl.cols.getD 3 2 ∧ base.logicalOf 3 = some 3
      ∧ base.spl.splices = [] ∧ base.spareInTest (dieOf 3) = false ∧ base.spl.spare.getD (dieOf 3) none = some 8 ∧ out.spl.spare.getD (dieOf 3) none = none ∧ out.spareInTest (dieOf 3) = false
      ∧ due.spl.splices.find? (fun y => y.logical = 1) = some x1 ∧ due.spl.spare.getD (dieOf 1) none = some 8 ∧ due.spliceDue x1 = true ∧ busy.spliceDue x1 = false
      ∧ base.dbg.queuedAcks = [] ∧ base.pwr.spareRef = false ∧ 0 < base.spl.plls.getD 0 0 ∧ (splState (fun u => { u with plls := [0, 0, 0] })).spl.plls.getD 2 0 = 0
      ∧ out.rotationHeld 0 = true ∧ base.rotationHeld 0 = false ∧ pcOrder 0 (base.spl.lastRot.getD 0 0) = 0 :: (List.range 8).map (· + 1) ∧ base.logicalOf 0 = some 0
      ∧ 0 ∉ base.spl.retired ∧ (base.core 0).fenced = false ∧ base.inFixed 0 = false
      ∧ specBistRun.accepts (.bobbin 0) bist (splState (fun u => { u with out := [unitKey 0xC 3] })) = true
      ∧ base.spl.tests.find? (fun t => t.engine = 2) = none ∧ (tested fencedHub).spl.tests.find? (fun t => t.engine = 2) = some fencedHub
      ∧ (tested rot).spl.tests.find? (fun t => t.engine = 0) = some rot ∧ rot.engine = pcDie rot.unit ∧ (tested rot).logicalOf 8 = none ∧ 8 ∉ (tested rot).spl.retired
      ∧ (tested rot).spl.outRetired.contains (unitKey 1 8) = false := by decide

/-- `base` with changed debug state. -/
def dbgState (f : DebugState → DebugState) : State := { base with dbg := f base.dbg }
/-- A token for HOST and nonce 7 at 0x8000_0000, as the manual lays it out, its signatures aside. -/
def tokenMem : List Host.Cell := [(0x80000000, 0x4B), (0x80000001, 0x54), (0x80000002, 0x42), (0x80000003, 0x44), (0x80000004, 1), (0x80000005, 1), (0x80000010, 7)]
set_option maxRecDepth 100000 in
/-- DebugAndTrace: levels, a token in memory, breakpoints of core 2, the transport, the trace ring and the counters of group 5. -/
theorem witness_DebugAndTrace :
    let w (ws : List Nat) : Packet := ⟨[0x10000, 0, 7] ++ ws ++ List.replicate (13 - ws.length) 0⟩
    let full : State := let s := dbgState (fun d => { d with level := .full }); { s with saf := { s.saf with atRest := some 5 } }
    let tok : State := { base with mem := tokenMem, vault := { base.vault with nonce := some (7, 0) } }
    let bp := dbgState (fun d => { d with level := .host, breaks := [(9, 0x1000)] })
    let act : State := { base with dev := { base.dev with update := .activating } }
    let tc : Packet := w [0x80000001, 0xFFF, 0xFFFF0000]
    let cr : Packet := w [0x00050000, 1, 0x80010000, 0]
    full.dbg.level = .full ∧ full.saf.atRest.isSome = true ∧ base.dbg.level ≠ .full ∧ base.serves = true ∧ (List.replicate tokenBytes (0 : Byte)).length = tokenBytes
      ∧ base.tokenNamesUs (List.replicate 32 0) = false ∧ tok.tokenNamesUs (tok.load 0x80000000 32) = true
      ∧ specDebugUnlock.accepts (.bobbin 0) (w [0x80000000, 0]) tok = true ∧ (((specDebugUnlock.taken (.bobbin 0) (w [0x80000000, 0]) tok).load 0x80000000 8).getD 5 0).toNat = 1
      ∧ specBreakSet.accepts (.bobbin 0) ((w [0x21, 0x1000, 0]).withField 3 31 30 0) base = true
      ∧ specBreakClear.accepts (.bobbin 0) ((w [0x21]).withField 3 31 30 1) bp = true
      ∧ specBreakResume.accepts (.bobbin 0) ((w [0x20]).withField 3 31 30 2) bp = true
      ∧ specBreakHalt.accepts (.bobbin 0) ((w [0x20]).withField 3 31 30 3) base = true
      ∧ base.dbg.queuedAcks = [] ∧ act.dev.update = .activating ∧ base.dev.update ≠ .activating ∧ base.pwr.phase = .up
      ∧ NMap.get? base.dbg.breaks (2 * 4 + 1) = none ∧ NMap.get? bp.dbg.breaks (2 * 4 + 1) = some 0x1000 ∧ base.dbg.level = .locked ∧ bp.dbg.level ≠ .locked
      ∧ specTraceConfig.accepts (.bobbin 0) tc base = true ∧ specTraceConfig.accepts (.bobbin 0) (w [0x80000401, 0xFFF, 0xFFFF0000]) base = true
      ∧ (specTraceConfig.taken (.bobbin 0) tc base).dbg.traceHead < 1 * 2 ^ 20 / 32
      ∧ specCounterRead.accepts (.bobbin 0) cr base = true := by decide

/-- `base` at rest, in an update state with an image. -/
def updState (st : UpdateState) (f : Update → Update) : State :=
  { base with dev := { base.dev with update := st }, upd := f base.upd, saf := { base.saf with atRest := some 9 } }
/-- A manifest header at 0x8000_0000: KIND 2, image 7, one block. -/
def manifestMem : List Host.Cell :=
  [(0x80000027, 4), (0x8000002E, 7), (0x80000039, 0x48), (0x8000003A, 0x20), (0x8000003B, 1), (0x8000003C, 0x51), (0x8000003D, 0x46), (0x8000003E, 0x4E), (0x8000003F, 0x4D)]
set_option maxRecDepth 100000 in
/-- KeysAndUpdates: keys of each source, slots with and without spare cells, a staged image, a Pending one, and each stage of an activation. -/
theorem witness_KeysAndUpdates :
    let w (ws : List Nat) : Packet := ⟨[0x10000, 0, 7] ++ ws ++ List.replicate (13 - ws.length) 0⟩
    let kdk : State := { base with vault := { base.vault with slots := setAt base.vault.slots 2 { type := 2, use := 4 } } }
    let pend := updState .pending (fun u => { u with kind := 2, sv := 1, sched := some (5, false) })
    let pend1 := updState .pending (fun u => { u with kind := 1 })
    let act (g : ActStage) := updState .activating (fun u => { u with kind := 1, act := some { pkt := none, kind := 1, sv := 1, stage := g } })
    let stag : State := let s := updState .staging (fun u => { u with kind := 2, imageId := 7, blocks := 1, staged := [(0, [])] }); { s with mem := manifestMem }
    specKeyWrite.accepts (.bobbin 0) (w [0x01900001, 0, 0]) base = true ∧ specKeyWrite.accepts (.bobbin 0) (w [0x41100001, 0x80000000, 145 * 65536]) base = true
      ∧ specKeyWrite.accepts (.bobbin 0) (w [0x81100201, 0x80000000, 32 * 65536]) kdk = true ∧ specKeyWrite.accepts (.bobbin 0) (w [0xC300001E, 0x80000000, 97 * 65536]) base = true
      ∧ 1 < base.vault.slots.length ∧ specKeyErase.accepts (.bobbin 0) (w [2]) kdk = true ∧ base.clocked = true ∧ (base.slot 2).oneCell = false ∧ base.vault.spareCells = 7 + 1
      ∧ ({ base with vault := { base.vault with spareCells := 0 } } : State).vault.spareCells = 0
      ∧ specAttest.accepts (.bobbin 0) (w [0, 0, 0, 0, 0, 0, 0, 0, 0, 0x80000000, 0, 65536]) base = true
      ∧ specImageBlock.accepts (.bobbin 0) (w [0x2000, 7, 1, 0, 0x80000000, 0]) base = true
      ∧ ({ specImageVerify with pre := fun e x => firstFail [(x.dev.update ≠ .staging || x.received ≠ x.upd.blocks, badState 74), (x.manifestDiffers (x.manifestOf e.p), badParam 3)] } : OpSpec).accepts (.bobbin 0) (w [0x80000000, 0]) stag = true
      ∧ specActivate.accepts (.bobbin 0) (w []) pend = true ∧ specActivate.accepts (.bobbin 0) (w []) pend1 = true
      ∧ specActivateSchedule.accepts (.bobbin 0) ((w [0, 1, 9, 0]).withField 3 31 30 0) pend = true
      ∧ specActivateCancel.accepts (.bobbin 0) ((w [0]).withField 3 31 30 1) pend = true ∧ specActivateDiscard.accepts (.bobbin 0) ((w [0]).withField 3 31 30 2) pend = true
      ∧ pend.upd.sched = some (5, false) ∧ pend.dev.update = .pending ∧ pend.pwr.phase = .up ∧ pend.saf.atRest.isSome = true ∧ pend.dbg.haltedAc = 0 ∧ pend.dbg.haltedFl = 0
      ∧ pend.upd.sv ≤ pend.vault.value + pend.vault.capacity
      ∧ (act .drain).clocked = true ∧ (act .drain).upd.act = some { pkt := none, kind := 1, sv := 1, stage := .drain } ∧ (act .drain).pkts = []
      ∧ (act .paused).upd.act = some { pkt := none, kind := 1, sv := 1, stage := .paused } ∧ (act .imageRunning).upd.act = some { pkt := none, kind := 1, sv := 1, stage := .imageRunning } := by decide

/-- InputPower: each phase that an input command meets. -/
theorem witness_InputPower :
    (inPhase .off).pwr.phase = .off ∧ (inPhase .lost).pwr.phase = .lost ∧ base.pwr.phase = .up ∧ base.pkts = [] ∧ base.dbg.queuedAcks = []
      ∧ (inPhase .asleep).pwr.phase = .asleep ∧ (inPhase .off).pkts = [] ∧ base.pwr.phase ≠ .off ∧ base.pwr.phase ≠ .lost
      ∧ base.clocked = true ∧ (inPhase .asleep).clocked = false ∧ base.pwr.inlet ≠ none := by decide

end Sys2Proof.Tests
end

section
/-! PROOFS of the scope's statements: a packet's words as bytes and back (R10, R46), for PacketBytes (O15). -/

namespace Sys2Proof.Machine

/-! ### Words and their little-endian bytes -/

@[simp] theorem leBytes_length (n x : Nat) : (leBytes n x).length = n := by
  induction n generalizing x with
  | zero => rfl
  | succ n ih => simp [leBytes, ih]

/-- A number that fits in `n` bytes is what its `n` little-endian bytes spell. -/
theorem leNat_leBytes {n x : Nat} (h : x < 256 ^ n) : leNat (leBytes n x) = x := by
  induction n generalizing x with
  | zero => simp at h; simp [leBytes, leNat, h]
  | succ n ih =>
    have hq : x / 256 < 256 ^ n := Nat.div_lt_of_lt_mul (by rwa [Nat.pow_succ'] at h)
    simp only [leBytes, leNat, ih hq, BitVec.toNat_ofNat]
    exact Nat.mod_add_div x 256

@[simp] theorem wordBytes_cons (w : Nat) (ws : List Nat) : wordBytes (w :: ws) = leBytes 4 w ++ wordBytes ws := by
  simp [wordBytes]

@[simp] theorem wordBytes_length (ws : List Nat) : (wordBytes ws).length = 4 * ws.length := by
  induction ws with
  | nil => rfl
  | cons w ws ih => simp [ih]; omega

/-- The bytes of 32-bit words give those words. -/
theorem bytesWords_wordBytes {ws : List Nat} (h : ∀ w ∈ ws, w < 2 ^ 32) : bytesWords ws.length (wordBytes ws) = ws := by
  induction ws with
  | nil => rfl
  | cons w ws ih =>
    have hw : leNat (leBytes 4 w) = w := leNat_leBytes (h w (List.mem_cons_self ..))
    have hr := ih (fun v hv => h v (List.mem_cons_of_mem _ hv))
    simp [bytesWords, List.take_left', List.drop_left', hw, hr]

/-! ### PacketBytes -/

/-- What PacketBytes says, for canonical memory, which a reset gives (`State.reset_canon`) and a store keeps (`State.store_canon`). -/
theorem State.packet_store_load {s : State} {p : Packet} (a : Addr) (hs : s.MemOk) (hl : p.ws.length = 16) (hw : ∀ w ∈ p.ws, w < 2 ^ 32) :
    let t := s.store a (wordBytes p.ws)
    (⟨bytesWords 16 (t.load a 64)⟩ : Packet) = p ∧ t.MemOk ∧ (∀ b, (b < a ∨ a + 64 ≤ b) → memGet t.mem b = memGet s.mem b) := by
  intro t
  have hb : (wordBytes p.ws).length = 64 := by rw [wordBytes_length, hl]
  have hread : t.load a 64 = wordBytes p.ws := hb ▸ State.load_store a (wordBytes p.ws) hs
  have hwords : bytesWords 16 (wordBytes p.ws) = p.ws := hl ▸ bytesWords_wordBytes hw
  refine ⟨by rw [hread, hwords], State.store_canon a _ hs, fun b ho => ?_⟩
  exact State.memGet_store_out a b _ hs (by rwa [hb])

/-- Memory that is not canonical: address 0 is listed twice. -/
def doubledMem : State := { State.reset with mem := [(0, 1), (0, 2)] }

/-- Refutes O15: the statement does not ask that memory is canonical. Where an address is listed twice, storing byte 0 there deletes the first entry only and a load
finds the second: sixteen zero words stored at address 0 over `doubledMem` are read back as the word 2 and fifteen zeros. `State.packet_store_load` is the
statement with the missing hypothesis. -/
theorem not_packetBytes : ¬ Obligations.PacketBytes := by
  unfold Obligations.PacketBytes
  intro h
  have hread : (⟨bytesWords 16 ((doubledMem.store 0 (wordBytes (List.replicate 16 0))).load 0 64)⟩ : Packet) = ⟨List.replicate 16 0⟩ :=
    (h doubledMem ⟨List.replicate 16 0⟩ 0 rfl (by decide)).1
  exact absurd hread (by decide)

end Sys2Proof.Machine
end

section
/-! PROOFS of InputPower (O60): the 48 V input (R543, R544, R547 to R551), the inlet coolant (R557), and what a module reset keeps (R14). -/

namespace Sys2Proof.Machine

/-! ### Raising a cause, and switching channels off, with nothing outstanding -/

@[simp] theorem State.trace_queuedAcks (s : State) (t : TraceEv) : (s.trace t).dbg.queuedAcks = s.dbg.queuedAcks := by
  unfold State.trace
  extract_lets d pass entries s1 next wrapped
  by_cases h : pass = true
  · simp only [h, Bool.not_true, Bool.false_eq_true, if_false]
    rw [apply_ite State.dbg, apply_ite DebugState.queuedAcks]
    exact ite_self _
  · rw [if_pos (by simpa using h)]

@[simp] theorem State.setCauses_queuedAcks (s : State) (c : Nat) : (s.setCauses c).dbg.queuedAcks = s.dbg.queuedAcks := by
  have hold : ∀ (x : State) (a b : SafetyMode), (x.holdChange a b).dbg = x.dbg := by
    intro x a b
    unfold State.holdChange
    split
    · rfl
    · split <;> rfl
  rcases s.setCauses_cases c with ⟨-, e⟩ | ⟨-, e⟩ <;> simp [e, hold]

/-- Raising a cause changes the causes and, where it is one of Safe-hold, resumes the halted cores (R494). -/
theorem State.raise_cases (s : State) (n : Nat) :
    let s1 := s.setCauses (s.saf.causes ||| 1 <<< n)
    s.raise n = s1 ∨ s.raise n = { s1 with dbg := { s1.dbg with haltedAc := 0, haltedFl := 0 } } := by
  unfold State.raise
  dsimp only
  split
  · exact .inr rfl
  · exact .inl rfl

@[simp] theorem State.raise_queuedAcks (s : State) (n : Nat) : (s.raise n).dbg.queuedAcks = s.dbg.queuedAcks := by
  rcases s.raise_cases n with e | e <;> simp [e]

@[simp] theorem State.raise_pkts (s : State) (n : Nat) : (s.raise n).pkts = s.pkts := by
  rcases s.raise_cases n with e | e <;> simp [e]

@[simp] theorem State.raise_pwr (s : State) (n : Nat) : (s.raise n).pwr = s.pwr := by
  rcases s.raise_cases n with e | e <;> simp [e]

/-- With no acknowledgement queued there is none to decide. -/
theorem State.drainAcks_of_none {s : State} (h : s.dbg.queuedAcks = []) : s.drainAcks = s := by
  have hdbg : ({ s.dbg with queuedAcks := [] } : DebugState) = s.dbg := by rw [← h]
  simp [State.drainAcks, h, hdbg]

/-- With no acknowledgement queued, raising a Safe-hold cause is raising the cause. -/
theorem State.raiseHold_of_none {s : State} (n : Nat) (h : s.dbg.queuedAcks = []) : s.raiseHold n = s.raise n :=
  State.drainAcks_of_none (by rw [State.raise_queuedAcks, h])

/-- With no packet outstanding none waits for a channel. -/
theorem State.chanWaiters_of_no_pkts {s : State} (h : s.pkts = []) (c : Nat) : s.chanWaiters c = [] := by
  simp [State.chanWaiters, h]

/-- With no packet outstanding, switching the channels off ends none (Table 11.15). -/
theorem State.channelsOff_of_no_pkts {s : State} (h : s.pkts = []) :
    s.channelsOff = { s with sen := { s.sen with channels := s.sen.channels.map (fun x => { x with on := false, inrush := none }) } } := by
  unfold State.channelsOff
  extract_lets sen s1
  have hw : (List.range 32).flatMap s1.chanWaiters = [] :=
    List.flatMap_eq_nil_iff.2 (fun c _ => State.chanWaiters_of_no_pkts (s := s1) h c)
  rw [hw]
  rfl

/-! ### The input lost (Tables 26.10, 26.11) -/

/-- What a loss of the input makes of a module that runs: cause 11, channels off, outputs high-impedance, rails off. -/
def State.loseInput (s : State) : State :=
  let s1 := ((s.setBand false).raiseHold 11).channelsOff
  ({ s1 with sen := { s1.sen with highZ := true }, pwr := { s1.pwr with phase := .lost } } : State).logIt .powerDown

/-- The phases in which a loss of the input is the sequence of Table 26.10. -/
def Phase.losesInput (p : Phase) : Prop := p = .up ∨ p = .recovery ∨ p = .tripped ∨ ∃ n, p = .entering n

theorem exec_inputLoss (s : State) : exec .inputLoss s = execInputLoss s := rfl

theorem exec_inputLoss_running {s : State} (h : s.pwr.phase.losesInput) : exec .inputLoss s = .next s.loseInput := by
  rw [exec_inputLoss, execInputLoss]
  rcases h with h | h | h | ⟨n, h⟩ <;> simp only [h] <;> rfl

theorem exec_inputLoss_asleep {s : State} (h : s.pwr.phase = .asleep ∨ ∃ w, s.pwr.phase = .waking w) :
    exec .inputLoss s = .next { s with pwr := { s.pwr with lowBand := false, phase := .off } } := by
  rw [exec_inputLoss, execInputLoss]
  rcases h with h | ⟨w, h⟩ <;> simp only [h] <;> rfl

theorem exec_inputLoss_unpowered {s : State} (h : s.powered = false) : exec .inputLoss s = .next s := by
  rw [exec_inputLoss, execInputLoss]
  unfold State.powered at h
  cases hp : s.pwr.phase <;> simp_all

/-- A loss of the input with no packet outstanding and no acknowledgement queued: the phase, the cause raised and the outputs. -/
theorem State.loseInput_spec {s : State} (hp : s.pkts = []) (hq : s.dbg.queuedAcks = []) :
    let t := s.loseInput
    t.pwr.phase = .lost ∧ t.pwr.lowBand = false ∧ t.saf.causes = (s.saf.causes ||| 2048) ∧ t.sen.highZ = true
      ∧ (∀ c ∈ t.sen.channels, c.on = false ∧ c.inrush = none) ∧ t.safeLow = true ∧ t.pkts = [] := by
  have hraise : (s.setBand false).raiseHold 11 = (s.setBand false).raise 11 := State.raiseHold_of_none 11 hq
  have hpkts : ((s.setBand false).raise 11).pkts = [] := by simp [hp]
  unfold State.loseInput
  rw [hraise, State.channelsOff_of_no_pkts hpkts]
  simp [hp, State.safeLow]

/-! ### The input returned, hold-up, the low band and the coolant -/

theorem exec_powerUp (endpoint : Bool) (s : State) :
    exec (.powerUp endpoint) s = .next (if s.pwr.phase = .off then (s.setBand false).moduleReset true endpoint else s) := rfl

theorem exec_holdupDisconnect (s : State) :
    exec .holdupDisconnect s = .next (if s.pwr.phase = .lost then { s with pwr := { s.pwr with phase := .off } } else s) := rfl

theorem exec_inputReturn (endpoint : Bool) (s : State) : exec (.inputReturn endpoint) s = execInputReturn endpoint s := rfl

theorem exec_inputReturn_off {s : State} (endpoint : Bool) (h : s.pwr.phase = .off) :
    exec (.inputReturn endpoint) s = .next ((s.setBand false).moduleReset true endpoint) := by
  rw [exec_inputReturn, execInputReturn, h]

theorem exec_inputReturn_lost {s : State} (endpoint : Bool) (h : s.pwr.phase = .lost) :
    exec (.inputReturn endpoint) s = .next ((s.setBand false).moduleReset false endpoint) := by
  rw [exec_inputReturn, execInputReturn, h]

theorem exec_inputReturn_powered {s : State} (endpoint : Bool) (h : s.powered = true) : exec (.inputReturn endpoint) s = .next s := by
  rw [exec_inputReturn, execInputReturn]
  unfold State.powered at h
  cases hp : s.pwr.phase <;> simp_all

theorem State.powered_iff (s : State) : s.powered = true ↔ s.pwr.phase ≠ .off ∧ s.pwr.phase ≠ .lost := by
  unfold State.powered
  cases s.pwr.phase <;> simp

/-- Setting the hold-up gate where it is set changes nothing. -/
theorem State.holdupGate_self {s : State} (h : s.pwr.holdupGate = true) : { s with pwr := { s.pwr with holdupGate := true } } = s := by
  rw [← h]

/-- Setting the band of the input to what it is changes nothing. -/
theorem State.setBand_self {s : State} {b : Bool} (h : s.pwr.lowBand = b) : s.setBand b = s := by
  rw [State.setBand, ← h]

theorem exec_holdupCharged {s : State} (h : s.powered = true) :
    exec .holdupCharged s = .next { s with pwr := { s.pwr with holdupGate := true } } := by
  show execHoldupCharged s = _
  rw [execHoldupCharged]
  cases hg : s.pwr.holdupGate
  · simp [h]
  · simp [State.holdupGate_self hg]

theorem exec_holdupTimeout {s : State} (h : s.powered = true) :
    exec .holdupTimeout s = .next (if s.pwr.holdupGate then s else ({ s with pwr := { s.pwr with holdupGate := true } } : State).logIt .holdup) := by
  show execHoldupTimeout s = _
  rw [execHoldupTimeout]
  cases hg : s.pwr.holdupGate <;> simp [h]

theorem exec_inputLowBand {s : State} (h : s.powered = true) :
    exec .inputLowBand s = .next (if s.pwr.lowBand then s else (s.setBand true).logIt .inputBand) := by
  show execInputLowBand s = _
  rw [execInputLowBand]
  cases hb : s.pwr.lowBand <;> simp [h]

theorem exec_inputFullFunctionReturn {s : State} (h : s.powered = true) : exec .inputFullFunctionReturn s = .next (s.setBand false) := by
  show execInputFullFunctionReturn s = _
  rw [execInputFullFunctionReturn]
  cases hb : s.pwr.lowBand
  · simp [State.setBand_self hb]
  · simp [h]

theorem exec_activeDischarge (on : Bool) (s : State) :
    exec (.activeDischarge on) s = .next { s with pwr := { s.pwr with discharge := on } } := rfl

theorem exec_coolantSample_clocked {s : State} (inlet : Option Int) (h : s.clocked = true) :
    let v : State := { s with pwr := { s.pwr with inlet := inlet } }
    exec (.coolantSample inlet) s = .next (if inlet = none ∧ s.pwr.inlet ≠ none then v.logIt .sensorFault 0xFFFF else v) := by
  intro v
  show execCoolantSample inlet s = _
  rw [execCoolantSample]
  by_cases hf : inlet = none ∧ s.pwr.inlet ≠ none
  · have hb : (inlet.isNone && s.pwr.inlet.isSome) = true := by simpa [Option.isSome_iff_ne_none] using hf
    simp only [h, hb, if_pos hf]
    rfl
  · have hb : ¬ (inlet.isNone && s.pwr.inlet.isSome) = true := by simpa [Option.isSome_iff_ne_none] using hf
    simp only [h, hb, if_neg hf]
    rfl

theorem exec_coolantSample_unclocked {s : State} (inlet : Option Int) (h : s.clocked = false) : exec (.coolantSample inlet) s = .next s := by
  show execCoolantSample inlet s = _
  simp [execCoolantSample, h]

/-! ### InputPower -/

/-- A module reset ends any revocation under way and keeps each key slot's generation, type and key. -/
theorem State.moduleReset_keySlots (s : State) (loss endpoint : Bool) :
    (s.moduleReset loss endpoint).vault.slots.map (fun k => (k.gen, k.type, k.key)) = s.vault.slots.map (fun k => (k.gen, k.type, k.key)) := by
  simp [State.moduleReset, Function.comp_def]

/-- Settles O60, clause by clause from the rules of the input's commands. -/
theorem inputPower : Obligations.InputPower := by
  unfold Obligations.InputPower
  refine ⟨fun s endpoint => ⟨fun hoff => ?_, fun hlost => ?_, fun hup => ?_⟩, fun s loss endpoint => ?_, fun s hp hq => ⟨fun hrun => ?_, ?_, fun hoff => ?_⟩,
    fun s hoff hlost => ?_, fun s on inlet => ?_⟩
  · exact ⟨by rw [exec_powerUp, if_pos hoff]; rfl, exec_inputReturn_off endpoint hoff⟩
  · exact ⟨exec_inputReturn_lost endpoint hlost, by simp [exec_powerUp, hlost], exec_inputLoss_unpowered (by simp [State.powered, hlost]),
      by simp [exec_holdupDisconnect, hlost]⟩
  · exact ⟨by simp [exec_powerUp, hup], exec_inputReturn_powered endpoint (by simp [State.powered_iff, hup]), by simp [exec_holdupDisconnect, hup]⟩
  · exact ⟨rfl, rfl, rfl, rfl, rfl, rfl, rfl, rfl, rfl, rfl, rfl, s.moduleReset_keySlots loss endpoint, rfl, rfl, rfl, rfl, rfl, rfl⟩
  · exact ⟨s.loseInput, exec_inputLoss_running hrun, State.loseInput_spec hp hq⟩
  · exact exec_inputLoss_asleep
  · exact exec_inputLoss_unpowered (by simp [State.powered, hoff])
  · have hpow : s.powered = true := s.powered_iff.2 ⟨hoff, hlost⟩
    exact ⟨exec_holdupCharged hpow, exec_holdupTimeout hpow, exec_inputLowBand hpow, exec_inputFullFunctionReturn hpow⟩
  · exact ⟨exec_activeDischarge on s, exec_coolantSample_clocked inlet, exec_coolantSample_unclocked inlet⟩

end Sys2Proof.Machine
end

section
/-! SUPPORT. Maps after a removal and a change, lists after a change at a position, and folds whose steps keep something. -/

namespace Sys2Proof

@[simp] theorem NMap.get?_del_same {α : Type} (m : NMap α) (k : Nat) : NMap.get? (NMap.del m k) k = none := by
  induction m with
  | nil => rfl
  | cons x r ih =>
    obtain ⟨a, v⟩ := x
    by_cases ha : a = k
    · simpa [NMap.del, ha] using ih
    · simpa [NMap.del, NMap.get?, ha] using ih

theorem NMap.get?_upd_same {α : Type} {m : NMap α} {k : Nat} {v : α} (f : α → α) (h : NMap.get? m k = some v) :
    NMap.get? (NMap.upd m k f) k = some (f v) := by
  simp [NMap.upd, h]

theorem updAt_getD {α : Type} (l : List α) (k j : Nat) (f : α → α) (d : α) :
    (updAt l k f).getD j d = if j = k ∧ k < l.length then f (l.getD j d) else l.getD j d := by
  induction l generalizing k j with
  | nil => simp [updAt]
  | cons x r ih =>
    cases k with
    | zero => cases j <;> simp [updAt]
    | succ k =>
      cases j with
      | zero => simp [updAt]
      | succ j => simpa [updAt] using ih k j

/-- What each step of a fold keeps, the fold keeps. -/
theorem foldl_keeps {α β γ : Type} (view : β → γ) {op : β → α → β} (h : ∀ y a, view (op y a) = view y) (l : List α) (y : β) :
    view (l.foldl op y) = view y :=
  List.foldlRecOn l op (motive := fun z => view z = view y) rfl (fun z hz a _ => (h z a).trans hz)

end Sys2Proof
end

section
/-! SUPPORT. What an accepted packet's row answers, what taking the packet in leaves as it was, and the commit point of a packet that waits. -/

namespace Sys2Proof.Machine

/-! ### The release of an accepted packet -/

/-- Only packets of the planner and the solve engine restart a stopped domain (R461, Table 20.6). -/
theorem State.restartFor_of_family {code : Nat} (s : State) (h : code / 256 ≠ 7) : s.restartFor code = s := by
  have h1 : code ≠ 0x0701 := by omega
  have h2 : code ≠ 0x0702 := by omega
  have h3 : code ≠ 0x0711 := by omega
  simp [State.restartFor, h1, h2, h3]

/-- An accepted packet outside family 0x07 answers what its row's effect makes of the state in which it stands outstanding. -/
theorem OpSpec.next_exec_accepted {sp : OpSpec} {src : Src} {p : Packet} {s t : State} (h : sp.accepts src p s = true) (hf : sp.code / 256 ≠ 7)
    (ht : sp.run (sp.env src p s) (sp.taken src p s) = t) : (.next (sp.exec src p s) : Res) = .next t := by
  rw [OpSpec.exec_accepts h, State.restartFor_of_family _ hf, ht]

/-! Taking a packet in touches the outstanding packets and the bobbins only. -/

@[simp] theorem OpSpec.taken_dom (sp : OpSpec) (src : Src) (p : Packet) (s : State) : (sp.taken src p s).dom = s.dom := by cases src <;> rfl
@[simp] theorem OpSpec.taken_ms (sp : OpSpec) (src : Src) (p : Packet) (s : State) : (sp.taken src p s).ms = s.ms := by cases src <;> rfl
@[simp] theorem OpSpec.taken_mem (sp : OpSpec) (src : Src) (p : Packet) (s : State) : (sp.taken src p s).mem = s.mem := by cases src <;> rfl
@[simp] theorem OpSpec.taken_kv (sp : OpSpec) (src : Src) (p : Packet) (s : State) : (sp.taken src p s).kv = s.kv := by cases src <;> rfl

/-! ### What waits for its commit point -/

/-- At its commit point a packet that waits is looked at again, unless its flyer is halted (R62, R493). -/
theorem exec_commitPoint_waits {s : State} {id : Nat} {o : OutPkt} {w : Wait} (hp : s.pkt? id = some o) (hs : s.serves = true)
    (hf : s.flyerHalted o.flyer = false) (hj : o.job = .waits w) : exec (.commitPoint id) s = .next (s.waitOver o w) := by
  show execCommitPoint id s = _
  simp [execCommitPoint, hs, hp, hj, hf]

end Sys2Proof.Machine
end

section
/-! PROOFS of TenantCommands (O11): tenants (R79, R80), QUERY (R73) and QUIESCE (R55). -/

namespace Sys2Proof.Machine

/-- What a tenant held goes with it: its regions, whose granules are to be cleared, and its pools (R80, R184). -/
theorem State.unmapRegions_tenant (s : State) (t : Nat) :
    let u := s.unmapRegions (fun r => r.tenant = t)
    u.ms.regions = s.ms.regions.filter (fun r => !(decide (r.tenant = t))) ∧ (∀ k ∈ u.kv.filter (fun k => k.1 / 16 ≠ t), k ∈ s.kv ∧ k.1 / 16 ≠ t)
      ∧ u.ms.clearing = s.ms.clearing ++ (s.ms.regions.filter (fun r => decide (r.tenant = t))).map (fun r => (r.base, r.granules)) := by
  refine ⟨rfl, fun k hk => ?_, rfl⟩
  obtain ⟨hu, ht⟩ := List.mem_filter.1 hk
  exact ⟨(List.mem_filter.1 hu).1, by simpa using ht⟩

/-- Settles O11: each command runs its effect on the state in which it stands outstanding, whose tenants, regions and pools are those of before. -/
theorem tenantCommands : Obligations.TenantCommands := by
  unfold Obligations.TenantCommands
  refine ⟨fun src p s h => ?create, fun src p s h => ?destroy, fun src p s h => OpSpec.next_exec_accepted h (by decide) rfl,
    fun src p s h => ⟨fun idle => ?idle, fun busy => OpSpec.next_exec_accepted h (by decide) (if_pos busy)⟩⟩
  case create =>
    rw [← OpSpec.taken_dom specTenantCreate src p s]
    exact OpSpec.next_exec_accepted h (by decide) rfl
  case destroy =>
    intro t
    obtain ⟨hregions, hpools, hclearing⟩ := (specTenantDestroy.taken src p s).unmapRegions_tenant t
    simp only [OpSpec.taken_ms, OpSpec.taken_kv] at hregions hpools hclearing
    exact ⟨_, OpSpec.next_exec_accepted h (by decide) rfl, by rw [← OpSpec.taken_dom specTenantDestroy src p s]; rfl, hregions, hpools,
      OpSpec.taken_mem .., hclearing⟩
  case idle => exact OpSpec.next_exec_accepted h (by decide) (if_neg (Bool.eq_false_iff.1 idle))

end Sys2Proof.Machine
end

section
/-! PROOFS of ModelStore (O33): the four operations of MODEL_STORE (R91, Table 3.11). -/

namespace Sys2Proof.Machine

/-- seal of an object: sealed where the header has the magic, the format and the part, else BAD_PARAM with code 3 (R91). -/
theorem specStoreSeal_run {e : Env} {s : State} {o : ModelObject} (ho : s.object? (s.storeTenant e.src e.p) (e.p.word 4) = some o) :
    let t := s.storeTenant e.src e.p
    let hd := headerOf (NMap.getD o.blocks 0 [])
    let v := s.setObject t (e.p.word 4) (fun x => { x with isSealed := true })
    specStoreSeal.run e s
      = if hd.magic = 0x4D444C31 ∧ hd.format = 1 ∧ hd.part = 0x4800 then v.finish e.id 0 (v.storeReply t (e.p.word 4)) else s.finish e.id 0x0106 [3] := by
  intro t hd v
  simp only [specStoreSeal, ho]
  by_cases hgood : hd.magic = 0x4D444C31 ∧ hd.format = 1 ∧ hd.part = 0x4800
  · obtain ⟨hmagic, hformat, hpart⟩ := hgood
    simp [hd, hmagic, hformat, hpart, v, t, State.done]
  · rw [if_neg hgood]
    exact if_pos (Decidable.byContradiction fun hbad => hgood (by simpa [and_assoc] using hbad))

/-- Settles O33: each operation runs its effect on the state in which its packet stands outstanding. -/
theorem modelStore : Obligations.ModelStore := by
  unfold Obligations.ModelStore
  refine ⟨fun src p0 s h => OpSpec.next_exec_accepted h (by decide) rfl, fun src p0 s h => OpSpec.next_exec_accepted h (by decide) (ite_not _ _ _),
    fun src p0 s o h ho => OpSpec.next_exec_accepted h (by decide) (specStoreSeal_run ho),
    fun src p0 s h => OpSpec.next_exec_accepted h (by decide) rfl, fun s t id o ho => ?reply⟩
  case reply => simp [State.storeReply, ho, ModelObject.count]

end Sys2Proof.Machine
end

section
/-! PROOFS of HotSet (O32): MODEL_LOAD (R86, R92), the swap (R90), MODEL_PIN and MODEL_EVICT (R88, R89). -/

namespace Sys2Proof.Machine

/-- A load without a slot (R86). -/
theorem specModelLoad_run_no_slot {e : Env} {s : State} (h : s.chooseSlot (s.ctxTenant e.p.ctx) (e.p.word 3) = none) :
    specModelLoad.run e s = s.finish e.id 0x0200 [2] := by
  simp only [specModelLoad, h]
  rfl

section
variable {e : Env} {s : State} {slot : Nat} {ev : Option Nat} {obj : ModelObject}
  (hslot : s.chooseSlot (s.ctxTenant e.p.ctx) (e.p.word 3) = some (slot, ev)) (hobj : s.object? (s.ctxTenant e.p.ctx) (e.p.word 3) = some obj)
include hslot hobj

/-- A load that would pin the last slot of its tenant (R88). -/
theorem specModelLoad_run_pinFull (hpin : e.p.b 4 0 = true) (hfull : s.pinFull (s.ctxTenant e.p.ctx) slot = true) :
    specModelLoad.run e s = s.finish e.id 0x0200 [0xC] := by
  simp only [specModelLoad, hslot, hobj]
  exact if_pos (by simp [hpin, hfull])

/-- A load whose image fails a check of R92. -/
theorem specModelLoad_run_bad_image {x : Nat × List Nat} (hroom : e.p.b 4 0 = false ∨ s.pinFull (s.ctxTenant e.p.ctx) slot = false)
    (himg : s.checkImage obj.body = .inl x) : specModelLoad.run e s = s.finish e.id x.1 x.2 := by
  simp only [specModelLoad, hslot, hobj, himg]
  exact if_neg (by rwa [Bool.not_eq_true, Bool.and_eq_false_iff])

/-- Any other load is in flight, and swaps the model of the image into the slot at its commit point (R86, R90). -/
theorem specModelLoad_run_starts {secs : List Section} (hroom : e.p.b 4 0 = false ∨ s.pinFull (s.ctxTenant e.p.ctx) slot = false)
    (himg : s.checkImage obj.body = .inr secs) :
    let h := headerOf obj.body
    ∃ (v : State) (w : Work) (m : HotModel), specModelLoad.run e s = v.startWork e w
      ∧ w.details = [slot, ev.getD 0xFFFFFFFF, h.resident, h.cores] ∧ w.after = [.swap slot m ev] ∧ w.writes = [] ∧ w.dma = []
      ∧ m.tenant = s.ctxTenant e.p.ctx ∧ m.imageId = e.p.word 3 ∧ m.resident = h.resident ∧ m.cores = h.cores ∧ m.schedules = h.schedules ∧ m.sections = secs
      ∧ (e.p.b 4 0 = true → m.pinned = true) ∧ v.mem = s.mem ∧ v.dom.hot = s.dom.hot ∧ v.dom.objects = s.dom.objects := by
  intro h
  simp only [specModelLoad, hslot, hobj, himg]
  refine ⟨_, _, _, if_neg ?_, rfl, rfl, rfl, rfl, rfl, rfl, rfl, rfl, rfl, rfl, fun hpin => ?_, rfl, rfl, rfl⟩
  · rwa [Bool.not_eq_true, Bool.and_eq_false_iff]
  · simp [hpin]

end

/-- The swap puts the model in its slot, most recently used now, and leaves the other slots (R90). -/
theorem State.swapModel_hot (s : State) (slot : Nat) (m : HotModel) :
    ∃ x : HotModel, NMap.get? (s.swapModel slot m).dom.hot slot = some x ∧ x.imageId = m.imageId ∧ x.sections = m.sections ∧ x.pinned = m.pinned ∧ x.recency = s.now
      ∧ ∀ k, k ≠ slot → NMap.get? (s.swapModel slot m).dom.hot k = NMap.get? s.dom.hot k :=
  ⟨_, NMap.get?_put_same .., rfl, rfl, rfl, rfl, fun _ hk => NMap.get?_put_ne hk⟩

/-- Settles O32: a load by its cases, the swap by `State.swapModel_hot`. -/
theorem hotSet : Obligations.HotSet := by
  unfold Obligations.HotSet
  refine ⟨fun src p s h hslot => OpSpec.next_exec_accepted h (by decide) (specModelLoad_run_no_slot hslot), fun src p s slot ev obj h => ?load,
    State.swapModel_hot, fun src p s h => OpSpec.next_exec_accepted h (by decide) rfl, fun src p s h => OpSpec.next_exec_accepted h (by decide) rfl⟩
  case load =>
    intro q u e t hd hslot hobj
    refine ⟨fun hpin hfull => OpSpec.next_exec_accepted h (by decide) (specModelLoad_run_pinFull (e := e) hslot hobj hpin hfull), fun hroom => ?_⟩
    split
    case h_1 x himg => exact OpSpec.next_exec_accepted h (by decide) (specModelLoad_run_bad_image (e := e) hslot hobj hroom himg)
    case h_2 secs himg =>
      obtain ⟨v, w, m, hstart, hfacts⟩ := specModelLoad_run_starts (e := e) hslot hobj hroom himg
      rw [OpSpec.taken_mem, OpSpec.taken_dom] at hfacts
      exact ⟨v, w, m, OpSpec.next_exec_accepted h (by decide) hstart, hfacts⟩

end Sys2Proof.Machine
end

section
/-! PROOFS of ContextCommands (O31): CONTEXT_CREATE (R81, R82), CONTEXT_DESTROY (R85), LANE_RESERVE and LANE_RELEASE (R100 to R102). -/

namespace Sys2Proof.Machine

/-! ### CONTEXT_CREATE and CONTEXT_DESTROY -/

/-- CONTEXT_CREATE for a tenant: no context is left, the save area does not fit, or the context exists (R81, R82). -/
theorem specContextCreate_run {e : Env} {s : State} {t : Nat} (ht : s.newCtxTenant e.src e.p.ctx = some t) :
    let x : Context := { tenant := t, fixed := e.p.b 3 28, shadowMib := if e.p.f 3 27 24 = 0 then 2 else e.p.f 3 27 24, reservation := e.p.f 3 17 16
                         coreMask := e.p.f 3 15 0, maxCores := e.p.f 4 4 0, opener := e.bob }
    specContextCreate.run e s =
      if 4096 ≤ s.dom.contexts.length then s.finish e.id 0x0200 [5]
      else if (match s.tenant? t with | some y => y.quotaBytes | none => 0) < s.hbmUsed t + e.p.f 4 4 0 * 18 * 2 ^ 20 then s.finish e.id 0x0200 [3]
      else ({ s with dom := { s.dom with contexts := NMap.put s.dom.contexts e.p.ctx x } } : State).finish e.id 0 := by
  intro x
  simp only [specContextCreate, ht]
  rfl

/-- A context that exists for packets is listed. -/
theorem State.get?_of_ctx? {s : State} {c : Nat} {x : Context} (h : s.ctx? c = some x) : NMap.get? s.dom.contexts c = some x := by
  unfold State.ctx? at h
  split at h
  case h_1 y hy =>
    rw [hy]
    exact (Option.ite_none_left_eq_some.1 h).2
  case h_2 => cases h

/-- From its checks on the context no longer exists for later packets, and the packet waits (R85). -/
theorem specContextDestroy_run (e : Env) (s : State) :
    let t := specContextDestroy.run e s
    (∀ x, s.ctx? e.p.ctx = some x → NMap.get? t.dom.contexts e.p.ctx = some { x with destroying := true })
      ∧ (∀ o ∈ t.pkts, o.id = e.id → o.job = .waits .destroyCtx) ∧ t.mem = s.mem ∧ t.dom.cores = s.dom.cores ∧ t.ms = s.ms := by
  refine ⟨fun x hx => NMap.get?_upd_same _ (State.get?_of_ctx? hx), fun o ho hid => ?_, rfl, rfl, rfl⟩
  obtain ⟨o', -, rfl⟩ := List.mem_map.1 ho
  by_cases h' : o'.id = e.id
  · rw [if_pos h']
  · rw [if_neg h'] at hid
    exact absurd hid h'

/-- No segment that a context granted is left (R85). -/
theorem State.dropWindows_granted (s : State) (c : Nat) : ∀ g ∈ (s.dropWindows c).ply.granted, g.ctx ≠ c := by
  unfold State.dropWindows
  extract_lets s1
  clear_value s1
  intro g hg
  simpa using (List.mem_filter.1 hg).2

theorem State.dropTimed_ply (s : State) (who : Nat → Bool) : (s.dropTimed who).ply = s.ply := rfl

theorem State.dropPlan_ply (s : State) (c : Nat) : (s.dropPlan c).ply = s.ply := rfl

/-- Where a context's destruction ends, the context is gone with its banks, its solver systems and the segments it granted (R85). -/
theorem State.destroyCtx_frees (s : State) (id c : Nat) :
    ∃ u : State, s.destroyCtx id c = u.finish id 0 ∧ NMap.get? u.dom.contexts c = none ∧ (∀ b ∈ u.ms.banks, b.2.ctx ≠ c)
      ∧ (∀ x ∈ u.eng.solves, x.2.ctx ≠ c) ∧ (∀ g ∈ u.ply.granted, g.ctx ≠ c) := by
  unfold State.destroyCtx
  extract_lets s1 s2 s3 s4 dom ms eng s5
  have hply : s4.ply = ((s2.dropSensing c).dropWindows c).ply := by
    simp only [s4, s3, apply_ite State.ply, State.dropPlan_ply, State.dropTimed_ply, ite_self]
  have hgranted : ∀ g ∈ s4.ply.granted, g.ctx ≠ c := by
    rw [hply]
    exact State.dropWindows_granted _ c
  clear_value s4
  exact ⟨s5, rfl, NMap.get?_del_same s4.dom.contexts c, fun b hb => by simpa using (List.mem_filter.1 hb).2,
    fun x hx => by simpa using (List.mem_filter.1 hx).2, hgranted⟩

/-! ### The fixed lane -/

/-- What saving and clearing the contents of cores leaves as it is (R101). -/
def State.laneView (s : State) : Queues × List OutPkt × NMap Reservation := (s.q, s.pkts, s.dom.reservations)

/-- `laneView`, and the cores. -/
def State.laneCores (s : State) : (Queues × List OutPkt × NMap Reservation) × List Core := (s.laneView, s.dom.cores)

theorem State.saveOff_laneCores (s : State) (h k : Nat) (rs : List (Addr × Nat)) : (s.saveOff h k rs).laneCores = s.laneCores := rfl

theorem State.clear_laneCores (s : State) (a n : Nat) : (s.clear a n).laneCores = s.laneCores := rfl

/-- A core on which no context's contents lie. -/
def Core.Vacant (c : Core) : Prop := c.holders = [] ∧ c.lastCtx = none

theorem State.core_setCore (s : State) (k j : Nat) (f : Core → Core) :
    (s.setCore k f).core j = if j = k ∧ k < s.dom.cores.length then f (s.core j) else s.core j := updAt_getD ..

/-- A change that keeps vacant cores vacant leaves them vacant wherever it is made. -/
theorem State.vacant_setCore {s : State} {j : Nat} (k : Nat) {f : Core → Core} (hf : ∀ c : Core, c.Vacant → (f c).Vacant) (h : (s.core j).Vacant) :
    ((s.setCore k f).core j).Vacant := by
  rw [State.core_setCore]
  split
  · exact hf _ h
  · exact h

/-- A change that makes its core vacant does so; a core that does not exist reads as a vacant one. -/
theorem State.vacant_setCore_same (s : State) (k : Nat) {f : Core → Core} (hf : ∀ c, (f c).Vacant) : ((s.setCore k f).core k).Vacant := by
  rw [State.core_setCore]
  split
  · exact hf _
  · rename_i hk
    have hlen : s.dom.cores.length ≤ k := by simpa using hk
    rw [State.core, List.getD_eq_getElem?_getD, List.getElem?_eq_none hlen]
    exact ⟨rfl, rfl⟩

/-- Freeing a reserved core saves and clears what lies on it, which brings no context to any core, then vacates it. -/
theorem State.freeLaneCore_cases (s : State) (t k : Nat) :
    ∃ u : State, u.laneView = s.laneView ∧ (∀ j, (s.core j).Vacant → (u.core j).Vacant)
      ∧ s.freeLaneCore t k = u.setCore k (fun x => { x with holders := [], lastCtx := none }) := by
  unfold State.freeLaneCore
  extract_lets hs last foreign s1 s2 s3
  have h1 : s1.laneCores = s.laneCores := foldl_keeps State.laneCores (fun y h => y.saveOff_laneCores ..) ..
  have h2 : s2.laneCores = s1.laneCores := foldl_keeps State.laneCores (fun y h => foldl_keeps State.laneCores (fun z r => z.clear_laneCores ..) ..) ..
  obtain ⟨hview, hcores⟩ := Prod.mk.inj (h2.trans h1)
  have hvacant : ∀ j, (s.core j).Vacant → (s2.core j).Vacant := fun j hj => by rwa [State.core, hcores]
  refine ⟨s3, ?_, fun j hj => ?_, rfl⟩
  · simp only [s3, apply_ite State.laneView]
    exact (ite_self _).trans hview
  · by_cases hf : foreign.isEmpty = true
    · simpa only [s3, if_pos hf] using hvacant j hj
    · simp only [s3, if_neg hf]
      exact State.vacant_setCore k (fun _ hc => hc) (hvacant j hj)

theorem State.freeLaneCore_laneView (s : State) (t k : Nat) : (s.freeLaneCore t k).laneView = s.laneView := by
  obtain ⟨u, hview, -, e⟩ := s.freeLaneCore_cases t k
  exact e ▸ hview

theorem State.freeLaneCore_vacant_same (s : State) (t k : Nat) : ((s.freeLaneCore t k).core k).Vacant := by
  obtain ⟨u, -, -, e⟩ := s.freeLaneCore_cases t k
  exact e ▸ u.vacant_setCore_same k (fun _ => ⟨rfl, rfl⟩)

theorem State.freeLaneCore_vacant {s : State} {j : Nat} (t k : Nat) (h : (s.core j).Vacant) : ((s.freeLaneCore t k).core j).Vacant := by
  obtain ⟨u, -, hvacant, e⟩ := s.freeLaneCore_cases t k
  exact e ▸ State.vacant_setCore k (fun _ _ => ⟨rfl, rfl⟩) (hvacant j h)

/-- Freeing the cores of a list leaves each of them vacant. -/
theorem State.foldl_freeLaneCore_vacant (s : State) (t : Nat) {l : List Nat} {j : Nat} (h : j ∈ l ∨ (s.core j).Vacant) :
    ((l.foldl (fun x k => x.freeLaneCore t k) s).core j).Vacant := by
  induction l generalizing s with
  | nil => simpa using h
  | cons k r ih =>
    apply ih
    rcases h with h | h
    · rcases List.mem_cons.1 h with rfl | h
      · exact .inr (s.freeLaneCore_vacant_same t _)
      · exact .inl h
    · exact .inr (State.freeLaneCore_vacant t k h)

/-- Where a reservation's cores are drained its LANE_RESERVE completes, and the cores hold no context (R101). -/
theorem State.endLane_drained {s : State} {h : Nat} {r : Reservation} (id : Nat) (hr : NMap.get? s.dom.reservations h = some r)
    (hd : s.laneDrained r.coreMask = true) :
    ∃ u : State, s.endLane id h = u.finish id 0 [h] ∧ u.dom.reservations = NMap.upd s.dom.reservations h (fun x => { x with draining := false })
      ∧ (∀ k ∈ maskList 16 r.coreMask, (u.core k).holders = [] ∧ (u.core k).lastCtx = none) ∧ u.q = s.q ∧ u.pkts = s.pkts := by
  let s1 := (maskList 16 r.coreMask).foldl (fun x k => x.freeLaneCore r.tenant k) s
  let u : State := { s1 with dom := { s1.dom with reservations := NMap.upd s1.dom.reservations h (fun x => { x with draining := false }) } }
  have hview : s1.laneView = s.laneView := foldl_keeps State.laneView (fun y k => y.freeLaneCore_laneView ..) ..
  simp only [State.laneView, Prod.mk.injEq] at hview
  obtain ⟨hq, hpkts, hres⟩ := hview
  have hend : s.endLane id h = u.finish id 0 [h] := by simp [State.endLane, hr, hd, u, s1]
  exact ⟨u, hend, by rw [← hres], fun k hk => s.foldl_freeLaneCore_vacant r.tenant (.inl hk), hq, hpkts⟩

/-- The lowest free handle takes a new reservation, which waits until its cores are drained (R100, R101, R461). -/
theorem specLaneReserve_run {e : Env} {s : State} {h : Nat} (hroom : e.p.word 5 ≤ s.laneRoom) (h4 : h < 4) (hfree : NMap.has s.dom.reservations h = false)
    (hlow : ∀ k < h, NMap.has s.dom.reservations k = true) :
    let r : Reservation := { tenant := e.p.f 3 19 16, coreMask := e.p.f 3 15 0, planShare := e.p.f 4 29 24, systems := e.p.f 4 19 16, loops := e.p.f 4 15 8
                             powerMw := e.p.word 5, hbmBw := e.p.f 6 15 0, draining := true }
    let v : State := { s with dom := { s.dom with reservations := NMap.put s.dom.reservations h r }, pwr := { s.pwr with stopped := [] } }
    specLaneReserve.run e s = if v.laneDrained r.coreMask then v.endLane e.id h else v.setJob e.id (.waits (.lane h)) := by
  intro r v
  have hfind : (List.range 4).find? (fun k => !(NMap.has s.dom.reservations k)) = some h :=
    List.find?_range_eq_some.2 ⟨by simp [hfree], List.mem_range.2 h4, fun k hk => by simp [hlow k hk]⟩
  simp only [specLaneReserve, if_neg (Nat.not_lt.2 hroom), hfind]
  rfl

/-- Settles O31 from the rules of the contexts and of the fixed lane. -/
theorem contextCommands : Obligations.ContextCommands := by
  unfold Obligations.ContextCommands
  refine ⟨fun src p s t h ht => ?create, fun src p s h => ?destroy, fun s id o hp hs hf hj => ?destroyed,
    fun src p s h ha => ⟨fun hover => ?denied, fun hroom h4 hfree hlow => ?reserved⟩,
    fun s id h r hr hd => State.endLane_drained id hr hd, fun src p s h => OpSpec.next_exec_accepted h (by decide) rfl⟩
  case create => exact OpSpec.next_exec_accepted h (by decide) (specContextCreate_run (e := specContextCreate.env src p s) ht)
  case denied => exact OpSpec.next_exec_accepted ha (by decide) (if_pos hover)
  case reserved => exact OpSpec.next_exec_accepted ha (by decide) (specLaneReserve_run (e := specLaneReserve.env src p s) hroom h4 hfree hlow)
  case destroy =>
    intro c
    obtain ⟨hgone, hjob, hmem, hcores, hms⟩ := specContextDestroy_run (specContextDestroy.env src p s) (specContextDestroy.taken src p s)
    refine ⟨_, OpSpec.next_exec_accepted h (by decide) rfl, fun x hx => hgone x ?_, hjob, hmem.trans (OpSpec.taken_mem ..), ?_,
      hms.trans (OpSpec.taken_ms ..)⟩
    · rwa [State.ctx?, OpSpec.taken_dom]
    · rw [hcores, OpSpec.taken_dom]
  case destroyed =>
    rw [exec_commitPoint_waits hp hs hf hj]
    obtain ⟨u, e, hfacts⟩ := s.destroyCtx_frees o.id o.pkt.ctx
    exact ⟨u, congrArg _ e, hfacts⟩

end Sys2Proof.Machine
end

section
/-! PROOFS of ScalarCores (O27): the tensor-control instructions (R153, Table 5.10), traps (R151) and the tensioner's step (R159). -/

namespace Sys2Proof.Machine

/-! ### The end of queued operations -/

/-- An operation that completes takes those of its token off the core; a core that does not exist has none. -/
theorem State.opDone_ops (s : State) (k : Nat) (o : CoreOp) :
    ((s.opDone k o).core k).ops = (s.core k).ops.filter (fun y => y.token ≠ o.token) := by
  unfold State.opDone
  extract_lets n add
  show ((s.setCore k _).core k).ops = _
  rw [State.core_setCore]
  by_cases hk : k < s.dom.cores.length
  · rw [if_pos ⟨rfl, hk⟩]
  · have hnone : s.core k = {} := by
      rw [State.core, List.getD_eq_getElem?_getD, List.getElem?_eq_none (Nat.not_lt.1 hk), Option.getD_none]
    rw [if_neg (fun h => hk h.2), hnone]
    rfl

/-- The operations listed complete on core `k`, one after the other. -/
def State.opsDone (s : State) (k : Nat) (l : List CoreOp) : State := l.foldl (fun x o => x.opDone k o) s

/-- Once the operations listed have completed, the core holds those of its operations whose tokens are not among them. -/
theorem State.mem_ops_opsDone {s : State} {k : Nat} {l : List CoreOp} {y : CoreOp} :
    y ∈ ((s.opsDone k l).core k).ops ↔ y ∈ (s.core k).ops ∧ ∀ o ∈ l, y.token ≠ o.token := by
  induction l generalizing s with
  | nil => simp [State.opsDone]
  | cons o r ih =>
    have hstep : y ∈ ((s.opDone k o).core k).ops ↔ y ∈ (s.core k).ops ∧ y.token ≠ o.token := by simp [State.opDone_ops]
    rw [State.opsDone, List.foldl_cons, ← State.opsDone, ih, hstep, List.forall_mem_cons, and_assoc]

@[simp] theorem State.opsDone_pkts (s : State) (k : Nat) (l : List CoreOp) : (s.opsDone k l).pkts = s.pkts :=
  foldl_keeps State.pkts (op := fun x o => x.opDone k o) (fun _ _ => rfl) l s

@[simp] theorem State.opsDone_mem (s : State) (k : Nat) (l : List CoreOp) : (s.opsDone k l).mem = s.mem :=
  foldl_keeps State.mem (op := fun x o => x.opDone k o) (fun _ _ => rfl) l s

/-! ### Tensor-control instructions and traps while the module is up -/

section
variable {s : State} (hup : s.clocked = true)
include hup

theorem exec_tdescLd (k sc td a : Nat) :
    exec (.tdescLd k sc td a) s = .next (s.setCore k (fun c => { c with
      desc := NMap.put c.desc (sc * 65536 + td) { raw := match s.corePkt? k with | some o => s.see o.pkt a 64 | none => s.load a 64 } })) :=
  congrArg _ (State.whileUp_of hup)

theorem exec_tdescSet (k sc td f v : Nat) :
    exec (.tdescSet k sc td f v) s = .next (s.setCore k (fun c =>
      let d := NMap.getD c.desc (sc * 65536 + td) {}
      { c with desc := NMap.put c.desc (sc * 65536 + td) { d with fields := NMap.put d.fields f v } })) :=
  congrArg _ (State.whileUp_of hup)

theorem exec_tStat (k sc q : Nat) :
    exec (.tStat k sc q) s = .next (s.setCore k (fun c => { c with counts := NMap.put c.counts sc (c.stats.getD q {}) })) :=
  congrArg _ (State.whileUp_of hup)

/-- A queue with room takes the operation at once (R153). -/
theorem exec_tIssue_room {k q : Nat} (sc : Nat) (hroom : ((s.core k).ops.filter (fun o => o.queue = q)).length < queueDepth q) :
    exec (.tIssue k sc q) s = .next (s.setCore k (fun c => { c with
      ops := c.ops ++ [⟨q, c.nextToken⟩], nextToken := c.nextToken + 1, tokens := NMap.put c.tokens sc c.nextToken })) := by
  have hdepth : queueDepth q ≠ 0 := Nat.ne_zero_of_lt hroom
  show execTIssue k sc q s = _
  simp only [execTIssue, State.whileUp_of hup, if_neg (Nat.not_le.2 hroom), if_neg hdepth]

/-- t.wait of a token that is not in flight (R153). -/
theorem exec_tWait_absent {k token : Nat} (h : ∀ o ∈ (s.core k).ops, o.token ≠ token) : exec (.tWait k token) s = .next s := by
  have hfind : (s.core k).ops.find? (fun o => o.token = token) = none := List.find?_eq_none.2 (by simpa using h)
  show execTWait k token s = _
  simp only [execTWait, State.whileUp_of hup, hfind]

/-- t.wait completes operations of the core's queues, among them one with the token if any is in flight (R153). -/
theorem exec_tWait (k token : Nat) :
    ∃ l : List CoreOp, exec (.tWait k token) s = .next (s.opsDone k l) ∧ ((∃ o ∈ (s.core k).ops, o.token = token) → ∃ o ∈ l, o.token = token) := by
  cases hfind : (s.core k).ops.find? (fun o => o.token = token) with
  | none =>
    have habsent : ∀ o ∈ (s.core k).ops, o.token ≠ token := by simpa using hfind
    exact ⟨[], exec_tWait_absent hup habsent, fun ⟨o, ho, ht⟩ => absurd ht (habsent o ho)⟩
  | some o =>
    have ht : o.token = token := by simpa using List.find?_some hfind
    refine ⟨(s.core k).ops.filter (fun y => y.queue = o.queue && y.token ≤ token), ?_, fun _ => ⟨o, ?_, ht⟩⟩
    · show execTWait k token s = _
      simp only [execTWait, State.whileUp_of hup, hfind]
      rfl
    · exact List.mem_filter.2 ⟨List.mem_of_find?_eq_some hfind, by simp [ht]⟩

/-- t.waitq completes what the queue holds. -/
theorem exec_tWaitq (k q : Nat) :
    exec (.tWaitq k q) s = .next (s.opsDone k ((s.core k).ops.filter (fun o => o.queue = q))) :=
  congrArg _ (State.whileUp_of hup)

/-- A trap on S0 to S2 tears down the context whose packet runs on the core (R151). -/
theorem exec_scalarTrap_compute {k sc : Nat} {o : OutPkt} (hsc : sc < 3) (ho : s.corePkt? k = some o) :
    exec (.scalarTrap k sc) s = .next (s.tearDown o.pkt.ctx 4) := by
  show execScalarTrap k sc s = _
  simp only [execScalarTrap, State.whileUp_of hup, if_pos hsc, ho]

/-- A trap on S3 fences the core (R151). -/
theorem exec_scalarTrap_control {k sc : Nat} (hsc : 3 ≤ sc) : exec (.scalarTrap k sc) s = .next (s.failCore k 2 5) := by
  show execScalarTrap k sc s = _
  simp only [execScalarTrap, State.whileUp_of hup, if_neg (Nat.not_lt.2 hsc)]

end

/-! ### The tensioner -/

/-- Core `k` with one engine a step nearer to its target: a group of the array (0) or of a vector unit (1, 2), or 100 MHz of clock. -/
def State.steppedCore (s : State) (k engine : Nat) : Core :=
  let c := s.core k
  match engine with
  | 0 => { c with g := toward c.g (s.wantGroups k 0) 1 }
  | 1 => { c with v0 := toward c.v0 (s.wantGroups k 1) 1 }
  | 2 => { c with v1 := toward c.v1 (s.wantGroups k 2) 1 }
  | _ => { c with mhz := toward c.mhz (s.wantMhz k) 100 }

/-- The engine is of the array or a vector unit, and another one rises before it (Table 5.18). -/
def State.yields (s : State) (k engine : Nat) : Bool :=
  match s.firstEngine k with
  | some x => engine < 3 && x ≠ engine
  | none => false

theorem State.yields_clock (s : State) (k : Nat) : s.yields k 3 = false := by
  unfold State.yields
  cases s.firstEngine k <;> rfl

theorem State.yields_of_first {s : State} {k e : Nat} (h : ∀ x, s.firstEngine k = some x → x = e) : s.yields k e = false := by
  unfold State.yields
  cases hx : s.firstEngine k with
  | none => rfl
  | some x => simp [h x hx]

section
variable {s : State} {k e : Nat} (hup : s.pwr.phase = .up) (hk : k < 16) (he : e < 4)
include hup hk he

/-- While the module is up, a step of an engine of one of the cores waits for the gap and for the engine that rises first; then it is made and noted. -/
theorem exec_tensionerStep :
    exec (.tensionerStep k e) s = .next (
      if (s.core k).lastMa ≠ 0 && (s.time.tick - (s.core k).lastStep) * 4 < s.stepGap k || s.yields k e then s
      else if s.steppedCore k e = s.core k then s
      else { s with dom := { s.dom with
        cores := setAt s.dom.cores k { s.steppedCore k e with lastStep := s.time.tick, lastMa := if e = 0 || e = 3 then 600 else 300 } } }) := by
  have hserved : ¬ (16 ≤ k || 4 ≤ e || s.pwr.phase ≠ .up) = true := by simp [hup, hk, he]
  exact congrArg _ (if_neg hserved)

/-- A step before its gap has passed (R159). -/
theorem exec_tensionerStep_early (hma : (s.core k).lastMa ≠ 0) (hgap : (s.time.tick - (s.core k).lastStep) * 4 < s.stepGap k) :
    exec (.tensionerStep k e) s = .next s := by
  rw [exec_tensionerStep hup hk he, if_pos (by simp [hma, hgap])]

/-- A step that is due, of an engine that no other goes before, away from its target (R159, Table 5.18). -/
theorem exec_tensionerStep_due (hdue : (s.core k).lastMa = 0 ∨ s.stepGap k ≤ (s.time.tick - (s.core k).lastStep) * 4)
    (hfree : s.yields k e = false) (hmove : s.steppedCore k e ≠ s.core k) :
    exec (.tensionerStep k e) s = .next { s with dom := { s.dom with
      cores := setAt s.dom.cores k { s.steppedCore k e with lastStep := s.time.tick, lastMa := if e = 0 || e = 3 then 600 else 300 } } } := by
  have hgap : ((s.core k).lastMa ≠ 0 && (s.time.tick - (s.core k).lastStep) * 4 < s.stepGap k) = false := by
    simpa [Decidable.or_iff_not_imp_left] using hdue
  rw [exec_tensionerStep hup hk he, hgap, hfree, Bool.or_false, if_neg Bool.false_ne_true, if_neg hmove]

end

/-! ### ScalarCores -/

/-- Settles O27, clause by clause from the rules of the instructions and of the tensioner. -/
theorem scalarCores : Obligations.ScalarCores := by
  unfold Obligations.ScalarCores
  refine ⟨fun s k sc td a hup => exec_tdescLd hup k sc td a, fun s k sc td f v hup => exec_tdescSet hup k sc td f v,
    fun s k sc q hup hroom => exec_tIssue_room hup sc hroom, fun s k token hup => ⟨exec_tWait_absent hup, ?wait⟩, fun s k q hup _ => ?waitq,
    fun s k sc q hup => exec_tStat hup k sc q, fun s k sc o hup ho => ⟨fun hsc => exec_scalarTrap_compute hup hsc ho, exec_scalarTrap_control hup⟩,
    fun s k e hup hk he => ⟨exec_tensionerStep_early hup hk he, ?clock, ?array⟩⟩
  case wait =>
    obtain ⟨l, hexec, htoken⟩ := exec_tWait hup k token
    refine ⟨_, hexec, fun _ o ho ht => ?_, s.opsDone_pkts k l, s.opsDone_mem k l⟩
    obtain ⟨hflight, hleft⟩ := State.mem_ops_opsDone.1 ho
    obtain ⟨x, hx, hxt⟩ := htoken ⟨o, hflight, ht⟩
    exact hleft x hx (ht.trans hxt.symm)
  case waitq =>
    refine ⟨_, exec_tWaitq hup k q, fun o ho hq => ?_, s.opsDone_pkts .., s.opsDone_mem ..⟩
    obtain ⟨hflight, hleft⟩ := State.mem_ops_opsDone.1 ho
    exact hleft o (List.mem_filter.2 ⟨hflight, by simpa using hq⟩) rfl
  case clock =>
    rintro rfl hdue hmove
    exact exec_tensionerStep_due hup hk he hdue (s.yields_clock k) (fun h => hmove (congrArg Core.mhz h))
  case array =>
    rintro rfl hdue hfirst hmove
    exact exec_tensionerStep_due hup hk he hdue (State.yields_of_first hfirst) (fun h => hmove (congrArg Core.g h))

end Sys2Proof.Machine
end

section
/-! SUPPORT. Operations at draft level 0 in this module's memory: their start (R60, R410), their commit point (R62, R63), and the end of a packet with its
reply (R49, R52). -/

namespace Sys2Proof.Machine

/-! ### The checks of an accepted packet -/

/-- A packet that passes the checks of Table 2.12 passes those of its parameters. -/
theorem OpSpec.params_of_check {sp : OpSpec} {e : Env} {s : State} (h : sp.check e s = none) : sp.params e s = none := by
  cases hx : sp.params e s with
  | none => rfl
  | some x =>
    simp only [OpSpec.check, hx] at h
    repeat' split at h
    all_goals cases h

/-- An accepted packet's parameters pass their checks (R47). -/
theorem OpSpec.params_of_accepts {sp : OpSpec} {src : Src} {p : Packet} {s : State} (h : sp.accepts src p s = true) :
    sp.params (sp.env src p s) (sp.taken src p s) = none := by
  simp only [OpSpec.accepts, Bool.and_eq_true, Option.isNone_iff_eq_none] at h
  exact OpSpec.params_of_check h.1.2

/-! ### The trace unit, off -/

/-- With the trace off nothing is recorded (R495). -/
theorem State.trace_off {s : State} (t : TraceEv) (h : s.dbg.traceOn = false) : s.trace t = s := by
  simp [State.trace, h]

/-! ### The start of local work -/

/-- Each piece of a range starts inside it (R392). -/
theorem piece_start_lt {i n : Nat} (h : i < ceilDiv n 8192) : i * 8192 < n := by
  unfold ceilDiv at h
  omega

/-- Result writes in this module's memory send nothing to peers. -/
theorem State.sendWrites_local {s : State} (id : Nat) (q : Packet) {ws : List ResWrite} (h : ∀ w ∈ ws, ∀ i < w.bytes.length, remoteNode (w.addr + i) = none) :
    s.sendWrites id q ws = s := by
  refine List.foldlRecOn (ws.flatMap ResWrite.pieces) _ (motive := (· = s)) rfl fun x hx r hr => ?_
  obtain ⟨w, hw, hpiece⟩ := List.mem_flatMap.1 hr
  obtain ⟨i, hi, rfl⟩ := List.mem_map.1 hpiece
  have hnone := h w hw _ (piece_start_lt (List.mem_range.1 hi))
  dsimp only
  split
  · next hplace => simp [remoteNode, hplace] at hnone
  · exact hx

/-- Local destinations are made unspecified one after the other (R60). -/
theorem State.foldl_scramble_local (s : State) {ws : List ResWrite} (h : ∀ r ∈ ws, remoteNode r.addr = none) :
    ws.foldl (fun x r => if (remoteNode r.addr).isSome then x else x.scramble r.addr r.bytes.length) s = ws.foldl (fun x r => x.scramble r.addr r.bytes.length) s := by
  induction ws generalizing s with
  | nil => rfl
  | cons r ws ih =>
    have hhere : ¬ (remoteNode r.addr).isSome = true := by rw [h r (List.mem_cons_self ..)]; exact Bool.false_ne_true
    rw [List.foldl_cons, List.foldl_cons, if_neg hhere]
    exact ih _ (fun x hx => h x (List.mem_cons_of_mem _ hx))

/-- Local work at draft level 0 is outstanding once it starts, and its destinations are unspecified (R60). -/
theorem State.startWork_local {s : State} {e : Env} {w : Work} (hlevel : e.p.level = 0) (hesc : w.esc = false) (htrace : s.dbg.traceOn = false)
    (hlocal : ∀ r ∈ w.writes, remoteNode r.addr = none) :
    s.startWork e w = w.writes.foldl (fun x r => x.scramble r.addr r.bytes.length) (s.setJob e.id (.work w)) := by
  have hoff : (s.setJob e.id (.work w)).dbg.traceOn = false := htrace
  simp only [State.startWork, hesc, hlevel, State.trace_off _ hoff, Bool.false_eq_true, if_false, ne_eq, not_true_eq_false]
  exact State.foldl_scramble_local _ hlocal

/-- A transfer at draft level 0 whose ranges all lie in this module's memory starts at once, its source bytes read (R410). -/
theorem State.startDma_local {s : State} {e : Env} {ds : List Desc} (hlevel : e.p.level = 0) (hroute : s.noRoute (ds.flatMap (fun d => [Desc.src d, Desc.dst d])) = none)
    (hreads : ∀ r ∈ ds.flatMap Desc.reads, remoteNode r.1 = none) (hwrites : ∀ w ∈ (s.dmaWork e.p ds []).writes, ∀ i < w.bytes.length, remoteNode (w.addr + i) = none) :
    s.startDma e ds = s.startWork e { s.dmaWork e.p ds [] with sent := true } := by
  have hrem : (ds.flatMap Desc.reads).filter (fun r => (remoteNode r.1).isSome) = [] := List.filter_eq_nil_iff.2 fun r hr => by simp [hreads r hr]
  have hpeers : s.notePeers e.p (ds.map Desc.dst) = s := if_pos hlevel
  simp only [State.startDma, hroute, hrem, hpeers, State.sendWrites_local e.id e.p hwrites, List.isEmpty_nil, if_true, ite_self]

/-! ### The commit point of local work -/

/-- The age stamps of result writes, set one after the other (R21). -/
def State.stampAll (s : State) (ws : List ResWrite) (t : Option Nat) : State := ws.foldl (fun x r => x.stampWrite r.addr r.bytes.length t) s

theorem State.doAfters_stamps (s : State) (o : OutPkt) (ws : List ResWrite) (t : Option Nat) :
    s.doAfters o none (ws.map (fun r => .stamp r.addr r.bytes.length t)) = (s.stampAll ws t, none) := by
  induction ws generalizing s with
  | nil => rfl
  | cons r ws ih => simp [State.doAfters, State.doAfter, ih, State.stampAll]

/-- What landing result writes in place and stamping them keep. -/
def State.landView (s : State) : Queues × List OutPkt × Domains × TimeState × DebugState := (s.q, s.pkts, s.dom, s.time, s.dbg)

theorem State.stampAll_landView (s : State) (ws : List ResWrite) (t : Option Nat) : (s.stampAll ws t).landView = s.landView :=
  foldl_keeps State.landView (op := fun (x : State) (r : ResWrite) => x.stampWrite r.addr r.bytes.length t) (fun _ _ => rfl) ws s

theorem State.stampAll_mem (s : State) (ws : List ResWrite) (t : Option Nat) : (s.stampAll ws t).mem = s.mem :=
  foldl_keeps State.mem (op := fun (x : State) (r : ResWrite) => x.stampWrite r.addr r.bytes.length t) (fun _ _ => rfl) ws s

/-- Local result writes at draft level 0 land in place, in order (R63). -/
theorem State.foldl_land_local (s : State) {ws : List ResWrite} (h : ∀ r ∈ ws, remoteNode r.addr = none) :
    (ws.foldl (fun x r => x.land none r) s).landView = s.landView
      ∧ (ws.foldl (fun x r => x.land none r) s).mem = ws.foldl (fun m r => memPuts m r.addr r.bytes) s.mem := by
  induction ws generalizing s with
  | nil => exact ⟨rfl, rfl⟩
  | cons r ws ih =>
    have hland : s.land none r = s.store r.addr r.bytes := if_neg (by simp [h r (List.mem_cons_self ..)])
    obtain ⟨hview, hmem⟩ := ih (s.store r.addr r.bytes) (fun x hx => h x (List.mem_cons_of_mem _ hx))
    simp only [List.foldl_cons, hland]
    exact ⟨hview, hmem⟩

/-- Local work at draft level 0, with nothing else to do at its commit point, lands its result writes in place and ends (R62, R63). -/
theorem State.commitWork_local {s : State} {o : OutPkt} {w : Work} (hlevel : o.pkt.level = 0) (hafter : w.after = [])
    (hlocal : ∀ r ∈ w.writes, remoteNode r.addr = none) (hesc : ∀ d ∈ s.dr.drafts, d.esc ≠ some o.id) (htrace : s.dbg.traceOn = false) :
    ∃ v : State, s.commitWork o w = v.finish o.id w.status w.details ∧ v.landView = s.landView
      ∧ v.mem = w.writes.foldl (fun m r => memPuts m r.addr r.bytes) s.mem := by
  have hdrop : s.dropEsc o.id = s := by
    unfold State.dropEsc
    rw [List.find?_eq_none.2 (by simpa using hesc)]
  obtain ⟨hview, hmem⟩ := s.foldl_land_local hlocal
  let v := (w.writes.foldl (fun x r => x.land none r) s).stampAll w.writes w.stamp
  have hkept : v.landView = s.landView := (State.stampAll_landView ..).trans hview
  have hoff : v.dbg.traceOn = false := (congrArg (fun x => x.2.2.2.2.traceOn) hkept).trans htrace
  refine ⟨v, ?_, hkept, (State.stampAll_mem ..).trans hmem⟩
  have hdone : ((w.writes.foldl (fun x r => x.land none r) (s.dropEsc o.id)).doAfters o none
      (w.writes.map (fun r => .stamp r.addr r.bytes.length w.stamp) ++ w.after)) = (v, none) := by
    rw [hdrop, hafter, List.append_nil, State.doAfters_stamps]
  unfold State.commitWork
  rw [if_pos hlevel]
  dsimp only
  rw [hdone, State.trace_off _ hoff, hafter]
  rfl

/-- Nothing is frozen where there is no draft (R206). -/
theorem State.workFrozen_of_no_drafts {s : State} (w : Work) (h : s.dr.drafts = []) : s.workFrozen w = false := by
  simp [State.workFrozen, State.frozen, h]

/-- At its commit point local work, its copies made, lands (R62). -/
theorem exec_commitPoint_work {s : State} {id : Nat} {o : OutPkt} {w : Work} (hp : s.pkt? id = some o) (hs : s.serves = true)
    (hf : s.flyerHalted o.flyer = false) (hj : o.job = .work w) (hremote : ∀ r ∈ s.ply.remote, r.pkt ≠ some o.id) (hfrozen : s.workFrozen w = false)
    (hdma : w.dma = []) (hlocal : ∀ r ∈ w.writes, remoteNode r.addr = none) : exec (.commitPoint id) s = .next (s.commitWork o w) := by
  have hacks : s.ply.remote.any (fun r => r.pkt = some o.id) = false := by simpa using hremote
  have hhere : w.writes.any (fun r => (remoteNode r.addr).isSome) = false := by simpa using hlocal
  show execCommitPoint id s = _
  simp [execCommitPoint, hs, hp, hj, hf, State.commitPoint, hacks, hfrozen, hdma, hhere]

/-! ### The end of a packet with its reply -/

/-- The completion slot that a bobbin's next reply goes to (R49, R50). -/
def Bobbin.nextSlot (b : Bobbin) : Addr := b.cplBase + 32 * (b.cplTail.toNat % 2 ^ b.sizeLog2)

/-- A delivered reply, where the ring has room and none is held, changes no byte outside its slot (R52). -/
theorem State.memGet_deliver {s : State} {n : Nat} (r : Reply) {x : Addr} (hmem : s.MemCanon) (hroom : (s.bob n).room = true) (hheld : (s.bob n).held = [])
    (hx : x < (s.bob n).nextSlot ∨ (s.bob n).nextSlot + 32 ≤ x) : memGet (s.deliver n r).mem x = memGet s.mem x := by
  have hwrite : memGet (s.writeReply n r).mem x = memGet s.mem x := by
    rcases s.writeReply_cases n r with ⟨-, e⟩ | ⟨-, e⟩
    · rw [e, State.setBob_mem]
    · have hirq (y : State) : (y.checkIrq n).mem = y.mem := by rcases y.checkIrq_cases n with e | e <;> simp [e]
      have hlen : (wordBytes (replyWords r (s.bob n).cplTail (s.bob n).sizeLog2)).length = 32 := wordBytes_length _
      rw [e, hirq, State.setBob_mem, State.store_mem]
      exact memGet_memPuts_out _ _ _ hmem (by rwa [hlen])
  unfold State.deliver
  simp only [hroom, hheld, List.isEmpty_nil, Bool.and_self, if_true]
  split
  · rfl
  split
  · rfl
  · exact hwrite

/-- A packet of a bobbin that asks for a reply leaves the outstanding packets, and its reply is delivered; before that the bobbin only notes the packet's end (R62). -/
theorem State.endPkt_reply {s : State} {o : OutPkt} {n : Nat} (st : Nat) (d : List Nat) (hsrc : o.src = .bobbin n) (hn : n < 224) (hreply : o.pkt.reply = true)
    (htrace : s.dbg.traceOn = false) :
    ∃ (u : State) (r : Reply), s.endPkt o st d = u.deliver n r ∧ u.mem = s.mem
      ∧ u.pkts = (s.pkts.filter (fun x => x.id ≠ o.id)).map (fun x => { x with pred := x.pred.map (fun l => l.ended o.id st) })
      ∧ (u.bob n).nextSlot = (s.bob n).nextSlot ∧ (u.bob n).room = (s.bob n).room ∧ (u.bob n).held = (s.bob n).held := by
  unfold State.endPkt
  extract_lets live en _ _ _ _ _ out tainted counted traced
  obtain ⟨hmem, hpkts, hbobs, hoff⟩ : counted.mem = s.mem ∧ counted.pkts = out.pkts ∧ counted.q.bobbins = s.q.bobbins ∧ counted.dbg.traceOn = false := by
    unfold counted
    split <;> exact ⟨rfl, rfl, rfl, htrace⟩
  have htraced : traced = counted.bump 1 (s.pktTenant o) ((o.pkt.opcode / 256 - 1) * 8 + st / 256) 0 1 := State.trace_off _ hoff
  have hbob : traced.bob n = s.bob n := by simp [State.bob, htraced, hbobs]
  clear_value traced
  simp only [hsrc, hreply, Bool.not_true, Bool.and_false, Bool.false_eq_true, if_false, if_neg (Nat.not_le.2 hn)]
  refine ⟨_, _, rfl, ?_, ?_, ?_⟩
  · rw [State.setBob_mem, htraced, State.bump_mem, hmem]
  · rw [State.setBob_pkts, htraced, State.bump_pkts, hpkts]
  · simp [hbob, Bobbin.nextSlot, Bobbin.room]

/-- The only outstanding packet, from a bobbin with room for its reply, ends: none is left, and no byte outside the reply's slot changes. -/
theorem State.finish_reply {s : State} {o : OutPkt} {n : Nat} (st : Nat) (d : List Nat) (halone : s.pkts = [o]) (hsrc : o.src = .bobbin n) (hn : n < 224)
    (hreply : o.pkt.reply = true) (htrace : s.dbg.traceOn = false) (hroom : (s.bob n).room = true) (hheld : (s.bob n).held = []) :
    (s.finish o.id st d).pkts = []
      ∧ (s.MemCanon → ∀ x, (x < (s.bob n).nextSlot ∨ (s.bob n).nextSlot + 32 ≤ x) → memGet (s.finish o.id st d).mem x = memGet s.mem x) := by
  have hfound : s.pkt? o.id = some o := by simp [State.pkt?, halone]
  obtain ⟨u, r, hend, hmem, hpkts, hslot, hroom', hheld'⟩ := State.endPkt_reply st d hsrc hn hreply htrace
  rw [State.finish_some st d _ hfound, hend]
  refine ⟨?_, fun hcanon x hx => ?_⟩
  · rw [(u.deliver_frame n r).1, hpkts]
    simp [halone]
  · rw [← hmem]
    have hcanon : u.MemCanon := by rwa [State.MemCanon, hmem]
    exact State.memGet_deliver r hcanon (hroom'.trans hroom) (hheld'.trans hheld) (by rwa [hslot])

end Sys2Proof.Machine
end

section
/-! PROOFS of CopyLands (O21): a plain DMA_COPY of one row (R177, R178) from its start to its commit point. -/

namespace Sys2Proof.Machine

/-! ### The copy of one row -/

@[simp] theorem readBytes_length (rd : Addr → Byte) (a n : Nat) : (readBytes rd a n).length = n := by simp [readBytes]

@[simp] theorem freeBytes_length (s : State) (n : Nat) : (freeBytes s n).length = n := by simp [freeBytes]

theorem poisonedIn_nil (rs : List (Addr × Nat)) : poisonedIn [] rs = [] := by simp [poisonedIn]

theorem descPoison_nil (d : Desc) : descPoison [] d = [] := by simp [descPoison]

/-- At draft level 0, with nothing received from peers, a packet reads committed memory (Table 7.3). -/
theorem State.reader_undrafted {s : State} {q : Packet} (h : q.level = 0) : s.reader q [] = memGet s.mem := by
  funext a
  simp [State.reader, h, State.chain, State.byteSeen]

/-- The descriptor that a DMA_COPY without a list carries in its words 4 to 15 (Table 6.10). -/
def copyDesc (q : Packet) : Desc := (List.range 12).map (fun i => q.word (4 + i))

theorem State.descs_inPacket {s : State} {q : Packet} (h : q.b 3 31 = false) : s.descs q = [copyDesc q] := by
  simp [State.descs, copyDesc, h]

theorem Desc.srcAt_zero (d : Desc) : Desc.srcAt d 0 = Desc.src d := by rw [Desc.srcAt, Nat.zero_mul, Nat.add_zero]

theorem Desc.dstAt_zero (d : Desc) : Desc.dstAt d 0 = Desc.dst d := by rw [Desc.dstAt, Nat.zero_mul, Nat.add_zero]

/-- A plain descriptor of one row between addresses of this module. -/
structure RowCopy (d : Desc) : Prop where
  plain : Desc.convert d = false
  oneRow : Desc.rows d = 1
  nonempty : 0 < Desc.rowBytes d
  fromHere : ∀ i < Desc.rowBytes d, remoteNode (Desc.src d + i) = none
  toHere : ∀ i < Desc.rowBytes d, remoteNode (Desc.dst d + i) = none

/-- The one result write of a row copy: the bytes that the source holds now, for the destination (R177). -/
def State.rowWrite (s : State) (d : Desc) : ResWrite := ⟨Desc.dst d, readBytes (memGet s.mem) (Desc.src d) (Desc.rowBytes d)⟩

@[simp] theorem State.rowWrite_addr (s : State) (d : Desc) : (s.rowWrite d).addr = Desc.dst d := rfl
@[simp] theorem State.rowWrite_length (s : State) (d : Desc) : (s.rowWrite d).bytes.length = Desc.rowBytes d := readBytes_length ..

/-- The work of a row copy: the source read, the destination written, OK without details. -/
def State.rowWork (s : State) (d : Desc) : Work := { writes := [s.rowWrite d], reads := [(Desc.src d, Desc.rowBytes d)] }

@[simp] theorem State.rowWork_writes (s : State) (d : Desc) : (s.rowWork d).writes = [s.rowWrite d] := rfl

section
variable {d : Desc} (hd : RowCopy d)
include hd

theorem RowCopy.reads_eq : Desc.reads d = [(Desc.src d, Desc.rowBytes d)] := by
  have hrows : (List.range 1).map (fun r => (Desc.srcAt d r, Desc.rowBytes d)) = [(Desc.srcAt d 0, Desc.rowBytes d)] := rfl
  rw [Desc.reads, hd.oneRow, hrows, Desc.srcAt_zero, hd.plain, Bool.false_and, if_neg Bool.false_ne_true, List.append_nil]

theorem RowCopy.source_here : remoteNode (Desc.src d) = none := by
  have h := hd.fromHere 0 hd.nonempty
  rwa [Nat.add_zero] at h

theorem RowCopy.dest_here : remoteNode (Desc.dst d) = none := by
  have h := hd.toHere 0 hd.nonempty
  rwa [Nat.add_zero] at h

theorem RowCopy.descOut_eq (s : State) : descOut (memGet s.mem) d = ([s.rowWrite d], 0, 0) := by
  have hrows (f : Nat → ResWrite) : (List.range 1).map f = [f 0] := rfl
  rw [descOut, hd.plain, if_neg Bool.false_ne_true, hd.oneRow, hrows, Desc.dstAt_zero, Desc.srcAt_zero, State.rowWrite]

/-- With no poison in memory the work of a row copy is its one result write. -/
theorem RowCopy.dmaWork_eq {s : State} {q : Packet} (hlevel : q.level = 0) (hpoison : s.ms.poison = []) : s.dmaWork q [d] [] = s.rowWork d := by
  simp [State.dmaWork, State.rowWork, runDescs, hpoison, State.reader_undrafted hlevel, hd.descOut_eq, hd.reads_eq, hd.plain, poisonedIn_nil, descPoison_nil, poisonLeft,
    State.poisonAfters]

end

/-- A row copy is outstanding with its work, and the destination's bytes are unspecified. -/
theorem RowCopy.startDma_eq {s : State} {e : Env} {d : Desc} (hd : RowCopy d) (hlevel : e.p.level = 0) (hpoison : s.ms.poison = []) (htrace : s.dbg.traceOn = false) :
    s.startDma e [d] = (s.setJob e.id (.work { s.rowWork d with sent := true })).scramble (Desc.dst d) (Desc.rowBytes d) := by
  have hroute : s.noRoute ([d].flatMap (fun d => [Desc.src d, Desc.dst d])) = none := by simp [State.noRoute, State.noRouteTo, hd.source_here, hd.dest_here]
  have hwork := hd.dmaWork_eq hlevel hpoison
  rw [State.startDma_local hlevel hroute (by simp [hd.reads_eq, hd.source_here]) (by simpa [hwork] using hd.toHere), hwork,
    State.startWork_local hlevel rfl htrace (by simpa using hd.dest_here)]
  simp

/-! ### A row copy from its start to its end -/

/-- Where a copy on bobbin `n` meets nothing else: no other packet, peer access, draft or poison, tracing off, packets served, the bobbin's flyer running and
its completion ring with room and nothing held. -/
structure CopyAlone (s : State) (n : Nat) : Prop where
  traceOff : s.dbg.traceOn = false
  noPkts : s.pkts = []
  noRemote : s.ply.remote = []
  noDrafts : s.dr.drafts = []
  noPoison : s.ms.poison = []
  serves : s.serves = true
  room : (s.bob n).room = true
  noHeld : (s.bob n).held = []
  flyerRuns : s.flyerHalted (s.bob n).flyer = false

/-- Memory after a row copy's destination became unspecified and its result write landed. -/
def State.rowLanded (s : State) (d : Desc) : List Host.Cell := memPuts (memPuts s.mem (Desc.dst d) (freeBytes s (Desc.rowBytes d))) (Desc.dst d) (s.rowWrite d).bytes

section
variable {n : Nat} {p : Packet} {s : State} {d : Desc}

/-- The state in which a row copy is outstanding: taken in, its work started, the destination's bytes unspecified. -/
def State.rowStarted (s : State) (n : Nat) (p : Packet) (d : Desc) : State :=
  ((specDmaCopy.taken (.bobbin n) p s).setJob s.q.nextId (.work { s.rowWork d with sent := true })).scramble (Desc.dst d) (Desc.rowBytes d)

/-- The row copy's packet while it is outstanding. -/
def State.rowPkt (s : State) (n : Nat) (p : Packet) (d : Desc) : OutPkt :=
  { s.newPkt (.bobbin n) (specDmaCopy.pkt p) (s.q.nextId, s.q.endSeq) with job := .work { s.rowWork d with sent := true } }

/-- What the commit point of a row copy run alone meets: its packet alone, nothing to wait for, and the bobbin's completion ring as it was. -/
theorem State.rowStarted_alone (hs : CopyAlone s n) :
    (s.rowStarted n p d).pkts = [s.rowPkt n p d] ∧ (s.rowStarted n p d).dr.drafts = [] ∧ ((s.rowStarted n p d).bob n).nextSlot = (s.bob n).nextSlot
      ∧ ((s.rowStarted n p d).bob n).room = true ∧ ((s.rowStarted n p d).bob n).held = [] := by
  have hpkts : (s.rowStarted n p d).pkts = (s.pkts ++ [s.newPkt (.bobbin n) (specDmaCopy.pkt p) (s.q.nextId, s.q.endSeq)]).map
      (fun o => if o.id = s.q.nextId then { o with job := .work { s.rowWork d with sent := true } } else o) := rfl
  have hbob : (s.rowStarted n p d).bob n = { s.bob n with last := some ⟨s.q.nextId, (specDmaCopy.pkt p).chain, none⟩ } :=
    (State.bob_setBob _ n n _).trans (if_pos rfl)
  refine ⟨?_, hs.noDrafts, ?_⟩
  · rw [hpkts, hs.noPkts]
    exact congrArg (fun o => [o]) (if_pos rfl)
  · rw [hbob]
    exact ⟨rfl, hs.room, hs.noHeld⟩

/-- A DMA_COPY of one row that is accepted starts. -/
theorem RowCopy.exec_dmaCopy (haccepts : specDmaCopy.accepts (.bobbin n) p s = true) (hdesc : copyDesc (specDmaCopy.pkt p) = d) (hd : RowCopy d)
    (hlist : (specDmaCopy.pkt p).b 3 31 = false) (hlevel : (specDmaCopy.pkt p).level = 0) (hs : CopyAlone s n) :
    exec (.dmaCopy (.bobbin n) p) s = .next (s.rowStarted n p d) := by
  refine OpSpec.next_exec_accepted haccepts (by decide) ?_
  show State.startDma _ _ (State.descs _ (specDmaCopy.pkt p)) = _
  rw [State.descs_inPacket hlist, hdesc]
  exact hd.startDma_eq hlevel hs.noPoison hs.traceOff

/-- At the commit point of a row copy run alone its bytes land, nothing stays outstanding, and its reply changes nothing outside its slot. -/
theorem RowCopy.exec_commitPoint (hd : RowCopy d) (hn : n < 224) (hlevel : (specDmaCopy.pkt p).level = 0) (hreply : (specDmaCopy.pkt p).reply = true) (hs : CopyAlone s n) :
    ∃ v : State, exec (.commitPoint s.q.nextId) (s.rowStarted n p d) = .next v ∧ v.pkts = []
      ∧ (memWf (s.rowLanded d) = true → ∀ x, (x < (s.bob n).nextSlot ∨ (s.bob n).nextSlot + 32 ≤ x) → memGet v.mem x = memGet (s.rowLanded d) x) := by
  obtain ⟨hpkts, hdrafts, hslot, hroom, hheld⟩ := State.rowStarted_alone (p := p) (d := d) hs
  have hfound : (s.rowStarted n p d).pkt? s.q.nextId = some (s.rowPkt n p d) := by
    rw [State.pkt?, hpkts]
    exact List.find?_cons_of_pos (by simp; rfl)
  have hremote : (s.rowStarted n p d).ply.remote = [] := hs.noRemote
  have hexec := exec_commitPoint_work hfound hs.serves hs.flyerRuns rfl (by simp [hremote]) (State.workFrozen_of_no_drafts _ hdrafts) rfl (by simpa using hd.dest_here)
  obtain ⟨v, hend, hview, hmem⟩ := State.commitWork_local (s := s.rowStarted n p d) (o := s.rowPkt n p d) (w := { s.rowWork d with sent := true }) hlevel rfl
    (by simpa using hd.dest_here) (by simp [hdrafts]) hs.traceOff
  have hq : v.q = (s.rowStarted n p d).q := congrArg (fun x => x.1) hview
  have hbob : v.bob n = (s.rowStarted n p d).bob n := by rw [State.bob, hq]; rfl
  have halone : v.pkts = [s.rowPkt n p d] := (congrArg (fun x => x.2.1) hview).trans hpkts
  have hoff : v.dbg.traceOn = false := (congrArg (fun x => x.2.2.2.2.traceOn) hview).trans hs.traceOff
  have hlanded : v.mem = s.rowLanded d := hmem
  obtain ⟨hnone, hkept⟩ := State.finish_reply 0 [] halone rfl hn hreply hoff (by rw [hbob, hroom]) (by rw [hbob, hheld])
  refine ⟨_, hexec.trans (congrArg _ hend), hnone, fun hcanon x hx => ?_⟩
  rw [← hlanded] at hcanon ⊢
  exact hkept hcanon x (by rwa [hbob, hslot])

end

/-- In canonical memory a row copy's destination then holds what its source held, and every other byte is as it was. -/
theorem State.memGet_rowLanded {s : State} (d : Desc) (hmem : s.MemOk) :
    memWf (s.rowLanded d) = true ∧ (∀ i < Desc.rowBytes d, memGet (s.rowLanded d) (Desc.dst d + i) = memGet s.mem (Desc.src d + i))
      ∧ ∀ x, (x < Desc.dst d ∨ Desc.dst d + Desc.rowBytes d ≤ x) → memGet (s.rowLanded d) x = memGet s.mem x := by
  have hscrambled : memWf (memPuts s.mem (Desc.dst d) (freeBytes s (Desc.rowBytes d))) = true := memWf_memPuts _ _ hmem
  refine ⟨memWf_memPuts _ _ hscrambled, fun i hi => ?_, fun x hx => ?_⟩
  · rw [State.rowLanded, memGet_memPuts_in _ i _ hscrambled (by simpa using hi)]
    simp [State.rowWrite, readBytes]
  · rw [State.rowLanded, memGet_memPuts_out _ _ _ hscrambled (by simpa using hx), memGet_memPuts_out _ _ _ hmem (by simpa using hx)]

/-! ### CopyLands -/

/-- A descriptor whose parameters pass their checks copies at least one byte (R177, Table 6.9). -/
theorem rowBytes_pos_of_descBadWord {d : Desc} (h : descBadWord d = none) : 0 < Desc.rowBytes d := by
  refine Nat.pos_of_ne_zero fun hzero => ?_
  simp [descBadWord, hzero] at h

/-- A descriptor of an accepted DMA_COPY without a list copies at least one byte (R177). -/
theorem rowBytes_pos_of_accepts {src : Src} {p : Packet} {s : State} (h : specDmaCopy.accepts src p s = true) (hlist : (specDmaCopy.pkt p).b 3 31 = false) :
    0 < Desc.rowBytes (copyDesc (specDmaCopy.pkt p)) := by
  have hparams : State.dmaParams (specDmaCopy.taken src p s) (specDmaCopy.pkt p) = none := OpSpec.params_of_accepts h
  refine rowBytes_pos_of_descBadWord ?_
  unfold State.dmaParams at hparams
  rw [hlist, State.descs_inPacket hlist] at hparams
  simp only [Bool.false_eq_true, if_false] at hparams
  split at hparams
  · cases hparams
  · split at hparams
    · cases hparams
    · assumption

/-- A byte of a range that a completion slot does not meet lies outside the slot. -/
theorem add_outside {b len slot i : Nat} (hi : i < len) (h : b + len ≤ slot ∨ slot + 32 ≤ b) : b + i < slot ∨ slot + 32 ≤ b + i := by omega

/-- What CopyLands says, for canonical memory, which a reset gives (`State.reset_canon`). -/
theorem copyLands_of_memOk {n : Nat} {p : Packet} {s : State} (hmem : s.MemOk) (haccepts : specDmaCopy.accepts (.bobbin n) p s = true) (hn : n < 192) :
    let q := specDmaCopy.pkt p
    let a := q.addr 4
    let b := q.addr 6
    let len := q.word 8
    q.level = 0 → CopyAlone s n → q.b 3 31 = false → q.b 12 31 = false → q.f 9 31 16 = 1 → q.reply = true →
    (∀ i < len, remoteNode (a + i) = none ∧ remoteNode (b + i) = none) → (b + len ≤ (s.bob n).nextSlot ∨ (s.bob n).nextSlot + 32 ≤ b) →
    ∃ t v : State, exec (.dmaCopy (.bobbin n) p) s = .next t ∧ exec (.commitPoint s.q.nextId) t = .next v ∧ v.pkts = []
      ∧ (∀ i, i < len → memGet v.mem (b + i) = memGet s.mem (a + i))
      ∧ (∀ x, (x < b ∨ b + len ≤ x) → (x < (s.bob n).nextSlot ∨ (s.bob n).nextSlot + 32 ≤ x) → memGet v.mem x = memGet s.mem x) := by
  intro q a b len hlevel hs hlist hplain hrow hreply hlocal hslot
  have hd : RowCopy (copyDesc q) := ⟨hplain, hrow, rowBytes_pos_of_accepts haccepts hlist, fun i hi => (hlocal i hi).1, fun i hi => (hlocal i hi).2⟩
  obtain ⟨v, hexec, hnone, hkept⟩ := hd.exec_commitPoint (p := p) (by omega) hlevel hreply hs
  obtain ⟨hcanon, hin, hout⟩ := State.memGet_rowLanded (copyDesc q) hmem
  refine ⟨_, v, RowCopy.exec_dmaCopy haccepts rfl hd hlist hlevel hs, hexec, hnone, fun i hi => ?_, fun x hx hxs => ?_⟩
  · exact (hkept hcanon _ (add_outside hi hslot)).trans (hin i hi)
  · exact (hkept hcanon x hxs).trans (hout x hx)

/-- Bobbin 1 and context 5 with a region at 0x8000_0000, over memory that is not canonical: its addresses fall. -/
def fallingMem : State :=
  { State.reset with
    q := { State.reset.q with bobbins := [(1, { mode := .running, flyer := 1, sizeLog2 := 4, cplBase := 0x80018000 })] }
    dom := { State.reset.dom with contexts := [(5, { tenant := 0, fixed := false, shadowMib := 1, reservation := 0, coreMask := 3, maxCores := 2, opener := 1 })] }
    ms := { State.reset.ms with regions := [⟨5, 0, 0x80000000, 32, true, true, true⟩] }
    mem := [(0x80201000, 5), (0x80100000, 7)] }

/-- A DMA_COPY of the byte at 0x8020_0000 to 0x8020_1000. -/
def copyByte : Packet := ⟨[0x10000, 5, 7, 0, 0x80200000, 0, 0x80201000, 0, 1, 0x10000, 1, 1, 0, 0, 0, 0]⟩

theorem copyByte_rowCopy : RowCopy (copyDesc (specDmaCopy.pkt copyByte)) := ⟨by decide, by decide, by decide, by decide, by decide⟩

theorem fallingMem_alone : CopyAlone fallingMem 1 := ⟨rfl, rfl, rfl, rfl, rfl, rfl, by decide, rfl, by decide⟩

/-- The byte 0 copied to 0x8020_1000 leaves its cell out, whatever byte was there between: 0x8010_0000, listed behind it, is then found. -/
theorem fallingMem_rowLanded : fallingMem.rowLanded (copyDesc (specDmaCopy.pkt copyByte)) = [(0x80100000, 7)] := by
  have hput (x : Byte) : memPut (memPut [(0x80201000, 5), (0x80100000, 7)] 0x80201000 x) 0x80201000 0 = [(0x80100000, 7)] := by
    by_cases hx : x = 0#8 <;> simp [memPut, hx]
  have hzero : (fallingMem.rowWrite (copyDesc (specDmaCopy.pkt copyByte))).bytes = [0] := by decide
  rw [State.rowLanded, hzero]
  exact hput (Config.freeByte 0)

/-- Refutes O21: the statement does not ask that memory is canonical. Over `fallingMem` the byte at 0x8010_0000 reads 0, as the list begins with a higher address; the
copy of a 0 to that higher address deletes its cell, and 0x8010_0000, outside the destination and the reply's slot, reads 7. `copyLands_of_memOk` is the statement
with the missing hypothesis. -/
theorem not_copyLands : ¬ Obligations.CopyLands := by
  unfold Obligations.CopyLands
  intro h
  have haccepts : specDmaCopy.accepts (.bobbin 1) copyByte fallingMem = true := by decide
  have hstart := RowCopy.exec_dmaCopy haccepts rfl copyByte_rowCopy (by decide) (by decide) fallingMem_alone
  obtain ⟨v, hexec, -, hkept⟩ := copyByte_rowCopy.exec_commitPoint (p := copyByte) (by decide) (by decide) (by decide) fallingMem_alone
  obtain ⟨v', hexec', -, -, hframe⟩ := h 1 copyByte fallingMem _ haccepts (by decide) (by decide) rfl rfl rfl rfl rfl (by decide) (by decide) (by decide)
    (by decide) (by decide) rfl (by decide) rfl (by decide) (by decide) hstart
  obtain rfl : v = v' := by injection hexec.symm.trans hexec'
  have hread : memGet v.mem 0x80100000 = 7 := by
    rw [hkept (by rw [fallingMem_rowLanded]; decide) _ (by decide), fallingMem_rowLanded]
    decide
  have hbefore : memGet v.mem 0x80100000 = 0 := hframe 0x80100000 (by decide) (by decide)
  exact absurd (hread.symm.trans hbefore) (by decide)

end Sys2Proof.Machine
end

section
/-! PROOFS of TwistApplies (O30): the outcome of a committed draft, in committed memory at level 1 and in its parent above (R195, R206, R207). -/

namespace Sys2Proof.Machine

/-! ### One committed line -/

/-- Reads of a range agree where its bytes do. -/
theorem memGets_congr {m m' : List Host.Cell} {a n : Nat} (h : ∀ i < n, memGet m (a + i) = memGet m' (a + i)) : memGets m a n = memGets m' a n := by
  induction n generalizing a with
  | zero => rfl
  | succ n ih =>
    have hrest : memGets m (a + 1) n = memGets m' (a + 1) n := ih fun i hi => by
      rw [Nat.add_assoc, Nat.add_comm 1 i]
      exact h (i + 1) (Nat.succ_lt_succ hi)
    have hfirst : memGet m a = memGet m' a := h 0 n.succ_pos
    rw [memGets, memGets, hrest, hfirst]

/-- A line becomes the committed version and awaits writeback: a step of `State.commitLines`. -/
def State.commitLine (s : State) (c : Nat) (l : Nat × List Byte) : State :=
  let y := s.store (l.1 * 64) l.2
  { y with dr := { y.dr with writeback := y.dr.writeback ++ [(c, l.1)] } }

theorem State.commitLines_cons (s : State) (c : Nat) (l : Nat × List Byte) (ls : NMap (List Byte)) :
    s.commitLines c (l :: ls) = (s.commitLine c l).commitLines c ls := rfl

theorem State.commitLines_append (s : State) (c : Nat) (ls ls' : NMap (List Byte)) :
    s.commitLines c (ls ++ ls') = (s.commitLines c ls).commitLines c ls' := List.foldl_append

theorem State.commitLine_canon {s : State} (c : Nat) (l : Nat × List Byte) (h : s.MemCanon) : (s.commitLine c l).MemCanon := State.store_canon _ _ h

theorem State.load_commitLine {s : State} (c : Nat) {l : Nat × List Byte} (hmem : s.MemCanon) (hlen : l.2.length = 64) :
    (s.commitLine c l).load (l.1 * 64) 64 = l.2 := by
  have hread : (s.store (l.1 * 64) l.2).load (l.1 * 64) l.2.length = l.2 := State.load_store _ _ hmem
  rwa [hlen] at hread

theorem State.memGet_commitLine_ne {s : State} (c : Nat) {l : Nat × List Byte} {a : Nat} (hmem : s.MemCanon) (hlen : l.2.length = 64) (ha : a / 64 ≠ l.1) :
    memGet (s.commitLine c l).mem a = memGet s.mem a := by
  have hout : a < l.1 * 64 ∨ l.1 * 64 + l.2.length ≤ a := by omega
  exact State.memGet_store_out (l.1 * 64) a l.2 hmem hout

/-- A committed line awaits writeback (R206). -/
theorem State.mem_writeback_commitLine (s : State) (c : Nat) (l : Nat × List Byte) : (c, l.1) ∈ (s.commitLine c l).dr.writeback := by
  simp [State.commitLine]

/-- A committed line cancels no other line's writeback (R207). -/
theorem State.mem_writeback_commitLine_ne {s : State} (c : Nat) {l : Nat × List Byte} {w : Nat × Nat} (hlen : l.2.length = 64) (hw : w ∈ s.dr.writeback) (hne : w.2 ≠ l.1) :
    w ∈ (s.commitLine c l).dr.writeback := by
  have hapart : overlap (w.2 * 64) 64 (l.1 * 64) l.2.length = false := by
    simp only [overlap, hlen, Bool.and_eq_false_iff, decide_eq_false_iff_not]
    omega
  exact List.mem_append_left _ (List.mem_filter.2 ⟨hw, by rw [hapart]; rfl⟩)

/-! ### A draft's lines, committed one after the other -/

theorem State.commitLines_drafts (s : State) (c : Nat) (ls : NMap (List Byte)) : (s.commitLines c ls).dr.drafts = s.dr.drafts :=
  foldl_keeps (fun x : State => x.dr.drafts) (op := fun x l => x.commitLine c l) (fun _ _ => rfl) ls s

theorem State.commitLines_canon {s : State} (c : Nat) (ls : NMap (List Byte)) (h : s.MemCanon) : (s.commitLines c ls).MemCanon :=
  List.foldlRecOn ls _ (motive := State.MemCanon) h fun _ hx l _ => State.commitLine_canon c l hx

/-- A byte outside the lines committed stays as it was. -/
theorem State.memGet_commitLines_ne {s : State} (c : Nat) {ls : NMap (List Byte)} {a : Nat} (hmem : s.MemCanon) (hlen : ∀ l ∈ ls, l.2.length = 64)
    (ha : ∀ l ∈ ls, a / 64 ≠ l.1) : memGet (s.commitLines c ls).mem a = memGet s.mem a := by
  induction ls generalizing s with
  | nil => rfl
  | cons l ls ih =>
    obtain ⟨hl, hls⟩ := List.forall_mem_cons.1 hlen
    obtain ⟨hal, hals⟩ := List.forall_mem_cons.1 ha
    rw [State.commitLines_cons, ih (State.commitLine_canon c l hmem) hls hals, State.memGet_commitLine_ne c hmem hl hal]

/-- A line that awaits writeback still does after other lines are committed. -/
theorem State.mem_writeback_commitLines_ne {s : State} (c : Nat) {ls : NMap (List Byte)} {w : Nat × Nat} (hlen : ∀ l ∈ ls, l.2.length = 64) (hw : w ∈ s.dr.writeback)
    (hne : ∀ l ∈ ls, w.2 ≠ l.1) : w ∈ (s.commitLines c ls).dr.writeback := by
  induction ls generalizing s with
  | nil => exact hw
  | cons l ls ih =>
    obtain ⟨hl, hls⟩ := List.forall_mem_cons.1 hlen
    obtain ⟨hwl, hwls⟩ := List.forall_mem_cons.1 hne
    exact ih hls (State.mem_writeback_commitLine_ne c hl hw hwl) hwls

/-- A line among distinct lines is committed between those before it and those after it, and none after it has its number. -/
theorem State.commitLines_of_mem (s : State) (c : Nat) {ls : NMap (List Byte)} {l : Nat × List Byte} (hl : l ∈ ls) (hnd : (ls.map (fun l => l.1)).Nodup) :
    ∃ before after, s.commitLines c ls = ((s.commitLines c before).commitLine c l).commitLines c after ∧ ∀ x ∈ after, x ∈ ls ∧ l.1 ≠ x.1 := by
  obtain ⟨before, after, rfl⟩ := List.append_of_mem hl
  rw [List.map_append, List.map_cons] at hnd
  have hafter : l.1 ∉ after.map (fun l => l.1) := (List.nodup_cons.1 (List.nodup_append.1 hnd).2.1).1
  refine ⟨before, after, State.commitLines_append s c before (l :: after), fun x hx => ⟨by simp [hx], fun e => hafter ?_⟩⟩
  exact e ▸ List.mem_map_of_mem hx

/-- Each of the distinct lines committed is read back (R195). -/
theorem State.load_commitLines {s : State} (c : Nat) {ls : NMap (List Byte)} {l : Nat × List Byte} (hmem : s.MemCanon) (hlen : ∀ l ∈ ls, l.2.length = 64)
    (hnd : (ls.map (fun l => l.1)).Nodup) (hl : l ∈ ls) : (s.commitLines c ls).load (l.1 * 64) 64 = l.2 := by
  obtain ⟨before, after, hsplit, hafter⟩ := s.commitLines_of_mem c hl hnd
  have hbefore : (s.commitLines c before).MemCanon := State.commitLines_canon c before hmem
  rw [hsplit, ← State.load_commitLine c hbefore (hlen l hl)]
  refine memGets_congr fun i hi => State.memGet_commitLines_ne c (State.commitLine_canon c l hbefore) (fun x hx => hlen x (hafter x hx).1) fun x hx => ?_
  have hne := (hafter x hx).2
  omega

/-- Each of the distinct lines committed awaits writeback (R206). -/
theorem State.mem_writeback_commitLines (s : State) (c : Nat) {ls : NMap (List Byte)} {l : Nat × List Byte} (hlen : ∀ l ∈ ls, l.2.length = 64)
    (hnd : (ls.map (fun l => l.1)).Nodup) (hl : l ∈ ls) : (c, l.1) ∈ (s.commitLines c ls).dr.writeback := by
  obtain ⟨before, after, hsplit, hafter⟩ := s.commitLines_of_mem c hl hnd
  rw [hsplit]
  exact State.mem_writeback_commitLines_ne c (fun x hx => hlen x (hafter x hx).1) (State.mem_writeback_commitLine _ c l) fun x hx => (hafter x hx).2

/-! ### The outcome of a draft without peers -/

/-- A committed draft is counted and its tag is free (R206). -/
def State.closeDraft (s : State) (d : Draft) : State :=
  let u := s.bump 3 (s.ctxTenant d.ctx) 0 1 1
  { u with dr := { u.dr with drafts := u.dr.drafts.filter (fun y => y.order ≠ d.order) } }

theorem State.mem_closeDraft_drafts {s : State} {d x : Draft} : x ∈ (s.closeDraft d).dr.drafts ↔ x ∈ s.dr.drafts ∧ x.order ≠ d.order := by
  simp [State.closeDraft]

/-- At level 1 a draft that holds lines alone is closed and its lines are committed. -/
theorem State.applyDraft_lines {s : State} {d : Draft} (hlevel : d.level = 1) (hpeers : d.peers = []) (hpages : d.pages = []) (happends : d.appends = [])
    (hdeferred : d.deferred = []) (htrace : s.dbg.traceOn = false) : s.applyDraft d = (s.closeDraft d).commitLines d.ctx d.lines := by
  have hoff : (s.bump 3 (s.ctxTenant d.ctx) 0 1 1).traceDraft d 0 = s.bump 3 (s.ctxTenant d.ctx) 0 1 1 := State.trace_off _ htrace
  simp only [State.applyDraft, hpeers, List.foldl_nil, hoff, if_pos hlevel, hpages, happends, hdeferred, List.map_nil, List.append_nil, List.eraseDups_nil]
  rfl

/-- At a higher level a draft is closed, its parent absorbs it, and committed memory stays as it was. -/
theorem State.applyDraft_parent {s : State} {d p : Draft} (hlevel : d.level ≠ 1) (hpeers : d.peers = []) (htrace : s.dbg.traceOn = false)
    (hp : s.draft? d.ctx (d.level - 1) d.parent = some p) :
    (s.applyDraft d).mem = s.mem ∧ (s.applyDraft d).dr.drafts = (s.closeDraft d).dr.drafts.map (fun x => if x.order = p.order then x.absorb d else x) := by
  have hoff : (s.bump 3 (s.ctxTenant d.ctx) 0 1 1).traceDraft d 0 = s.bump 3 (s.ctxTenant d.ctx) 0 1 1 := State.trace_off _ htrace
  have hparent : (s.bump 3 (s.ctxTenant d.ctx) 0 1 1).draft? d.ctx (d.level - 1) d.parent = some p := hp
  simp only [State.applyDraft, hpeers, List.foldl_nil, hoff, if_neg hlevel, hparent]
  exact ⟨rfl, rfl⟩

/-! ### TwistApplies -/

/-- The commit of a level-1 draft that holds lines alone (R206, R207). -/
theorem State.applyDraft_commits {s : State} {d : Draft} (hlevel : d.level = 1) (hpeers : d.peers = []) (hpages : d.pages = []) (happends : d.appends = [])
    (hdeferred : d.deferred = []) (htrace : s.dbg.traceOn = false) (hmem : s.MemOk) (hlen : ∀ l ∈ d.lines, l.2.length = 64) (hnd : (d.lines.map (fun l => l.1)).Nodup) :
    let t := s.applyDraft d
    (∀ l ∈ d.lines, t.load (l.1 * 64) 64 = l.2) ∧ (∀ a, (∀ l ∈ d.lines, a / 64 ≠ l.1) → memGet t.mem a = memGet s.mem a) ∧ t.MemOk
      ∧ (∀ x ∈ t.dr.drafts, x ∈ s.dr.drafts ∧ x.order ≠ d.order) ∧ (∀ l ∈ d.lines, (d.ctx, l.1) ∈ t.dr.writeback) := by
  intro t
  have ht : t = (s.closeDraft d).commitLines d.ctx d.lines := State.applyDraft_lines hlevel hpeers hpages happends hdeferred htrace
  have hclosed : (s.closeDraft d).MemCanon := hmem
  rw [ht]
  refine ⟨fun l hl => State.load_commitLines _ hclosed hlen hnd hl, fun a ha => State.memGet_commitLines_ne _ hclosed hlen ha, State.commitLines_canon _ _ hclosed,
    fun x hx => ?_, fun l hl => State.mem_writeback_commitLines _ _ hlen hnd hl⟩
  rw [State.commitLines_drafts] at hx
  exact State.mem_closeDraft_drafts.1 hx

/-- The commit of a draft into its parent (R195, R206). -/
theorem State.applyDraft_relabels {s : State} {d p : Draft} (hlevel : d.level ≠ 1) (hpeers : d.peers = []) (htrace : s.dbg.traceOn = false)
    (hp : s.draft? d.ctx (d.level - 1) d.parent = some p) (hne : p.order ≠ d.order) :
    let t := s.applyDraft d
    t.mem = s.mem ∧ (∀ x ∈ t.dr.drafts, x.order ≠ d.order) ∧ p.absorb d ∈ t.dr.drafts := by
  intro t
  obtain ⟨hmem, hdrafts⟩ := State.applyDraft_parent hlevel hpeers htrace hp
  have hopen : p ∈ (s.closeDraft d).dr.drafts := State.mem_closeDraft_drafts.2 ⟨List.mem_of_find?_eq_some hp, hne⟩
  refine ⟨hmem, fun x hx => ?_, ?_⟩
  · obtain ⟨y, hy, rfl⟩ := List.mem_map.1 (hdrafts ▸ hx)
    have hkept : y.order ≠ d.order := (State.mem_closeDraft_drafts.1 hy).2
    split <;> exact hkept
  · rw [hdrafts]
    exact List.mem_map.2 ⟨p, hopen, if_pos rfl⟩

/-- Settles O30: a level-1 draft's lines are committed one after the other, and a draft above is absorbed by its parent. -/
theorem twistApplies : Obligations.TwistApplies := by
  unfold Obligations.TwistApplies
  refine ⟨fun _ _ => State.applyDraft_commits, fun s d p hlevel hpeers htrace hp hne => ?_⟩
  obtain ⟨hmem, hgone, habsorbed⟩ := State.applyDraft_relabels hlevel hpeers htrace hp hne
  exact ⟨hmem, hgone, p.absorb d, habsorbed, rfl, rfl, rfl, fun _ => rfl⟩

end Sys2Proof.Machine
end

section
/-! SUPPORT. Key-value pools: replacing a bound pool (R216) and writing tokens change the pools by that pool alone, and no domain. -/

namespace Sys2Proof

theorem NMap.get?_eq_none_of_notMem {α : Type} {m : NMap α} {i : Nat} (h : i ∉ m.map (fun y => y.1)) : NMap.get? m i = none := by
  induction m with
  | nil => rfl
  | cons x r ih =>
    obtain ⟨j, v⟩ := x
    simp only [List.map_cons, List.mem_cons, not_or] at h
    rw [NMap.get?, if_neg (Ne.symm h.1), ih h.2]

theorem NMap.del_of_get?_none {α : Type} {m : NMap α} {i : Nat} (h : NMap.get? m i = none) : NMap.del m i = m := by
  induction m with
  | nil => rfl
  | cons x r ih =>
    obtain ⟨j, v⟩ := x
    by_cases hj : j = i
    · simp [NMap.get?, hj] at h
    · have hrest : NMap.get? r i = none := by simpa [NMap.get?, hj] using h
      have hdel : NMap.del ((j, v) :: r) i = (j, v) :: NMap.del r i := List.filter_cons_of_pos (by simpa using hj)
      rw [hdel, ih hrest]

end Sys2Proof

namespace Sys2Proof.Machine

/-! ### Bytes outside a change -/

/-- A byte outside a cleared range stays. -/
theorem memGet_memClear_out {m : List Host.Cell} {a n j : Nat} (hm : memWf m = true) (hj : j < a ∨ a + n ≤ j) : memGet (memClear m a n) j = memGet m j := by
  obtain ⟨hp, -⟩ := (memWf_iff m).1 hm
  clear hm
  induction m with
  | nil => rfl
  | cons x r ih =>
    obtain ⟨a', b⟩ := x
    obtain ⟨hx, hr⟩ := List.pairwise_cons.1 hp
    by_cases hkeep : a' < a ∨ a + n ≤ a'
    · have hclear : memClear ((a', b) :: r) a n = (a', b) :: memClear r a n := List.filter_cons_of_pos (by simpa using hkeep)
      rw [hclear, memGet, memGet, ih hr]
    · have hclear : memClear ((a', b) :: r) a n = memClear r a n := List.filter_cons_of_neg (by simpa using hkeep)
      have hne : a' ≠ j := by omega
      rw [hclear, memGet, if_neg hne]
      by_cases hlt : j < a'
      · rw [if_pos hlt]
        exact memGet_of_lt fun c hc => Nat.lt_trans hlt (hx c (List.mem_filter.1 hc).1)
      · rw [if_neg hlt, ih hr]

/-- A byte outside a range that becomes unspecified stays. -/
theorem State.memGet_scramble_out {s : State} {a n j : Nat} (hs : s.MemCanon) (hj : j < a ∨ a + n ≤ j) : memGet (s.scramble a n).mem j = memGet s.mem j :=
  State.memGet_store_out a j _ hs (by rwa [freeBytes_length])

/-! ### The bound pools -/

/-- The pools and the domains. -/
def State.poolView (s : State) : NMap KvPool × Domains := (s.kv, s.dom)

theorem State.store_poolView (s : State) (a : Addr) (bs : List Byte) : (s.store a bs).poolView = s.poolView := rfl

theorem State.scramble_poolView (s : State) (a n : Nat) : (s.scramble a n).poolView = s.poolView := rfl

theorem State.pool?_of_poolView {s t : State} {key : Nat} {k : KvPool} (h : t.poolView = s.poolView) (hk : s.pool? key = some k) : t.pool? key = some k := by
  have hkv : t.kv = s.kv := congrArg Prod.fst h
  rw [State.pool?, hkv]
  exact hk

/-- Changing the directory's bytes changes bytes only (Tables 8.2, 8.3). -/
theorem State.syncPool_poolView (s : State) (old new : KvPool) : (s.syncPool old new).poolView = s.poolView := by
  unfold State.syncPool
  extract_lets seqIds s1 frames s2 s3
  have h1 : s1.poolView = s.poolView := by
    refine foldl_keeps State.poolView (fun x i => ?_) _ s
    extract_lets a b keys x1
    have hx : x1.poolView = x.poolView := by
      refine foldl_keeps State.poolView (fun y key => ?_) _ x
      dsimp only
      split
      · rfl
      · exact foldl_keeps State.poolView (fun z c => z.store_poolView _ _) _ y
    split
    · exact hx
    · exact (x1.scramble_poolView _ _).trans hx
  have h2 : s2.poolView = s1.poolView := by
    refine foldl_keeps State.poolView (fun x f => ?_) _ s1
    dsimp only
    split
    · rfl
    · exact x.store_poolView _ _
  have h3 : s3.poolView = s2.poolView := by
    unfold s3
    split
    · rfl
    · exact s2.store_poolView _ _
  split
  · exact h3.trans (h2.trans h1)
  · exact (s3.store_poolView _ _).trans (h3.trans (h2.trans h1))

/-- A bound pool is replaced, with its active copy chosen anew (R216). -/
theorem State.setPool_poolView {s : State} {key : Nat} {old : KvPool} (new : KvPool) (h : s.pool? key = some old) :
    ∃ a, (s.setPool key new).poolView = (NMap.put s.kv key { new with active := a }, s.dom) := by
  simp only [State.setPool, h]
  exact ⟨_, State.syncPool_poolView _ _ _⟩

/-- Replacing a pool changes no domain. -/
theorem State.setPool_dom (s : State) (key : Nat) (new : KvPool) : (s.setPool key new).dom = s.dom := by
  cases h : s.pool? key with
  | none => simp [State.setPool, h]
  | some old =>
    obtain ⟨a, hview⟩ := State.setPool_poolView new h
    exact congrArg Prod.snd hview

/-- A bound pool that is replaced holds the sequences and the frames of the new one. -/
theorem State.pool?_setPool {s : State} {key : Nat} {old : KvPool} (new : KvPool) (h : s.pool? key = some old) :
    ∃ k', (s.setPool key new).pool? key = some k' ∧ k'.seqs = new.seqs ∧ k'.frames = new.frames := by
  obtain ⟨a, hview⟩ := State.setPool_poolView new h
  have hkv : (s.setPool key new).kv = NMap.put s.kv key { new with active := a } := congrArg Prod.fst hview
  exact ⟨{ new with active := a }, by rw [State.pool?, hkv, NMap.get?_put_same], rfl, rfl⟩

/-! ### Taking a packet in -/

@[simp] theorem OpSpec.taken_dr (sp : OpSpec) (src : Src) (p : Packet) (s : State) : (sp.taken src p s).dr = s.dr := by cases src <;> rfl

@[simp] theorem OpSpec.poolKey_taken (sp : OpSpec) (src : Src) (p : Packet) (s : State) (c n : Nat) : poolKey (sp.taken src p s) c n = poolKey s c n := by
  simp [poolKey, State.ctxTenant]

@[simp] theorem OpSpec.pool?_taken (sp : OpSpec) (src : Src) (p : Packet) (s : State) (key : Nat) : (sp.taken src p s).pool? key = NMap.get? s.kv key := by
  rw [State.pool?, OpSpec.taken_kv]

@[simp] theorem OpSpec.seqFrozen_taken (sp : OpSpec) (src : Src) (p : Packet) (s : State) (key i : Nat) : (sp.taken src p s).seqFrozen key i = s.seqFrozen key i := by
  cases src <;> rfl

end Sys2Proof.Machine
end

section
/-! PROOFS of KvCommands (O23): the four actions of KV_SCATTER (R213, R217 to R219, R221) and PAGE_PIN (R227). -/

namespace Sys2Proof.Machine

/-! ### BIND -/

/-- The state with `n` directory bytes at `base` read as 0, but for those of the first page that are unspecified (R213, R214). -/
def State.clearDirectory (s : State) (base n : Nat) : State :=
  let s1 := (s.clear base n).scramble base 64
  (s1.scramble (base + 0x41) 7).scramble (base + 0x50) (4096 - 0x50)

theorem State.clearDirectory_poolView (s : State) (base n : Nat) : (s.clearDirectory base n).poolView = s.poolView :=
  (State.scramble_poolView ..).trans ((State.scramble_poolView ..).trans (State.scramble_poolView ..))

/-- A directory of at least one page is written within its bounds. -/
theorem State.memGet_clearDirectory_out {s : State} {base n a : Nat} (hs : s.MemCanon) (hn : 0x1000 ≤ n) (ha : a < base ∨ base + n ≤ a) :
    memGet (s.clearDirectory base n).mem a = memGet s.mem a := by
  have hcleared : (s.clear base n).MemCanon := State.clear_canon _ _ hs
  have h1 := State.scramble_canon base 64 hcleared
  have h2 := State.scramble_canon (base + 0x41) 7 h1
  have hfirst := State.memGet_scramble_out (a := base) (n := 64) (j := a) hcleared (by omega)
  have hactive := State.memGet_scramble_out (a := base + 0x41) (n := 7) (j := a) h1 (by omega)
  have hrest := State.memGet_scramble_out (a := base + 0x50) (n := 4096 - 0x50) (j := a) h2 (by omega)
  rw [State.clearDirectory, hrest, hactive, hfirst]
  exact memGet_memClear_out hs ha

/-- The state with pool `k` bound. -/
def State.bindKv (s : State) (key : Nat) (k : KvPool) : State :=
  let t := s.clearDirectory k.dirBase (k.dirGranules * 0x200000)
  { t with kv := NMap.put t.kv key k }

theorem State.bindKv_kv (s : State) (key : Nat) (k : KvPool) : (s.bindKv key k).kv = NMap.put s.kv key k := by
  have hkv (base n : Nat) : (s.clearDirectory base n).kv = s.kv := congrArg Prod.fst (s.clearDirectory_poolView base n)
  simp only [State.bindKv, hkv]

theorem State.bindKv_mem (s : State) (key : Nat) (k : KvPool) : (s.bindKv key k).mem = (s.clearDirectory k.dirBase (k.dirGranules * 0x200000)).mem := by
  simp only [State.bindKv]

theorem State.bindKv_dom (s : State) (key : Nat) (k : KvPool) : (s.bindKv key k).dom = s.dom := by
  have hdom (base n : Nat) : (s.clearDirectory base n).dom = s.dom := congrArg Prod.snd (s.clearDirectory_poolView base n)
  simp only [State.bindKv, hdom]

/-- A directory's granules hold its first page (R214). -/
theorem KvPool.firstPage_le (k : KvPool) : 0x1000 ≤ k.dirGranules * 0x200000 := by
  have hbytes : 0 < k.dirBytes := by unfold KvPool.dirBytes; omega
  unfold KvPool.dirGranules ceilDiv
  omega

/-- BIND in every state: what the packet describes is bound and reported (R213). -/
theorem specKvScatterBind_run (e : Env) (s : State) :
    specKvScatterBind.run e s = (s.bindKv (poolKey s e.p.ctx (e.p.f 3 23 20)) (bindPool e.p)).finish e.id 0
      [(bindPool e.p).frameCount, (bindPool e.p).frameBytes, (bindPool e.p).dirGranules] := rfl

/-! ### OPEN -/

/-- Tokens that an OPEN shares in every layer (R217). -/
def openShare (p : Packet) : Nat := if p.f 4 31 16 = 0xFFFF then 0 else p.word 5

/-- The pages of sequence `i` that hold its first `share` tokens, as an OPEN shares them (R218). -/
def KvPool.keptPages (k : KvPool) (i share : Nat) : NMap KvEntry :=
  match NMap.get? k.seqs i with
  | none => []
  | some q => q.pages.filterMap (fun x =>
      if x.1 % 256 < ceilDiv share 256 then some (x.1, { x.2 with pinned := false, fill := min 256 (share - 256 * (x.1 % 256)) }) else none)

/-- Frames after the valid ones of some pages got one more reference (R218). -/
def refKept (kept : NMap KvEntry) (fs : NMap KvFrame) : NMap KvFrame :=
  kept.foldl (fun m x => if x.2.valid then NMap.upd m x.2.frame (fun f => { f with ref := f.ref + 1 }) else m) fs

/-- The sequence that an OPEN packet of a bobbin opens (R217). -/
def KvPool.opened (k : KvPool) (p : Packet) (bob : Nat) : KvSeq :=
  { owner := p.ctx, opener := bob, lens := List.replicate k.layers (openShare p), pages := k.keptPages (p.f 4 31 16) (openShare p) }

/-- The pool after an OPEN packet of a bobbin (R217, R218). -/
def KvPool.openSeq (k : KvPool) (p : Packet) (bob : Nat) : KvPool :=
  { k with seqs := NMap.put k.seqs (p.f 3 15 0) (k.opened p bob), frames := refKept (k.keptPages (p.f 4 31 16) (openShare p)) k.frames }

/-- An OPEN in a bound pool in which nothing freezes the parent. -/
theorem specKvScatterOpen_run {e : Env} {s : State} {k : KvPool} {key : Nat} (hkey : poolKey s e.p.ctx (e.p.f 3 23 20) = key) (hpool : s.pool? key = some k)
    (hfree : s.seqFrozen key (e.p.f 4 31 16) = false) :
    specKvScatterOpen.run e s = (s.setPool key (k.openSeq e.p e.bob)).finish e.id 0 [ceilDiv (openShare e.p) 256] := by
  simp only [specKvScatterOpen, hkey, hpool, hfree]
  rfl

/-- An OPEN without a parent shares no page (R217). -/
theorem KvPool.keptPages_of_absent {k : KvPool} {i : Nat} (share : Nat) (h : i ∉ k.seqs.map (fun y => y.1)) : k.keptPages i share = [] := by
  rw [KvPool.keptPages, NMap.get?_eq_none_of_notMem h]

/-! ### CLOSE -/

/-- A CLOSE in a bound pool. -/
theorem specKvScatterClose_run {e : Env} {s : State} {k : KvPool} {key : Nat} (hkey : poolKey s e.p.ctx (e.p.f 3 23 20) = key) (hpool : s.pool? key = some k) :
    specKvScatterClose.run e s = (s.setPool key (k.closeSeq (e.p.f 3 15 0)).1).finish e.id 0 [(k.closeSeq (e.p.f 3 15 0)).2] := by
  simp only [specKvScatterClose, hkey, hpool]
  rfl

/-- A closed sequence is gone (R219). -/
theorem KvPool.closeSeq_seqs (k : KvPool) (i : Nat) : (k.closeSeq i).1.seqs = NMap.del k.seqs i := by
  unfold KvPool.closeSeq
  split
  · rename_i habsent
    exact (NMap.del_of_get?_none habsent).symm
  · rfl

/-! ### APPEND -/

theorem State.copySlots_poolView (s : State) (k : KvPool) (src dst fill : Nat) : (s.copySlots k src dst fill).poolView = s.poolView := by
  refine foldl_keeps State.poolView (fun x i => ?_) _ s
  dsimp only
  split <;> rfl

theorem State.putToken_poolView (s : State) (k : KvPool) (f t : Nat) (elems scales : List Byte) : (s.putToken k f t elems scales).poolView = s.poolView := by
  refine foldl_keeps State.poolView (fun x i => ?_) _ s
  dsimp only
  split <;> rfl

theorem State.putPage_poolView (s : State) (p : Packet) (k : KvPool) (x : LenEntry) (a : Prep) : (s.putPage p k x a).poolView = s.poolView := by
  refine foldl_keeps State.poolView (fun y j => ?_) _ s
  dsimp only
  split
  · rfl
  · exact y.putToken_poolView _ _ _ _ _

/-- The bytes of an APPEND: the slots below the fills copied, then the tokens written, with the copies counted (R218, R221). -/
def State.landAppend (s : State) (p : Packet) (key l : Nat) (k : KvPool) (es : List LenEntry) (ps : List Prep) : State :=
  let ch := s.chain p.ctx p.level p.tag
  let lenOf (i : Nat) : Nat := match NMap.get? k.seqs i with | some q => seenLen ch (key % 16) i l q | none => 0
  let copied := ps.foldl (fun x a => match a.copyOf with
    | some f => x.copySlots k f a.frame (min 256 (lenOf a.seq - 256 * a.page))
    | none => x) s
  let wrote := ps.foldl (fun x a => match es[a.ix]? with | some y => x.putPage p k y a | none => x) copied
  wrote.bump 3 (key / 16) 0 6 (ps.filter (fun a => a.copyOf.isSome)).length

theorem State.landAppend_poolView (s : State) (p : Packet) (key l : Nat) (k : KvPool) (es : List LenEntry) (ps : List Prep) :
    (s.landAppend p key l k es ps).poolView = s.poolView := by
  unfold State.landAppend
  extract_lets ch lenOf copied wrote
  have hcopied : copied.poolView = s.poolView := by
    refine foldl_keeps State.poolView (fun x a => ?_) ps s
    split
    · exact x.copySlots_poolView _ _ _ _
    · rfl
  have hwrote : wrote.poolView = copied.poolView := by
    refine foldl_keeps State.poolView (fun x a => ?_) ps copied
    split
    · exact x.putPage_poolView _ _ _ _
    · rfl
  exact hwrote.trans hcopied

/-- What an APPEND reports (Table 8.6): slots, new pages, copies, dropped groups. -/
def appendReport (es : List LenEntry) (ps : List Prep) (dropped : Nat) : List Nat :=
  [(es.map (fun x => x.qLen)).sum, (ps.filter (fun a => a.isNew)).length, (ps.filter (fun a => a.copyOf.isSome)).length, dropped]

/-- The pages that a length table's entries write, with their entries. -/
def appendTodo (es : List LenEntry) : List (Nat × LenEntry × Nat) := es.zipIdx.flatMap (fun x => x.1.pages.map (fun pg => (x.2, x.1, pg)))

/-- An APPEND outside drafts whose frames are all at hand, of nothing frozen and nothing poisoned. -/
theorem specKvScatterAppend_run {e : Env} {s s1 : State} {k : KvPool} {es : List LenEntry} {ps : List Prep} {key l n : Nat}
    (hkey : poolKey s e.p.ctx (e.p.f 3 23 20) = key) (hl : e.p.f 8 7 0 = l) (hes : s.lenTable e.p (e.p.addr 4) (e.p.f 5 31 16) = es)
    (hlevel : e.p.level = 0) (hpoison : s.ms.poison = []) (hfree : ∀ x ∈ es, s.seqFrozen key x.seq = false)
    (hprep : s.prepare e key l ((appendTodo es).map (fun t => (t.2.1.seq, t.2.2))) (appendTodo es) [] 0 = .inl (s1, ps, n)) (hpool : s1.pool? key = some k) :
    specKvScatterAppend.run e s = ((s1.landAppend e.p key l k es ps).setPool key (k.afterAppend l es ps)).finish e.id 0 (appendReport es ps n) := by
  have hany : es.any (fun x => s.seqFrozen key x.seq) = false := by simpa using hfree
  have hclean (rs : List (Addr × Nat)) : s.poisonIn rs = [] := by rw [State.poisonIn, hpoison, poisonedIn_nil]
  unfold appendTodo at hprep
  simp only [specKvScatterAppend, hkey, hl, hes, hany, hclean, hprep, hpool, if_pos hlevel, List.isEmpty_nil, Bool.not_true, Bool.false_eq_true, if_false]
  rfl

/-! ### PAGE_PIN -/

/-- The pool with the pages of a token range pinned or unpinned (R227). -/
def KvPool.pinPages (k : KvPool) (p : Packet) : KvPool :=
  { k with seqs := NMap.upd k.seqs (p.f 3 15 0) (fun q => { q with pages := q.pages.map (fun x =>
      if (q.rangePages (p.word 4) (p.word 5)).contains x.1 then (x.1, { x.2 with pinned := p.b 3 31 }) else x) }) }

/-- A PAGE_PIN in a bound pool of a sequence that nothing freezes: NO_SPACE where it pins more than seven eighths of the frames (R227). -/
theorem specPagePin_run {e : Env} {s : State} {k : KvPool} {key : Nat} (hkey : poolKey s e.p.ctx (e.p.f 3 23 20) = key) (hpool : s.pool? key = some k)
    (hfree : s.seqFrozen key (e.p.f 3 15 0) = false) :
    specPagePin.run e s = if e.p.b 3 31 && decide (k.frameCount * 7 < (k.pinPages e.p).pinnedFrames * 8) then s.finish e.id 0x0200 [0x20]
      else (s.setPool key (k.pinPages e.p)).finish e.id 0 := by
  simp only [specPagePin, hkey, hpool, hfree]
  rfl

/-! ### KvCommands -/

/-- Settles O23: each row answers what its run lemma says of the state in which its packet stands outstanding, and replacing the pool leaves the rest. -/
theorem kvCommands : Obligations.KvCommands := by
  unfold Obligations.KvCommands
  refine ⟨fun src p s h => ?bind, fun src p s k h => ?opens, fun src p s k h => ?closes, fun src p s s1 k ps n h => ?append, fun src p s k h => ?pin⟩
  case bind =>
    intro q k key
    let u := specKvScatterBind.taken src (kvAction p 3) s
    have hkv : (u.bindKv key k).kv = NMap.put s.kv key k := by rw [State.bindKv_kv, OpSpec.taken_kv]
    have hdom : (u.bindKv key k).dom = s.dom := by rw [State.bindKv_dom, OpSpec.taken_dom]
    have hrun := specKvScatterBind_run (specKvScatterBind.env src (kvAction p 3) s) u
    rw [OpSpec.poolKey_taken] at hrun
    refine ⟨u.bindKv key k, OpSpec.next_exec_accepted h (by decide) hrun, by rw [hkv, NMap.get?_put_same], fun j hj => by rw [hkv, NMap.get?_put_ne hj], hdom,
      fun hs a ha => ?_⟩
    have hu : u.MemCanon := by rw [State.MemCanon, OpSpec.taken_mem]; exact hs
    rw [State.bindKv_mem, State.memGet_clearDirectory_out hu k.firstPage_le ha, OpSpec.taken_mem]
  case opens =>
    intro q key share hpool hfree
    let u := specKvScatterOpen.taken src (kvAction p 1) s
    have hbound : u.pool? key = some k := by rw [OpSpec.pool?_taken, hpool]
    have hdom : (u.setPool key (k.openSeq q src.bob)).dom = s.dom := by rw [State.setPool_dom, OpSpec.taken_dom]
    have hrun := specKvScatterOpen_run (e := specKvScatterOpen.env src (kvAction p 1) s) (OpSpec.poolKey_taken ..) hbound (by rw [OpSpec.seqFrozen_taken]; exact hfree)
    obtain ⟨k', hk', hseqs, hframes⟩ := State.pool?_setPool (k.openSeq q src.bob) hbound
    refine ⟨_, OpSpec.next_exec_accepted h (by decide) hrun, hdom, k', k.opened q src.bob, hk', ?_, rfl, rfl, rfl, fun hnone habsent => ?_, fun j hj => ?_⟩
    · rw [hseqs]
      exact NMap.get?_put_same ..
    · have hkept : k.keptPages (q.f 4 31 16) (openShare q) = [] := KvPool.keptPages_of_absent _ (hnone ▸ habsent)
      exact ⟨hkept, by rw [hframes, KvPool.openSeq, hkept]; rfl⟩
    · rw [hseqs]
      exact NMap.get?_put_ne hj
  case closes =>
    intro q key hpool
    let u := specKvScatterClose.taken src (kvAction p 2) s
    have hbound : u.pool? key = some k := by rw [OpSpec.pool?_taken, hpool]
    have hdom : (u.setPool key (k.closeSeq (q.f 3 15 0)).1).dom = s.dom := by rw [State.setPool_dom, OpSpec.taken_dom]
    have hrun := specKvScatterClose_run (e := specKvScatterClose.env src (kvAction p 2) s) (OpSpec.poolKey_taken ..) hbound
    obtain ⟨k', hk', hseqs, hframes⟩ := State.pool?_setPool (k.closeSeq (q.f 3 15 0)).1 hbound
    exact ⟨_, OpSpec.next_exec_accepted h (by decide) hrun, hdom, k', hk', hseqs.trans (k.closeSeq_seqs _), hframes⟩
  case append =>
    intro q u key l es todo hlevel hpoison hfree hprep hpool
    have hrun := specKvScatterAppend_run (e := specKvScatterAppend.env src (kvAction p 0) s) (s := u) (key := key) (l := l) (es := es) rfl rfl rfl hlevel
      (by rw [OpSpec.taken_ms, hpoison]) hfree hprep hpool
    have hbound : (s1.landAppend q key l k es ps).pool? key = some k := State.pool?_of_poolView (s1.landAppend_poolView q key l k es ps) hpool
    exact ⟨_, OpSpec.next_exec_accepted h (by decide) hrun, State.pool?_setPool (k.afterAppend l es ps) hbound⟩
  case pin =>
    intro q u key k1 hpool hfree
    have hbound : u.pool? key = some k := by rw [OpSpec.pool?_taken, hpool]
    have hrun := specPagePin_run (e := specPagePin.env src p s) (OpSpec.poolKey_taken ..) hbound (by rw [OpSpec.seqFrozen_taken]; exact hfree)
    refine ⟨fun hset hfull => OpSpec.next_exec_accepted h (by decide) (hrun.trans (if_pos ?_)), fun hroom => ?_⟩
    · exact Bool.and_eq_true_iff.2 ⟨hset, decide_eq_true hfull⟩
    · have hfits : (q.b 3 31 && decide (k.frameCount * 7 < k1.pinnedFrames * 8)) = false :=
        Bool.and_eq_false_iff.2 (hroom.imp_right fun hle => decide_eq_false (Nat.not_lt.2 hle))
      exact ⟨_, OpSpec.next_exec_accepted h (by decide) (hrun.trans (if_neg (Bool.eq_false_iff.1 hfits))), State.pool?_setPool (k.pinPages q) hbound⟩

end Sys2Proof.Machine
end

section
/-! SUPPORT. A list after an element is set, and accesses to a page of R39 while the module has clocks. -/

namespace Sys2Proof

theorem setAt_eq_set {α : Type} (l : List α) (i : Nat) (v : α) : setAt l i v = l.set i v := by
  induction l generalizing i with
  | nil => rfl
  | cons x r ih =>
    cases i with
    | zero => rfl
    | succ i => rw [setAt, ih, List.set_cons_succ]

theorem setAt_getD_same {α : Type} {l : List α} {i : Nat} (h : i < l.length) (v d : α) : (setAt l i v).getD i d = v := by
  simp [setAt_eq_set, h]

theorem setAt_getD_ne {α : Type} {i j : Nat} (h : j ≠ i) (l : List α) (v d : α) : (setAt l i v).getD j d = l.getD j d := by
  simp [setAt_eq_set, Ne.symm h]

end Sys2Proof

namespace Sys2Proof.Machine

theorem State.paged_open {s : State} {who : Accessor} (f : State → State) (hup : s.clocked = true) (ho : pageOpen who = true) : s.paged who f = f s := by
  simp [State.paged, hup, ho]

theorem State.paged_refused {s : State} {who : Accessor} (f : State → State) (hup : s.clocked = true) (ho : pageOpen who = false) :
    s.paged who f = s.logIt .managementAccess := by
  simp [State.paged, hup, ho]

end Sys2Proof.Machine
end

section
/-! PROOFS of PwmRegisters (O40): NEXT, reloads and CFG of the PWM outputs and lamp strobes (R286 to R288). -/

namespace Sys2Proof.Machine

/-! ### One output -/

theorem State.pwm_setPwm_same {s : State} {n : Nat} (h : n < s.sen.pwm.length) (w : Pwm) : (s.setPwm n w).pwm n = w := setAt_getD_same h w {}

theorem State.pwm_setPwm_ne {k n : Nat} (s : State) (h : k ≠ n) (w : Pwm) : (s.setPwm n w).pwm k = s.pwm k := setAt_getD_ne h s.sen.pwm w {}

/-- An armed value is the last one armed (R287). -/
theorem Pwm.arm_getLast? (w : Pwm) (tick v : Nat) : (w.arm tick v).armed.getLast? = some (tick, v) := by
  simp [Pwm.arm]

theorem Pwm.arm_isPending (w : Pwm) (tick v : Nat) : (w.arm tick v).isPending = true := by
  simp [Pwm.isPending, Pwm.arm]

/-- ENABLE of an output whose CFG holds `x`. -/
theorem Pwm.enabled_withCfg (w : Pwm) (x : Nat) : ({ w with cfg := BitVec.ofNat 32 x } : Pwm).enabled = bit x 31 := by
  simp only [Pwm.enabled, bit, BitVec.toNat_ofNat, Nat.testBit_mod_two_pow]
  rfl

/-- A period that starts puts the last value armed before its tick into ACTIVE and keeps those armed in it (R288, Table 11.14). -/
theorem Pwm.nextPeriod_of_some {w : Pwm} {tick : Nat} {a : Nat × Nat} (h : (w.armed.filter (fun a => a.1 < tick)).getLast? = some a) :
    w.nextPeriod tick = { w with cur := (w.cur + 1) % 65536, active := a.2, loadSeq := (w.cur + 1) % 65536
                                 armed := w.armed.filter (fun a => decide (tick ≤ a.1)), wait := false } := by
  simp only [Pwm.nextPeriod, Pwm.reload, h]

/-- A period that starts with nothing armed before its tick keeps ACTIVE. -/
theorem Pwm.nextPeriod_of_nil {w : Pwm} {tick : Nat} (h : w.armed.filter (fun a => a.1 < tick) = []) :
    w.nextPeriod tick = { w with cur := (w.cur + 1) % 65536, wait := false } := by
  simp only [Pwm.nextPeriod, Pwm.reload, h, List.getLast?_nil]

theorem Pwm.reload_cur (w : Pwm) (tick : Nat) : (w.reload tick).cur = w.cur := by
  unfold Pwm.reload
  split <;> rfl

theorem Pwm.reload_cfg (w : Pwm) (tick : Nat) : (w.reload tick).cfg = w.cfg := by
  unfold Pwm.reload
  split <;> rfl

/-! ### Writes of NEXT and CFG, and reloads -/

/-- The value that a write of NEXT's upper word arms: that word, with the lower word of the same store or the one last written (R287). -/
def Pwm.nextValue (w : Pwm) (lo : Option Word) (hi : Word) : Nat :=
  (match lo with | some x => x.toNat % 2 ^ 24 | none => w.lo.toNat) + hi.toNat % 2 ^ 24 * 2 ^ 32

section
variable {s : State} {who : Accessor} {n : Nat} (hup : s.clocked = true)
include hup

/-- Software arms an output that it drives (R287, Table 11.10). -/
theorem exec_pwNextArm (lo : Option Word) (hi : Word) (ho : pageOpen who = true) (hn : n < 24) (hdrives : 16 ≤ n ∨ (s.pwm n).mode ≠ 1) :
    exec (.pwNextArm who n lo hi) s = .next (s.setPwm n ((s.pwm n).arm s.time.tick ((s.pwm n).nextValue lo hi))) := by
  have hwrites : ¬ (24 ≤ n || (n < 16 && (s.pwm n).mode = 1)) = true := by
    simp only [Bool.or_eq_true, Bool.and_eq_true, decide_eq_true_eq]
    omega
  show execPwNextArm who n lo hi s = _
  unfold execPwNextArm State.writeNext
  rw [State.paged_open _ hup ho, if_neg hwrites]
  cases lo <;> rfl

/-- A period of an enabled output starts with a reload (R288). -/
theorem exec_pwmReload (hn : n < 16) (hon : (s.pwm n).enabled = true) (hz : s.sen.highZ = false) :
    exec (.pwmReload n) s = .next (s.setPwm n ((s.pwm n).nextPeriod s.time.tick)) := by
  show execPwmReload n s = _
  simp [execPwmReload, State.whileUp_of hup, hn, hon, hz]

theorem exec_pwCfgWrite (v : Word) (ho : pageOpen who = true) : exec (.pwCfgWrite who n v) s = .next (s.writeCfg n v.toNat) :=
  congrArg _ (State.paged_open _ hup ho)

end

/-- A write of CFG that does not set ENABLE changes CFG alone. -/
theorem State.writeCfg_runs {s : State} {n v : Nat} (hn : n < 24) (h : (s.pwm n).enabled = true ∨ bit (v &&& cfgBits n) 31 = false) :
    s.writeCfg n v = s.setPwm n { s.pwm n with cfg := BitVec.ofNat 32 (v &&& cfgBits n) } := by
  have hstays : ¬ (!(s.pwm n).enabled && bit (v &&& cfgBits n) 31) = true := by
    rcases h with h | h <;> simp [h]
  simp only [State.writeCfg, if_neg (Nat.not_le.2 hn), Pwm.enabled_withCfg, if_neg hstays]

/-- A write of CFG that sets ENABLE starts period 0 (Table 11.10). -/
theorem State.writeCfg_starts {s : State} {n v : Nat} (hn : n < 24) (hoff : (s.pwm n).enabled = false) (hon : bit (v &&& cfgBits n) 31 = true) :
    ∃ w : Pwm, s.writeCfg n v = s.setPwm n w ∧ w.cfg = BitVec.ofNat 32 (v &&& cfgBits n) ∧ w.cur = 0 := by
  have hstarts : (!(s.pwm n).enabled && bit (v &&& cfgBits n) 31) = true := by simp [hoff, hon]
  simp only [State.writeCfg, if_neg (Nat.not_le.2 hn), Pwm.enabled_withCfg, if_pos hstarts]
  refine ⟨_, rfl, ?_, ?_⟩
  · split
    · exact Pwm.reload_cfg ..
    · rfl
  · split
    · exact Pwm.reload_cur ..
    · rfl

/-! ### PwmRegisters -/

/-- Settles O40: each access and each reload sets its own output, to what the rules of one output say. -/
theorem pwmRegisters : Obligations.PwmRegisters := by
  unfold Obligations.PwmRegisters
  refine ⟨fun s who n lo hi hup ho hn hlen hdrives => ?arms, fun s who n lo hi hup ho => congrArg _ (State.paged_refused _ hup ho),
    fun s n hup hn hlen hon hz => ?reloads, fun s who n v hup ho hn hlen => ?cfg⟩
  case arms =>
    intro l v
    have hexec := exec_pwNextArm hup lo hi ho hn hdrives
    rw [show (s.pwm n).nextValue lo hi = v by cases lo <;> rfl] at hexec
    clear_value v
    have hsame := State.pwm_setPwm_same (hlen ▸ hn) ((s.pwm n).arm s.time.tick v)
    refine ⟨_, hexec, ?_, ?_, ?_, ?_, fun k hk => s.pwm_setPwm_ne hk _, rfl, rfl⟩
    · rw [hsame, Pwm.arm_getLast?]
    · rw [hsame, Pwm.arm_isPending]
    · rw [hsame, Pwm.arm]
    · rw [hsame, Pwm.arm]
  case reloads =>
    refine ⟨_, exec_pwmReload hup hn hon hz, ?_, fun k hk => s.pwm_setPwm_ne hk _, fun a ha => ?_, fun hnone => ?_⟩
    all_goals rw [State.pwm_setPwm_same (by omega)]
    · exact Pwm.reload_cur ..
    · rw [Pwm.nextPeriod_of_some ha]
      exact ⟨rfl, rfl, rfl⟩
    · rw [Pwm.nextPeriod_of_nil hnone]
      exact ⟨rfl, rfl, rfl⟩
  case cfg =>
    by_cases hruns : (s.pwm n).enabled = true ∨ bit (v.toNat &&& cfgBits n) 31 = false
    · refine ⟨_, State.writeCfg_runs hn hruns ▸ exec_pwCfgWrite hup v ho, ?_, fun k hk => s.pwm_setPwm_ne hk _, fun hon hoff => ?_, fun _ => ?_⟩
      · rw [State.pwm_setPwm_same (hlen ▸ hn)]
      · exact absurd hruns (by simp [hon, hoff])
      · rw [State.pwm_setPwm_same (hlen ▸ hn)]
        exact ⟨rfl, rfl, rfl⟩
    · obtain ⟨hoff, hon⟩ := not_or.1 hruns
      obtain ⟨w, hw, hcfg, hcur⟩ := State.writeCfg_starts hn (Bool.eq_false_iff.2 hoff) (eq_true_of_ne_false hon)
      have hsame := State.pwm_setPwm_same (hlen ▸ hn) w
      exact ⟨s.setPwm n w, hw ▸ exec_pwCfgWrite hup v ho, by rw [hsame, hcfg], fun k hk => s.pwm_setPwm_ne hk w, fun _ _ => by rw [hsame, hcur],
        fun hrun => absurd hrun hoff⟩

end Sys2Proof.Machine
end

section
/-! PROOFS of Channels (O39): CHANNEL_ENABLE (R281), inrush (R282, R284), trips (R283) and IMU supplies (R555). -/

namespace Sys2Proof.Machine

theorem State.chan_setChan_same {s : State} {c : Nat} (h : c < s.sen.channels.length) (x : Channel) : (s.setChan c x).chan c = x := setAt_getD_same h x {}

/-! ### CHANNEL_ENABLE -/

/-- ON 1 (R281). -/
theorem specChannelEnable_run_on {e : Env} (s : State) (h : e.p.b 3 31 = true) :
    let c := channelOf e.p
    let x := s.chan c
    specChannelEnable.run e s = if x.on then s.finish e.id 0 [channelNo c, x.used, x.us, 0]
      else (s.setChan c { x with fenced := false, limitMa := if e.p.f 4 15 0 = 0 then 550 else e.p.f 4 15 0
                                 inrush := some { start := s.now } }).setJob e.id (.waits (.channel c)) :=
  if_pos h

/-- ON 0. -/
theorem specChannelEnable_run_off {e : Env} (s : State) (h : e.p.b 3 31 = false) :
    let c := channelOf e.p
    let v := s.setChan c { s.chan c with on := false, inrush := none }
    specChannelEnable.run e s = ((v.chanWaiters c).foldl (fun y i => y.finish i 0x0300) v).finish e.id 0 [channelNo c] :=
  if_neg (Bool.eq_false_iff.1 h)

/-! ### Inrush, trips and IMU supplies while the module is up -/

section
variable {s : State} (hup : s.clocked = true)
include hup

/-- Every CHANNEL_ENABLE that waits for the channel completes with its inrush (R282). -/
theorem exec_inrushComplete {c : Nat} {r : Inrush} (hr : (s.chan c).inrush = some r) (hp : r.paused = false) :
    let us := (s.now - r.start) / 1000
    let v := s.setChan c { s.chan c with on := true, inrush := none, used := r.retries, us := us }
    exec (.inrushComplete c) s = .next ((v.chanWaiters c).foldl (fun y i => y.finish i 0 [channelNo c, r.retries, us, 0]) v) := by
  show execInrushComplete c s = _
  simp [execInrushComplete, State.whileUp_of hup, hr, hp]

/-- An inrush that has not completed is paused after rail droop, at most three times, else the channel is fenced (R284). -/
theorem exec_inrushWindowEnd {c : Nat} {r : Inrush} (droop : Bool) (hr : (s.chan c).inrush = some r) (hp : r.paused = false) :
    exec (.inrushWindowEnd c droop) s = .next (if droop = true ∧ r.retries < 3 then s.setChan c { s.chan c with inrush := some { r with paused := true } }
      else s.fenceChannel c 2) := by
  show execInrushWindowEnd c droop s = _
  simp [execInrushWindowEnd, State.whileUp_of hup, hr, hp]

theorem exec_inrushRetry {c : Nat} {r : Inrush} (hr : (s.chan c).inrush = some r) (hp : r.paused = true) :
    exec (.inrushRetry c) s = .next (s.setChan c { s.chan c with inrush := some { retries := r.retries + 1, start := s.now } }) := by
  show execInrushRetry c s = _
  simp [execInrushRetry, State.whileUp_of hup, hr, hp]

theorem exec_shortTrip_on {c : Nat} (hc : c < 32) (hon : (s.chan c).on = true) : exec (.shortTrip c) s = .next (s.fenceChannel c 1) := by
  have hchannel : ¬ 32 ≤ c := Nat.not_le.2 hc
  show execShortTrip c s = _
  simp only [execShortTrip, State.whileUp_of hup, hon, hchannel, decide_false, Bool.true_or, Bool.not_true, Bool.or_false, Bool.false_eq_true, if_false]

theorem exec_imuSupplyLimit_on {port : Nat} (folded : Bool) (hon : s.pwr.imuOn.getD port false = true) :
    exec (.imuSupplyLimit port folded) s = .next { s with pwr := { s.pwr with imuFolded := setAt s.pwr.imuFolded port folded } } := by
  show execImuSupplyLimit port folded s = _
  rw [execImuSupplyLimit, State.whileUp_of hup, hon]
  rfl

end

/-! ### A fenced channel -/

@[simp] theorem State.event_sen (s : State) (c o st x : Nat) (d : List Nat) : (s.event c o st x d).sen = s.sen := by
  simp only [State.event_frame]

@[simp] theorem State.fenceLog_sen (s : State) (cls unit cause : Nat) : (s.fenceLog cls unit cause).sen = s.sen := State.trace_sen _ _

/-- A dropped A-PHY link without streams is at no gear, and that is all (Table 11.4). -/
theorem State.dropAphy_of_no_streams {s : State} (port : Nat) (h : s.sen.streams = []) :
    s.dropAphy port = { s with sen := { s.sen with gears := setAt s.sen.gears port 0 } } := by
  simp [State.dropAphy, h]

/-- Fencing a channel that no packet waits for and no stream comes on switches it off and latches it (R283, R284). -/
theorem State.chan_fenceChannel {s : State} {c : Nat} (cause : Nat) (hc : c < s.sen.channels.length) (hw : s.chanWaiters c = []) (hs : s.sen.streams = []) :
    (s.fenceChannel c cause).chan c = { s.chan c with on := false, inrush := none, fenced := true } := by
  unfold State.fenceChannel
  extract_lets no lamp status d x s1 who s2 s3
  have hwho : who.isEmpty = true := by
    rw [show who = [] from hw]
    rfl
  have hsen : s3.sen = s1.sen := by
    simp only [s3, s2, if_pos hwho, State.fenceLog_sen, State.event_sen]
  have hchan : s3.chan c = { s.chan c with on := false, inrush := none, fenced := true } := by
    rw [State.chan, hsen]
    exact State.chan_setChan_same hc _
  have hstreams : s3.sen.streams = [] := by rw [hsen]; exact hs
  by_cases hl : lamp = true
  · rwa [if_pos hl]
  · rw [if_neg hl, State.dropAphy_of_no_streams c hstreams]
    exact hchan

/-! ### Channels -/

/-- Settles O39: CHANNEL_ENABLE runs its effect on the state in which it stands outstanding, and each event of a channel does what its rule says. -/
theorem channels : Obligations.Channels := by
  unfold Obligations.Channels
  refine ⟨fun src p0 s => ?on, fun src p0 s => ?off, fun s c r hup hr hp => ⟨exec_inrushComplete hup hr hp, fun hlow => ?paused, ?failed, fun hlast => ?exhausted⟩,
    fun s c r hup => exec_inrushRetry hup, fun s c hup => exec_shortTrip_on hup, fun s c cause hc hlen hw hs => ?fenced, fun s port folded hup => exec_imuSupplyLimit_on hup folded⟩
  case on =>
    intro p h q u c x hon
    exact OpSpec.next_exec_accepted h (by decide) (specChannelEnable_run_on (e := specChannelEnable.env src p s) u hon)
  case off =>
    intro p h q u c v hoff
    exact OpSpec.next_exec_accepted h (by decide) (specChannelEnable_run_off (e := specChannelEnable.env src p s) u hoff)
  case paused => rw [exec_inrushWindowEnd hup true hr hp, if_pos ⟨rfl, hlow⟩]
  case failed => rw [exec_inrushWindowEnd hup false hr hp, if_neg (by simp)]
  case exhausted => rw [exec_inrushWindowEnd hup true hr hp, if_neg (by simpa using hlast)]
  case fenced =>
    rw [State.chan_fenceChannel cause (hlen ▸ hc) hw hs]
    exact ⟨rfl, rfl⟩

end Sys2Proof.Machine
end

section
/-! PROOFS of BatchesAndSamples (O38): frames and batches of T1 ports (R275), SPI samples (R276) and T1 links (R380, R453, Table 11.4). -/

namespace Sys2Proof.Machine

/-- The stream is one of T1 port `port` and its filter matches the frame (R275). -/
def Stream.takesFrame (port : Nat) (frame : List Byte) (t : Stream) : Bool :=
  t.kind = 1 && t.port = port && t.ether = (ethHead frame).1 && t.vlan = (ethHead frame).2.2.1
    && (!t.matchUdp || (match udpPort frame with | some (d, _) => d = t.udp | none => false))

/-! ### Frames, batches and samples -/

/-- A frame on a T1 port whose link is up (R275). -/
theorem exec_t1Frame {s : State} {port : Nat} (frame : List Byte) (hup : s.pwr.phase = .up) (hport : port < 8) (hlink : s.portUp port = true) :
    exec (.t1Frame port frame) s = .next (match s.streamBy (Stream.takesFrame port frame) with
      | some (n, t) => s.landBatch n t (frame.drop (ethHead frame).2.1)
      | none => s.hostReceive port frame) := by
  have hheard : ¬ (s.pwr.phase ≠ .up || 8 ≤ port || !s.portUp port) = true := by simp [hup, hport, hlink]
  show execT1Frame port frame s = _
  rw [execT1Frame, if_neg hheard]
  rfl

theorem exec_batchClose {s : State} {n : Nat} {t : Stream} (hup : s.clocked = true) (ht : NMap.get? s.sen.streams n = some t) :
    exec (.batchClose n) s = .next (if t.kind = 1 then s.closeFrame n false else s) := by
  show execBatchClose n s = _
  rw [execBatchClose, State.whileUp_of hup, ht]

/-- One sample of `len` bytes of SPI stream `n`: the command goes out and what is read back is a frame of its own (R276). -/
def State.spiSample (s : State) (port n : Nat) (t : Stream) (x : List Byte) : State :=
  (((s.emit (.spi port t.cmd)).openFrame n).landLine n ((x ++ List.replicate t.readLen 0).take t.readLen) false false false).closeFrame n false

section
variable {s : State} {port n : Nat} {t : Stream} (ht : s.streamBy (fun t => t.kind = 2 && t.port = port) = some (n, t))
include ht

/-- A supplied SPI stream is read at the source of its rate: a tick, or an edge where its supply has not folded back (R276, R555). -/
theorem State.landSample_read {byRate : Bool} (x : List Byte) (hon : s.pwr.imuOn.getD port false = true) (hrate : t.rateHz ≠ 0 ↔ byRate = true)
    (hfed : byRate = true ∨ s.pwr.imuFolded.getD port false = false) : s.landSample port x byRate = s.spiSample port n t x := by
  have hreads : ¬ ((t.rateHz ≠ 0) ≠ byRate || !s.pwr.imuOn.getD port false || (!byRate && s.pwr.imuFolded.getD port false)) = true := by
    rw [hon]
    rcases hfed with rfl | hfed
    · simp [hrate]
    · rw [hfed]
      simp [hrate]
  simp only [State.landSample, ht, if_neg hreads]
  rfl

/-- The source that is not the one of its rate reads nothing of an SPI stream (R276). -/
theorem State.landSample_other {byRate : Bool} (x : List Byte) (hrate : ¬ (t.rateHz ≠ 0 ↔ byRate = true)) : s.landSample port x byRate = s := by
  have hother : ((t.rateHz ≠ 0) ≠ byRate || !s.pwr.imuOn.getD port false || (!byRate && s.pwr.imuFolded.getD port false)) = true := by
    simp [hrate]
  simp only [State.landSample, ht, if_pos hother]

theorem exec_spiDrdyMiss (hup : s.clocked = true) :
    exec (.spiDrdyMiss port) s = .next { s with sen := { s.sen with streams := NMap.put s.sen.streams n { t with misses := t.misses + 1 } } } := by
  show execSpiDrdyMiss port s = _
  rw [execSpiDrdyMiss, State.whileUp_of hup, ht]
  rfl

end

theorem exec_spiDataReady {s : State} (port : Nat) (x : List Byte) (hup : s.pwr.phase = .up) : exec (.spiDataReady port x) s = .next (s.landSample port x false) :=
  congrArg _ (if_neg (not_not_intro hup))

theorem exec_spiRateTick {s : State} (port : Nat) (x : List Byte) (hup : s.pwr.phase = .up) : exec (.spiRateTick port x) s = .next (s.landSample port x true) :=
  congrArg _ (if_neg (not_not_intro hup))

/-! ### T1 links -/

/-- The loss of a link is counted, and on the drive ring logged (R380, R453). -/
theorem exec_t1LinkLoss {s : State} {port : Nat} (hup : s.clocked = true) (hport : port < 12) (hlink : s.sen.t1Up.getD port false = true) :
    let v : State := { s with sen := { s.sen with t1Up := setAt s.sen.t1Up port false, t1Losses := setAt s.sen.t1Losses port (s.sen.t1Losses.getD port 0 + 1) } }
    exec (.t1LinkLoss port) s = .next (if 10 ≤ port then v.logIt .driveRing port else v) := by
  have hlost : ¬ (12 ≤ port || !s.sen.t1Up.getD port false) = true := by
    rw [hlink]
    simpa using hport
  show execT1LinkLoss port s = _
  rw [execT1LinkLoss, State.whileUp_of hup, if_neg hlost]

/-- A link that returns serves the descriptors that waited (R304). -/
theorem exec_t1LinkReturn {s : State} {port : Nat} (hup : s.pwr.phase = .up) (hport : port < 12) :
    let v : State := { s with sen := { s.sen with t1Up := setAt s.sen.t1Up port true } }
    exec (.t1LinkReturn port) s = .next (v.servePort port (v.txWaiting port)) := by
  have hreturns : ¬ (12 ≤ port || s.pwr.phase ≠ .up) = true := by simp [hport, hup]
  show execT1LinkReturn port s = _
  rw [execT1LinkReturn, if_neg hreturns]

/-! ### BatchesAndSamples -/

/-- Settles O38, clause by clause from the rules of the ports' events. -/
theorem batchesAndSamples : Obligations.BatchesAndSamples := by
  unfold Obligations.BatchesAndSamples
  refine ⟨fun s port frame hup hport hlink => ?frames, fun s n t hup ht => ⟨fun hk => ?closes, fun hk => ?other⟩, fun s port n t x hup ht hon => ?samples,
    fun s port n t hup ht => exec_spiDrdyMiss ht hup, fun s port hup hport hlink => exec_t1LinkLoss hup hport hlink, fun s port hup hport => exec_t1LinkReturn hup hport⟩
  case frames =>
    intro f
    have hexec := exec_t1Frame frame hup hport hlink
    refine ⟨fun hf => ?_, fun n t hf => ?_⟩
    all_goals rw [show s.streamBy (Stream.takesFrame port frame) = s.streamBy f from rfl, hf] at hexec
    all_goals exact hexec
  case closes => rw [exec_batchClose hup ht, if_pos hk]
  case other => rw [exec_batchClose hup ht, if_neg hk]
  case samples =>
    intro v
    rw [exec_spiDataReady port x hup, exec_spiRateTick port x hup]
    refine ⟨fun hrate hfed => congrArg _ ?edge, fun hrate => congrArg _ ?noTick, fun hrate => ⟨congrArg _ ?tick, congrArg _ ?noEdge⟩⟩
    case edge => exact State.landSample_read ht x hon (by simp [hrate]) (.inr hfed)
    case noTick => exact State.landSample_other ht x (by simp [hrate])
    case tick => exact State.landSample_read ht x hon (by simp [hrate]) (.inl rfl)
    case noEdge => exact State.landSample_other ht x (by simp [hrate])

end Sys2Proof.Machine
end

section
/-! PROOFS of StepIdleTick (O2) and ResetState (O3): a step with no command waiting (R290, log entry 2), and what registers read after module reset (Tables 2.4, 2.6,
19.4, 20.4). -/

namespace Sys2Proof.Machine

/-! ### StepIdleTick -/

theorem step_of_no_command {s : State} (h : s.pending = []) : step s = .next s.tick := by
  rw [step, h]

/-- A tick of a running time unit adds the increment in force to device time (R290). -/
theorem State.tick_timed {s : State} (h : s.pwr.phase.timed = true) :
    s.tick.time.ns * 2 ^ 32 + s.tick.time.frac = s.time.ns * 2 ^ 32 + s.time.frac + s.time.inc := by
  simp only [State.tick, h, if_true]
  omega

theorem State.tick_untimed {s : State} (h : s.pwr.phase.timed = false) : s.tick.time = { s.time with tick := s.time.tick + 1 } := by
  simp [State.tick, h]

theorem State.tick_tick (s : State) : s.tick.time.tick = s.time.tick + 1 := by
  unfold State.tick
  dsimp only
  split <;> rfl

/-- Settles O2: the step is a tick of the time unit, which touches device time and the field-life counters. -/
theorem stepIdleTick : Obligations.StepIdleTick := by
  intro s hidle
  refine ⟨s.tick, step_of_no_command hidle, s.tick_tick, State.tick_timed, fun hstill => ?_, rfl, rfl, rfl, rfl, rfl, rfl⟩
  rw [State.tick_untimed hstill]
  exact ⟨rfl, rfl⟩

/-! ### ResetState -/

/-- Settles O3: each register's read at the reset state is evaluated. -/
theorem resetState : Obligations.ResetState :=
  ⟨by decide, by decide, by decide, by decide, fun _ => rfl, rfl, rfl, rfl, rfl⟩

end Sys2Proof.Machine
end

section
/-! PROOFS of DeviceTime (O41): TIME_STEP (R293), TIME_RATE (R290, R294) and the read of TIME_N (R291). -/

namespace Sys2Proof.Machine

/-- Taking a packet in leaves the time unit as it was. -/
@[simp] theorem OpSpec.taken_time (sp : OpSpec) (src : Src) (p : Packet) (s : State) : (sp.taken src p s).time = s.time := by cases src <;> rfl

@[simp] theorem OpSpec.taken_now (sp : OpSpec) (src : Src) (p : Packet) (s : State) : (sp.taken src p s).now = s.now := by rw [State.now, OpSpec.taken_time, State.now]

/-! ### TIME_STEP -/

/-- The time that TIME_STEP MODE 0 names (R293). -/
theorem State.stepTo_set {s : State} {q : Packet} (hmode : q.b 3 31 = false) :
    s.stepTo q = if q.word 4 < 10 ^ 9 then some ((q.word 5 + q.f 6 15 0 * 2 ^ 32) * 10 ^ 9 + q.word 4) else none := by
  simp [State.stepTo, hmode]

/-- The time that TIME_STEP MODE 1 reaches from the present one (R293). -/
theorem State.stepTo_add {s : State} {q : Packet} {t : Int} (hmode : q.b 3 31 = true) (ht : s.now + sext 64 (q.word 4 + q.word 5 * 2 ^ 32) = t) :
    s.stepTo q = if 0 ≤ t ∧ t < 2 ^ 48 * 10 ^ 9 then some t.toNat else none := by
  simp only [State.stepTo, hmode, if_true, ht]
  simp

/-- A TIME_STEP whose parameters pass their checks reaches a time in range. -/
theorem State.stepTo_of_params {e : Env} {s : State} (h : specTimeStep.params e s = none) : ∃ t, s.stepTo e.p = some t := by
  refine Option.ne_none_iff_exists'.1 (fun hnone => ?_)
  simp only [specTimeStep, hnone, Option.isNone_none, if_true] at h
  split at h <;> cases h

/-- A TIME_STEP that reaches time `t` puts it in force, at a whole nanosecond in MODE 0 (log entry 65), and is spent. -/
theorem specTimeStep_run {e : Env} {s : State} {t : Nat} (h : s.stepTo e.p = some t) :
    specTimeStep.run e s = ({ s with time := { s.time with ns := t, frac := if e.p.b 3 31 then s.time.frac else 0, stepUsed := true } } : State).finish e.id 0 [ts32 s.now, ts32 t] := by
  simp only [specTimeStep, h]
  rfl

/-! ### A spent TIME_STEP -/

/-- The row's checks without its preconditions. -/
def OpSpec.withoutPre (sp : OpSpec) : OpSpec := { sp with pre := fun _ _ => none }

/-- A row's preconditions are the last of its checks (R47, Table 2.12). -/
theorem OpSpec.check_eq_or (sp : OpSpec) (e : Env) (s : State) : sp.check e s = (sp.withoutPre.check e s).or (sp.pre e s) := by
  unfold OpSpec.check
  simp only [OpSpec.withoutPre, OpSpec.draftPre]
  repeat' split
  all_goals simp_all

/-- The state with its TIME_STEP not yet spent. -/
def State.unspent (s : State) : State := { s with time := { s.time with stepUsed := false } }

theorem OpSpec.taken_unspent (sp : OpSpec) (src : Src) (p : Packet) (s : State) : sp.taken src p s.unspent = (sp.taken src p s).unspent := by cases src <;> rfl

theorem OpSpec.env_unspent (sp : OpSpec) (src : Src) (p : Packet) (s : State) : sp.env src p s.unspent = sp.env src p s := rfl

/-- Precondition 32 holds where TIME_STEP passes its preconditions. -/
theorem State.timeFree_of_pre {e : Env} {s : State} (h : specTimeStep.pre e s = none) : s.timeFree = true := by
  cases hfree : s.timeFree with
  | true => rfl
  | false => simp [specTimeStep, hfree] at h

/-- Of the checks of TIME_STEP only the last looks at whether a step is spent. -/
theorem specTimeStep_check_of_spent {e : Env} {s : State} (hspent : s.time.stepUsed = true) (h : specTimeStep.check e s.unspent = none) :
    specTimeStep.check e s = some ⟨0x0402, []⟩ := by
  rw [OpSpec.check_eq_or, Option.or_eq_none_iff] at h
  obtain ⟨hcheck, hpre⟩ := h
  have hfree : s.timeFree = true := State.timeFree_of_pre (s := s.unspent) hpre
  rw [OpSpec.check_eq_or, show specTimeStep.withoutPre.check e s = none from hcheck]
  simp [specTimeStep, hfree, hspent]

/-- A TIME_STEP that would be accepted but for a spent one ends STEP_SPENT (R293). -/
theorem specTimeStep_exec_spent {src : Src} {p : Packet} {s : State} (hspent : s.time.stepUsed = true) (h : specTimeStep.accepts src p s.unspent = true) :
    specTimeStep.exec src p s = (specTimeStep.taken src p s).finish s.q.nextId 0x0402 := by
  simp only [OpSpec.accepts, Bool.and_eq_true, Option.isNone_iff_eq_none, OpSpec.taken_unspent, OpSpec.env_unspent] at h
  obtain ⟨⟨hstarts, hcheck⟩, -⟩ := h
  have hstarts : s.starts src = true := hstarts
  have hrejects : specTimeStep.rejects src p s = some ⟨0x0402, []⟩ := by
    rw [OpSpec.rejects, if_pos hstarts]
    exact specTimeStep_check_of_spent (by rwa [OpSpec.taken_time]) hcheck
  rw [OpSpec.exec_rejects hrejects]

/-! ### TIME_RATE -/

theorem rateOf_of_params {e : Env} {s : State} (h : specTimeRate.params e s = none) : -500000 ≤ rateOf e.p ∧ rateOf e.p ≤ 500000 := by
  by_cases hbad : rateOf e.p < -500000 ∨ 500000 < rateOf e.p
  · simp [specTimeRate, hbad] at h
  · omega

/-- The increment is the quotient or one more, whichever is nearer, and the even one of the two at a tie (R290). -/
theorem tickInc_nearest (rho : Int) :
    let x := 4 * 2 ^ 32 * (10 ^ 9 + rho).toNat
    2 * tickInc rho * 10 ^ 9 ≤ 2 * x + 10 ^ 9 ∧ 2 * x ≤ 2 * tickInc rho * 10 ^ 9 + 10 ^ 9
      ∧ (2 * tickInc rho * 10 ^ 9 = 2 * x + 10 ^ 9 ∨ 2 * x = 2 * tickInc rho * 10 ^ 9 + 10 ^ 9 → tickInc rho % 2 = 0) := by
  intro x
  have hinc : tickInc rho = if 10 ^ 9 < 2 * (x % 10 ^ 9) ∨ 2 * (x % 10 ^ 9) = 10 ^ 9 ∧ x / 10 ^ 9 % 2 = 1 then x / 10 ^ 9 + 1 else x / 10 ^ 9 := by
    simp [tickInc, x]
  clear_value x
  rw [hinc]
  split <;> omega

/-! ### DeviceTime -/

/-- Settles O41: the rows of TIME_STEP and TIME_RATE run on the state in which their packet stands outstanding, and the read of TIME_N is a page access. -/
theorem deviceTime : Obligations.DeviceTime := by
  unfold Obligations.DeviceTime
  refine ⟨fun src p0 s => ?set, fun src p0 s => ?add, fun src p0 s hspent => ?spent, fun src p s haccepts => ?rate, fun rho _ _ => tickInc_nearest rho,
    fun s who hup hopen => ?read⟩
  case set =>
    intro p haccepts q u hmode t
    obtain ⟨t', ht⟩ := State.stepTo_of_params (OpSpec.params_of_accepts haccepts)
    have hset := State.stepTo_set (s := u) hmode
    rw [show u.stepTo q = some t' from ht] at hset
    split at hset
    · next hlow =>
      refine ⟨hlow, OpSpec.next_exec_accepted haccepts (by decide) ((specTimeStep_run ht).trans ?_)⟩
      have hm : (specTimeStep.env src p s).p.b 3 31 = false := hmode
      rw [hm, OpSpec.taken_now, Option.some.inj hset]
      rfl
    · cases hset
  case add =>
    intro p haccepts q u hmode t
    obtain ⟨t', ht⟩ := State.stepTo_of_params (OpSpec.params_of_accepts haccepts)
    have hadd := State.stepTo_add (s := u) (t := t) hmode (by rw [OpSpec.taken_now])
    rw [show u.stepTo q = some t' from ht] at hadd
    split at hadd
    · next hrange =>
      refine ⟨hrange.1, hrange.2, OpSpec.next_exec_accepted haccepts (by decide) ((specTimeStep_run ht).trans ?_)⟩
      have hm : (specTimeStep.env src p s).p.b 3 31 = true := hmode
      rw [hm, OpSpec.taken_now, Option.some.inj hadd]
      rfl
    · cases hadd
  case spent =>
    exact ⟨fun haccepts => congrArg _ (specTimeStep_exec_spent hspent haccepts), fun haccepts => congrArg _ (specTimeStep_exec_spent hspent haccepts)⟩
  case rate =>
    intro q u rho
    obtain ⟨hlow, hhigh⟩ := rateOf_of_params (OpSpec.params_of_accepts haccepts)
    refine ⟨hhigh, hlow, OpSpec.next_exec_accepted haccepts (by decide) ?_⟩
    rw [← OpSpec.taken_time specTimeRate src p s]
    rfl
  case read => exact congrArg _ (State.paged_open _ hup hopen)

end Sys2Proof.Machine
end

section
/-! PROOFS of HostQueues (O42): rings and doorbells (R303, Table 12.5), transmission at a launch time (R304), reception (R275, Table 12.6) and timestamp entries (R305). -/

namespace Sys2Proof.Machine

/-! ### Rings and doorbells -/

/-- LAUNCH_CONFIG gives a queue an empty ring (R303). -/
theorem specLaunchConfig_run_configure {e : Env} (s : State) (h : e.p.b 3 23 = false) :
    specLaunchConfig.run e s = (s.setQueue (launchKey e.p)
      { ctx := e.p.ctx, ring := e.p.addr 4, sizeLog2 := e.p.f 3 27 24, launch := e.p.b 3 29, late := e.p.f 3 31 30 }).finish e.id 0 := by
  simp only [specLaunchConfig, h]
  rfl

/-- LAUNCH_CONFIG with RELEASE takes a queue's ring away (R303). -/
theorem specLaunchConfig_run_release {e : Env} (s : State) (h : e.p.b 3 23 = true) :
    specLaunchConfig.run e s = ({ s with time := { s.time with queues := NMap.del s.time.queues (launchKey e.p) } } : State).finish e.id 0 := by
  simp only [specLaunchConfig, h]
  rfl

section
variable {s : State} {h : HostQueue} {port dir queue : Nat}

theorem State.queueBell_no_ring (v : Nat) (hnone : NMap.get? s.time.queues (queueKey port dir queue) = none) : s.queueBell port dir queue v = s := by
  rw [State.queueBell, hnone]

/-- A DOORBELL value up to the ring's entries makes the descriptors available; any other is ignored and logged (log entry 66). -/
theorem State.queueBell_ring (v : Nat) (hring : NMap.get? s.time.queues (queueKey port dir queue) = some h) :
    let x : Index := BitVec.ofNat 16 v
    let u := s.setQueue (queueKey port dir queue) { h with tail := x }
    s.queueBell port dir queue v = if 2 ^ h.sizeLog2 < (x - h.head).toNat then s.logIt .refused (queueKey port dir queue) x.toNat
      else if dir = 0 then u.servePort port (u.txWaiting port) else u := by
  rw [State.queueBell, hring]

theorem exec_hostQueueDoorbell {who : Accessor} (v : Word) (hup : s.clocked = true) (hopen : pageOpen who = true) :
    exec (.hostQueueDoorbell who port dir queue v) s = .next (s.queueBell port dir queue v.toNat) :=
  congrArg _ (State.paged_open _ hup hopen)

/-- At a launch time the transmit queues of the port are served (R304). -/
theorem exec_launchTime (hup : s.clocked = true) (hring : NMap.get? s.time.queues (queueKey port 0 queue) = some h) :
    exec (.launchTime port queue) s = .next (s.servePort port (s.txWaiting port)) := by
  show execLaunchTime port queue s = _
  rw [execLaunchTime, State.whileUp_of hup, hring]

end

/-! ### The head of a transmit queue -/

/-- Where the head descriptor of a ring lies. -/
def HostQueue.headSlot (h : HostQueue) : Addr := h.ring + 32 * (h.head.toNat % 2 ^ h.sizeLog2)

/-- The launch time that a transmit descriptor names (Table 12.6). -/
def launchDue (d : Nat) : Nat := (bits d 159 128 + bits d 175 160 * 2 ^ 32) * 10 ^ 9 + bits d 127 96

section
variable {s : State} {h : HostQueue} {port q d : Nat} (hring : NMap.get? s.time.queues (queueKey port 0 q) = some h)
include hring

theorem State.txOne_empty (hempty : h.tail = h.head) : s.txOne port q = none := by
  simp [State.txOne, hring, hempty]

variable (hbusy : h.tail ≠ h.head) (hslot : s.ringOk h.ctx h.headSlot 32 false = true) (hd : s.loadNat h.headSlot 32 = d)
include hbusy hslot hd

/-- A malformed head descriptor is skipped and counted (R304). -/
theorem State.txOne_malformed (hbad : malformed h.launch d = true) :
    s.txOne port q = some (s.setQueue (queueKey port 0 q) { h with head := h.head + 1, malformed := satAdd 0xFFFFFFFF h.malformed 1 }) := by
  unfold HostQueue.headSlot at hslot hd
  simp only [State.txOne, hring, if_neg hbusy, hslot, hd, hbad, Bool.not_true, Bool.false_eq_true, if_false, if_true]

variable (hgood : malformed h.launch d = false)
include hgood

/-- A head descriptor whose launch time is still to come stays (R304). -/
theorem State.txOne_waits (hlaunch : bit d 95 = true) (hearly : s.now < launchDue d) : s.txOne port q = none := by
  unfold HostQueue.headSlot at hslot hd
  unfold launchDue at hearly
  simp only [State.txOne, hring, if_neg hbusy, hslot, hd, hgood, hlaunch, hearly, Bool.not_true, Bool.false_eq_true, if_false, decide_true, Bool.and_self, if_true]

variable (hbuf : s.ringOk h.ctx (bits d 47 0) (bits d 63 48) false = true)
include hbuf

/-- A head descriptor without a launch time and without a timestamp request is sent (R304). -/
theorem State.txOne_sends (hlaunch : bit d 95 = false) (hstamp : bit d 94 = false) :
    s.txOne port q = some ((s.setQueue (queueKey port 0 q) { h with head := h.head + 1 }).sendEth port (s.load (bits d 47 0) (bits d 63 48))) := by
  unfold HostQueue.headSlot at hslot hd
  simp only [State.txOne, hring, if_neg hbusy, hslot, hd, hgood, hbuf, hlaunch, hstamp, Bool.not_true, Bool.false_eq_true, if_false, Bool.false_and, Bool.or_self]

/-- A head descriptor at most 1 µs after its launch time is sent, with an entry of kind 0 in the port's timestamp queue (R304, R305). -/
theorem State.txOne_launches (hlaunch : bit d 95 = true) (hdue : launchDue d ≤ s.now) (hintime : s.now ≤ launchDue d + 1000) :
    s.txOne port q = some (((s.setQueue (queueKey port 0 q) { h with head := h.head + 1 }).sendEth port (s.load (bits d 47 0) (bits d 63 48))).pushTs port
      ⟨0, bits d 79 64, ts32 s.now⟩) := by
  unfold HostQueue.headSlot at hslot hd
  have hearly := Nat.not_lt.2 hdue
  have hlate := Nat.not_lt.2 hintime
  unfold launchDue at hearly hlate
  simp only [State.txOne, hring, if_neg hbusy, hslot, hd, hgood, hbuf, hlaunch, hearly, hlate, Bool.not_true, Bool.false_eq_true, if_false, decide_false, Bool.true_and,
    Bool.false_and, Bool.true_or, if_true, Bool.toNat_false]

end

/-! ### Received frames and timestamp entries -/

section
variable {s : State} {h : HostQueue} {port : Nat} {frame : List Byte}

theorem exec_hostFrameReceive (hup : s.pwr.phase = .up) (hlink : s.portUp port = true) : exec (.hostFrameReceive port frame) s = .next (s.hostReceive port frame) := by
  have hdropped : ¬ (s.pwr.phase ≠ .up || !s.portUp port) = true := by simp [hup, hlink]
  show execHostFrameReceive port frame s = _
  rw [execHostFrameReceive, if_neg hdropped]

theorem State.hostReceive_no_ring (hnone : NMap.get? s.time.queues (queueKey port 1 (ethHead frame).2.2.2) = none) :
    s.hostReceive port frame = s.logIt .dropped port 1 := by
  simp only [State.hostReceive, hnone]

variable (hring : NMap.get? s.time.queues (queueKey port 1 (ethHead frame).2.2.2) = some h)
include hring

theorem State.hostReceive_no_descriptor (hempty : h.tail = h.head) : s.hostReceive port frame = s.logIt .dropped port 1 := by
  simp only [State.hostReceive, hring, if_pos hempty]

/-- A received frame lands in the buffer of the head descriptor, and its completion in the descriptor's slot (Table 12.6, log entry 66). -/
theorem State.hostReceive_lands (hbusy : h.tail ≠ h.head) (hslot : s.ringOk h.ctx h.headSlot 32 true = true)
    (hbuf : s.ringOk h.ctx (bits (s.loadNat h.headSlot 32) 47 0) frame.length true = true) :
    s.hostReceive port frame = ((s.setQueue (queueKey port 1 (ethHead frame).2.2.2) { h with head := h.head + 1 }).store (bits (s.loadNat h.headSlot 32) 47 0) frame).store
      h.headSlot (leBytes 32 (frame.length % 2 ^ 16 * 2 ^ 48 + (ptpEvent frame).toNat * 2 ^ 95 + ts32 s.now * 2 ^ 96)) := by
  unfold HostQueue.headSlot at hslot hbuf
  simp only [State.hostReceive, hring, if_neg hbusy, hslot, hbuf, Bool.not_true, Bool.or_self, Bool.false_eq_true, if_false]
  rfl

end

/-- A read of TSQ_ENTRY pops the oldest entry of its port's timestamp queue (R305). -/
theorem exec_tsqPop {s : State} {who : Accessor} (port : Nat) (hup : s.clocked = true) (hopen : pageOpen who = true) :
    exec (.tsqPop who port) s = .next 
      { s with time := { s.time with tsq := NMap.put s.time.tsq port { NMap.getD s.time.tsq port {} with entries := (NMap.getD s.time.tsq port {}).entries.drop 1 } } } :=
  congrArg _ (State.paged_open _ hup hopen)

/-! ### HostQueues -/

/-- Settles O42, clause by clause from the rules of rings, descriptors and frames. -/
theorem hostQueues : Obligations.HostQueues := by
  unfold Obligations.HostQueues
  refine ⟨fun src p0 s => ?configures, fun src p0 s => ?releases, fun s who port dir queue v hup hopen => ?rings, fun s port queue h hup hring => exec_launchTime hup hring,
    fun s port q h hring => ?transmits, fun s port frame hup hlink => ?receives, fun s who port hup hopen => ?pops⟩
  case configures =>
    intro p haccepts q u hmode
    exact OpSpec.next_exec_accepted haccepts (by decide) (specLaunchConfig_run_configure (e := specLaunchConfig.env src p s) u hmode)
  case releases =>
    intro p haccepts q u hmode
    exact OpSpec.next_exec_accepted haccepts (by decide) (specLaunchConfig_run_release (e := specLaunchConfig.env src p s) u hmode)
  case rings =>
    intro k x
    rw [exec_hostQueueDoorbell v hup hopen]
    refine ⟨fun hnone => by rw [State.queueBell_no_ring _ hnone], fun h hring => ⟨fun hbeyond => ?_, fun hwithin => ?_⟩⟩
    all_goals rw [State.queueBell_ring _ hring]
    · rw [if_pos hbeyond]
    · rw [if_neg (Nat.not_lt.2 hwithin)]
  case transmits =>
    intro a d due v
    refine ⟨State.txOne_empty hring, fun hbusy hslot => ⟨State.txOne_malformed hring hbusy hslot rfl, fun hgood hlaunch hearly => ?_, fun hgood hlaunch hstamp hbuf => ?_,
      fun hgood hlaunch hdue hintime hbuf => ?_⟩⟩
    · exact State.txOne_waits hring hbusy hslot rfl hgood hlaunch hearly
    · exact State.txOne_sends hring hbusy hslot rfl hgood hbuf hlaunch hstamp
    · exact State.txOne_launches hring hbusy hslot rfl hgood hbuf hlaunch hdue hintime
  case receives =>
    intro k
    rw [exec_hostFrameReceive hup hlink]
    refine ⟨fun hnone => congrArg _ (State.hostReceive_no_ring hnone), fun h hring => ⟨fun hempty => congrArg _ (State.hostReceive_no_descriptor hring hempty), fun hbusy hslot hbuf => ?_⟩⟩
    refine ⟨_, congrArg _ (State.hostReceive_lands hring hbusy hslot hbuf), NMap.get?_put_same _ _ _, rfl, rfl, ?_⟩
    rw [State.store_mem, State.store_mem]
    rfl
  case pops =>
    exact ⟨_, exec_tsqPop port hup hopen, by simp [NMap.getD], fun k hk => by simp only [NMap.getD, NMap.get?_put_ne hk]⟩

end Sys2Proof.Machine
end

section
/-! SUPPORT. A map's other values after a removal. -/

namespace Sys2Proof

theorem NMap.get?_del_ne {α : Type} {m : NMap α} {k j : Nat} (h : j ≠ k) : NMap.get? (NMap.del m k) j = NMap.get? m j := by
  induction m with
  | nil => rfl
  | cons x r ih =>
    obtain ⟨a, v⟩ := x
    by_cases ha : a = k
    · have haj : a ≠ j := fun e => h (e ▸ ha)
      simpa [NMap.del, NMap.get?, ha, haj, Ne.symm h] using ih
    · by_cases hj : a = j
      · simp [NMap.del, NMap.get?, hj, h]
      · simpa [NMap.del, NMap.get?, ha, hj] using ih

end Sys2Proof
end

section
/-! PROOFS of TriggersAndCaptures (O43): TRIGGER_SET and its occurrences (R306, Table 12.9), CAPTURE_ARM and edges (R307, Table 12.11). -/

namespace Sys2Proof.Machine

/-! ### Triggers -/

/-- The trigger that TRIGGER_SET describes, set at time `at_` (Table 12.9). -/
def triggerOf (p : Packet) (at_ : Nat) : Trigger :=
  { ctx := p.ctx, first := (p.word 5 + p.f 6 15 0 * 2 ^ 32) * 10 ^ 9 + p.word 4, period := p.word 7, width := p.f 8 19 0, count := p.word 9, since := at_ }

/-- TRIGGER_SET whose first occurrence with its lead is occurrence `k`, within the trigger's count (R306). -/
theorem specTriggerSet_run_set {e : Env} {s : State} {t : Trigger} {k : Nat} (hset : e.p.b 3 31 = false) (ht : triggerOf e.p s.now = t)
    (hk : t.from_ (s.now + s.triggerLead (triggerOutput e.p)) = k) (hwithin : ∀ m, t.limit = some m → k < m) :
    specTriggerSet.run e s = ({ s with time := { s.time with
      triggers := NMap.put s.time.triggers (triggerOutput e.p) { t with next := k }
      trigStat := NMap.put s.time.trigStat (triggerOutput e.p) { (NMap.getD s.time.trigStat (triggerOutput e.p) {}) with skipped := min k 0xFFFF } } } : State).finish e.id 0
        [k, ts32 (t.due k)] := by
  subst ht
  unfold triggerOf at hk hwithin
  simp only [specTriggerSet, hset, hk, Bool.false_eq_true, if_false]
  split
  · next m hm =>
    split at hm
    · next l hl => simp [Nat.not_le.2 (hwithin l hl)] at hm
    · cases hm
  · rfl

/-- TRIGGER_SET with CANCEL (R306). -/
theorem specTriggerSet_run_cancel {e : Env} (s : State) (hcancel : e.p.b 3 31 = true) :
    specTriggerSet.run e s = ({ s with time := { s.time with triggers := NMap.del s.time.triggers (triggerOutput e.p) } } : State).finish e.id 0 := by
  simp only [specTriggerSet, hcancel]
  rfl

/-- The counts of an output after an occurrence at time `due`: it fired and its time is kept, or it was skipped (Table 12.10). -/
def TrigStat.after (a : TrigStat) (fires : Bool) (due : Nat) : TrigStat :=
  if fires then { a with fired := (a.fired + 1) % 65536, times := (due :: a.times).take 8 } else { a with skipped := satAdd 0xFFFF a.skipped 1 }

/-- The triggers once occurrence `t.next` of trigger `t` of output `n` is over: the next one is due, or the trigger is gone after its last. -/
def nextTriggers (m : NMap Trigger) (n : Nat) (t : Trigger) : NMap Trigger :=
  if t.limit.any (fun k => decide (k ≤ t.next + 1)) then NMap.del m n else NMap.put m n { t with next := t.next + 1 }

theorem get?_nextTriggers_due {m : NMap Trigger} {n : Nat} {t : Trigger} (h : ∀ k, t.limit = some k → t.next + 1 < k) :
    NMap.get? (nextTriggers m n t) n = some { t with next := t.next + 1 } := by
  cases hl : t.limit with
  | none => simp [nextTriggers, hl]
  | some k => simp [nextTriggers, hl, Nat.not_le.2 (h k hl)]

theorem get?_nextTriggers_last {m : NMap Trigger} {n k : Nat} {t : Trigger} (hl : t.limit = some k) (h : k ≤ t.next + 1) : NMap.get? (nextTriggers m n t) n = none := by
  simp [nextTriggers, hl, h]

theorem get?_nextTriggers_ne {m : NMap Trigger} {n j : Nat} (t : Trigger) (h : j ≠ n) : NMap.get? (nextTriggers m n t) j = NMap.get? m j := by
  unfold nextTriggers
  split
  · exact NMap.get?_del_ne h
  · exact NMap.get?_put_ne h

/-- An occurrence of an output that no lamp is tied to changes that output's counts and trigger alone (R306). -/
theorem exec_triggerOccurrence {s : State} {n : Nat} {t : Trigger} (hup : s.clocked = true) (ht : NMap.get? s.time.triggers n = some t) (hlamps : s.tiedLamps n = []) :
    exec (.triggerOccurrence n) s = .next { s with time := { s.time with
      trigStat := NMap.put s.time.trigStat n ((NMap.getD s.time.trigStat n {}).after (decide (t.since + s.triggerLead n ≤ t.due t.next)) (t.due t.next))
      triggers := nextTriggers s.time.triggers n t } } := by
  show execTriggerOccurrence n s = _
  simp only [execTriggerOccurrence, State.whileUp_of hup, State.occur, ht, hlamps, List.foldl_nil, ite_self, nextTriggers]
  cases t.limit <;> rfl

/-! ### Captures -/

/-- The state with another record at an edge input. -/
def State.setCapture (s : State) (i : Nat) (c : Capture) : State := { s with time := { s.time with captures := setAt s.time.captures i c } }

/-- CAPTURE_ARM arms an input for the edges that it names, its SEQ at 0 (R307). -/
theorem specCaptureArm_run_arm {e : Env} (s : State) (harm : e.p.b 3 31 = false) :
    specCaptureArm.run e s = (s.setCapture (e.p.f 3 1 0)
      { s.time.captures.getD (e.p.f 3 1 0) {} with ctx := some e.p.ctx, edge := e.p.f 3 30 29, seq := 0 }).finish e.id 0 := by
  simp only [specCaptureArm, harm]
  rfl

/-- CAPTURE_ARM with DISARM (R307). -/
theorem specCaptureArm_run_disarm {e : Env} (s : State) (hdisarm : e.p.b 3 31 = true) :
    specCaptureArm.run e s = (s.setCapture (e.p.f 3 1 0) { s.time.captures.getD (e.p.f 3 1 0) {} with ctx := none }).finish e.id 0 := by
  simp only [specCaptureArm, hdisarm]
  rfl

/-- A captured edge: queued with the next SEQ and its TS32, or counted as lost where the queue is full (R307). -/
def Capture.edgeAt (c : Capture) (rising : Bool) (now : Nat) : Capture :=
  let n := (c.seq + 1) % 65536
  if 16 ≤ c.entries.length then { c with seq := n, overflow := true, lost := satAdd 0xFFFF c.lost 1 } else { c with seq := n, entries := c.entries ++ [⟨rising, n, ts32 now⟩] }

section
variable {s : State} {i : Nat} {rising : Bool} (hup : s.clocked = true)
include hup

/-- An edge of another kind, or on a disarmed input, does nothing (R307). -/
theorem exec_edgeCapture_ignored (h : (s.time.captures.getD i {}).ctx = none ∨ bit (s.time.captures.getD i {}).edge (if rising then 0 else 1) = false) :
    exec (.edgeCapture i rising) s = .next s := by
  show execEdgeCapture i rising s = _
  rw [execEdgeCapture, State.whileUp_of hup]
  rcases h with h | h <;> simp only [h] <;> simp

/-- An edge of the kind that an input is armed for is captured (R307). -/
theorem exec_edgeCapture_captured (hi : i < 4) (harmed : (s.time.captures.getD i {}).ctx ≠ none)
    (hkind : bit (s.time.captures.getD i {}).edge (if rising then 0 else 1) = true) :
    exec (.edgeCapture i rising) s = .next (s.setCapture i ((s.time.captures.getD i {}).edgeAt rising s.now)) := by
  have hcaptured : ¬ ((s.time.captures.getD i {}).ctx.isNone || 4 ≤ i || !(bit (s.time.captures.getD i {}).edge (if rising then 0 else 1))) = true := by
    simp only [hkind, Bool.or_eq_true, Option.isNone_iff_eq_none, harmed, decide_eq_true_eq, Nat.not_le.2 hi]
    decide
  show execEdgeCapture i rising s = _
  simp only [execEdgeCapture, State.whileUp_of hup, if_neg hcaptured]
  rfl

end

/-! ### TriggersAndCaptures -/

/-- Settles O43, clause by clause from the rules of one output and of one input. -/
theorem triggersAndCaptures : Obligations.TriggersAndCaptures := by
  unfold Obligations.TriggersAndCaptures
  refine ⟨fun src p0 s => ?sets, fun src p0 s => ?cancels, fun s n t hup ht hlamps => ?occurs, fun src p0 s => ?arms, fun src p0 s => ?disarms,
    fun s i rising hup hi => ⟨exec_edgeCapture_ignored hup, exec_edgeCapture_captured hup hi⟩, fun s who i hup hopen => congrArg _ (State.paged_open _ hup hopen)⟩
  case sets =>
    intro p haccepts q u n t k hset hwithin
    have ht : triggerOf q u.now = t := by rw [OpSpec.taken_now]; rfl
    have hk : t.from_ (u.now + u.triggerLead n) = k := by rw [OpSpec.taken_now]
    refine ⟨_, OpSpec.next_exec_accepted haccepts (by decide) (specTriggerSet_run_set (e := specTriggerSet.env src p s) hset ht hk hwithin), ?_, ?_, fun j hj => ?_, ?_, ?_⟩
    · exact NMap.get?_put_same _ _ _
    · exact congrArg (fun x : Option TrigStat => (x.getD {}).skipped) (NMap.get?_put_same _ _ _)
    · rw [← OpSpec.taken_time specTriggerSet src p s]
      exact NMap.get?_put_ne hj
    · exact OpSpec.taken_mem ..
    · rw [← OpSpec.taken_time specTriggerSet src p s]
  case cancels =>
    intro p haccepts q u hcancel
    exact OpSpec.next_exec_accepted haccepts (by decide) (specTriggerSet_run_cancel (e := specTriggerSet.env src p s) u hcancel)
  case occurs =>
    intro fires a
    refine ⟨_, exec_triggerOccurrence hup ht hlamps, ?_, get?_nextTriggers_due, fun m hl => get?_nextTriggers_last hl, fun j hj => get?_nextTriggers_ne t hj, rfl, rfl, rfl⟩
    simp only [NMap.getD, NMap.get?_put_same, Option.getD_some]
    rfl
  case arms =>
    intro p haccepts q u i harm
    exact OpSpec.next_exec_accepted haccepts (by decide) (specCaptureArm_run_arm (e := specCaptureArm.env src p s) u harm)
  case disarms =>
    intro p haccepts q u i hdisarm
    exact OpSpec.next_exec_accepted haccepts (by decide) (specCaptureArm_run_disarm (e := specCaptureArm.env src p s) u hdisarm)

end Sys2Proof.Machine
end

section
/-! SUPPORT. What a record of the splice log, a spent spare and the end of cause 2 leave as they were (R473, R484). -/

namespace Sys2Proof.Machine

@[simp] theorem State.raise_spl (s : State) (n : Nat) : (s.raise n).spl = s.spl := by
  rcases s.raise_cases n with e | e <;> simp [e]

@[simp] theorem State.spliceRec_spl (s : State) (r : SpliceRec) :
    (s.spliceRec r).spl = { s.spl with log := s.spl.log ++ [{ r with seq := s.spl.seq, time := s.now }], seq := (s.spl.seq + 1) % 65536 } := by
  simp [State.spliceRec]

@[simp] theorem State.spliceRec_saf (s : State) (r : SpliceRec) : (s.spliceRec r).saf = s.saf := by simp [State.spliceRec]
@[simp] theorem State.spliceRec_pkts (s : State) (r : SpliceRec) : (s.spliceRec r).pkts = s.pkts := by simp [State.spliceRec]
@[simp] theorem State.spliceRec_queuedAcks (s : State) (r : SpliceRec) : (s.spliceRec r).dbg.queuedAcks = s.dbg.queuedAcks := by simp [State.spliceRec]

/-- A spent spare is recorded and raises cause 10; the splice unit changes by the record alone (R473). -/
theorem State.spareSpent_spl (s : State) (cls unit logical trigger : Nat) :
    (s.spareSpent cls unit logical trigger).spl = (s.spliceRec { event := 3, cls := cls, from_ := unit, logical := logical, trigger := trigger }).spl :=
  State.raise_spl _ _

@[simp] theorem State.spareSpent_causes (s : State) (cls unit logical trigger : Nat) : (s.spareSpent cls unit logical trigger).saf.causes = (s.saf.causes ||| 1024) := by
  rw [State.spareSpent, State.raise_causes, State.spliceRec_saf]
  rfl

@[simp] theorem State.spareSpent_queuedAcks (s : State) (cls unit logical trigger : Nat) : (s.spareSpent cls unit logical trigger).dbg.queuedAcks = s.dbg.queuedAcks := by
  rw [State.spareSpent, State.raise_queuedAcks, State.spliceRec_queuedAcks]

/-- Ending cause 2 changes neither the splice unit nor the outstanding packets. -/
theorem State.endFixed_frame (s : State) : s.endFixed.spl = s.spl ∧ s.endFixed.pkts = s.pkts := by
  unfold State.endFixed State.endCause
  repeat' split
  all_goals simp

/-- The logical numbers of physical cores are what the splice map says. -/
theorem State.logicalOf_of_map {s t : State} (pc : Nat) (h : t.spl.map = s.spl.map) : t.logicalOf pc = s.logicalOf pc := by
  rw [State.logicalOf, State.logicalOf, h]

end Sys2Proof.Machine
end

section
/-! PROOFS of SplicesAndTests (O57): monitors (R475), core splices (R476, R478), clocks (R295, R479), rotation (R480, R485) and self-test (R481 to R483). -/

namespace Sys2Proof.Machine

/-! ### Monitors -/

section
variable {s : State} (hup : s.pwr.phase = .up)
include hup

theorem exec_pathDelayCheck {cls : Nat} (unit slack : Nat) (hcls : cls ≠ 0x22) :
    exec (.pathDelayCheck cls unit slack) s = .next (if slack < 30 then s.immediateSplice cls unit 1 else if slack < 80 then s.plannedSplice cls unit 1 else s) := by
  show execPathDelayCheck cls unit slack s = _
  rw [execPathDelayCheck, if_neg (not_not_intro hup), if_neg hcls]

theorem exec_ringOscCheck (cls unit drop : Nat) : exec (.ringOscCheck cls unit drop) s = .next (if drop < 60 then s else s.plannedSplice cls unit 2) := by
  show execRingOscCheck cls unit drop s = _
  simp [execRingOscCheck, hup]

/-- A flagged array column takes a spare column of its core (Table 5.21). -/
theorem exec_pathDelayCheck_column {pc : Nat} (col : Nat) (hspare : s.spl.cols.getD pc 2 < 2) :
    exec (.pathDelayCheck 0x22 pc col) s = .next (({ s with spl := { s.spl with cols := setAt s.spl.cols pc (s.spl.cols.getD pc 2 + 1) } } : State).spliceRec
      { event := 2, cls := 0x22, from_ := col, to_ := 256 + s.spl.cols.getD pc 2, logical := (s.logicalOf pc).getD 0xFFFF, trigger := 3, host := pc }) := by
  show execPathDelayCheck 0x22 pc col s = _
  rw [execPathDelayCheck, if_neg (not_not_intro hup), if_pos rfl, State.flagColumn]
  simp only [if_pos hspare]
  rfl

/-- A flagged array column without a spare column left fails its core (Table 5.21). -/
theorem exec_pathDelayCheck_column_spent {pc k : Nat} (col : Nat) (hspent : 2 ≤ s.spl.cols.getD pc 2) (hk : s.logicalOf pc = some k) :
    exec (.pathDelayCheck 0x22 pc col) s = .next ((s.spareSpent 0x22 col k 3).failCore k 3 3) := by
  have hmap : (s.spareSpent 0x22 col k 3).spl.map = s.spl.map := by rw [State.spareSpent_spl, State.spliceRec_spl]
  have hk' : (s.spareSpent 0x22 col k 3).logicalOf pc = some k := (State.logicalOf_of_map pc hmap).trans hk
  show execPathDelayCheck 0x22 pc col s = _
  rw [execPathDelayCheck, if_neg (not_not_intro hup), if_pos rfl, State.flagColumn]
  simp only [if_neg (Nat.not_lt.2 hspent), hk, Option.getD_some, hk']
  rfl

end

/-- A core that its monitor reports is selected for a splice, or failed at once (R475). -/
theorem State.plannedSplice_core {s : State} {unit k : Nat} (trigger : Nat) (hk : s.logicalOf unit = some k) :
    s.plannedSplice 1 unit trigger = s.selectSplice k trigger false true := by
  simp [State.plannedSplice, hk]

theorem State.immediateSplice_core {s : State} {unit k : Nat} (trigger : Nat) (hk : s.logicalOf unit = some k) :
    s.immediateSplice 1 unit trigger = s.failCore k 1 trigger := by
  simp [State.immediateSplice, hk]

/-! ### Core splices -/

/-- On a die where no core is selected and no rotation is tested, a selected core waits for the die's spare; without one cause 10 rises (R473, R475). -/
theorem State.selectSplice_first {s : State} {k : Nat} (trigger : Nat) (now retire : Bool) (hfirst : ∀ x ∈ s.spl.splices, x.logical ≠ k ∧ dieOf x.logical ≠ dieOf k)
    (htest : s.spareInTest (dieOf k) = false) :
    s.selectSplice k trigger now retire = if (s.spl.spare.getD (dieOf k) none).isSome then
      { s with spl := { s.spl with splices := s.spl.splices ++ [⟨k, trigger, now, retire⟩] } } else s.spareSpent 1 (s.spl.map.getD k k) k trigger := by
  have hselected : s.spl.splices.any (fun x => x.logical = k) = false := List.any_eq_false.2 (fun x hx => by simpa using (hfirst x hx).1)
  have htaken : s.spl.splices.any (fun x => dieOf x.logical = dieOf k) = false := List.any_eq_false.2 (fun x hx => by simpa using (hfirst x hx).2)
  simp only [State.selectSplice, hselected, htaken, htest, Bool.false_eq_true, if_false, Bool.not_false, Bool.and_true, Bool.or_false]

/-- A planned splice gives the core's logical number to the spare and ends no packet (R478). -/
theorem State.spliceCore_planned {s : State} {x : CoreSplice} (spare : Nat) (hplanned : x.immediate = false) :
    let t := s.spliceCore x spare
    t.spl.map = setAt s.spl.map x.logical spare ∧ t.spl.spare = setAt s.spl.spare (dieOf x.logical) none
      ∧ t.spl.splices = s.spl.splices.filter (fun y => y.logical ≠ x.logical) ∧ t.pkts = s.pkts := by
  unfold State.spliceCore
  extract_lets k die old pause lost wasFenced s1 u s2 s3 s4 s5 s6 t
  have hlost : lost = [] := by simp [lost, hplanned]
  have hs5 : s5 = s3 := by simp [s5, s4, hlost, hplanned]
  obtain ⟨hmap, hspare, hsplices, hpkts⟩ : s6.spl.map = s3.spl.map ∧ s6.spl.spare = s3.spl.spare ∧ s6.spl.splices = s3.spl.splices ∧ s6.pkts = s3.pkts := by
    unfold s6
    rw [hs5]
    split <;> exact ⟨rfl, rfl, rfl, rfl⟩
  obtain ⟨hspl, hend⟩ := s6.endFixed_frame
  unfold t
  rw [hspl, hend, hmap, hspare, hsplices, hpkts]
  simp [s3, s2, s1, State.setCore, k, die]

/-- A selected core is spliced once its splice is due (R478). -/
theorem exec_coreSplice {s : State} {k sp : Nat} {x : CoreSplice} (hup : s.clocked = true) (hx : s.spl.splices.find? (fun y => y.logical = k) = some x)
    (hsp : s.spl.spare.getD (dieOf k) none = some sp) : exec (.coreSplice k) s = .next (if s.spliceDue x then s.spliceCore x sp else s) := by
  show execCoreSplice k s = _
  rw [execCoreSplice, State.whileUp_of hup, hx, hsp]

/-! ### Clocks -/

section
variable {s : State} {what : Nat} (hup : s.clocked = true)
include hup

/-- With no acknowledgement queued, none is decided after a clock fails. -/
theorem exec_clockFailure {t : State} (hfails : s.clockFails what = t) (hacks : t.dbg.queuedAcks = []) : exec (.clockFailure what) s = .next t := by
  show execClockFailure what s = _
  rw [execClockFailure, State.whileUp_of hup, hfails, State.drainAcks_of_none hacks]

end

section
variable {s : State}

/-- The first failure of a reference oscillator: the spare takes over (R295). -/
theorem State.clockFails_oscillator (hspare : s.pwr.spareRef = false) :
    s.clockFails 0 = ({ s with pwr := { s.pwr with spareRef := true }, time := { s.time with spareOsc := true } } : State).spliceRec
      { event := 1, cls := 0x25, from_ := 0, to_ := 1, trigger := 3, host := 0x200 } := by
  simp [State.clockFails, hspare]

/-- The second: causes 10 and 13 rise (R295, R473). -/
theorem State.clockFails_spare_oscillator (hspare : s.pwr.spareRef = true) : s.clockFails 0 = (s.spareSpent 0x25 1 0xFFFF 3).raise 13 := by
  simp [State.clockFails, hspare]

/-- The hub's PLL fails with no spare left: causes 10 and 13 rise (R479). -/
theorem State.clockFails_hub_spent (hspent : s.spl.plls.getD 2 0 = 0) : s.clockFails 3 = (s.spareSpent 0x24 2 0xFFFF 3).raise 13 := by
  have hleft : ¬ 0 < s.spl.plls.getD (3 - 1) 0 := Nat.not_lt.2 (Nat.le_of_eq hspent)
  simp only [State.clockFails, if_neg hleft]
  rfl

/-- A die's PLL fails: its spare takes over (R479). -/
theorem State.clockFails_die {d : Nat} (hd : d < 2) (hleft : 0 < s.spl.plls.getD d 0) :
    s.clockFails (d + 1) = ({ s with spl := { s.spl with plls := setAt s.spl.plls d (s.spl.plls.getD d 0 - 1) } } : State).spliceRec
      { event := 1, cls := 0x24, from_ := d, to_ := s.spl.plls.getD d 0, trigger := 3, host := 0x100 + d } := by
  have hdie : d + 1 ≠ 3 := by omega
  simp only [State.clockFails, Nat.add_sub_cancel, if_pos hleft, if_neg (Nat.succ_ne_zero d), if_neg (show ¬ 3 < d + 1 by omega), hdie, decide_false, Bool.or_false, if_false]

end

/-! ### Rotation -/

theorem exec_rotationSelect_held {s : State} {die : Nat} (hup : s.clocked = true) (hheld : s.rotationHeld die = true) : exec (.rotationSelect die) s = .next s := by
  show execRotationSelect die s = _
  rw [execRotationSelect, State.whileUp_of hup, if_pos hheld]

/-- The rotation selects the next core in order where that core carries a logical number, is in service and is not in a fixed lane (R480). -/
theorem exec_rotationSelect_next {s : State} {die pc k : Nat} {rest : List Nat} (hup : s.clocked = true) (hheld : s.rotationHeld die = false)
    (hnext : pcOrder die (s.spl.lastRot.getD die 0) = pc :: rest) (hk : s.logicalOf pc = some k) (hretired : pc ∉ s.spl.retired) (hfenced : (s.core k).fenced = false)
    (hfixed : s.inFixed k = false) :
    exec (.rotationSelect die) s = .next (({ s with
      spl := { s.spl with lastRot := setAt s.spl.lastRot die pc }
      pwr := { s.pwr with stopped := s.pwr.stopped.filter (· ≠ 4 + pc) } } : State).selectSplice k 4 false false) := by
  have hserves : ¬ (s.spl.retired.contains pc || (s.core k).fenced || (s.inFixed k && !s.isAtRest)) = true := by simp [hretired, hfenced, hfixed]
  show execRotationSelect die s = _
  rw [execRotationSelect, State.whileUp_of hup, if_neg (by simp [hheld])]
  simp only [hnext, List.findSome?_cons, hk, if_neg hserves, Option.map_some]

/-! ### Self-test -/

/-- A BIST_RUN's test comes after those that wait at its engine (R482). -/
theorem State.addTest_queues (s : State) {t : Test} (h : t.pkt.isSome = true) :
    (s.addTest t).spl.tests.filter (fun x => x.engine = t.engine) = s.spl.tests.filter (fun x => x.engine = t.engine) ++ [t] := by
  simp [State.addTest, h, List.filter_filter]

/-- The state once the first test `t` of an engine is taken from its queue and its verdict is in the splice log (R483, R484). -/
def State.testLogged (s : State) (t : Test) (engine us sig addr : Nat) (pass : Bool) : State :=
  ({ s with spl := { s.spl with
      tests := (s.spl.tests.filter (fun x => x.engine = engine)).drop 1 ++ s.spl.tests.filter (fun x => x.engine ≠ engine) } } : State).spliceRec
    { event := if pass then 4 else 5, cls := t.cls, from_ := t.unit, trigger := if t.pkt.isSome then 6 else 4
      host := if engine = 2 then 0x200 else 0x100 + engine, durUs := us, sig := sig, addr := addr }

/-- A core without a logical number that passes becomes the spare of its die, where the die has none (R481). -/
theorem State.unitPasses_spare {s : State} {t : Test} (hcls : t.cls = 1) (hout : s.logicalOf t.unit = none) (hretired : t.unit ∉ s.spl.retired)
    (hkept : s.spl.outRetired.contains (unitKey 1 t.unit) = false) (hnone : s.spl.spare.getD (pcDie t.unit) none = none) :
    s.unitPasses t = { s with spl := { s.spl with out := s.spl.out.filter (fun x => x ≠ unitKey 1 t.unit), spare := setAt s.spl.spare (pcDie t.unit) (some t.unit) } } := by
  have hserves : ¬ (s.spl.outRetired.contains (unitKey t.cls t.unit) || (t.cls = 1 && s.spl.retired.contains t.unit)) = true := by simpa [hcls, hretired] using hkept
  have hmap (out : List Nat) : State.logicalOf { s with spl := { s.spl with out := out } } t.unit = none := hout
  simp only [State.unitPasses, if_neg hserves]
  simp only [hcls, hmap, hnone, Option.isNone_none, if_true]

section
variable {s : State} {engine us sig addr : Nat}

theorem exec_selfTestDone_idle {pass : Bool} {cols : List Nat} (hidle : s.spl.tests.find? (fun t => t.engine = engine) = none) :
    exec (.selfTestDone engine us pass sig addr cols) s = .next s := by
  show execSelfTestDone engine us pass sig addr cols s = _
  rw [execSelfTestDone, hidle]

variable {t : Test} (hup : s.pwr.phase = .up) (ht : s.spl.tests.find? (fun t => t.engine = engine) = some t) (hage : t.retire = false)
include hup ht hage

/-- The test of a BIST_RUN on a unit that is not a core ends: the unit is in service or retired, and the packet completes with the verdict (R483). -/
theorem exec_selfTestDone_packet {pass : Bool} {cols : List Nat} {id : Nat} {v : State} (hpkt : t.pkt = some id) (hcls : t.cls ≠ 1)
    (hv : s.testLogged t engine us sig addr pass = v) :
    exec (.selfTestDone engine us pass sig addr cols) s =
      .next ((if pass then v.unitPasses t else v.unitRetired t).finish id 0 [pass.toNat * 2 ^ 31 + (v.spl.seq + 65535) % 65536, us, 0, 0]) := by
  show execSelfTestDone engine us pass sig addr cols s = _
  unfold execSelfTestDone
  simp -zeta only [ht, if_neg (not_not_intro hup), if_neg hcls, List.foldl_nil]
  extract_lets rest u s0 ok zero s2 s3 s4
  have hok : ok = pass := Bool.and_true pass
  have hzero : zero = s0 := by
    unfold zero
    split
    · next hone _ => exact absurd hone hcls
    · rfl
  have hs2 : s2 = v := by
    rw [← hv]
    simp only [s2, hzero, hok]
    rfl
  have hs4 : s4 = if pass then v.unitPasses t else v.unitRetired t := by
    simp [s4, s3, hok, hs2, hage, hcls]
  rw [hpkt, hs4, hs2, hok]

/-- The test of a rotated core ends well: the core passes, and its die has a spare (R481). -/
theorem exec_selfTestDone_rotated {v : State} (hpkt : t.pkt = none) (hcls : t.cls = 1) (hout : s.logicalOf t.unit = none)
    (hv : s.testLogged t engine us sig addr true = v) (hspare : ((v.unitPasses t).spl.spare.getD engine none).isNone = false) :
    exec (.selfTestDone engine us true sig addr []) s = .next (v.unitPasses t) := by
  show execSelfTestDone engine us true sig addr [] s = _
  unfold execSelfTestDone
  simp -zeta only [ht, if_neg (not_not_intro hup), if_pos hcls, List.foldl_nil]
  extract_lets rest u s0 ok zero s2 s3 s4
  have hzero : zero = s0 := by
    unfold zero
    split
    · next k _ hk => exact absurd (hk.symm.trans hout) (Option.some_ne_none k)
    · rfl
  have hs2 : s2 = v := by
    rw [← hv]
    simp only [s2, hzero, ok]
    rfl
  have hs3 : s3 = v.unitPasses t := by
    simp only [s3, ok, hage, hs2, Bool.and_self, Bool.and_false, Bool.false_eq_true, if_false, if_true]
  have hs4 : s4 = v.unitPasses t := by
    simp only [s4, hs3, hspare, Bool.and_false, Bool.false_and, Bool.false_eq_true, if_false]
  rw [hpkt, hs4]

end

/-! ### SplicesAndTests -/

/-- Settles O57, clause by clause from the rules of monitors, splices, clocks, rotation and tests. -/
theorem splicesAndTests : Obligations.SplicesAndTests := by
  unfold Obligations.SplicesAndTests
  refine ⟨fun s cls unit slack hup hcls => ⟨exec_pathDelayCheck hup unit slack hcls, exec_ringOscCheck hup cls unit slack⟩,
    fun s pc col hup => ⟨exec_pathDelayCheck_column hup col, fun hspent k hk => exec_pathDelayCheck_column_spent hup col hspent hk⟩,
    fun s unit trigger k hk => ⟨State.plannedSplice_core trigger hk, State.immediateSplice_core trigger hk⟩, fun s k trigger now retire hfirst htest => ?selects,
    fun s k sp x hup hx hsp => ?splices, fun s hup hacks => ?clocks, fun s die hup => ⟨exec_rotationSelect_held hup, fun pc rest k => exec_rotationSelect_next hup⟩,
    fun src p s haccepts => OpSpec.next_exec_accepted haccepts (by decide) rfl, fun s t hpkt => s.addTest_queues hpkt,
    fun s engine us sig addr pass cols => ⟨exec_selfTestDone_idle, fun t hup ht => ?tests⟩⟩
  case selects =>
    rw [State.selectSplice_first trigger now retire hfirst htest]
    refine ⟨fun sp hsp => by rw [hsp]; rfl, fun hnone => ?_⟩
    rw [hnone]
    exact ⟨State.spareSpent_causes .., by rw [if_neg (by decide), State.spareSpent_spl, State.spliceRec_spl]⟩
  case splices =>
    rw [exec_coreSplice hup hx hsp]
    have hk : x.logical = k := by simpa using List.find?_some hx
    refine ⟨fun hwaits => by rw [hwaits]; rfl, fun hdue hplanned => ⟨_, congrArg _ (if_pos hdue), ?_⟩⟩
    have hspliced := s.spliceCore_planned sp hplanned
    rwa [hk] at hspliced
  case clocks =>
    refine ⟨fun hspare => exec_clockFailure hup (State.clockFails_oscillator hspare) ?_, fun hspare => exec_clockFailure hup (State.clockFails_spare_oscillator hspare) ?_,
      fun hspent => exec_clockFailure hup (State.clockFails_hub_spent hspent) ?_, fun d hd hleft => exec_clockFailure hup (State.clockFails_die hd hleft) ?_⟩
    all_goals simpa using hacks
  case tests =>
    intro rest u
    refine ⟨fun id hpkt hcls hage => ?packet, fun hpkt hcls hage hengine hdie hpass hcols hout hretired hkept hnone => ?rotated⟩
    case packet =>
      intro v
      have hv : s.testLogged t engine us sig addr pass = v := by simp only [State.testLogged, hpkt, Option.isSome_some, if_true]; rfl
      have hseq : v.spl.seq = (s.spl.seq + 1) % 65536 := by rw [State.spliceRec_spl]
      rw [← hseq]
      exact exec_selfTestDone_packet hup ht hage hpkt hcls hv
    case rotated =>
      subst hpass hcols
      have ht' : t.engine = engine := by simpa using List.find?_some ht
      obtain ⟨v, hv⟩ : ∃ v, s.testLogged t engine us sig addr true = v := ⟨_, rfl⟩
      have hspl : v.spl = { s.spl with tests := rest, log := v.spl.log, seq := (s.spl.seq + 1) % 65536 } := by rw [← hv, State.testLogged, State.spliceRec_spl]
      have hpkts : v.pkts = s.pkts := by rw [← hv, State.testLogged, State.spliceRec_pkts]
      have hpasses := State.unitPasses_spare (s := v) hcls ((State.logicalOf_of_map t.unit (by rw [hspl])).trans hout) (by rwa [hspl]) (by rwa [hspl])
        (by rw [hspl, hnone, ← hdie, ht']; match engine, hengine with | 0, _ => rfl | 1, _ => rfl)
      have hspare : (v.unitPasses t).spl.spare.getD engine none = some t.unit := by
        rw [hpasses, ← hdie, ht']
        exact setAt_getD_same (by rwa [hspl, hnone]) _ _
      refine ⟨_, exec_selfTestDone_rotated hup ht hage hpkt hcls hout hv (by rw [hspare]; rfl), hspare, ?_, ?_, ?_⟩
      all_goals rw [hpasses]
      · exact congrArg SpliceUnit.tests hspl
      · exact congrArg SpliceUnit.seq hspl
      · exact hpkts

end Sys2Proof.Machine
end

section
/-! SUPPORT. With no draft open, what ends packets, stops loops and switches channels off leaves none open (R202 taints drafts that exist). -/

namespace Sys2Proof.Machine

@[simp] theorem State.trace_drafts (s : State) (t : TraceEv) : (s.trace t).dr.drafts = s.dr.drafts := by
  rcases s.trace_cases t with ⟨_, e⟩ | ⟨_, _, _, e⟩
  · rw [e]
  · rw [e]
    rfl

@[simp] theorem State.writeReply_drafts (s : State) (n : Nat) (r : Reply) : (s.writeReply n r).dr.drafts = s.dr.drafts := by
  have hirq (y : State) : (y.checkIrq n).dr = y.dr := by rcases y.checkIrq_cases n with e | e <;> simp [e]
  rcases s.writeReply_cases n r with ⟨-, e⟩ | ⟨-, e⟩
  · rw [e, State.setBob_dr]
  · rw [e, hirq]
    rfl

@[simp] theorem State.drainHeld_drafts (s : State) (n k : Nat) : (s.drainHeld n k).dr.drafts = s.dr.drafts := by
  induction k generalizing s with
  | zero => rfl
  | succ k ih =>
    rcases s.drainHeld_cases n k with e | ⟨r, rest, -, e⟩
    · rw [e]
    · rw [e, ih, State.writeReply_drafts, State.setBob_dr]

@[simp] theorem State.deliver_drafts (s : State) (n : Nat) (r : Reply) : (s.deliver n r).dr.drafts = s.dr.drafts := by
  rcases s.deliver_cases n r with e | e | e | e | ⟨k, e⟩ <;> simp [e]

@[simp] theorem State.dropService_dr (s : State) : s.dropService.dr = s.dr := by
  unfold State.dropService
  split <;> rfl

@[simp] theorem State.oobSend_dr (s : State) (c : Carrier) (port : Nat) (r : Reply) : (s.oobSend c port r).dr = s.dr := by cases c <;> rfl

/-- The end of a packet opens no draft. -/
theorem State.endPkt_no_drafts {s : State} (o : OutPkt) (st : Nat) (d : List Nat) (t : Nat) (h : s.dr.drafts = []) : (s.endPkt o st d t).dr.drafts = [] := by
  unfold State.endPkt
  extract_lets live en _ _ _ _ _ ended tainted counted traced
  have hended : ended.dr.drafts = [] := by simp [ended, h, taint]
  have hcounted : counted.dr.drafts = [] := by
    unfold counted
    split
    · exact hended
    · exact hended
  have htraced : traced.dr.drafts = [] := by rw [State.trace_drafts, State.bump_dr, hcounted]
  clear_value traced
  dsimp only
  repeat' split
  all_goals simp [htraced]

theorem State.finish_no_drafts {s : State} (i st : Nat) (d : List Nat) (t : Nat) (h : s.dr.drafts = []) : (s.finish i st d t).dr.drafts = [] := by
  cases hp : s.pkt? i with
  | none => rw [State.finish_none st d t hp, h]
  | some o => rw [State.finish_some st d t hp, State.endPkt_no_drafts o st d t h]

theorem State.foldl_finish_no_drafts {s : State} (ids : List Nat) (st : Nat) (h : s.dr.drafts = []) : (ids.foldl (fun (y : State) i => y.finish i st) s).dr.drafts = [] :=
  List.foldlRecOn ids _ (motive := fun (y : State) => y.dr.drafts = []) h (fun _ hy i _ => State.finish_no_drafts i st [] _ hy)

/-- Sending the outputs of loops touches their sequence numbers, PWM outputs and what is sent. -/
theorem State.sendLoops_dr (s : State) (t : Nat) (ns : List Nat) : (s.sendLoops t ns).dr = s.dr := by
  unfold State.sendLoops
  extract_lets ls of slots launch stations s1 ids s2
  have hring : s1.dr = s.dr := by
    refine foldl_keeps State.dr (fun y st => ?_) stations s
    dsimp only [State.nextSeq]
    repeat' split
    all_goals rfl
  have hcan : s2.dr = s1.dr := by
    refine foldl_keeps State.dr (fun y k => ?_) ids s1
    rfl
  rw [foldl_keeps State.dr (fun y x => ?_) (of 2) s2, hcan, hring]
  dsimp only
  split <;> rfl

theorem State.stopLoops_no_drafts {s : State} (who : Loop → Bool) (h : s.dr.drafts = []) : (s.stopLoops who false).dr.drafts = [] := by
  unfold State.stopLoops
  extract_lets ns live pkts s1 s2
  have hs1 : s1.dr = s.dr := by
    refine foldl_keeps State.dr (fun y n => ?_) live s
    rfl
  rw [if_neg (by decide)]
  exact State.foldl_finish_no_drafts pkts 0 (by rw [State.sendLoops_dr, hs1, h])

theorem State.channelsOff_no_drafts {s : State} (h : s.dr.drafts = []) : s.channelsOff.dr.drafts = [] := State.foldl_finish_no_drafts _ 0x0300 h

/-- The 105 ms row of Table 20.7, with no draft open: outputs high-impedance, no hint, no timed action, and still no draft. -/
theorem State.endWork_no_drafts {s : State} (h : s.dr.drafts = []) :
    let t := s.endWork
    t.sen.highZ = true ∧ t.tens.hints = [] ∧ t.time.queues = [] ∧ t.time.triggers = [] ∧ t.dr.drafts = [] := by
  have hevicted : s.evictForSleep s.dr.drafts.length = s := by
    rw [h]
    rfl
  have hkept := State.channelsOff_no_drafts (State.stopLoops_no_drafts (fun _ => true) h)
  rw [State.endWork, hevicted]
  generalize (s.stopLoops (fun _ => true) false).channelsOff = x at hkept
  exact ⟨rfl, rfl, by simp [State.dropTimed], by simp [State.dropTimed], hkept⟩

end Sys2Proof.Machine
end

section
/-! PROOFS of SleepAndWake (O56): Doze (R461, R462), Sleep entry (R464 to R466), wake sources (R468) and the wake (R470 to R472, R292, Table 25.5). -/

namespace Sys2Proof.Machine

/-! ### Doze and ENTER_SLEEP -/

/-- PWR_CTL's RW fields lie below bit 31, which is ENTER_SLEEP (Table 20.3). -/
theorem State.writePwrCtl_low (s : State) (v : Nat) : s.writePwrCtl (v % 2 ^ 31) =
    { s with pwr := { s.pwr with dozeEn := v.testBit 30, idleUs := bits v 13 0, stopped := if v.testBit 30 then s.pwr.stopped else [] } } := by
  have hdoze : bit (v % 2 ^ 31) 30 = v.testBit 30 := by
    rw [bit, Nat.testBit_mod_two_pow]
    rfl
  have hidle : bits (v % 2 ^ 31) 13 0 = bits v 13 0 := by
    simp only [bits, Nat.shiftRight_zero]
    omega
  rw [State.writePwrCtl, hdoze, hidle]

theorem pageOpen_of_supervisor_or_distaff {who : Accessor} (h : who = .supervisor ∨ who = .distaff) : pageOpen who = true := by
  rcases h with rfl | rfl <;> rfl

theorem exec_dozeEnWrite {s : State} {who : Accessor} (v : Word) (hup : s.clocked = true) (hopen : pageOpen who = true) :
    exec (.dozeEnWrite who v) s = .next (s.writePwrCtl (v.toNat % 2 ^ 31)) :=
  congrArg _ (State.paged_open _ hup hopen)

theorem exec_enterSleep {s : State} {who : Accessor} (v : Word) (hup : s.clocked = true) (hopen : pageOpen who = true) :
    exec (.enterSleep who v) s = .next (s.writePwrCtl (v.toNat % 2 ^ 31)).enterSleep :=
  congrArg _ (State.paged_open _ hup hopen)

/-- REFUSE: the first failing condition of R464. -/
theorem State.sleepRefusal_eq (s : State) : s.sleepRefusal = if s.saf.atRest = none then 1 else if s.dev.update = .activating then 2 else if s.upd.sched.isSome then 3
    else if s.dbg.haltedAc ≠ 0 ∨ s.dbg.haltedFl ≠ 0 then 4 else 0 := by
  simp [State.sleepRefusal, State.isAtRest]

theorem State.enterSleep_up {s : State} (hup : s.pwr.phase = .up) :
    let e : State := { s with pwr := { s.pwr with entry := 1, refuse := 0, phase := .entering 0, qualified := 0 }, saf := { s.saf with atRest := none } }
    s.enterSleep = if s.sleepRefusal ≠ 0 then { s with pwr := { s.pwr with entry := 2, refuse := s.sleepRefusal } }
      else ((e.stopMany .abort (e.pkts.map (fun o => o.id))).1).logIt .sleep 0 := by
  rw [State.enterSleep, if_neg (not_not_intro hup)]

theorem State.enterSleep_not_up {s : State} (h : s.pwr.phase ≠ .up) : s.enterSleep = s := if_pos h

theorem exec_dozeIdleExpiry {s : State} {d : Nat} (hup : s.pwr.phase = .up) (hdoze : s.power = .doze) (hidle : s.domainIdle d = true) :
    exec (.dozeIdleExpiry d) s = .next (if s.pwr.stopped.contains d then s else { s with pwr := { s.pwr with stopped := s.pwr.stopped ++ [d] } }) := by
  show execDozeIdleExpiry d s = _
  by_cases hc : d ∈ s.pwr.stopped <;> simp [execDozeIdleExpiry, hup, hdoze, hidle, hc]

/-! ### Sleep entry -/

/-- The state in the row of Table 20.7 after row `n`. -/
def State.entryRow (s : State) (n : Nat) : State := { s with pwr := { s.pwr with phase := .entering (n + 1) } }

section
variable {s : State}

theorem exec_sleepEntryStage_0 (hn : s.pwr.phase = .entering 0) : exec .sleepEntryStage s = .next (s.entryRow 0) := by
  show execSleepEntryStage s = _
  simp only [execSleepEntryStage, hn]
  rfl

theorem exec_sleepEntryStage_1 (hn : s.pwr.phase = .entering 1) (hve : s.saf.veEn = false) (hcx : s.saf.cxEn = false) :
    exec .sleepEntryStage s = .next (s.entryRow 1) := by
  have hoff : [.ve, .cx 0, .cx 1, .cx 2, .cx 3].filter s.statusOn = [] := by simp [State.statusOn, hve, hcx]
  show execSleepEntryStage s = _
  simp only [execSleepEntryStage, hn, hoff]
  rfl

theorem exec_sleepEntryStage_2 (hn : s.pwr.phase = .entering 2) (hsolo : s.dev.role = .solo) : exec .sleepEntryStage s = .next (s.leaveFabric.entryRow 2) := by
  show execSleepEntryStage s = _
  simp only [execSleepEntryStage, hn, hsolo, if_true]
  rfl

/-- A twist past its commit point ends before drafts are unravelled. -/
theorem exec_sleepEntryStage_3 (hn : s.pwr.phase = .entering 3) :
    exec .sleepEntryStage s = .next (if s.pkts.any (fun o => s.twistCommitted o.id) then s else s.endWork.entryRow 3) := by
  show execSleepEntryStage s = _
  simp only [execSleepEntryStage, hn]
  rfl

theorem exec_sleepEntryStage_4 (hn : s.pwr.phase = .entering 4) : exec .sleepEntryStage s = .next ((s.logIt .sleep 1).entryRow 4) := by
  show execSleepEntryStage s = _
  simp only [execSleepEntryStage, hn]
  rfl

/-- The last row, with no packet outstanding, reaches Sleep (R466). -/
theorem exec_sleepEntryStage_last {n : Nat} (hn : s.pwr.phase = .entering n) (hlast : 5 ≤ n) (hpkts : s.pkts = []) : exec .sleepEntryStage s = .next s.reachSleep := by
  obtain ⟨m, rfl⟩ := Nat.exists_eq_add_of_le' hlast
  show execSleepEntryStage s = _
  simp only [execSleepEntryStage, hn, hpkts]
  rfl

/-- With no source qualified and no timer enabled, the module stays in Sleep (Table 20.11). -/
theorem State.reachSleep_stays (hq : s.pwr.qualified = 0) (htimer : s.pwr.wakeCfg.toNat.testBit 30 = false) : s.reachSleep = s.toSleep := by
  have hcfg : bit s.toSleep.pwr.wakeCfg.toNat 30 = false := htimer
  have hqual : s.toSleep.pwr.qualified = 0 := hq
  simp [State.reachSleep, hcfg, hqual]

end

theorem memGet_eq_zero {m : List Host.Cell} {a : Addr} (h : ∀ c ∈ m, c.1 ≠ a) : memGet m a = 0 := by
  induction m with
  | nil => rfl
  | cons x r ih =>
    have hx : x.1 ≠ a := h x (List.mem_cons_self ..)
    have hr := ih (fun c hc => h c (List.mem_cons_of_mem _ hc))
    simp [memGet, hx, hr]

/-- In Sleep nothing outside HBM is held (R466, Table 20.8). -/
theorem State.toSleep_hbm (s : State) {a : Addr} (ha : 0x001800000000 ≤ a) : memGet s.toSleep.mem a = 0 := by
  refine memGet_eq_zero (fun c hc => ?_)
  have hlow : c.1 < 0x001800000000 := by simpa using (List.mem_filter.1 hc).2
  exact Nat.ne_of_lt (Nat.lt_of_lt_of_le hlow ha)

theorem State.toSleep_bobbins (s : State) : ∀ b ∈ s.toSleep.q.bobbins, b.1 < 224 ∧ b ∈ s.q.bobbins := by
  intro b hb
  obtain ⟨hmem, hlow⟩ := List.mem_filter.1 hb
  exact ⟨by simpa using hlow, hmem⟩

/-! ### Wake sources -/

section
variable {s : State}

theorem State.qualify_asleep (source : Nat) (h : s.pwr.phase = .asleep) : s.qualify source = s.startWake source := by
  simp only [State.qualify, h]

theorem State.qualify_entering {n : Nat} (source : Nat) (h : s.pwr.phase = .entering n) :
    s.qualify source = { s with pwr := { s.pwr with qualified := s.pwr.qualified ||| source } } := by
  simp only [State.qualify, h]

theorem exec_wakeIn (s : State) : exec .wakeIn s = .next (if s.pwr.wakeCfg.toNat.testBit 31 then s.qualify 1 else s) := rfl

theorem exec_wakeTimer (s : State) : exec .wakeTimer s = .next (if s.pwr.wakeCfg.toNat.testBit 30 then s.qualify 4 else s) := rfl

/-- A wake-up frame that WAKE_CFG enables qualifies its source (R468). -/
theorem exec_wakeFrame {port id : Nat} (h : port < 4 ∧ s.pwr.wakeCfg.toNat.testBit (26 + port) = true ∧ id = bits s.pwr.wakeCfg.toNat 10 0) :
    exec (.wakeFrame port id) s = .next (s.qualify 2) := by
  obtain ⟨hport, hbit, hid⟩ := h
  show execWakeFrame port id s = _
  simp [execWakeFrame, bit, hport, hbit, ← hid]

theorem exec_wakeFrame_ignored {port id : Nat} (h : ¬ (port < 4 ∧ s.pwr.wakeCfg.toNat.testBit (26 + port) = true ∧ id = bits s.pwr.wakeCfg.toNat 10 0)) :
    exec (.wakeFrame port id) s = .next s := by
  have hoff : ¬ (decide (port < 4) && bit s.pwr.wakeCfg.toNat (26 + port) && decide (id = bits s.pwr.wakeCfg.toNat 10 0)) = true := by
    simpa [bit, and_assoc] using h
  exact congrArg _ (if_neg hoff)

end

/-! ### The wake -/

/-- The state in the row of Table 20.9 after that of wake `w` (R470). -/
def State.nextWakeRow (s : State) (w : Waking) : State :=
  { s with pwr := { s.pwr with failed := s.pwr.failed.filter (· ≠ w.row), phase := .waking { w with row := w.row + 1, attempts := 1, unit := 0 } } }

section
variable {s : State} {w : Waking} (hw : s.pwr.phase = .waking w) (hruns : w.paused = false)
include hw hruns

/-- A ready signal begins the next row, with a source's spare taken into use where the attempt was made with it; the PLLs' lock restarts the time unit (R292), and
after the last row firmware runs (R470, Table 20.9). -/
theorem exec_wakeReady {x : State} (hx : (if w.row ≤ 5 && s.onSpare w then s.takeSpare w.row w.unit else s).nextWakeRow w = x) :
    exec .wakeReady s = .next (if w.row < 5 then x else if w.row = 5 then x.restartTime w.reset else if w.row = 6 then x
      else if w.reset then (({ x with pwr := { x.pwr with phase := .up } } : State).boot).logIt .powerUp s.pwr.lastWake else x.wakeUp) := by
  have hpaused : ¬ w.paused = true := by simp [hruns]
  subst hx
  show execWakeReady s = _
  unfold execWakeReady
  simp -zeta only [hw, if_neg hpaused]
  rfl

theorem exec_wakeReady_source {x : State} (hrow : w.row < 5) (hx : (if s.onSpare w then s.takeSpare w.row w.unit else s).nextWakeRow w = x) :
    exec .wakeReady s = .next x := by
  rw [exec_wakeReady hw hruns (x := x) (by simpa [Nat.le_of_lt hrow] using hx), if_pos hrow]

theorem exec_wakeReady_plls {x : State} (hrow : w.row = 5) (hx : (if s.onSpare w then s.takeSpare w.row w.unit else s).nextWakeRow w = x) :
    exec .wakeReady s = .next (x.restartTime w.reset) := by
  rw [exec_wakeReady hw hruns (x := x) (by simpa [hrow] using hx), if_neg (Nat.not_lt.2 (Nat.le_of_eq hrow.symm)), if_pos hrow]

theorem exec_wakeReady_6 (hrow : w.row = 6) : exec .wakeReady s = .next (s.nextWakeRow w) := by
  rw [exec_wakeReady hw hruns (x := s.nextWakeRow w) (by simp [hrow])]
  simp [hrow]

theorem exec_wakeReady_last (hrow : 7 ≤ w.row) (hreset : w.reset = false) : exec .wakeReady s = .next (s.nextWakeRow w).wakeUp := by
  have hlater : ¬ w.row ≤ 5 := by omega
  rw [exec_wakeReady hw hruns (x := s.nextWakeRow w) (by simp [hlater]), if_neg (by omega), if_neg (by omega), if_neg (by omega), hreset]
  rfl

/-- A missing ready signal switches the source off for its pause, or the wake has failed (R470). -/
theorem exec_wakeReadyTimeout (hrow : w.row ≤ 5) (unit : Nat) (island : Bool) :
    exec (.wakeReadyTimeout unit island) s = .next (if w.attempts < s.wakeAttempts w.row then { s with pwr := { s.pwr with phase := .waking { w with paused := true, unit := unit } } }
      else s.wakeFail w island) := by
  show execWakeReadyTimeout unit island s = _
  simp only [execWakeReadyTimeout, hw, hruns, Nat.not_lt.2 hrow, decide_false, Bool.or_self, Bool.false_eq_true, if_false]

end

/-- A failed wake stays in Sleep and sends WAKE_FAIL, unless the island oscillator has failed as well (R470, R471). -/
theorem State.wakeFail_spec (s : State) (w : Waking) (island : Bool) :
    let t := s.wakeFail w island
    t.pwr.phase = .asleep ∧ t.pwr.needReset = w.reset ∧ t.pwr.failWords = (w.row, w.attempts) ∧ t.pwr.failLeft = (if island then 0 else 2) ∧ w.row ∈ t.pwr.failed
      ∧ (island = true → t.out = s.out)
      ∧ (island = false → ∃ bytes, t.out = s.out ++ [.canFd (bits s.pwr.wakeCfg.toNat 25 24) (bits s.pwr.wakeCfg.toNat 23 13) bytes] ∧ bytes.take 2 = [0x09, 0x03])
      ∧ t.mem = s.mem ∧ t.q = s.q ∧ t.saf = s.saf := by
  have hfailed : w.row ∈ if s.pwr.failed.contains w.row then s.pwr.failed else w.row :: s.pwr.failed := by
    split
    · next h => simpa using h
    · exact List.mem_cons_self ..
  cases island with
  | true => exact ⟨rfl, rfl, rfl, rfl, hfailed, fun _ => rfl, nofun, rfl, rfl, rfl⟩
  | false => exact ⟨rfl, rfl, rfl, rfl, hfailed, nofun, fun _ => ⟨_, rfl, rfl⟩, rfl, rfl, rfl⟩

theorem exec_wakeRetryPauseEnd {s : State} {w : Waking} (hw : s.pwr.phase = .waking w) (hpaused : w.paused = true) :
    exec .wakeRetryPauseEnd s = .next { s with pwr := { s.pwr with phase := .waking { w with paused := false, attempts := w.attempts + 1 }, retries := min 15 (s.pwr.retries + 1) } } := by
  show execWakeRetryPauseEnd s = _
  simp only [execWakeRetryPauseEnd, hw, hpaused, Bool.not_true, Bool.false_eq_true, if_false]

/-- Device time after a wake goes on from the time that Whorl carried, without a rate; after module reset it starts at 0 (R292). -/
theorem State.restartTime_spec (s : State) (reset : Bool) :
    let t := s.restartTime reset
    t.time.inc = 4 * 2 ^ 32 ∧ t.time.rho = 0 ∧ (reset = true → t.time.ns = 0) ∧ (reset = false → t.time.ns = s.carried.1) := by
  cases reset
  · exact ⟨rfl, rfl, nofun, fun _ => rfl⟩
  · exact ⟨rfl, rfl, fun _ => rfl, nofun⟩

/-! ### SleepAndWake -/

/-- Settles O56, clause by clause from the rules of Doze, of each row of the entry and of the wake, and of each source. -/
theorem sleepAndWake : Obligations.SleepAndWake := by
  unfold Obligations.SleepAndWake
  refine ⟨fun s who v hup hwho => ?control, fun s d hup hdoze hidle => exec_dozeIdleExpiry hup hdoze hidle, fun s n hn => ?entry,
    fun s => ⟨rfl, rfl, rfl, rfl, rfl, rfl, fun a ha => s.toSleep_hbm ha, s.toSleep_bobbins⟩, fun s port id => ?sources, fun s w hw hruns => ?wake,
    fun s reset => s.restartTime_spec reset, fun s => State.setCauses_causes .., fun s w hw hpaused => exec_wakeRetryPauseEnd hw hpaused,
    fun s => ⟨fun hspent => congrArg _ (if_pos hspent), fun hleft => congrArg _ (if_neg (Nat.ne_of_gt hleft))⟩⟩
  case control =>
    intro w u refuse e
    have hopen := pageOpen_of_supervisor_or_distaff hwho
    rw [exec_dozeEnWrite v hup hopen, exec_enterSleep v hup hopen, State.writePwrCtl_low]
    refine ⟨rfl, fun hphase => congrArg _ ?_, fun hphase => congrArg _ (State.enterSleep_not_up hphase)⟩
    have hrefuse : u.sleepRefusal = refuse := u.sleepRefusal_eq
    rw [← hrefuse]
    exact State.enterSleep_up hphase
  case entry =>
    intro go
    refine ⟨?_, ?_, ?_, ?_, ?_, fun hlast hpkts hq htimer => ?_⟩
    · rintro rfl
      exact exec_sleepEntryStage_0 hn
    · rintro rfl hve hcx
      exact exec_sleepEntryStage_1 hn hve hcx
    · rintro rfl hsolo
      exact exec_sleepEntryStage_2 hn hsolo
    · rintro rfl
      rw [exec_sleepEntryStage_3 hn]
      refine ⟨fun hheld => by rw [if_pos hheld], fun hfree hdrafts => ⟨s.endWork.entryRow 3, by rw [hfree, if_neg Bool.false_ne_true], rfl, ?_⟩⟩
      simpa only [State.entryRow] using State.endWork_no_drafts hdrafts
    · rintro rfl
      exact exec_sleepEntryStage_4 hn
    · rw [exec_sleepEntryStage_last hn hlast hpkts, State.reachSleep_stays hq htimer]
  case sources =>
    intro cfg wake kept frame
    refine ⟨fun h => ?asleep, fun n h => ?entering, exec_wakeFrame_ignored⟩
    case asleep =>
      rw [exec_wakeIn, exec_wakeTimer, State.qualify_asleep 1 h, State.qualify_asleep 4 h]
      exact ⟨rfl, rfl, fun hframe => (exec_wakeFrame hframe).trans (congrArg _ (State.qualify_asleep 2 h))⟩
    case entering =>
      rw [exec_wakeIn, exec_wakeTimer, State.qualify_entering 1 h, State.qualify_entering 4 h]
      exact ⟨rfl, rfl, fun hframe => (exec_wakeFrame hframe).trans (congrArg _ (State.qualify_entering 2 h))⟩
  case wake =>
    intro next
    refine ⟨fun hrow => exec_wakeReady_source hw hruns hrow rfl, fun hrow => exec_wakeReady_plls hw hruns hrow rfl, fun hrow => exec_wakeReady_6 hw hruns hrow,
      fun hrow hreset => exec_wakeReady_last hw hruns hrow hreset, fun hrow hleft unit island => ?_, fun hrow hspent unit island => ?_⟩
    all_goals rw [exec_wakeReadyTimeout hw hruns hrow]
    · rw [if_pos hleft]
    · rw [if_neg (Nat.not_lt.2 hspent)]
      exact ⟨_, rfl, s.wakeFail_spec w island⟩

end Sys2Proof.Machine
end

section
/-! PROOFS of GroupCommands (O44): GROUP_CONFIG (R311, R312), GROUP_START and GROUP_STOP (R318), VOTE_CONFIG (R326). -/

namespace Sys2Proof.Machine

/-! ### GROUP_CONFIG create -/

/-- A create with all 16 groups in use (R312, Table 2.27). -/
theorem specGroupCreate_run_full {e : Env} {s : State} (hfull : ∀ k < 16, NMap.has s.sen.groups k = true) : specGroupCreate.run e s = s.finish e.id noSpace [0xD] := by
  have hnone : (List.range 16).find? (fun k => !(NMap.has s.sen.groups k)) = none :=
    List.find?_eq_none.2 fun k hk => by simp [hfull k (List.mem_range.1 hk)]
  simp only [specGroupCreate, hnone]
  rfl

/-- A create copies the record into the lowest free group (R312, Table 13.1). -/
theorem specGroupCreate_run_free {e : Env} {s : State} {n : Nat} (hn : n < 16) (hfree : NMap.has s.sen.groups n = false)
    (hlow : ∀ k < n, NMap.has s.sen.groups k = true) :
    specGroupCreate.run e s = ({ s with sen := { s.sen with groups := NMap.put s.sen.groups n (s.readGroup e) } } : State).finish e.id 0 [n, (s.readGroup e).record.length] := by
  have hfind : (List.range 16).find? (fun k => !(NMap.has s.sen.groups k)) = some n :=
    List.find?_range_eq_some.2 ⟨by simp [hfree], List.mem_range.2 hn, fun k hk => by simp [hlow k hk]⟩
  simp only [specGroupCreate, hfind]
  rfl

/-! ### GroupCommands -/

/-- Settles O44: each command runs its effect on the state in which its packet stands outstanding, at the device time of before. -/
theorem groupCommands : Obligations.GroupCommands := by
  unfold Obligations.GroupCommands
  refine ⟨fun src p0 s => ?create, fun src p0 s haccepts => OpSpec.next_exec_accepted haccepts (by decide) rfl,
    fun src p0 s haccepts => OpSpec.next_exec_accepted haccepts (by decide) rfl, fun src p s haccepts => ?start,
    fun src p s haccepts => OpSpec.next_exec_accepted haccepts (by decide) rfl, fun src p s haccepts => OpSpec.next_exec_accepted haccepts (by decide) rfl⟩
  case create =>
    intro p haccepts u g
    exact ⟨fun hfull => OpSpec.next_exec_accepted haccepts (by decide) (specGroupCreate_run_full hfull),
      fun n hn hfree hlow => OpSpec.next_exec_accepted haccepts (by decide) (specGroupCreate_run_free hn hfree hlow)⟩
  case start =>
    -- the first window is counted from the time at which the packet came in, which taking it in leaves as it was
    rw [← OpSpec.taken_now specGroupStart src p s]
    exact OpSpec.next_exec_accepted haccepts (by decide) rfl

end Sys2Proof.Machine
end

section
/-! PROOFS of PlannerCommands (O46): PLAN_CONFIG (R333), PLAN_CYCLE (R340, R347, R349), MAP_UPDATE (R336, R337) and a failed evaluation slice (Table 14.10), each packet
of the planner with the restart of its domain (R461), which the statement leaves out. -/

namespace Sys2Proof.Machine

/-! ### The restart of a stopped domain (R461) -/

/-- An accepted packet answers what its row's effect makes of the state in which it stands outstanding, its domain restarted. -/
theorem OpSpec.next_exec_restarted {sp : OpSpec} {src : Src} {p : Packet} {s t : State} (h : sp.accepts src p s = true)
    (ht : sp.run (sp.env src p s) ((sp.taken src p s).restartFor sp.code) = t) : (.next (sp.exec src p s) : Res) = .next t := by
  rw [OpSpec.exec_accepts h, ht]

/-! ### PLAN_CONFIG (R333) -/

/-- The state with the configuration that a PLAN_CONFIG packet spells, before its reply. -/
def State.planned (s : State) (e : Env) : State :=
  ({ s with eng := { s.eng with plans := NMap.put s.eng.plans e.p.ctx (s.readPlan e) } } : State).dropShadows e.p.ctx

/-- DETAIL2 and DETAIL3 of its reply: the cycle and repair times on the reservation's slices, none without a reservation (Table 14.2). -/
def State.planTimes (s : State) (e : Env) : List Nat :=
  match s.planShare e.p.ctx with
  | some k => [(s.readPlan e).cycleNs ((s.readPlan e).substeps.getD 16) k, (s.readPlan e).repairNs ((s.readPlan e).substeps.getD 16)]
  | none => [0xFFFFFFFF, 0xFFFFFFFF]

theorem State.putPlan_full {s : State} {e : Env} (hfull : 8 ≤ s.eng.plans.length) : s.putPlan e true = s.finish e.id 0x0200 [0x21] := by
  simp only [State.putPlan, hfull, decide_true, Bool.and_self, if_true]
  rfl

theorem State.putPlan_room {s : State} {e : Env} {create : Bool} (hroom : create = false ∨ s.eng.plans.length < 8) :
    s.putPlan e create = (s.planned e).finish e.id 0 ([(s.readPlan e).storeBytes, (s.readPlan e).substeps.getD 16] ++ s.planTimes e) := by
  have hno : (create && decide (8 ≤ s.eng.plans.length)) = false := by
    rcases hroom with rfl | h
    · rfl
    · simp [h]
  simp only [State.putPlan, hno, Bool.false_eq_true, if_false, State.planTimes]
  cases s.planShare e.p.ctx <;> rfl

@[simp] theorem OpSpec.taken_eng (sp : OpSpec) (src : Src) (p : Packet) (s : State) : (sp.taken src p s).eng = s.eng := by cases src <;> rfl

/-- A create with eight configurations (R333, Table 2.27). -/
theorem exec_planConfigCreate_full {src : Src} {p0 : Packet} {s : State} (haccepts : specPlanCreate.accepts src (p0.withField 3 31 30 0) s = true)
    (hfull : 8 ≤ s.eng.plans.length) :
    exec (.planConfigCreate src p0) s = .next ((specPlanCreate.taken src (p0.withField 3 31 30 0) s).finish s.q.nextId 0x0200 [0x21]) :=
  OpSpec.next_exec_restarted haccepts (State.putPlan_full (s := specPlanCreate.taken src _ s) (by rwa [OpSpec.taken_eng]))

/-- A create with room takes the record's configuration, with an empty map and no plan. -/
theorem exec_planConfigCreate_room {src : Src} {p0 : Packet} {s : State} (haccepts : specPlanCreate.accepts src (p0.withField 3 31 30 0) s = true)
    (hroom : s.eng.plans.length < 8) :
    let e := specPlanCreate.env src (p0.withField 3 31 30 0) s
    let u := specPlanCreate.taken src (p0.withField 3 31 30 0) s
    exec (.planConfigCreate src p0) s = .next ((u.planned e).finish s.q.nextId 0 ([(u.readPlan e).storeBytes, (u.readPlan e).substeps.getD 16] ++ u.planTimes e)) :=
  OpSpec.next_exec_restarted haccepts (State.putPlan_room (s := specPlanCreate.taken src _ s) (.inr (by rwa [OpSpec.taken_eng])))

/-- A reconfigure does the same, however many configurations there are. -/
theorem exec_planConfigReconfigure {src : Src} {p0 : Packet} {s : State} (haccepts : specPlanReconfigure.accepts src (p0.withField 3 31 30 1) s = true) :
    let e := specPlanReconfigure.env src (p0.withField 3 31 30 1) s
    let u := specPlanReconfigure.taken src (p0.withField 3 31 30 1) s
    exec (.planConfigReconfigure src p0) s = .next ((u.planned e).finish s.q.nextId 0 ([(u.readPlan e).storeBytes, (u.readPlan e).substeps.getD 16] ++ u.planTimes e)) :=
  OpSpec.next_exec_restarted haccepts (State.putPlan_room (.inl rfl))

/-- A delete drops the configuration. -/
theorem exec_planConfigDelete {src : Src} {p0 : Packet} {s : State} (haccepts : specPlanDelete.accepts src (p0.withField 3 31 30 2) s = true) :
    exec (.planConfigDelete src p0) s =
      .next (((specPlanDelete.taken src (p0.withField 3 31 30 2) s).dropPlan (specPlanDelete.pkt (p0.withField 3 31 30 2)).ctx).finish s.q.nextId 0) :=
  OpSpec.next_exec_restarted haccepts rfl

/-- What a configuration that was taken leaves: the context's entry is new, with no map and no plan; memory and bobbins are as they were. -/
theorem State.planned_spec (s : State) (e : Env) :
    (s.planned e).eng.plans = NMap.put s.eng.plans e.p.ctx (s.readPlan e) ∧ (s.readPlan e).map = {} ∧ (s.readPlan e).committed = none
      ∧ (s.planned e).mem = s.mem ∧ (s.planned e).q = s.q := ⟨rfl, rfl, rfl, rfl, rfl⟩

/-- What a delete leaves: the context has no configuration; memory is as it was. -/
theorem State.dropPlan_spec (s : State) (c : Nat) : (s.dropPlan c).eng.plans = NMap.del s.eng.plans c ∧ (s.dropPlan c).mem = s.mem := ⟨rfl, rfl⟩

/-! ### PLAN_CYCLE (R340, R347, R349) -/

/-- The state in which a cycle's plan set stands with its packet. -/
def State.planMade (s : State) (g : PlanConfig) (e : Env) : State :=
  s.setPlan e.p.ctx (fun h => { h with made := NMap.put (h.made.filter (fun x => (s.pkt? x.1).isSome)) e.id (g.cycleSet (s.cycleIn g e.p) (s.planSeen g e.p)) })

/-- The work of a plan-mode cycle: it reads its blocks and has its commit point alone. -/
def State.cycleWork (s : State) (g : PlanConfig) (e : Env) : Work :=
  let n := e.p.f 7 31 16
  { reads := [(e.p.addr 4, 64), (refAddr e.p, 64 + 8 * e.p.f 5 31 16)] ++ (if n = 0 then [] else [(supAddr e.p, 64 + ceilDiv (n * g.samples * 16) 64 * 64 + 4 * n)])
    stamp := (g.cycleSet (s.cycleIn g e.p) (s.planSeen g e.p)).stamp
    after := [.plan e.p.ctx (some e.id)] }

/-- The work of a check-mode cycle: it writes its verdict. -/
def State.checkWork (s : State) (g : PlanConfig) (p : Packet) : Work :=
  let v := g.verdict (s.load (p.addr 4) 64) (s.load (refAddr p) 64)
  { reads := [(p.addr 4, 64), (refAddr p, 64)], writes := [⟨supAddr p, leBytes 4 v⟩], details := [v, 0, 0, 0] }

/-- Outside a draft a packet sees the committed plan set (R194). -/
theorem State.planSeen_undrafted (s : State) (g : PlanConfig) {p : Packet} (hlevel : p.level = 0) : s.planSeen g p = g.committed := by
  simp only [State.planSeen, hlevel, State.chain, List.findSome?_nil]

section
variable {e : Env} {s : State} {g : PlanConfig} (hg : NMap.get? s.eng.plans e.p.ctx = some g)
include hg

theorem specPlanCycle_run_behind (hbehind : (s.plannerOf e.p.ctx).any (fun o => decide (o.id < e.id)) = true) :
    specPlanCycle.run e s = s.setJob e.id (.waits .retry) := by
  simp only [specPlanCycle, hg, hbehind, if_true]

theorem specPlanCycle_run_first (hfirst : (s.plannerOf e.p.ctx).any (fun o => decide (o.id < e.id)) = false) (hlevel : e.p.level = 0) :
    specPlanCycle.run e s = (s.planMade g e).startWork e (s.cycleWork g e) := by
  simp only [specPlanCycle, hg, hfirst, hlevel, Bool.false_eq_true, if_false, if_true]
  rfl

theorem specPlanCheck_run : specPlanCheck.run e s =
    if (s.plannerOf e.p.ctx).any (fun o => decide (o.id < e.id)) then s.setJob e.id (.waits .retry) else s.startWork e (s.checkWork g e.p) := by
  simp only [specPlanCheck, hg]
  rfl

end

/-- The configuration of a context whose cycle has been planned: the plan set that it made stands beside what was there. -/
theorem State.planMade_spec {s : State} {g : PlanConfig} {e : Env} (hg : NMap.get? s.eng.plans e.p.ctx = some g) :
    ∃ h : PlanConfig, NMap.get? (s.planMade g e).eng.plans e.p.ctx = some h
      ∧ NMap.get? h.made e.id = some (g.cycleSet (s.cycleIn g e.p) (s.planSeen g e.p)) ∧ h.committed = g.committed ∧ h.map = g.map :=
  ⟨_, NMap.get?_upd_same _ hg, NMap.get?_put_same _ _ _, rfl, rfl⟩

/-- A check-mode cycle restarts the planner's domain, then waits behind an earlier planner packet of its context or writes its verdict (R340, R349). -/
theorem exec_planCycleCheck {src : Src} {p0 : Packet} {s : State} {g : PlanConfig} (haccepts : specPlanCheck.accepts src (p0.withField 3 31 30 1) s = true) :
    let q := specPlanCheck.pkt (p0.withField 3 31 30 1)
    let u := (specPlanCheck.taken src (p0.withField 3 31 30 1) s).restart 36
    NMap.get? u.eng.plans q.ctx = some g →
    exec (.planCycleCheck src p0) s = .next (if (u.plannerOf q.ctx).any (fun o => decide (o.id < s.q.nextId)) then u.setJob s.q.nextId (.waits .retry)
      else u.startWork (specPlanCheck.env src (p0.withField 3 31 30 1) s) (u.checkWork g q)) :=
  fun hg => OpSpec.next_exec_restarted haccepts (specPlanCheck_run (e := specPlanCheck.env src (p0.withField 3 31 30 1) s) hg)

section
variable {src : Src} {p0 : Packet} {s : State} {g : PlanConfig} (haccepts : specPlanCycle.accepts src (p0.withField 3 31 30 0) s = true)
include haccepts

/-- A plan-mode cycle behind an earlier planner packet of its context restarts the planner's domain and waits (R340). -/
theorem exec_planCyclePlan_behind :
    let q := specPlanCycle.pkt (p0.withField 3 31 30 0)
    let u := (specPlanCycle.taken src (p0.withField 3 31 30 0) s).restart 36
    NMap.get? u.eng.plans q.ctx = some g → (u.plannerOf q.ctx).any (fun o => decide (o.id < s.q.nextId)) = true →
    exec (.planCyclePlan src p0) s = .next (u.setJob s.q.nextId (.waits .retry)) :=
  fun hg hbehind => OpSpec.next_exec_restarted haccepts (specPlanCycle_run_behind (e := specPlanCycle.env src (p0.withField 3 31 30 0) s) hg hbehind)

/-- A plan-mode cycle outside a draft, the first of its context, is in flight with the plan set that it made. -/
theorem exec_planCyclePlan_first :
    let q := specPlanCycle.pkt (p0.withField 3 31 30 0)
    let u := specPlanCycle.taken src (p0.withField 3 31 30 0) s
    NMap.get? u.eng.plans q.ctx = some g → (u.plannerOf q.ctx).any (fun o => decide (o.id < s.q.nextId)) = false → q.level = 0 →
    ∃ (v : State) (w : Work) (h : PlanConfig), exec (.planCyclePlan src p0) s = .next (v.startWork (specPlanCycle.env src (p0.withField 3 31 30 0) s) w)
      ∧ w.after = [.plan q.ctx (some s.q.nextId)] ∧ w.writes = [] ∧ NMap.get? v.eng.plans q.ctx = some h
      ∧ NMap.get? h.made s.q.nextId = some (g.cycleSet (u.cycleIn g q) (u.planSeen g q)) ∧ h.committed = g.committed ∧ h.map = g.map ∧ v.mem = s.mem := by
  intro q u hg hfirst hlevel
  have hexec := OpSpec.next_exec_restarted haccepts (specPlanCycle_run_first (e := specPlanCycle.env src (p0.withField 3 31 30 0) s) hg hfirst hlevel)
  have hseen : (u.restart 36).planSeen g q = u.planSeen g q := by rw [State.planSeen_undrafted _ g hlevel, State.planSeen_undrafted _ g hlevel]
  obtain ⟨h, hplan, hmade, hcommitted, hmap⟩ := State.planMade_spec (s := u.restart 36) (e := specPlanCycle.env src (p0.withField 3 31 30 0) s) hg
  exact ⟨_, _, h, hexec, rfl, rfl, hplan, hseen ▸ hmade, hcommitted, hmap, OpSpec.taken_mem ..⟩

end

/-! ### MAP_UPDATE (R336, R337) -/

/-- The map that an update's records are applied to: the block's own voxels, or a copy of the active map. -/
def State.mapBase (s : State) (g : PlanConfig) (p : Packet) : PlanMap :=
  let stamp := ageOf (s.load (p.addr 4) 16)
  if p.f 3 31 30 = 0 then
    { voxels := (List.range (g.nx * g.ny * g.nz)).filter (fun v => (memGet s.mem (p.addr 4 + 64 + v / 8)).getLsbD (v % 8)), prims := [], stamp := stamp
      version := g.map.version }
  else { g.map with stamp := older g.map.stamp stamp }

/-- The map that an update builds; none where its primitives would pass PRIM_MAX. -/
def State.mapBuilt (s : State) (g : PlanConfig) (p : Packet) : Option PlanMap := g.applyRecs (ageOf (s.load (p.addr 4) 16)) (s.mapBase g p) (s.mapRecs g p)

/-- The state in which a built map stands with its packet. -/
def State.mapMade (s : State) (e : Env) (m : PlanMap) : State :=
  s.setPlan e.p.ctx (fun h => { h with maps := NMap.put (h.maps.filter (fun x => (s.pkt? x.1).isSome)) e.id m })

section
variable {e : Env} {s : State} {g : PlanConfig} (hg : NMap.get? s.eng.plans e.p.ctx = some g)
include hg

/-- The configuration of a context whose update has been built: the map built stands beside what was there. -/
theorem State.mapMade_spec (m : PlanMap) :
    ∃ h : PlanConfig, NMap.get? (s.mapMade e m).eng.plans e.p.ctx = some h ∧ NMap.get? h.maps e.id = some m ∧ h.map = g.map ∧ h.ready = g.ready :=
  ⟨_, NMap.get?_upd_same _ hg, NMap.get?_put_same _ _ _, rfl, rfl⟩

/-- An update behind an earlier planner packet of its context waits (R340). -/
theorem runMap_behind (hbehind : (s.plannerOf e.p.ctx).any (fun o => decide (o.id < e.id)) = true) : runMap e s = s.setJob e.id (.waits .retry) := by
  simp only [runMap, hg, hbehind, if_true]

variable (hfirst : (s.plannerOf e.p.ctx).any (fun o => decide (o.id < e.id)) = false)
include hfirst

/-- An update whose primitives would pass PRIM_MAX (R337, Table 2.27). -/
theorem runMap_full (hfull : s.mapBuilt g e.p = none) : runMap e s = s.finish e.id 0x0200 [0x22] := by
  simp only [State.mapBuilt, State.mapBase] at hfull
  simp only [runMap, hg, hfirst, Bool.false_eq_true, if_false, decide_eq_true_eq, hfull]
  rfl

/-- An update in flight has its map built and reads its block; the swap is its commit point. -/
theorem runMap_built {m : PlanMap} (hbuilt : s.mapBuilt g e.p = some m) :
    runMap e s = (s.mapMade e m).startWork e { reads := [(e.p.addr 4, g.blockBytes e.p)], after := [.mapSwap e.p.ctx e.id] } := by
  simp only [State.mapBuilt, State.mapBase] at hbuilt
  simp only [runMap, hg, hfirst, Bool.false_eq_true, if_false, decide_eq_true_eq, hbuilt]
  rfl

end

/-- An accepted update of either kind builds its map with the planner's domain restarted (R461). -/
theorem exec_mapUpdateReplace {src : Src} {p0 : Packet} {s : State} (haccepts : specMapReplace.accepts src (p0.withField 3 31 30 0) s = true) :
    exec (.mapUpdateReplace src p0) s =
      .next (runMap (specMapReplace.env src (p0.withField 3 31 30 0) s) ((specMapReplace.taken src (p0.withField 3 31 30 0) s).restart 36)) :=
  OpSpec.next_exec_restarted haccepts rfl

theorem exec_mapUpdatePatch {src : Src} {p0 : Packet} {s : State} (haccepts : specMapPatch.accepts src (p0.withField 3 31 30 1) s = true) :
    exec (.mapUpdatePatch src p0) s =
      .next (runMap (specMapPatch.env src (p0.withField 3 31 30 1) s) ((specMapPatch.taken src (p0.withField 3 31 30 1) s).restart 36)) :=
  OpSpec.next_exec_restarted haccepts rfl

/-! ### The swap of a map (R337) -/

/-- With no plan set committed there is nothing to check. -/
theorem State.recheckPlan_uncommitted {s : State} {c : Nat} {g : PlanConfig} (hg : NMap.get? s.eng.plans c = some g) (hnone : g.committed = none) :
    s.recheckPlan c = (s, 3, none) := by
  simp only [State.recheckPlan, hg, hnone]

/-- With no plan set committed, the swap makes the map built the active one with the next version. -/
theorem State.swapMap_uncommitted {s : State} {c pkt : Nat} {g : PlanConfig} {m : PlanMap} (hg : NMap.get? s.eng.plans c = some g)
    (hm : NMap.get? g.maps pkt = some m) (hnone : g.committed = none) :
    s.swapMap c pkt = (s.setPlan c (fun h => { h with map := { m with version := g.map.version + 1 }, ready := true, maps := NMap.del h.maps pkt }),
      [g.map.version + 1, 3, 0xFFFFFFFF, m.prims.length]) := by
  simp only [State.swapMap, hg, hm]
  rw [State.recheckPlan_uncommitted (g := { g with map := { m with version := g.map.version + 1 }, ready := true, maps := NMap.del g.maps pkt })
    (NMap.get?_upd_same _ hg) hnone]

/-! ### A failed evaluation slice (Table 14.10) -/

/-- A slice with no cycle on it goes out of service; cause 2 where no healthy slice is left to take its place. -/
theorem exec_plannerSliceFault_idle {s : State} {k : Nat} (hup : s.clocked = true) (hk : k < 32) (hin : s.unitOut 0xC k = false) :
    let v : State := { s with spl := { s.spl with out := s.spl.out ++ [unitKey 0xC k] } }
    let u := v.fence 0 0 0 0xC k 1
    exec (.plannerSliceFault k none) s = .next (if u.slicesWhole then u else (u.fence 0 0 0 0xC k 2).raise 2) := by
  have hserves : (decide (32 ≤ k) || s.unitOut 0xC k) = false := by simp [hin, hk]
  show execPlannerSliceFault k none s = _
  simp only [execPlannerSliceFault, State.whileUp_of hup, hserves, Bool.false_eq_true, if_false]
  rfl

/-! ### The refutation -/

/-- A configuration of context 5 with a map applied. -/
def mappedPlan : PlanConfig := { ctx := 5, opener := 1, record := [], banks := 1, ready := true }

/-- Bobbin 1, context 5 with a region at 0x8000_0000, bank 4 of core 0 on port 4 and the configuration `mappedPlan`; Doze is permitted. -/
def dozePermitted : State :=
  { State.reset with
    q := { State.reset.q with bobbins := [(1, { mode := .running, flyer := 1, sizeLog2 := 4, cplBase := 0x80018000 })] }
    dom := { State.reset.dom with
      contexts := [(5, { tenant := 0, fixed := false, shadowMib := 1, reservation := 0, coreMask := 3, maxCores := 2, opener := 1, coreBanks := [(4, 4)] })] }
    ms := { State.reset.ms with regions := [⟨5, 0, 0x80000000, 32, true, true, true⟩] }
    eng := { State.reset.eng with plans := [(5, mappedPlan)] }
    pwr := { State.reset.pwr with dozeEn := true } }

/-- The planner's domain, 36, has stopped in Doze. -/
def plannerDozing : State := { dozePermitted with pwr := { dozePermitted.pwr with stopped := [36] } }

/-- The planner of `dozePermitted` holds no packet: its domain stops once DOZE_IDLE_US has passed (R461). -/
theorem exec_dozeIdleExpiry_dozePermitted : exec (.dozeIdleExpiry 36) dozePermitted = .next plannerDozing :=
  exec_dozeIdleExpiry (by decide) (by decide) (by decide)

/-- A check-mode PLAN_CYCLE: blocks at 0x8003_9000 and 0x8003_9100, the verdict to bank 4 of core 0. -/
def checkCycle : Packet := ⟨[0x10000, 5, 7, 0x40000000, 0x80039000, 0, 0x80039100, 0, 0x400000, 0x100, 0, 0, 0, 0, 0, 0]⟩

/-- Work outside a draft and without an escalation draft stops and restarts no domain where it starts. -/
theorem State.startWork_pwr {s : State} {e : Env} {w : Work} (hlevel : e.p.level = 0) (hesc : w.esc = false) : (s.startWork e w).pwr = s.pwr := by
  simp only [State.startWork, hesc, hlevel, Bool.false_eq_true, if_false, ne_eq, not_true_eq_false]
  rw [foldl_keeps State.pwr fun y r => ?_, State.trace_pwr, State.setJob_pwr]
  split <;> rfl

/-- The verdict or the wait of a check-mode cycle leaves the power state as it was. -/
theorem State.waits_or_starts_pwr {s : State} {e : Env} {w : Work} {b : Bool} {i : Nat} {j : Job} (hlevel : e.p.level = 0) (hesc : w.esc = false) :
    (if b then s.setJob i j else s.startWork e w).pwr = s.pwr := by
  cases b
  · exact State.startWork_pwr hlevel hesc
  · rfl

/-- Refutes O46: a planner packet restarts its domain (R461), and the statement's check-mode cycle leaves it as it was. In `plannerDozing` the cycle `checkCycle` runs
with domain 36 restarted, where the statement's state has it stopped still. `exec_planCycleCheck`, `exec_planCyclePlan_behind` and `runMap_full` (at the state of
`exec_mapUpdateReplace` and `exec_mapUpdatePatch`) say with the restart the three cases that leave it out; the theorems beside them say the others. -/
theorem not_plannerCommands : ¬ Obligations.PlannerCommands := by
  unfold Obligations.PlannerCommands
  intro ⟨_, _, _, _, hcheck, _, _, _⟩
  have haccepts : specPlanCheck.accepts (.bobbin 1) (checkCycle.withField 3 31 30 1) plannerDozing = true := by decide
  have hlevel : (specPlanCheck.env (.bobbin 1) (checkCycle.withField 3 31 30 1) plannerDozing).p.level = 0 := by decide
  have hstated := hcheck (.bobbin 1) checkCycle plannerDozing mappedPlan haccepts rfl
  rw [exec_planCycleCheck haccepts rfl] at hstated
  injection hstated with hstates
  have hpwr := congrArg State.pwr hstates
  rw [State.waits_or_starts_pwr hlevel rfl, State.waits_or_starts_pwr hlevel rfl] at hpwr
  exact absurd (congrArg PowerUnit.stopped hpwr) (by decide)

end Sys2Proof.Machine
end

section
/-! PROOFS of StepRunsFront (O1): `step` at a queue with a front (log entry 1). -/

namespace Sys2Proof.Machine

theorem step_cons (c : Instr) (rest : List Instr) (s : State) : step { s with pending := c :: rest } = exec c { s with pending := rest } := rfl

/-- Settles O1: `step_cons`. -/
theorem stepRunsFront : Obligations.StepRunsFront := by
  unfold Obligations.StepRunsFront
  exact fun c rest s => step_cons c rest s

end Sys2Proof.Machine
end

section
/-! PROOFS of MemInvariant (O19), first part: one rule for each operation of the state, in the order of their definitions: from a state whose memory is canonical it
answers one whose memory is. An operation's rule is put together from the rules of the operations it calls, with `State.MemOk.ite` for its branches, `State.MemOk.foldl` for its
repetitions and `State.MemOk.upd` for a change of other fields; the stores themselves rest on `State.store_canon`, `State.clear_canon` and `State.trace_canon`. -/

namespace Sys2Proof.Machine

/-- What a meaning answers next, if anything, has canonical memory. -/
def NextOk : Res → Prop
  | .next t => t.MemOk
  | _ => True

/-- A branch, of which each side keeps memory canonical. -/
theorem State.MemOk.ite {c : Prop} [Decidable c] {a b : State} (ha : a.MemOk) (hb : b.MemOk) : (if c then a else b).MemOk := by
  split
  · exact ha
  · exact hb

/-- A repetition, of which each turn keeps memory canonical. -/
theorem State.MemOk.foldl {α : Type} {f : State → α → State} (hf : ∀ (x : State) (a : α), x.MemOk → (f x a).MemOk) {s : State} (h : s.MemOk) {l : List α} :
    (l.foldl f s).MemOk :=
  List.foldlRecOn l f h (fun x hx a _ => hf x a hx)

/-- What an operation's run makes of a state keeps memory canonical. -/
def OpSpec.Keeps (sp : OpSpec) : Prop := ∀ (e : Env) (s : State), s.MemOk → (sp.run e s).MemOk

theorem NextOk.next {t : State} (h : t.MemOk) : NextOk (.next t) := h

/-- A change of other fields. -/
theorem State.MemOk.upd {s : State} (h : s.MemOk) {dev : Device} {q : Queues} {oob : Oob} {pkts : List OutPkt} {dom : Domains} {ms : MemState} {dr : Drafts} {kv : NMap KvPool} {ply : PlyState}
    {time : TimeState} {saf : SafetyState} {dbg : DebugState} {vault : Vault} {upd : Update}
    {pwr : PowerUnit} {spl : SpliceUnit} {tens : TensionUnit} {sen : Sensors} {eng : Engines} {log : List LogRec} {out : List Out} {free : Nat} {pending : List Instr} :
    (State.mk dev q oob pkts dom ms s.mem dr kv ply time saf dbg vault upd pwr spl tens sen eng log out free pending).MemOk := h

theorem State.MemOk.ite_fst {α : Type} {c : Prop} [Decidable c] {a b : State × α} (ha : a.1.MemOk) (hb : b.1.MemOk) : (if c then a else b).1.MemOk := by
  split
  · exact ha
  · exact hb

theorem State.MemOk.ite_snd {α : Type} {c : Prop} [Decidable c] {a b : α × State} (ha : a.2.MemOk) (hb : b.2.MemOk) : (if c then a else b).2.MemOk := by
  split
  · exact ha
  · exact hb

theorem State.MemOk.foldl_fst {α β : Type} {f : State × β → α → State × β} (hf : ∀ (x : State × β) (a : α), x.1.MemOk → (f x a).1.MemOk) {x : State × β} (h : x.1.MemOk)
    {l : List α} : (l.foldl f x).1.MemOk :=
  List.foldlRecOn l f (motive := fun y => y.1.MemOk) h (fun y hy a _ => hf y a hy)

/-- The state of a pair that is known by its parts. -/
theorem State.MemOk.of_fst {α : Type} {p : State × α} {s : State} {a : α} (h : p.1.MemOk) (e : p = (s, a)) : s.MemOk := by
  subst e
  exact h

theorem State.MemOk.of_snd {α : Type} {p : α × State} {s : State} {a : α} (h : p.2.MemOk) (e : p = (a, s)) : s.MemOk := by
  subst e
  exact h

/-- What room for drafts is made in keeps memory canonical. -/
def Room.MemOk : Room → Prop
  | .ok s => s.MemOk
  | .self s _ => s.MemOk
  | .wait => True

/-- A frame is found, or not, in a state whose memory is canonical. -/
def Got.MemOk : Got → Prop
  | .frame s _ _ => s.MemOk
  | .noSpace s => s.MemOk
  | .self s _ => s.MemOk
  | .wait => True

theorem State.MemOk.logIt {s : State} (hm : s.MemOk) {k : LogKind} {a b c : Nat} : (s.logIt k a b c).MemOk := .upd hm

theorem State.MemOk.oobDrop {s : State} (hm : s.MemOk) {c : Carrier} {port : Nat} : (s.oobDrop c port).MemOk := by
  unfold State.oobDrop
  split <;> exact .logIt (.upd hm)

theorem State.MemOk.acceptCounter {s : State} (hm : s.MemOk) {c : Carrier} {n : Nat} : (s.acceptCounter c n).MemOk := .upd hm

theorem State.MemOk.bump {s : State} (hm : s.MemOk) {group tenant entry field n limit : Nat} : (s.bump group tenant entry field n limit).MemOk := .upd hm

theorem State.MemOk.store {s : State} (hm : s.MemOk) {a : Addr} {bs : List Byte} : (s.store a bs).MemOk := State.store_canon a bs hm

theorem State.MemOk.trace {s : State} (hm : s.MemOk) {t : TraceEv} : (s.trace t).MemOk := State.trace_canon t hm

theorem State.MemOk.setBob {s : State} (hm : s.MemOk) {n : Nat} {b : Bobbin} : (s.setBob n b).MemOk := .upd hm

theorem State.MemOk.bobError {s : State} (hm : s.MemOk) {n : Nat} {f : Bobbin → Bobbin} : (s.bobError n f).MemOk :=
  .setBob hm

theorem State.MemOk.emit {s : State} (hm : s.MemOk) {o : Out} : (s.emit o).MemOk := .upd hm

theorem State.MemOk.raiseIrq {s : State} (hm : s.MemOk) {n : Nat} : (s.raiseIrq n).MemOk :=
  .emit (.setBob hm)

theorem State.MemOk.checkIrq {s : State} (hm : s.MemOk) {n : Nat} : (s.checkIrq n).MemOk :=
  .ite (.raiseIrq hm) hm

theorem State.MemOk.writeReply {s : State} (hm : s.MemOk) {n : Nat} {r : Reply} : (s.writeReply n r).MemOk :=
  .ite (.bobError hm) (.checkIrq (.setBob (.store hm)))

theorem State.MemOk.drainHeld {s : State} (hm : s.MemOk) {n k : Nat} : (s.drainHeld n k).MemOk := by
  induction k generalizing s with
  | zero => exact hm
  | succ k ih =>
    rcases s.drainHeld_cases n k with e | ⟨r, rest, -, e⟩
    · rwa [e]
    · rw [e]
      exact ih (.writeReply (.setBob hm))

theorem State.MemOk.deliver {s : State} (hm : s.MemOk) {n : Nat} {r : Reply} : (s.deliver n r).MemOk := State.deliver_canon n r hm

theorem State.MemOk.dropService {s : State} (hm : s.MemOk) : s.dropService.MemOk :=
  .ite hm (.upd hm)

theorem State.MemOk.oobNext {s : State} (hm : s.MemOk) {c : Carrier} : (s.oobNext c).2.MemOk := .upd hm

theorem State.MemOk.oobSend {s : State} (hm : s.MemOk) {c : Carrier} {port : Nat} {r : Reply} : (s.oobSend c port r).MemOk := by
  unfold State.oobSend
  dsimp only
  split
  · exact .upd (.oobNext hm)
  · exact .emit (.oobNext hm)

theorem State.MemOk.endPkt {s : State} (hm : s.MemOk) {o : OutPkt} {status : Nat} {d : List Nat} {time : Nat} : (s.endPkt o status d time).MemOk := by
  unfold State.endPkt
  extract_lets live en _ _ _ _ _ s1 tainted s2 s3
  have h3 : s3.MemOk := .trace (.bump (.ite (.bump (.upd hm)) (.upd hm)))
  split
  · exact .ite (.dropService (.ite (.setBob h3) (.deliver (.setBob h3)))) (.ite (.setBob h3) (.deliver (.setBob h3)))
  · exact .oobSend h3

theorem State.MemOk.finish {s : State} (hm : s.MemOk) {id status : Nat} {d : List Nat} {time : Nat} : (s.finish id status d time).MemOk := by
  unfold State.finish
  split
  · exact .endPkt hm
  · exact hm

theorem State.MemOk.stopBobbin {s : State} (hm : s.MemOk) {n : Nat} : (s.stopBobbin n).MemOk :=
  .ite (.setBob hm) hm

theorem State.MemOk.drawn {s : State} (hm : s.MemOk) {n : Nat} : (s.drawn n).MemOk := .upd hm

theorem State.MemOk.plyOut {s : State} (hm : s.MemOk) {port dst : Nat} {m : PlyMsg} : (s.plyOut port dst m).MemOk := by
  unfold State.plyOut
  refine .emit ?_
  split
  · exact .bump (.upd hm)
  · exact .drawn (.bump (.upd hm))

theorem State.MemOk.plySend {s : State} (hm : s.MemOk) {node : Nat} {m : PlyMsg} : (s.plySend node m).MemOk := by
  unfold State.plySend
  split
  · exact .plyOut hm
  · exact hm

theorem State.MemOk.discard {s : State} (hm : s.MemOk) {d : Draft} : (s.discard d).MemOk :=
  .trace (.foldl (fun _ _ hx => .plySend hx) (.upd hm))

theorem State.MemOk.dropEsc {s : State} (hm : s.MemOk) {id : Nat} : (s.dropEsc id).MemOk := by
  unfold State.dropEsc
  split
  · exact .discard hm
  · exact hm

theorem State.MemOk.collAborted {s : State} (hm : s.MemOk) {id : Nat} : (s.collAborted id).MemOk := by
  unfold State.collAborted
  split
  · exact .foldl (fun _ _ hx => .plySend hx) hm
  · exact hm

theorem State.MemOk.untwist {s : State} (hm : s.MemOk) {id : Nat} : (s.untwist id).MemOk := by
  unfold State.untwist
  split
  · exact hm
  · exact .upd (.foldl (fun _ _ hx => .foldl (fun _ _ hx => .plySend hx) hx) hm)

theorem State.MemOk.stopOne {s : State} (hm : s.MemOk) {why : StopWhy} {id : Nat} : (s.stopOne why id).1.MemOk := by
  unfold State.stopOne
  split
  · exact hm
  · refine .ite_fst hm (.endPkt ?_)
    split
    · exact .upd (.ite (.untwist (.dropEsc (.collAborted hm))) (.dropEsc (.collAborted hm)))
    · exact .ite (.untwist (.dropEsc (.collAborted hm))) (.dropEsc (.collAborted hm))

theorem State.MemOk.stopMany {s : State} (hm : s.MemOk) {why : StopWhy} {ids : List Nat} : (s.stopMany why ids).1.MemOk := by
  induction ids generalizing s with
  | nil => exact hm
  | cons i rest ih => exact .ite_fst (ih (.stopOne hm)) (ih (.stopOne hm))

theorem State.MemOk.setJob {s : State} (hm : s.MemOk) {id : Nat} {j : Job} : (s.setJob id j).MemOk := .upd hm

theorem State.MemOk.endAbort {s : State} (hm : s.MemOk) {id aborted already reason : Nat} : (s.endAbort id aborted already reason).MemOk :=
  .ite (.finish hm) (.finish hm)

theorem State.MemOk.carryOut {s : State} (hm : s.MemOk) {o : StopOrder} : (s.carryOut o).MemOk := by
  unfold State.carryOut
  split
  · exact .finish (.stopBobbin hm)
  · split
    rename_i s1 a b stopped
    have h1 : s1.MemOk := .of_fst (.stopMany hm) stopped
    split
    · exact h1
    · split
      · exact .ite (.setJob h1) (.endAbort h1)
      · exact h1

theorem State.MemOk.sendWrites {s : State} (hm : s.MemOk) {id : Nat} {p : Packet} {ws : List ResWrite} : (s.sendWrites id p ws).MemOk := by
  unfold State.sendWrites
  refine .foldl (fun _ _ hx => ?_) hm
  split
  · exact .upd (.plySend hx)
  · exact hx

theorem State.MemOk.unravelAll {s : State} (hm : s.MemOk) {order : Nat} {w : EndWith} : (s.unravelAll order w).1.MemOk := by
  unfold State.unravelAll
  refine .bump (.upd (.foldl (fun _ _ hx => .discard hx) (.foldl (fun _ _ hx => ?_) hm)))
  split <;> exact .finish hx

theorem State.MemOk.event {s : State} (hm : s.MemOk) {creator opcode status ctx : Nat} {d : List Nat} : (s.event creator opcode status ctx d).MemOk :=
  .deliver (.logIt hm)

theorem State.MemOk.evict {s : State} (hm : s.MemOk) {d : Draft} {cause place : Nat} {skip : Option Nat} : (s.evict d cause place skip).MemOk :=
  .bump (.foldl (fun _ _ hx => .event hx) (.unravelAll hm))

theorem State.MemOk.setDraft {s : State} (hm : s.MemOk) {order : Nat} {f : Draft → Draft} : (s.setDraft order f).MemOk := .upd hm

theorem State.MemOk.draftStore {s : State} (hm : s.MemOk) {order a : Nat} {bs : List Byte} : (s.draftStore order a bs).MemOk :=
  .setDraft hm

theorem State.MemOk.land {s : State} (hm : s.MemOk) {order : Option Nat} {w : ResWrite} : (s.land order w).MemOk := by
  unfold State.land
  refine .ite hm ?_
  split
  · exact .ite (.draftStore hm) (.store hm)
  · exact .store hm

theorem State.MemOk.holdChange {s : State} (hm : s.MemOk) {was now : SafetyMode} : (s.holdChange was now).MemOk :=
  .ite (.upd hm) (.ite (.upd hm) hm)

theorem State.MemOk.setCauses {s : State} (hm : s.MemOk) {causes : Nat} : (s.setCauses causes).MemOk :=
  .ite (.holdChange (.upd hm)) (.trace (.logIt (.holdChange (.upd hm))))

theorem State.MemOk.endCause {s : State} (hm : s.MemOk) {n : Nat} : (s.endCause n).MemOk :=
  .ite (.setCauses hm) hm

theorem State.MemOk.settlePairs {s : State} (hm : s.MemOk) : s.settlePairs.MemOk :=
  .ite hm (.endCause hm)

theorem State.MemOk.setCompare {s : State} (hm : s.MemOk) {stream : Nat} {c : PairCompare} : (s.setCompare stream c).MemOk := .upd hm

theorem State.MemOk.raise {s : State} (hm : s.MemOk) {n : Nat} : (s.raise n).MemOk :=
  .ite (.upd (.setCauses hm)) (.setCauses hm)

theorem State.MemOk.verdictOf {s : State} (hm : s.MemOk) {stream : Nat} {agree : Bool} : (s.verdictOf stream agree).MemOk := by
  unfold State.verdictOf
  split
  · exact hm
  · exact .ite (.settlePairs (.setCompare hm)) (.ite (.setCompare hm) (.raise (.upd (.event (.setCompare hm)))))

theorem State.MemOk.compareRecord {s : State} (hm : s.MemOk) {stream : Nat} {own : Bool} {r : CompareRec} : (s.compareRecord stream own r).MemOk := by
  unfold State.compareRecord
  split
  · exact hm
  · refine .ite hm ?_
    dsimp only
    split
    · exact .verdictOf (.setCompare hm)
    · exact .setCompare hm

theorem State.MemOk.compareResult {s : State} (hm : s.MemOk) {stream stamp : Nat} {payload : List Byte} : (s.compareResult stream stamp payload).MemOk := by
  unfold State.compareResult
  split
  · exact hm
  · exact .ite hm (.compareRecord (.plySend hm))

theorem State.MemOk.setAge {s : State} (hm : s.MemOk) {n : Nat} {a : AgeStream} : (s.setAge n a).MemOk := .upd hm

theorem State.MemOk.expire {s : State} (hm : s.MemOk) {n : Nat} {a : AgeStream} {age : Nat} : (s.expire n a age).MemOk :=
  .upd (.trace (.event (.setAge hm)))

theorem State.MemOk.ageResult {s : State} (hm : s.MemOk) {n : Nat} {stamp : Option Nat} {payload : List Byte} : (s.ageResult n stamp payload).MemOk := by
  unfold State.ageResult
  dsimp only
  split
  · refine .upd ?_
    split
    · exact .compareResult hm
    · exact hm
  · split
    · refine .ite (.expire (.drawn (.logIt (.upd ?_)))) (.setAge (.logIt (.upd ?_)))
      · split
        · exact .compareResult hm
        · exact hm
      · split
        · exact .compareResult hm
        · exact hm
    · refine .ite (.expire ?_) (.setAge ?_)
      · split
        · exact .compareResult hm
        · exact hm
      · split
        · exact .compareResult hm
        · exact hm

theorem State.MemOk.swapModel {s : State} (hm : s.MemOk) {slot : Nat} {m : HotModel} : (s.swapModel slot m).MemOk := .upd hm

theorem State.MemOk.setPlan {s : State} (hm : s.MemOk) {c : Nat} {f : PlanConfig → PlanConfig} : (s.setPlan c f).MemOk := .upd hm

theorem State.MemOk.stampWrite {s : State} (hm : s.MemOk) {a n : Nat} {t : Option Nat} : (s.stampWrite a n t).MemOk := .upd hm

theorem State.MemOk.setSystem {s : State} (hm : s.MemOk) {n : Nat} {f : SolveSys → SolveSys} : (s.setSystem n f).MemOk := .upd hm

theorem State.MemOk.planHandOff {s : State} (hm : s.MemOk) {c n : Nat} {traj stop : List (List Nat)} {stopActive : Bool} {stamp : Option Nat} : (s.planHandOff c n traj stop stopActive stamp).MemOk := by
  unfold State.planHandOff
  split
  · exact hm
  · exact .ite hm (.ite (.logIt hm) (.setSystem hm))

theorem State.MemOk.commitSet {s : State} (hm : s.MemOk) {c : Nat} {x : PlanSet} : (s.commitSet c x).MemOk := by
  unfold State.commitSet
  split
  · exact hm
  · exact .ite (.ageResult (.stampWrite (.store (.setPlan hm)))) (.planHandOff (.ageResult (.stampWrite (.store (.setPlan hm)))))

theorem State.MemOk.commitCycle {s : State} (hm : s.MemOk) {c pkt : Nat} : (s.commitCycle c pkt).1.MemOk := by
  unfold State.commitCycle
  split
  · split
    · exact hm
    · refine .ite_fst ?_ (.commitSet (.ite (.bump (.setPlan hm)) (.bump (.bump (.setPlan hm)))))
      split
      · exact .bump (.setPlan hm)
      · exact .drawn (.setDraft (.setPlan (.bump (.setPlan hm))))
  · exact hm

theorem State.MemOk.recheckPlan {s : State} (hm : s.MemOk) {c : Nat} : (s.recheckPlan c).1.MemOk := by
  unfold State.recheckPlan
  split
  · exact hm
  · split
    · exact hm
    · exact .ite_fst (.setPlan hm) (.bump (.commitSet hm))

theorem State.MemOk.swapMap {s : State} (hm : s.MemOk) {c pkt : Nat} : (s.swapMap c pkt).1.MemOk := by
  unfold State.swapMap
  split
  · exact hm
  · split
    · exact hm
    · exact .recheckPlan (.setPlan hm)

theorem State.MemOk.setLoop {s : State} (hm : s.MemOk) {n : Nat} {f : Loop → Loop} : (s.setLoop n f).MemOk := .upd hm

theorem State.MemOk.handOff {s : State} (hm : s.MemOk) {c stream n word : Nat} : (s.handOff c stream n word).1.MemOk := by
  unfold State.handOff
  split
  · exact hm
  · exact .ite_fst hm (.ite_fst hm (.setLoop hm))

theorem State.MemOk.commitSolve {s : State} (hm : s.MemOk) {n pkt : Nat} : (s.commitSolve n pkt).1.MemOk := by
  unfold State.commitSolve
  split
  · split
    · exact hm
    · dsimp only
      split
      · exact .bump (.store (.setSystem hm))
      · refine .ite_fst (.drawn (.bump (.setSystem hm))) ?_
        split
        · refine .bump (.drawn (.setSystem (.foldl_fst ?_ ?_)))
          · exact fun _ _ hx => .handOff hx
          · exact .ageResult (.stampWrite (.store hm))
        · exact .bump (.drawn (.setSystem (.stampWrite (.store hm))))
  · exact hm

theorem State.MemOk.doAfter {s : State} (hm : s.MemOk) {o : OutPkt} {a : After} : (s.doAfter o a).1.MemOk := by
  unfold State.doAfter
  split
  · exact .ageResult hm
  · exact .swapModel hm
  · exact .bump (.bump (.bump (.bump (.bump hm))))
  · exact .commitCycle hm
  · exact hm
  · exact .swapMap hm
  · exact .commitSolve hm
  · exact .stampWrite hm
  · exact .upd hm
  · exact hm

theorem State.MemOk.doAfters {s : State} (hm : s.MemOk) {o : OutPkt} {drafted : Option Nat} {l : List After} : (s.doAfters o drafted l).1.MemOk := by
  induction l generalizing s with
  | nil => exact hm
  | cons a rest ih =>
    unfold State.doAfters
    split
    · exact ih (.setDraft hm)
    · exact ih (.doAfter hm)

theorem State.MemOk.setCtx {s : State} (hm : s.MemOk) {c : Nat} {f : Context → Context} : (s.setCtx c f).MemOk := .upd hm

theorem State.MemOk.endHint {s : State} (hm : s.MemOk) {c : Nat} : (s.endHint c).MemOk := .upd hm

theorem State.MemOk.clear {s : State} (hm : s.MemOk) {a n : Nat} : (s.clear a n).MemOk := State.clear_canon a n hm

theorem State.MemOk.clearStores {s : State} (hm : s.MemOk) {who : Nat → Bool} : (s.clearStores who).MemOk := .upd hm

theorem State.MemOk.clearCtx {s : State} (hm : s.MemOk) {c : Nat} : (s.clearCtx c).MemOk := by
  unfold State.clearCtx
  split
  · exact hm
  · exact .upd (.clearStores (.foldl (fun _ _ hx => .clear hx) (.foldl (fun _ _ hx => .clear hx) (.foldl (fun _ _ hx => .foldl (fun _ _ hx => .clear hx) hx) hm))))

theorem State.MemOk.unravelCtx {s : State} (hm : s.MemOk) {c : Nat} {w : EndWith} : (s.unravelCtx c w).MemOk :=
  .foldl (fun _ _ hx => .unravelAll hx) hm

theorem State.MemOk.wipeCtx {s : State} (hm : s.MemOk) {c : Nat} {w : EndWith} : (s.wipeCtx c w).MemOk :=
  .setCtx (.endHint (.clearCtx (.unravelCtx hm)))

theorem State.MemOk.fence {s : State} (hm : s.MemOk) {creator opcode ctx cls unit cause : Nat} : (s.fence creator opcode ctx cls unit cause).MemOk :=
  .trace (.logIt (.event hm))

theorem State.MemOk.tearDown {s : State} (hm : s.MemOk) {c cause : Nat} : (s.tearDown c cause).MemOk := by
  unfold State.tearDown
  split
  · exact hm
  · exact .fence (.setCtx (.wipeCtx (.foldl (fun _ _ hx => .finish (.dropEsc (.collAborted hx))) hm)))

/-- Evicting drafts for room, up to any number of them, keeps memory canonical. -/
theorem State.MemOk.makeRoom {s : State} (hm : s.MemOk) {c n k : Nat} {st : Store} {own : List Nat} {me : Option Nat} : (s.makeRoom c st n own me k).MemOk := by
  induction k generalizing s with
  | zero => trivial
  | succ k ih =>
    unfold State.makeRoom
    split
    · exact hm
    · split
      · trivial
      · split
        dsimp only
        split
        · exact .evict hm
        · exact ih (.evict hm)

theorem State.MemOk.allocLines {s : State} (hm : s.MemOk) {c order : Nat} {sees : List Draft} {own : List Nat} {me : Option Nat} {ls : List Nat} :
    (s.allocLines c order sees own me ls).MemOk := by
  induction ls generalizing s with
  | nil => exact hm
  | cons l rest ih =>
    unfold State.allocLines
    split
    · exact hm
    · split
      · exact ih hm
      · split
        · exact ih hm
        · have room := hm.makeRoom (c := c) (n := 1) (k := s.dr.drafts.length + 1) (st := ‹Store›) (own := own) (me := me)
          split
          · rename_i made
            rw [made] at room
            exact ih (.setDraft room)
          · rename_i made
            rw [made] at room
            exact room
          · trivial

theorem State.MemOk.commitWork {s : State} (hm : s.MemOk) {o : OutPkt} {w : Work} : (s.commitWork o w).MemOk := by
  unfold State.commitWork
  extract_lets order room
  have hroom : room.MemOk := by
    unfold room
    cases order with
    | none => exact hm
    | some n => exact State.MemOk.allocLines hm
  cases hr : room with
  | wait => exact hm
  | self s1 ds =>
    rw [hr] at hroom
    exact .finish (.dropEsc hroom)
  | ok s1 =>
    rw [hr] at hroom
    have landed : (w.writes.foldl (fun x r => x.land order r) (s1.dropEsc o.id)).MemOk := .foldl (fun _ _ hx => .land hx) (.dropEsc hroom)
    exact .ite (.tearDown (.finish (.trace (.doAfters landed)))) (.finish (.trace (.doAfters landed)))

theorem State.MemOk.commitPoint {s : State} (hm : s.MemOk) {o : OutPkt} {w : Work} : (s.commitPoint o w).MemOk :=
  .ite hm (.ite (.ite (.sendWrites (.setJob hm)) (.commitWork hm)) (.ite (.sendWrites (.setJob hm)) (.commitWork hm)))

theorem State.MemOk.decideAck {s : State} (hm : s.MemOk) {a : Nat × Option StopOrder} : (s.decideAck a).MemOk := by
  unfold State.decideAck
  split
  · exact .carryOut hm
  · split
    · split
      · exact .commitPoint hm
      · exact hm
    · exact hm

theorem State.MemOk.drainAcks {s : State} (hm : s.MemOk) : s.drainAcks.MemOk :=
  .foldl (fun _ _ hx => .decideAck hx) (.upd hm)

theorem State.MemOk.resume {s : State} (hm : s.MemOk) {ac fl : Nat} : (s.resume ac fl).MemOk :=
  .drainAcks (.upd hm)

theorem State.MemOk.resumeOrdered {s : State} (hm : s.MemOk) {id : Nat} : (s.resumeOrdered id).MemOk :=
  .resume hm

theorem State.MemOk.restart {s : State} (hm : s.MemOk) {d : Nat} : (s.restart d).MemOk := .upd hm

theorem State.MemOk.restartFor {s : State} (hm : s.MemOk) {code : Nat} : (s.restartFor code).MemOk :=
  .ite (.restart hm) (.ite (.restart hm) hm)

theorem State.MemOk.done {s : State} (hm : s.MemOk) {e : Env} {status : Nat} {d : List Nat} : (s.done e status d).MemOk :=
  .finish hm

end Sys2Proof.Machine
end

section
/-! PROOFS of MemInvariant (O19), second part: the operations that packets name, each with the rules of the operations of the state that it alone uses. -/

namespace Sys2Proof.Machine

theorem specNop_keeps : specNop.Keeps := fun _ _ hm => .done hm

theorem specBobbinCreate_keeps : specBobbinCreate.Keeps := fun _ _ hm => .ite (.done hm) (.done (.setBob hm))

theorem specBobbinDestroy_keeps : specBobbinDestroy.Keeps := fun _ _ hm => .done (.upd hm)

theorem specBobbinStop_keeps : specBobbinStop.Keeps := fun _ _ hm => .ite (.done (.stopBobbin hm)) (.upd (.setJob hm))

theorem specBobbinResume_keeps : specBobbinResume.Keeps := fun _ _ hm => .done (.setBob hm)

theorem specAbort_keeps : specAbort.Keeps := fun _ _ hm => by
  dsimp only [specAbort]
  split
  · exact hm
  · exact .ite (.endAbort (.stopMany hm)) (.upd (.setJob (.stopMany hm)))

theorem specQuiesce_keeps : specQuiesce.Keeps := fun _ _ hm => .ite (.setJob hm) (.done hm)

theorem specTenantCreate_keeps : specTenantCreate.Keeps := fun _ _ hm => .ite (.done hm) (.ite (.done hm) (.ite (.done hm) (.done (.upd hm))))

theorem State.MemOk.unmapRegions {s : State} (hm : s.MemOk) {f : Region → Bool} : (s.unmapRegions f).MemOk := .upd hm

theorem specTenantDestroy_keeps : specTenantDestroy.Keeps := fun _ _ hm => .done (.upd (.unmapRegions hm))

theorem specQuery_keeps : specQuery.Keeps := fun _ _ hm => .done hm

theorem State.MemOk.notePeers {s : State} (hm : s.MemOk) {p : Packet} {as : List Addr} : (s.notePeers p as).MemOk := by
  unfold State.notePeers
  refine .ite hm ?_
  dsimp only
  split
  · exact hm
  · exact .setDraft hm

theorem State.MemOk.scramble {s : State} (hm : s.MemOk) {a n : Nat} : (s.scramble a n).MemOk :=
  .drawn (.store hm)

/-- The state in which lines were allocated. -/
theorem Room.MemOk.of_ok {r : Room} {s : State} (h : r.MemOk) (e : r = .ok s) : s.MemOk := by
  subst e
  exact h

/-- The state in which the room cost the asker itself. -/
theorem Room.MemOk.of_self {r : Room} {s : State} {ds : List Nat} (h : r.MemOk) (e : r = .self s ds) : s.MemOk := by
  subst e
  exact h

theorem State.MemOk.startWork {s : State} (hm : s.MemOk) {e : Env} {w : Work} : (s.startWork e w).MemOk := by
  unfold State.startWork
  extract_lets s0 s1
  have h1 : s1.MemOk := .trace (.setJob hm)
  refine .ite ?_ (.ite ?_ (.foldl (fun _ _ hx => .ite hx (.scramble hx)) h1))
  · split <;> rename_i made
    · exact (State.MemOk.allocLines (.upd h1)).of_ok made
    · exact .finish ((State.MemOk.allocLines (.upd h1)).of_self made)
    · exact .upd h1
  · split
    · exact h1
    · split <;> rename_i made
      · exact (State.MemOk.allocLines h1).of_ok made
      · exact .finish ((State.MemOk.allocLines h1).of_self made)
      · exact h1

theorem State.MemOk.sendReads {s : State} (hm : s.MemOk) {id : Nat} {p : Packet} {rs : List (Addr × Nat)} : (s.sendReads id p rs).MemOk := by
  unfold State.sendReads
  refine .foldl (fun _ _ hx => ?_) hm
  split
  · exact .upd (.plySend hx)
  · exact hx

theorem State.MemOk.startDma {s : State} (hm : s.MemOk) {e : Env} {ds : List Desc} : (s.startDma e ds).MemOk := by
  unfold State.startDma
  split
  · exact .done hm
  · exact .ite (.ite (.sendWrites (.startWork (.notePeers hm))) (.startWork (.notePeers hm))) (.ite (.sendReads (.startWork (.notePeers hm))) (.startWork (.notePeers hm)))

theorem specDmaCopy_keeps : specDmaCopy.Keeps := fun _ _ hm => .startDma hm

/-- The memory rule of an operation, from its `run` written out. -/
theorem OpSpec.Keeps.of_run {code : Nat} {masks : Packet → List Nat} {ctxParam : Env → State → Bool} {params : Env → State → Option Rej}
    {draft : Option (Env → State → Bool)} {pre : Env → State → Option Rej} {run : Env → State → State} (h : ∀ e s, s.MemOk → (run e s).MemOk) :
    OpSpec.Keeps ⟨code, masks, ctxParam, params, draft, pre, run⟩ := h

theorem specDmaFill_keeps : specDmaFill.Keeps := by
  rw [specDmaFill]
  refine .of_run fun e s hm => ?_
  extract_lets +onlyGivenNames p pat w
  split
  · exact .done hm
  · exact .ite (.sendWrites (.startWork (.notePeers hm))) (.startWork (.notePeers hm))

theorem specBankAssign_keeps : specBankAssign.Keeps := fun _ _ hm => by
  dsimp only [specBankAssign]
  refine .ite (.done hm) (.ite (.done hm) (.ite (.done hm) (.ite (.done (.setCtx hm)) (.done (.upd (.foldl (fun _ _ hx => ?_) hm))))))
  split
  · exact .ite hx (.clear hx)
  · exact hx

theorem State.MemOk.mapRegion {s : State} (hm : s.MemOk) {id : Nat} {p : Packet} {stack g : Nat} : (s.mapRegion id p stack g).MemOk :=
  .finish (.upd hm)

theorem specRegionMap_keeps : specRegionMap.Keeps := fun _ _ hm => by
  dsimp only [specRegionMap]
  refine .ite (.done hm) ?_
  split
  · exact .mapRegion hm
  · exact .ite (.setJob hm) (.done hm)

theorem specRegionUnmap_keeps : specRegionUnmap.Keeps := fun _ _ hm => by
  dsimp only [specRegionUnmap]
  split
  · exact .done hm
  · exact .done (.unmapRegions (.upd hm))

theorem State.MemOk.consumePoison {s : State} (hm : s.MemOk) {e : Env} {units : List Nat} : (s.consumePoison e units).MemOk :=
  .ite (.tearDown hm) (.finish hm)

theorem State.MemOk.syncPool {s : State} (hm : s.MemOk) {old new : KvPool} : (s.syncPool old new).MemOk := by
  unfold State.syncPool
  extract_lets seqIds s1 frames s2 s3
  have h1 : s1.MemOk := by
    refine .foldl (fun x i hx => ?_) hm
    extract_lets a b keys x1
    have hx1 : x1.MemOk := .foldl (fun _ _ hy => .ite hy (.foldl (fun _ _ hz => .store hz) hy)) hx
    exact .ite hx1 (.scramble hx1)
  have h2 : s2.MemOk := .foldl (fun _ _ hx => .ite hx (.store hx)) h1
  have h3 : s3.MemOk := .ite h2 (.store h2)
  exact .ite h3 (.store h3)

theorem State.MemOk.setPool {s : State} (hm : s.MemOk) {key : Nat} {new : KvPool} : (s.setPool key new).MemOk := by
  unfold State.setPool
  split
  · exact hm
  · exact .syncPool (.upd hm)

theorem State.MemOk.dropGroups {s : State} (hm : s.MemOk) {key : Nat} {gs : List PageGroup} : (s.dropGroups key gs).MemOk := by
  unfold State.dropGroups
  split
  · exact hm
  · exact .foldl (fun _ _ hx => .ite hx (.foldl (fun _ _ hx => .ite (.event hx) hx) hx)) (.bump (.setPool hm))

theorem State.MemOk.copySlots {s : State} (hm : s.MemOk) {k : KvPool} {src dst fill : Nat} : (s.copySlots k src dst fill).MemOk :=
  .foldl (fun _ _ hx => .ite (.store (.store hx)) (.store hx)) hm

theorem State.MemOk.putToken {s : State} (hm : s.MemOk) {k : KvPool} {f t : Nat} {elems scales : List Byte} : (s.putToken k f t elems scales).MemOk :=
  .foldl (fun _ _ hx => .ite (.store (.store hx)) (.store hx)) hm

theorem State.MemOk.putPage {s : State} (hm : s.MemOk) {p : Packet} {k : KvPool} {x : LenEntry} {a : Prep} : (s.putPage p k x a).MemOk :=
  .foldl (fun _ _ hx => .ite hx (.putToken hx)) hm

theorem Got.MemOk.of_frame {r : Got} {s : State} {f d : Nat} (h : r.MemOk) (e : r = .frame s f d) : s.MemOk := by
  subst e
  exact h

/-- One round of the search for a frame, with its later rounds left open. The step is said of the recursion's body: the kernel cannot check an equation of `State.needFrame`,
which would have it compute the search of a state that is not known. -/
theorem State.MemOk.needFrame_round {s : State} (hm : s.MemOk) {e : Env} {key : Nat} {gs : List PageGroup} {mine : List Nat} {fresh : Nat} {drafted : Bool} {dropped k : Nat}
    {next : Nat.below (motive := fun _ => State → Nat → Got) (k + 1)} (hnext : ∀ (x : State) (d : Nat), x.MemOk → (next.1 x d).MemOk) :
    (State.needFrame._f e key gs mine fresh drafted (k + 1) next s dropped).MemOk := by
  delta State.needFrame._f
  dsimp -zeta only
  split
  · exact hm
  · extract_lets evictOne
    have hevict : evictOne.MemOk := by
      unfold evictOne
      split
      · split
        · trivial
        · exact hm
      · dsimp only
        split
        · exact State.MemOk.evict hm
        · exact hnext _ _ (.evict hm)
    clear_value evictOne
    split
    · exact hevict
    · split
      · exact hm
      · split
        · exact hnext _ _ (.dropGroups hm)
        · split
          · exact hevict
          · exact hm

theorem State.MemOk.needFrame {s : State} (hm : s.MemOk) {e : Env} {key : Nat} {gs : List PageGroup} {mine : List Nat} {fresh : Nat} {drafted : Bool} {dropped k : Nat} :
    (s.needFrame e key gs mine fresh drafted dropped k).MemOk := by
  delta State.needFrame
  induction k generalizing s dropped with
  | zero => trivial
  | succ k ih =>
    have round := congrFun (congrFun (Nat.brecOn.eq (motive := fun _ => State → Nat → Got) (k + 1) (State.needFrame._f e key gs mine fresh drafted)) s) dropped
    exact (congrArg Got.MemOk round).mpr (State.MemOk.needFrame_round hm fun _ _ hx => ih hx)

/-- What KV_SCATTER's pages are prepared in keeps memory canonical. -/
def Prepared.MemOk : Sum (State × List Prep × Nat) Got → Prop
  | .inl x => x.1.MemOk
  | .inr g => g.MemOk

theorem State.MemOk.prepare {s : State} (hm : s.MemOk) {e : Env} {key l : Nat} {gs : List PageGroup} {todo : List (Nat × LenEntry × Nat)} {acc : List Prep} {dropped : Nat} :
    Prepared.MemOk (s.prepare e key l gs todo acc dropped) := by
  induction todo generalizing s acc dropped with
  | nil => exact hm
  | cons x rest ih =>
    unfold State.prepare
    split
    · exact hm
    · split
      · exact hm
      · split
        · exact ih hm
        · extract_lets chain news take
          have htake (cp : Option Nat) : Prepared.MemOk (take cp) := by
            unfold take
            split
            · rename_i got
              exact ih ((State.MemOk.needFrame hm).of_frame got)
            · exact State.MemOk.needFrame hm
          clear_value take
          split
          · exact ih hm
          · exact htake _
          · exact htake none

theorem specKvScatterAppend_keeps : specKvScatterAppend.Keeps := by
  rw [specKvScatterAppend]
  refine .of_run fun e s hm => ?_
  extract_lets +onlyGivenNames p key l es poison
  refine .ite (.setJob hm) (.ite (.consumePoison hm) ?_)
  extract_lets +onlyGivenNames todo
  have made {key l gs todo} : Prepared.MemOk (s.prepare e key l gs todo [] 0) := hm.prepare
  split
  all_goals
    rename_i got
    have h1 := got ▸ made
  · exact .done h1
  · exact .finish h1
  · exact .setJob hm
  · exact .done h1
  · split
    · exact .done h1
    · extract_lets ch lenOf copied wrote slots d wrote2
      have hcopied : copied.MemOk := .foldl (fun x a hx => by split; exacts [.copySlots hx, hx]) h1
      have hwrote : wrote2.MemOk := .bump (.foldl (fun x a hx => by split; exacts [.putPage hx, hx]) hcopied)
      refine .ite (.done (.setPool hwrote)) ?_
      split
      · exact .done hwrote
      · exact .done (.setDraft (.setPool hwrote))

theorem specKvScatterOpen_keeps : specKvScatterOpen.Keeps := fun _ _ hm => by
  dsimp only [specKvScatterOpen]
  split
  · exact .done hm
  · exact .ite (.setJob hm) (.done (.setPool hm))

theorem specKvScatterClose_keeps : specKvScatterClose.Keeps := fun _ _ hm => by
  dsimp only [specKvScatterClose]
  split
  · exact .done hm
  · exact .done (.setPool hm)

theorem specKvScatterBind_keeps : specKvScatterBind.Keeps := fun _ _ hm => .done (.upd (.scramble (.scramble (.scramble (.clear hm)))))

theorem specPagePin_keeps : specPagePin.Keeps := fun _ _ hm => by
  dsimp only [specPagePin]
  split
  · exact .done hm
  · exact .ite (.setJob hm) (.ite (.done hm) (.done (.setPool hm)))

theorem State.MemOk.setCore {s : State} (hm : s.MemOk) {k : Nat} {f : Core → Core} : (s.setCore k f).MemOk := .upd hm

theorem State.MemOk.saveOff {s : State} (hm : s.MemOk) {h k : Nat} {rs : List (Addr × Nat)} : (s.saveOff h k rs).MemOk :=
  .setCtx hm

theorem State.MemOk.restore {s : State} (hm : s.MemOk) {c k : Nat} : (s.restore c k).MemOk := by
  unfold State.restore
  split
  · exact hm
  · extract_lets vs s1 s2
    have h2 : s2.MemOk := memWf_memPutCells _ (State.MemOk.foldl (fun _ _ hx => .clear hx) hm)
    exact .setCtx h2

theorem State.MemOk.switchCore {s : State} (hm : s.MemOk) {c k : Nat} : (s.switchCore c k).MemOk := by
  unfold State.switchCore
  extract_lets others mine last foreign ranges s1 s2 s3 s4 s5
  have h2 : s2.MemOk := .foldl (fun _ _ hx => .foldl (fun _ _ hx => .clear hx) hx) (.foldl (fun _ _ hx => .saveOff hx) hm)
  have h4 : s4.MemOk := .restore (.ite h2 (.setCore (.clear h2)))
  exact .setCore (.ite h4 (.trace h4))

theorem State.MemOk.claim {s : State} (hm : s.MemOk) {id c : Nat} {ks : List Nat} : (s.claim id c ks).MemOk :=
  .upd (.foldl (fun _ _ hx => .setCore (.switchCore (.restart hx))) hm)

theorem State.MemOk.waitCores {s : State} (hm : s.MemOk) {e : Env} {want : List Nat} {need : Nat} {touches : List (Addr × Nat)} : (s.waitCores e want need touches).MemOk :=
  .ite (.upd hm) (.upd (.upd hm))

theorem State.MemOk.of_claimFor {s t : State} (hm : s.MemOk) {e : Env} {ks : List Nat} (h : s.claimFor e ks = some t) : t.MemOk := by
  unfold State.claimFor at h
  split at h
  · cases h
    exact .claim hm
  · cases h

theorem State.MemOk.runOn {s : State} (hm : s.MemOk) {e : Env} {k : Nat} {r : Ranges} {f : State → Work} : (s.runOn e k r f).MemOk := by
  unfold State.runOn
  split
  · exact .waitCores hm
  · rename_i claimed
    have h1 := hm.of_claimFor claimed
    exact .ite (.startWork h1) (.consumePoison h1)

theorem specMatmul_keeps : specMatmul.Keeps := fun _ _ hm => .runOn hm

theorem specConv_keeps : specConv.Keeps := by
  rw [specConv]
  refine .of_run fun e s hm => ?_
  split
  · exact .done hm
  · exact .runOn hm

theorem specAttention_keeps : specAttention.Keeps := fun _ _ hm => by
  dsimp only [specAttention]
  split
  · exact .done hm
  · refine .ite (.setJob hm) ?_
    split
    · exact .waitCores hm
    · rename_i claimed
      have h1 := hm.of_claimFor claimed
      split
      · exact .finish h1
      · exact .ite (.consumePoison h1) (.startWork (.setPool h1))

theorem specRecur_keeps : specRecur.Keeps := by
  rw [specRecur]
  refine .of_run fun e s hm => ?_
  split
  · exact .done hm
  · exact .runOn hm

theorem specVectorOp_keeps : specVectorOp.Keeps := fun _ _ hm => .runOn hm

theorem specSort_keeps : specSort.Keeps := fun _ _ hm => .runOn hm

theorem State.MemOk.beginRun {s : State} (hm : s.MemOk) {e : Env} {m : HotModel} {x : Context} {ks : List Nat} : (s.beginRun e m x ks).MemOk := by
  unfold State.beginRun
  extract_lets s1 _ s2 mine sick s3 r bad
  have h3 : s3.MemOk := .foldl (fun _ _ hx => .setCore (.upd hx)) (.upd (.claim hm))
  exact .ite (.consumePoison h3) (.ite (.finish h3) (.startWork h3))

theorem specScheduleRun_keeps : specScheduleRun.Keeps := fun _ _ hm => by
  dsimp only [specScheduleRun]
  split
  · split
    · exact .beginRun hm
    · exact .waitCores hm
  · exact .done hm

theorem State.MemOk.traceDraft {s : State} (hm : s.MemOk) {d : Draft} {code : Nat} : (s.traceDraft d code).MemOk :=
  .trace hm

theorem specDraftOpen_keeps : specDraftOpen.Keeps := fun _ _ hm => .ite (.done hm) (.done (.traceDraft (.bump (.ite (.upd hm) (.setCtx (.upd hm))))))

theorem specTwist_keeps : specTwist.Keeps := fun _ _ hm => by
  dsimp only [specTwist]
  split
  · exact hm
  · exact .traceDraft (.upd (.setJob (.setDraft hm)))

theorem specUnravel_keeps : specUnravel.Keeps := fun _ _ hm => by
  dsimp only [specUnravel]
  split
  · exact .done hm
  · exact .done (.unravelAll hm)

theorem specDraftQuery_keeps : specDraftQuery.Keeps := fun _ _ hm => by
  dsimp only [specDraftQuery]
  refine .ite (.done hm) ?_
  split <;> exact .done hm

theorem specContextCreate_keeps : specContextCreate.Keeps := fun _ _ hm => by
  dsimp only [specContextCreate]
  split
  · exact .done hm
  · exact .ite (.done hm) (.ite (.done hm) (.done (.upd hm)))

theorem specContextDestroy_keeps : specContextDestroy.Keeps := fun _ _ hm => .setJob (.setCtx hm)

theorem specContextReset_keeps : specContextReset.Keeps := fun _ _ hm => .upd (.setJob (.stopMany (.setCtx hm)))

theorem specModelLoad_keeps : specModelLoad.Keeps := fun _ _ hm => by
  dsimp only [specModelLoad]
  split
  · refine .ite (.done hm) ?_
    split
    · exact .done hm
    · exact .startWork (.upd hm)
  · exact .done hm

theorem specModelPin_keeps : specModelPin.Keeps := fun _ _ hm => .ite (.done hm) (.done (.upd hm))

theorem specModelEvict_keeps : specModelEvict.Keeps := fun _ _ hm => .done (.upd hm)

theorem specStoreOpen_keeps : specStoreOpen.Keeps := fun _ _ hm => .ite (.done hm) (.ite (.done hm) (.done (.upd hm)))

theorem State.MemOk.setObject {s : State} (hm : s.MemOk) {t id : Nat} {f : ModelObject → ModelObject} : (s.setObject t id f).MemOk := .upd hm

theorem specStoreWrite_keeps : specStoreWrite.Keeps := fun _ _ hm => .ite (.done hm) (.done (.setObject hm))

theorem specStoreSeal_keeps : specStoreSeal.Keeps := fun _ _ hm => by
  dsimp only [specStoreSeal]
  split
  · exact .done hm
  · exact .ite (.done hm) (.done (.setObject hm))

theorem specStoreDelete_keeps : specStoreDelete.Keeps := fun _ _ hm => .done (.upd hm)

theorem State.MemOk.freeLaneCore {s : State} (hm : s.MemOk) {t k : Nat} : (s.freeLaneCore t k).MemOk := by
  unfold State.freeLaneCore
  extract_lets hs last foreign s1 s2 s3
  have h2 : s2.MemOk := .foldl (fun _ _ hx => .foldl (fun _ _ hx => .clear hx) hx) (.foldl (fun _ _ hx => .saveOff hx) hm)
  exact .setCore (.ite h2 (.setCore (.clear h2)))

theorem State.MemOk.endLane {s : State} (hm : s.MemOk) {id handle : Nat} : (s.endLane id handle).MemOk := by
  unfold State.endLane
  split
  · exact .finish hm
  · exact .ite hm (.finish (.upd (.foldl (fun _ _ hx => .freeLaneCore hx) hm)))

theorem specLaneReserve_keeps : specLaneReserve.Keeps := fun _ _ hm => by
  dsimp only [specLaneReserve]
  refine .ite (.done hm) ?_
  split
  · exact .done hm
  · exact .ite (.endLane (.upd hm)) (.setJob (.upd hm))

theorem State.MemOk.endFixed {s : State} (hm : s.MemOk) : s.endFixed.MemOk :=
  .ite (.endCause hm) hm

theorem specLaneRelease_keeps : specLaneRelease.Keeps := fun _ _ hm => .done (.endFixed (.upd hm))

theorem State.MemOk.setStreamOpt {s : State} (hm : s.MemOk) {n : Nat} {t : Option Stream} : (s.setStreamOpt n t).MemOk := .upd hm

theorem specStreamConfigure_keeps : specStreamConfigure.Keeps := fun _ _ hm => .ite (.done hm) (.ite (.done hm) (.done (.ite (.upd (.setStreamOpt hm)) (.setStreamOpt hm))))

theorem State.MemOk.setGroup {s : State} (hm : s.MemOk) {n : Nat} {f : Group → Group} : (s.setGroup n f).MemOk := .upd hm

theorem State.MemOk.fenceGroup {s : State} (hm : s.MemOk) {n cause : Nat} : (s.fenceGroup n cause).MemOk := by
  unfold State.fenceGroup
  split
  · exact hm
  · exact .ite hm (.fence (.setGroup hm))

theorem State.MemOk.endStream {s : State} (hm : s.MemOk) {n : Nat} : (s.endStream n).MemOk :=
  .foldl (fun _ _ hx => .finish hx) (.foldl (fun _ _ hx => .fenceGroup hx) (.setStreamOpt hm))

theorem specStreamRelease_keeps : specStreamRelease.Keeps := fun _ _ hm => by
  dsimp only [specStreamRelease]
  split
  · exact .ite (.setStreamOpt (.setJob hm)) (.endStream (.setJob hm))
  · exact hm

theorem specGroupCreate_keeps : specGroupCreate.Keeps := fun _ _ hm => by
  dsimp only [specGroupCreate]
  split
  · exact .done hm
  · exact .done (.upd hm)

theorem specGroupReconfigure_keeps : specGroupReconfigure.Keeps := fun _ _ hm => .done (.setGroup hm)

theorem specGroupDelete_keeps : specGroupDelete.Keeps := fun _ _ hm => .done (.upd hm)

theorem specGroupStart_keeps : specGroupStart.Keeps := fun _ _ hm => .done (.setGroup hm)

theorem specGroupStop_keeps : specGroupStop.Keeps := fun _ _ hm => .done (.setGroup hm)

theorem specVoteConfig_keeps : specVoteConfig.Keeps := fun _ _ hm => .done (.setGroup hm)

theorem State.MemOk.setChan {s : State} (hm : s.MemOk) {c : Nat} {x : Channel} : (s.setChan c x).MemOk := .upd hm

theorem specChannelEnable_keeps : specChannelEnable.Keeps := fun _ _ hm => .ite (.ite (.done hm) (.setJob (.setChan hm))) (.done (.foldl (fun _ _ hx => .finish hx) (.setChan hm)))

theorem State.MemOk.dropShadows {s : State} (hm : s.MemOk) {c : Nat} : (s.dropShadows c).MemOk := .upd hm

theorem State.MemOk.putPlan {s : State} (hm : s.MemOk) {e : Env} {create : Bool} : (s.putPlan e create).MemOk :=
  .ite (.done hm) (.done (.dropShadows (.upd hm)))

theorem specPlanCreate_keeps : specPlanCreate.Keeps := fun _ _ hm => .putPlan hm

theorem specPlanReconfigure_keeps : specPlanReconfigure.Keeps := fun _ _ hm => .putPlan hm

theorem State.MemOk.dropPlan {s : State} (hm : s.MemOk) {c : Nat} : (s.dropPlan c).MemOk :=
  .dropShadows (.upd hm)

theorem specPlanDelete_keeps : specPlanDelete.Keeps := fun _ _ hm => .done (.dropPlan hm)

theorem State.MemOk.takeShadow {s : State} (hm : s.MemOk) {e : Env} : (s.takeShadow e).MemOk := by
  unfold State.takeShadow
  split
  · exact hm
  · split
    · exact hm
    · have room := hm.makeRoom (c := e.p.ctx) (st := .plans) (n := 1) (own := s.ownOrders e.p) (me := some e.id) (k := s.dr.drafts.length + 1)
      split
      · rename_i made
        exact State.MemOk.setDraft (room.of_ok made)
      · exact room

theorem State.MemOk.planRoom {s : State} (hm : s.MemOk) {e : Env} : Room.MemOk (if e.p.level = 0 then .ok s else s.takeShadow e) := by
  split
  · exact hm
  · exact hm.takeShadow

theorem specPlanCycle_keeps : specPlanCycle.Keeps := fun _ _ hm => by
  dsimp only [specPlanCycle]
  split
  · exact hm
  · refine .ite (.setJob hm) ?_
    split <;> rename_i made
    · exact .setJob hm
    · exact .finish (hm.planRoom.of_self made)
    · exact .startWork (.setPlan (hm.planRoom.of_ok made))

theorem specPlanCheck_keeps : specPlanCheck.Keeps := fun _ _ hm => by
  dsimp only [specPlanCheck]
  split
  · exact hm
  · exact .ite (.setJob hm) (.startWork hm)

theorem State.MemOk.runMap {s : State} (hm : s.MemOk) {e : Env} : (Sys2Proof.Machine.runMap e s).MemOk := by
  unfold Sys2Proof.Machine.runMap
  dsimp only
  split
  · exact hm
  · refine .ite (.setJob hm) ?_
    split
    · exact .done hm
    · exact .startWork (.setPlan hm)

theorem specMapReplace_keeps : specMapReplace.Keeps := fun _ _ hm => .runMap hm

theorem specMapPatch_keeps : specMapPatch.Keeps := fun _ _ hm => .runMap hm

theorem State.MemOk.putSystem {s : State} (hm : s.MemOk) {e : Env} {create : Bool} : (s.putSystem e create).MemOk :=
  .ite (.done hm) (.done (.drawn (.upd hm)))

theorem specSolveCreate_keeps : specSolveCreate.Keeps := fun _ _ hm => .putSystem hm

theorem specSolveReconfigure_keeps : specSolveReconfigure.Keeps := fun _ _ hm => .putSystem hm

theorem specSolveDelete_keeps : specSolveDelete.Keeps := fun _ _ hm => .done (.upd hm)

theorem specSolve_keeps : specSolve.Keeps := fun _ _ hm => by
  dsimp only [specSolve]
  split
  · exact hm
  · refine .ite (.setJob hm) ?_
    split
    · exact .done hm
    · exact .ite (.done (.setSystem hm)) (.startWork (.setSystem hm))

theorem State.MemOk.putLoop {s : State} (hm : s.MemOk) {e : Env} : (s.putLoop e).MemOk :=
  .done (.upd hm)

theorem specLoopCreate_keeps : specLoopCreate.Keeps := fun _ _ hm => .putLoop hm

theorem specLoopReconfigure_keeps : specLoopReconfigure.Keeps := fun _ _ hm => .putLoop hm

theorem specLoopDelete_keeps : specLoopDelete.Keeps := fun _ _ hm => .done (.upd hm)

theorem specLoopRing_keeps : specLoopRing.Keeps := fun _ _ hm => .done (.upd hm)

theorem State.MemOk.startLoop {s : State} (hm : s.MemOk) {n start : Nat} : (s.startLoop n start).MemOk :=
  .setLoop (.drawn hm)

theorem specLoopStart_keeps : specLoopStart.Keeps := fun _ _ hm => by
  dsimp only [specLoopStart]
  split <;> exact .done (.foldl (fun _ _ hx => .startLoop hx) hm)

theorem specLoopStop_keeps : specLoopStop.Keeps := fun _ _ hm => by
  dsimp only [specLoopStop]
  split
  · exact .ite (.done hm) (.setLoop (.setJob hm))
  · exact .done hm

theorem specTimeStep_keeps : specTimeStep.Keeps := fun _ _ hm => by
  dsimp only [specTimeStep]
  split
  · exact hm
  · exact .done (.upd hm)

theorem specTimeRate_keeps : specTimeRate.Keeps := fun _ _ hm => .done (.upd hm)

theorem State.MemOk.setQueue {s : State} (hm : s.MemOk) {k : Nat} {q : HostQueue} : (s.setQueue k q).MemOk := .upd hm

theorem specLaunchConfig_keeps : specLaunchConfig.Keeps := fun _ _ hm => .ite (.done (.upd hm)) (.done (.setQueue hm))

theorem specTriggerSet_keeps : specTriggerSet.Keeps := fun _ _ hm => by
  dsimp only [specTriggerSet]
  refine .ite (.done (.upd hm)) ?_
  split
  · exact .done (.drawn (.upd hm))
  · exact .done (.upd hm)

theorem specCaptureArm_keeps : specCaptureArm.Keeps := fun _ _ hm => .done (.upd hm)

theorem State.MemOk.setPlyPort {s : State} (hm : s.MemOk) {n : Nat} {f : PlyPort → PlyPort} : (s.setPlyPort n f).MemOk := .upd hm

theorem specPlyJoin_keeps : specPlyJoin.Keeps := fun _ _ hm => .setJob (.upd (.foldl (fun _ _ hx => .setPlyPort hx) hm))

theorem State.MemOk.floodOwn {s : State} (hm : s.MemOk) : s.floodOwn.MemOk :=
  .foldl (fun _ _ hx => .plyOut hx) (.upd hm)

theorem specPlyLeaveGraceful_keeps : specPlyLeaveGraceful.Keeps := fun _ _ hm => .setJob (.floodOwn (.upd hm))

theorem State.MemOk.dropTwist {s : State} (hm : s.MemOk) {id : Nat} : (s.dropTwist id).MemOk := .upd hm

theorem State.MemOk.endTwist {s : State} (hm : s.MemOk) {id : Nat} : (s.endTwist id).MemOk := by
  unfold State.endTwist
  split
  · exact .ite (.dropTwist (.finish hm)) hm
  · exact hm

theorem State.MemOk.setTwist {s : State} (hm : s.MemOk) {id : Nat} {f : Twist → Twist} : (s.setTwist id f).MemOk := .upd hm

theorem State.MemOk.partDone {s : State} (hm : s.MemOk) {id part : Nat} : (s.partDone id part).MemOk := by
  unfold State.partDone
  split
  · exact .ite (.endTwist (.setTwist hm)) hm
  · exact hm

theorem State.MemOk.twistLosesPeer {s : State} (hm : s.MemOk) {id node : Nat} : (s.twistLosesPeer id node).MemOk := by
  unfold State.twistLosesPeer
  split
  · exact hm
  · refine .ite (.ite (.partDone (.setTwist hm)) hm) ?_
    split
    · exact .ite (.unravelAll hm) hm
    · exact hm

theorem State.MemOk.dropPeerBobbin {s : State} (hm : s.MemOk) {node : Nat} : (s.dropPeerBobbin node).MemOk := by
  unfold State.dropPeerBobbin
  split
  · exact hm
  · exact .upd (.foldl (fun _ _ hx => .logIt (.stopOne hx)) hm)

theorem State.MemOk.loseNode {s : State} (hm : s.MemOk) {n : Nat} : (s.loseNode n).MemOk := by
  unfold State.loseNode
  extract_lets colls s1 xfers s2 _ s3 s4 hit s5 s6 s7 grants revokes s8
  have h1 : s1.MemOk := by
    refine .foldl (fun x i hx => ?_) hm
    split
    · exact .ite (.scramble (.finish hx)) (.finish hx)
    · exact hx
  have h3 : s3.MemOk := .upd (.foldl (fun _ _ hx => .finish hx) h1)
  have h5 : s5.MemOk := by
    refine .foldl (fun x i hx => ?_) (.foldl (fun _ _ hx => .twistLosesPeer hx) h3)
    split
    · exact .evict hx
    · exact hx
  have h7 : s7.MemOk := .dropPeerBobbin (.foldl (fun _ _ hx => .ite (.setDraft hx) (.logIt (.discard hx))) h5)
  exact .upd (.foldl (fun _ _ hx => .ite (.finish hx) (.finish hx)) h7)

theorem State.MemOk.setOver {s : State} (hm : s.MemOk) {b : Bool} : (s.setOver b).MemOk :=
  .ite hm (.ite (.raise (.logIt (.upd hm))) (.endCause (.logIt (.upd hm))))

theorem State.MemOk.applyGrant {s : State} (hm : s.MemOk) {mw : Nat} : (s.applyGrant mw).MemOk :=
  .foldl (fun _ _ hx => .finish hx) (.upd hm)

theorem State.MemOk.sendGrant {s : State} (hm : s.MemOk) {node mw : Nat} : (s.sendGrant node mw).MemOk :=
  .ite (.applyGrant (.upd hm)) (.plySend (.upd hm))

theorem State.MemOk.sendRaised {s : State} (hm : s.MemOk) : s.sendRaised.MemOk :=
  .foldl (fun _ _ hx => .sendGrant hx) (.upd hm)

theorem State.MemOk.recompute {s : State} (hm : s.MemOk) : s.recompute.MemOk := by
  unfold State.recompute
  refine .ite hm ?_
  extract_lets beyond s0 gs before low same up s1 _ s2
  have h0 : s0.MemOk := .ite (.foldl (fun _ _ hx => .plySend hx) (.setOver hm)) hm
  have h2 : s2.MemOk := .upd (.foldl (fun _ _ hx => .sendGrant hx) h0)
  exact .ite (.sendRaised h2) h2

theorem State.MemOk.leaveFabric {s : State} (hm : s.MemOk) : s.leaveFabric.MemOk := by
  unfold State.leaveFabric
  extract_lets s1 s2 _ _ s3 s4 waiters
  have h3 : s3.MemOk := .upd (.foldl (fun _ _ hx => .loseNode hx) (.foldl (fun _ _ hx => .setPlyPort hx) hm))
  exact .recompute (.foldl (fun _ _ hx => .finish hx) (.ite h3 (.raise h3)))

theorem specPlyLeaveNow_keeps : specPlyLeaveNow.Keeps := fun _ _ hm => .leaveFabric (.setJob hm)

theorem specCollective_keeps : specCollective.Keeps := by
  rw [specCollective]
  refine .of_run fun e s hm => ?_
  extract_lets +onlyGivenNames p k
  split
  · exact .done hm
  · exact .setJob (.foldl (fun _ _ hx => .plySend hx) (.upd hm))

theorem specWindowGrant_keeps : specWindowGrant.Keeps := fun _ _ hm => by
  dsimp only [specWindowGrant]
  split
  · exact .done hm
  · split
    · exact .done hm
    · exact .setJob (.plySend (.upd hm))

theorem specWindowRevoke_keeps : specWindowRevoke.Keeps := fun _ _ hm => by
  dsimp only [specWindowRevoke]
  split
  · exact .done hm
  · exact .setJob (.plySend hm)

theorem specPhaseHint_keeps : specPhaseHint.Keeps := fun _ _ hm => .ite (.done hm) (.ite (.done hm) (.ite (.done hm) (.done (.upd (.endHint hm)))))

theorem specPhaseHintClear_keeps : specPhaseHintClear.Keeps := fun _ _ hm => .done (.endHint hm)

theorem specBudgetWant_keeps : specBudgetWant.Keeps := fun _ _ hm => .setJob (.upd hm)

theorem State.MemOk.setBudget {s : State} (hm : s.MemOk) {mw : Nat} : (s.setBudget mw).2.MemOk :=
  .ite_snd hm (.recompute (.foldl (fun _ _ hx => .plySend hx) (.upd hm)))

theorem specBudgetMachine_keeps : specBudgetMachine.Keeps := fun _ _ hm => by
  dsimp only [specBudgetMachine]
  refine .ite ?_ ?_
  · split <;> exact .done (.of_snd hm.setBudget ‹_›)
  · split
    · exact .plySend (.setJob hm)
    · exact .setJob hm

theorem specPowerQuery_keeps : specPowerQuery.Keeps := fun _ _ hm => .done (.upd hm)

theorem specAgeRegister_keeps : specAgeRegister.Keeps := fun _ _ hm => by
  dsimp only [specAgeRegister]
  split
  · exact .done hm
  · exact .done (.setAge hm)

theorem specAgeDeregister_keeps : specAgeDeregister.Keeps := fun _ _ hm => .done (.upd hm)

theorem State.MemOk.raiseHold {s : State} (hm : s.MemOk) {n : Nat} : (s.raiseHold n).MemOk :=
  .drainAcks (.raise hm)

theorem specSafeEnter_keeps : specSafeEnter.Keeps := fun _ _ hm => .done (.ite (.logIt hm) (.raiseHold (.logIt hm)))

theorem specSafeRelease_keeps : specSafeRelease.Keeps := fun _ _ hm => .done (.endCause (.endCause (.logIt hm)))

theorem specPairConfigure_keeps : specPairConfigure.Keeps := fun _ _ hm => .done (.ite (.logIt (.plySend (.settlePairs (.setCompare hm)))) (.plySend (.settlePairs (.setCompare hm))))

theorem specPairRemove_keeps : specPairRemove.Keeps := fun _ _ hm => .done (.settlePairs (.upd hm))

theorem State.MemOk.logLapse {s : State} (hm : s.MemOk) : s.logLapse.MemOk :=
  .ite (.logIt hm) hm

theorem specAtRest_keeps : specAtRest.Keeps := fun _ _ hm => .done (.logLapse (.upd hm))

theorem State.MemOk.addTest {s : State} (hm : s.MemOk) {t : Test} : (s.addTest t).MemOk := .upd hm

theorem specBistRun_keeps : specBistRun.Keeps := fun _ _ hm => .addTest (.setJob hm)

theorem specTraceConfig_keeps : specTraceConfig.Keeps := fun _ _ hm => .ite (.done hm) (.done (.upd hm))

theorem State.MemOk.ctrClear {s : State} (hm : s.MemOk) {g : Nat} {ts : List Nat} {first n : Nat} : (s.ctrClear g ts first n).MemOk :=
  .ite (.upd (.upd hm)) (.upd hm)

theorem specCounterRead_keeps : specCounterRead.Keeps := fun _ _ hm => .done (.ite (.ctrClear (.store hm)) (.store hm))

theorem specBreakSet_keeps : specBreakSet.Keeps := fun _ _ hm => .done (.upd hm)

theorem specBreakClear_keeps : specBreakClear.Keeps := fun _ _ hm => .done (.upd hm)

theorem specBreakResume_keeps : specBreakResume.Keeps := fun _ _ hm => .done (.ite (.resume hm) (.ite (.resume hm) (.resume hm)))

theorem State.MemOk.haltNow {s : State} (hm : s.MemOk) {n : Nat} {all : Bool} : (s.haltNow n all).MemOk :=
  .trace (.upd hm)

theorem State.MemOk.halt {s : State} (hm : s.MemOk) {n : Nat} {all : Bool} : (s.halt n all).MemOk :=
  .ite (.upd hm) (.haltNow hm)

theorem specBreakHalt_keeps : specBreakHalt.Keeps := fun _ _ hm => .done (.halt hm)

theorem State.MemOk.setSlot {s : State} (hm : s.MemOk) {n : Nat} {f : KeySlot → KeySlot} : (s.setSlot n f).MemOk := .upd hm

theorem State.MemOk.putKey {s : State} (hm : s.MemOk) {n type use : Nat} {key : List Byte} : (s.putKey n type use key).MemOk :=
  .setSlot (.ite (.upd hm) hm)

theorem specKeyWrite_keeps : specKeyWrite.Keeps := fun _ _ hm => by
  dsimp only [specKeyWrite]
  refine .ite (.done (.putKey (.drawn hm))) (.ite ?_ (.ite (.done (.putKey hm)) (.done (.putKey hm))))
  split
  · exact .done (.putKey hm)
  · exact .done hm

theorem State.MemOk.emptySlot {s : State} (hm : s.MemOk) {n : Nat} : (s.emptySlot n).MemOk :=
  .setSlot hm

theorem State.MemOk.revokeUsers {s : State} (hm : s.MemOk) {n : Nat} : (s.revokeUsers n).MemOk :=
  .foldl (fun _ _ hx => .finish (.dropEsc hx)) hm

theorem specKeyErase_keeps : specKeyErase.Keeps := fun _ _ hm => .done (.logIt (.emptySlot (.ite (.revokeUsers hm) hm)))

theorem specImageBlock_keeps : specImageBlock.Keeps := fun _ _ hm => .ite (.done hm) (.done (.upd hm))

theorem specImageVerify_keeps : specImageVerify.Keeps := fun _ _ hm => .setJob hm

theorem State.MemOk.updateIdle {s : State} (hm : s.MemOk) : s.updateIdle.MemOk := .upd hm

theorem State.MemOk.setInactive {s : State} (hm : s.MemOk) {kind : Nat} {c : BootCopy} : (s.setInactive kind c).MemOk :=
  .ite hm (.upd hm)

theorem State.MemOk.discardImage {s : State} (hm : s.MemOk) : s.discardImage.MemOk :=
  .updateIdle (.setInactive hm)

theorem State.MemOk.beginActivation {s : State} (hm : s.MemOk) {pkt : Option Nat} : (s.beginActivation pkt).MemOk := .upd hm

theorem State.MemOk.writeConfigs {s : State} (hm : s.MemOk) {record : List Byte} {k : List Nat} : (s.writeConfigs record k).1.MemOk := by
  induction k generalizing s with
  | nil => exact hm
  | cons i rest ih => exact .ite_fst (.upd (.drawn hm)) (ih (.upd (.drawn hm)))

theorem State.MemOk.switchCopy {s : State} (hm : s.MemOk) : s.switchCopy.MemOk :=
  .ite hm (.upd hm)

theorem State.MemOk.putInForce {s : State} (hm : s.MemOk) : s.putInForce.1.MemOk :=
  .ite_fst (.writeConfigs hm) (.switchCopy hm)

theorem State.MemOk.spliceRec {s : State} (hm : s.MemOk) {r : SpliceRec} : (s.spliceRec r).MemOk :=
  .trace (.logIt (.upd hm))

theorem State.MemOk.blowStep {s : State} (hm : s.MemOk) : s.blowStep.MemOk :=
  .ite hm (.ite (.spliceRec (.upd hm)) (.upd hm))

theorem State.MemOk.raiseCounter {s : State} (hm : s.MemOk) {sv k : Nat} : (s.raiseCounter sv k).MemOk := by
  induction k generalizing s with
  | zero => exact hm
  | succ k ih => exact .ite (ih (.blowStep hm)) hm

theorem State.MemOk.endActivation {s : State} (hm : s.MemOk) {sv : Nat} : (s.endActivation sv).MemOk :=
  .logIt (.upd (.updateIdle (.raiseCounter hm)))

theorem State.MemOk.restartCores {s : State} (hm : s.MemOk) : s.restartCores.MemOk := .upd hm

theorem State.MemOk.activateNow {s : State} (hm : s.MemOk) {e : Env} : (s.activateNow e).MemOk :=
  .ite (.done (.endActivation (.ite (.restartCores (.putInForce (.upd hm))) (.putInForce (.upd hm))))) (.done (.logIt (.upd (.putInForce (.upd hm)))))

theorem specActivate_keeps : specActivate.Keeps := fun _ _ hm => .ite (.done (.discardImage hm)) (.ite (.setJob (.beginActivation hm)) (.activateNow hm))

theorem specActivateSchedule_keeps : specActivateSchedule.Keeps := fun _ _ hm => .ite (.done hm) (.done (.upd hm))

theorem specActivateCancel_keeps : specActivateCancel.Keeps := fun _ _ hm => .done (.upd hm)

theorem specActivateDiscard_keeps : specActivateDiscard.Keeps := fun _ _ hm => .done (.discardImage hm)

theorem specAttest_keeps : specAttest.Keeps := fun _ _ hm => .ite (.done hm) (.done (.store hm))

theorem State.MemOk.useToken {s : State} (hm : s.MemOk) {t : List Byte} : (s.useToken t).MemOk :=
  .ite (.logIt (.upd (.upd hm))) (.logIt (.upd hm))

theorem specDebugUnlock_keeps : specDebugUnlock.Keeps := fun _ _ hm => .ite (.done (.logIt hm)) (.done (.useToken hm))

theorem choose_keeps {l : List OpSpec} {i : Nat} (h : ∀ sp ∈ l, sp.Keeps) (hhead : (l.headD specNop).Keeps) : (choose l i).Keeps := by
  unfold choose
  rw [List.getD_eq_getElem?_getD]
  cases hi : l[i]? with
  | some sp => exact h sp (List.mem_of_getElem? hi)
  | none => exact hhead

/-- Every operation that a list holds keeps memory canonical. -/
def AllKeep (l : List OpSpec) : Prop := ∀ sp ∈ l, sp.Keeps

theorem AllKeep.nil : AllKeep [] := nofun

theorem AllKeep.cons {sp : OpSpec} {l : List OpSpec} (h : sp.Keeps) (hl : AllKeep l) : AllKeep (sp :: l) := List.forall_mem_cons.mpr ⟨h, hl⟩

theorem AllKeep.append {l m : List OpSpec} (hl : AllKeep l) (hm : AllKeep m) : AllKeep (l ++ m) := List.forall_mem_append.mpr ⟨hl, hm⟩

/-- A row of several operations keeps memory canonical where each of them does. -/
theorem OpSpec.Keeps.choose {sp : OpSpec} {l : List OpSpec} {i : Nat} (h : AllKeep (sp :: l)) : (Machine.choose (sp :: l) i).Keeps :=
  choose_keeps h (h sp List.mem_cons_self)

theorem specsLow_keep {p : Packet} : AllKeep (specsLow p) :=
  .cons specNop_keeps <| .cons specBobbinCreate_keeps <| .cons specBobbinDestroy_keeps <| .cons specBobbinStop_keeps <| .cons specBobbinResume_keeps <|
  .cons specAbort_keeps <| .cons specQuiesce_keeps <| .cons specTenantCreate_keeps <| .cons specTenantDestroy_keeps <| .cons specQuery_keeps <|
  .cons specDmaCopy_keeps <| .cons specDmaFill_keeps <| .cons specBankAssign_keeps <| .cons specRegionMap_keeps <| .cons specRegionUnmap_keeps <|
  .cons (.choose (.cons specKvScatterAppend_keeps (.cons specKvScatterOpen_keeps (.cons specKvScatterClose_keeps (.cons specKvScatterBind_keeps .nil))))) <|
  .cons specPagePin_keeps <| .nil

theorem specsMid_keep {p : Packet} : AllKeep (specsMid p) :=
  .cons specMatmul_keeps <| .cons specConv_keeps <| .cons specAttention_keeps <| .cons specRecur_keeps <| .cons specVectorOp_keeps <| .cons specSort_keeps <|
  .cons specScheduleRun_keeps <| .cons specDraftOpen_keeps <| .cons specTwist_keeps <| .cons specUnravel_keeps <| .cons specDraftQuery_keeps <|
  .cons specContextCreate_keeps <| .cons specContextDestroy_keeps <| .cons specContextReset_keeps <| .cons specModelLoad_keeps <| .cons specModelPin_keeps <|
  .cons specModelEvict_keeps <|
  .cons (.choose (.cons specStoreOpen_keeps (.cons specStoreWrite_keeps (.cons specStoreSeal_keeps (.cons specStoreDelete_keeps .nil))))) <|
  .cons specLaneReserve_keeps <| .cons specLaneRelease_keeps <| .cons (.choose (.cons specStreamConfigure_keeps (.cons specStreamRelease_keeps .nil))) <|
  .cons (.choose (.cons specGroupCreate_keeps (.cons specGroupReconfigure_keeps (.cons specGroupDelete_keeps .nil)))) <| .cons specGroupStart_keeps <|
  .cons specGroupStop_keeps <| .cons specVoteConfig_keeps <| .cons specChannelEnable_keeps <| .nil

theorem specsHigh_keep {p : Packet} : AllKeep (specsHigh p) :=
  .cons (.choose (.cons specPlanCreate_keeps (.cons specPlanReconfigure_keeps (.cons specPlanDelete_keeps .nil)))) <|
  .cons (.choose (.cons specPlanCycle_keeps (.cons specPlanCheck_keeps .nil))) <| .cons (.choose (.cons specMapReplace_keeps (.cons specMapPatch_keeps .nil))) <|
  .cons (.choose (.cons specSolveCreate_keeps (.cons specSolveReconfigure_keeps (.cons specSolveDelete_keeps .nil)))) <| .cons specSolve_keeps <|
  .cons (.choose (.cons specLoopCreate_keeps (.cons specLoopReconfigure_keeps (.cons specLoopDelete_keeps (.cons specLoopRing_keeps .nil))))) <|
  .cons specLoopStart_keeps <| .cons specLoopStop_keeps <| .cons specTimeStep_keeps <| .cons specTimeRate_keeps <| .cons specLaunchConfig_keeps <|
  .cons specTriggerSet_keeps <| .cons specCaptureArm_keeps <| .cons specPlyJoin_keeps <|
  .cons (.choose (.cons specPlyLeaveGraceful_keeps (.cons specPlyLeaveNow_keeps .nil))) <| .cons specCollective_keeps <|
  .cons (.choose (.cons specWindowGrant_keeps (.cons specWindowRevoke_keeps .nil))) <| .nil

theorem specsTop_keep {p : Packet} : AllKeep (specsTop p) :=
  .cons (.choose (.cons specPhaseHint_keeps (.cons specPhaseHintClear_keeps .nil))) <|
  .cons (.choose (.cons specBudgetWant_keeps (.cons specBudgetMachine_keeps .nil))) <| .cons specPowerQuery_keeps <|
  .cons (.choose (.cons specAgeRegister_keeps (.cons specAgeDeregister_keeps .nil))) <| .cons (.choose (.cons specSafeEnter_keeps (.cons specSafeRelease_keeps .nil))) <|
  .cons (.choose (.cons specPairConfigure_keeps (.cons specPairRemove_keeps .nil))) <| .cons specAtRest_keeps <| .cons specBistRun_keeps <|
  .cons specTraceConfig_keeps <| .cons specCounterRead_keeps <|
  .cons (.choose (.cons specBreakSet_keeps (.cons specBreakClear_keeps (.cons specBreakResume_keeps (.cons specBreakHalt_keeps .nil))))) <| .cons specKeyWrite_keeps <|
  .cons specKeyErase_keeps <| .cons specImageBlock_keeps <| .cons specImageVerify_keeps <| .cons specActivate_keeps <|
  .cons (.choose (.cons specActivateSchedule_keeps (.cons specActivateCancel_keeps (.cons specActivateDiscard_keeps .nil)))) <| .cons specAttest_keeps <|
  .cons specDebugUnlock_keeps <| .nil

theorem specOf_keeps {p : Packet} : (specOf p).Keeps := by
  unfold specOf
  cases found : (specsLow p ++ specsMid p ++ specsHigh p ++ specsTop p).find? (fun sp => sp.code = p.opcode) with
  | none => exact specNop_keeps
  | some sp => exact ((specsLow_keep.append specsMid_keep).append (specsHigh_keep) |>.append specsTop_keep) sp (List.mem_of_find?_eq_some found)

theorem OpSpec.Keeps.start {sp : OpSpec} (h : sp.Keeps) {e : Env} {s : State} (hm : s.MemOk) : (sp.start e s).MemOk := by
  unfold OpSpec.start
  split
  · exact .finish hm
  · split
    · exact .finish hm
    · exact h e _ (.restartFor hm)

theorem State.MemOk.takeIn {s : State} (hm : s.MemOk) {src : Src} {p : Packet} {bell : Nat × Nat} : (s.takeIn src p bell).MemOk := by
  unfold State.takeIn
  cases src with
  | bobbin n => exact .setBob (.upd hm)
  | oob c port => exact .upd hm

theorem OpSpec.Keeps.exec {sp : OpSpec} (h : sp.Keeps) {src : Src} {p : Packet} {s : State} (hm : s.MemOk) : (sp.exec src p s).MemOk :=
  .ite (h.start (.takeIn hm)) hm

end Sys2Proof.Machine
end

section
/-! PROOFS of MemInvariant (O19), third part: the events. -/

namespace Sys2Proof.Machine

theorem State.MemOk.takeFrame {s : State} (hm : s.MemOk) {c : Carrier} {port : Nat} {f : List Byte} : (s.takeFrame c port f).MemOk :=
  .ite (.oobDrop hm) (.resumeOrdered (specOf_keeps.start (.takeIn (.acceptCounter hm))))

theorem State.MemOk.frameIn {s : State} (hm : s.MemOk) {c : Carrier} {port : Nat} {f : List Byte} : (s.frameIn c port f).MemOk :=
  .ite hm (.ite (.takeFrame hm) (.ite (.upd hm) (.oobDrop hm)))

theorem State.MemOk.mboxHand {s : State} (hm : s.MemOk) : s.mboxHand.MemOk :=
  .ite hm (.upd (.frameIn hm))

theorem State.MemOk.mboxFree {s : State} (hm : s.MemOk) : s.mboxFree.MemOk :=
  .ite (.upd hm) hm

theorem State.MemOk.doorbell {s : State} (hm : s.MemOk) {n : Nat} {v : Index} : (s.doorbell n v).MemOk :=
  .ite (.logIt hm) (.ite (.bobError hm) (.ite hm (.trace (.setBob (.restart hm)))))

theorem State.MemOk.cplBell {s : State} (hm : s.MemOk) {n : Nat} {x : Index} : (s.cplBell n x).MemOk :=
  .ite hm (.drainHeld (.setBob hm))

theorem State.MemOk.writeIrqCtl {s : State} (hm : s.MemOk) {n v : Nat} : (s.writeIrqCtl n v).MemOk :=
  .checkIrq (.setBob hm)

theorem State.MemOk.writeBobbin {s : State} (hm : s.MemOk) {n off v : Nat} : (s.writeBobbin n off v).MemOk :=
  .ite (.ite (.logIt hm) (.doorbell hm)) (.ite (.cplBell hm) (.ite (.setBob hm) (.ite (.writeIrqCtl hm) (.ite (.setBob hm) hm))))

theorem State.MemOk.writeBar0 {s : State} (hm : s.MemOk) {off v : Nat} : (s.writeBar0 off v).MemOk :=
  .ite (.upd hm) (.ite hm (.ite (.ite (.store hm) hm) (.ite (.writeBobbin hm) hm)))

theorem State.MemOk.writeService {s : State} (hm : s.MemOk) {off v : Nat} : (s.writeService off v).MemOk :=
  .ite hm (.ite (.ite (.mboxHand hm) hm) (.ite (.ite (.mboxFree hm) hm) (.writeBar0 hm)))

theorem State.MemOk.setPwm {s : State} (hm : s.MemOk) {n : Nat} {w : Pwm} : (s.setPwm n w).MemOk := .upd hm

theorem State.MemOk.writeCfg {s : State} (hm : s.MemOk) {n v : Nat} : (s.writeCfg n v).MemOk :=
  .ite hm (.setPwm hm)

theorem State.MemOk.writeNext {s : State} (hm : s.MemOk) {n : Nat} {lo hi : Option Nat} : (s.writeNext n lo hi).MemOk := by
  unfold State.writeNext
  refine .ite hm ?_
  dsimp only
  split <;> exact .setPwm hm

theorem State.MemOk.writeAdminBase {s : State} (hm : s.MemOk) {cpl hi : Bool} {v : Nat} : (s.writeAdminBase cpl hi v).MemOk :=
  .ite hm (.ite (.upd hm) (.upd hm))

theorem State.MemOk.adminFields {s : State} (hm : s.MemOk) {v : Word} : (s.adminFields v).MemOk :=
  .ite hm (.upd hm)

theorem State.MemOk.adminOn {s : State} (hm : s.MemOk) {v : Word} : (s.adminOn v).MemOk :=
  .ite hm (.ite (.setBob (.adminFields hm)) (.ite (.setBob (.upd (.adminFields hm))) (.ite (.event (.upd (.setBob (.upd (.adminFields hm))))) (.setBob (.upd (.adminFields hm))))))

theorem State.MemOk.adminOff {s : State} (hm : s.MemOk) {v : Word} : (s.adminOff v).MemOk :=
  .ite (.ite (.setBob (.upd hm)) (.upd hm)) (.adminFields (.ite (.setBob (.upd hm)) (.upd hm)))

theorem State.MemOk.writeHostWd {s : State} (hm : s.MemOk) {v : Nat} : (s.writeHostWd v).MemOk :=
  .ite (.endCause (.upd hm)) (.upd hm)

theorem State.MemOk.writeStatusCfg {s : State} (hm : s.MemOk) {v : Nat} : (s.writeStatusCfg v).MemOk := .upd hm

theorem State.MemOk.writeOobCfg {s : State} (hm : s.MemOk) {v : Nat} : (s.writeOobCfg v).MemOk := .upd hm

theorem State.MemOk.writePwrCtl {s : State} (hm : s.MemOk) {v : Nat} : (s.writePwrCtl v).MemOk := .upd hm

theorem State.MemOk.writeSpliceCfg {s : State} (hm : s.MemOk) {v : Nat} : (s.writeSpliceCfg v).MemOk := .upd hm

/-- Every write of a word keeps memory canonical. -/
def PutOk (w : Option RwWord) : Prop := ∀ x ∈ w, ∀ v, (x.put v).MemOk

theorem PutOk.none : PutOk none := nofun

theorem PutOk.some {mask cur : Nat} {put : Nat → State} (h : ∀ v, (put v).MemOk) : PutOk (some ⟨mask, cur, put⟩) := by
  rintro _ ⟨⟩
  exact h

theorem PutOk.ite {c : Prop} [Decidable c] {a b : Option RwWord} (ha : PutOk a) (hb : PutOk b) : PutOk (if c then a else b) := by
  split
  · exact ha
  · exact hb

theorem State.MemOk.rwWord {s : State} (hm : s.MemOk) {off : Nat} : PutOk (s.rwWord off) := by
  unfold State.rwWord
  split
  · exact .some fun _ => .writeCfg hm
  · exact .some fun _ => .writeNext hm
  · exact .some fun _ => .writeNext hm
  · exact .none
  · refine .ite (.some fun _ => .writeAdminBase hm) (.ite (.some fun _ => .writeAdminBase hm) (.ite (.some fun _ => .writeAdminBase hm) (.ite (.some fun _ => .writeAdminBase hm) ?_)))
    refine .ite (.some fun _ => .ite (.adminOn hm) (.adminOff hm)) (.ite (.some fun _ => .writeHostWd hm) (.ite (.some fun _ => .writeStatusCfg hm) ?_))
    refine .ite (.some fun _ => .writeOobCfg hm) (.ite (.some fun _ => .writePwrCtl hm) ?_)
    exact .ite (.some fun _ => .upd hm) (.ite (.some fun _ => .upd hm) (.ite (.some fun _ => .upd hm) (.ite (.some fun _ => .upd hm) (.ite (.some fun _ => .writeSpliceCfg hm) .none))))

theorem State.MemOk.writePage {s : State} (hm : s.MemOk) {off v : Nat} : (s.writePage off v).MemOk := by
  unfold State.writePage
  split
  · rename_i w found
    exact hm.rwWord w found _
  · exact .ite (.ite (.upd hm) hm) (.ite (.ite (.upd hm) hm) (.ite (.upd hm) (.ite (.upd hm) hm)))

theorem State.MemOk.writeMgmt {s : State} (hm : s.MemOk) {who : Accessor} {off v : Nat} : (s.writeMgmt who off v).MemOk := by
  unfold State.writeMgmt
  split
  · exact .ite (.writeBobbin hm) (.logIt hm)
  · exact .ite (.writePage hm) (.logIt hm)

theorem State.MemOk.enterSleep {s : State} (hm : s.MemOk) : s.enterSleep.MemOk :=
  .ite hm (.ite (.upd hm) (.logIt (.stopMany (.upd hm))))

theorem State.MemOk.pushTs {s : State} (hm : s.MemOk) {port : Nat} {x : TsEntry} : (s.pushTs port x).MemOk := .upd hm

theorem State.MemOk.sendEth {s : State} (hm : s.MemOk) {port : Nat} {bytes : List Byte} : (s.sendEth port bytes).MemOk :=
  .ite (.emit hm) (.plyOut hm)

theorem State.MemOk.of_txOne {s t : State} (hm : s.MemOk) {port q : Nat} (h : s.txOne port q = some t) : t.MemOk := by
  unfold State.txOne at h
  extract_lets +onlyGivenNames k at h
  split at h
  · cases h
  · extract_lets +onlyGivenNames a gone at h
    split at h
    · cases h
    · split at h
      · cases h
        exact .tearDown (.setQueue hm)
      · extract_lets +onlyGivenNames d at h
        split at h
        · cases h
          exact .setQueue hm
        · extract_lets buf launch due at h
          split at h
          · cases h
          · split at h
            · cases h
              exact .tearDown (.setQueue hm)
            · have stamped {x : State} (hx : x.MemOk) {c : Bool} {y : TsEntry} : (if c then x.pushTs port y else x).MemOk := .ite (.pushTs hx) hx
              split at h <;> cases h
              · exact stamped (.setQueue hm)
              · exact stamped (.sendEth (.setQueue hm))

theorem State.MemOk.servePort {s : State} (hm : s.MemOk) {port k : Nat} : (s.servePort port k).MemOk := by
  induction k generalizing s with
  | zero => exact hm
  | succ k ih =>
    refine .ite hm ?_
    split
    · rename_i found
      obtain ⟨q, -, sent⟩ := List.exists_of_findSome?_eq_some found
      exact ih (hm.of_txOne sent)
    · exact hm

theorem State.MemOk.queueBell {s : State} (hm : s.MemOk) {port dir queue v : Nat} : (s.queueBell port dir queue v).MemOk := by
  unfold State.queueBell
  split
  · exact hm
  · exact .ite (.logIt hm) (.ite (.servePort (.setQueue hm)) (.setQueue hm))

theorem State.MemOk.writeMapped {s : State} (hm : s.MemOk) {who : Accessor} {off v : Nat} : (s.writeMapped who off v).MemOk :=
  .ite hm (.ite (.writeMgmt hm) (.ite (.ite (.enterSleep (.writePwrCtl hm)) (.writePwrCtl hm)) (.ite (.writeHostWd hm) (.ite (.queueBell hm) (.writeMgmt hm)))))

theorem State.MemOk.writeReg {s : State} (hm : s.MemOk) {who : Accessor} {addr v : Nat} : (s.writeReg who addr v).MemOk := by
  unfold State.writeReg
  split
  · exact .writeService hm
  · exact .ite (.writeMapped hm) hm

theorem State.MemOk.execRegisterWrite {s : State} (hm : s.MemOk) {who : Accessor} {addr : Nat} {v : Word} {hi : Option Word} : NextOk (execRegisterWrite who addr v hi s) := by
  refine .next ?_
  split
  · exact .writeReg (.writeReg hm)
  · exact .writeReg hm

theorem State.MemOk.whileUp {s : State} (hm : s.MemOk) {t : State} (ht : t.MemOk) : (s.whileUp t).MemOk :=
  .ite ht hm

theorem State.MemOk.execAdminCfgEnable {s : State} (hm : s.MemOk) {v : Word} : NextOk (execAdminCfgEnable v s) :=
  .next (.whileUp hm (.adminOn hm))

theorem State.MemOk.execAdminCfgDisable {s : State} (hm : s.MemOk) {v : Word} : NextOk (execAdminCfgDisable v s) :=
  .next (.whileUp hm (.adminOff hm))

theorem State.MemOk.whileServing {s : State} (hm : s.MemOk) {t : State} (ht : t.MemOk) : (s.whileServing t).MemOk :=
  .ite ht hm

theorem State.MemOk.execDoorbellWrite {s : State} (hm : s.MemOk) {n : Nat} {v : Word} : NextOk (execDoorbellWrite n v s) :=
  .next (.whileServing hm (.ite (.logIt hm) (.doorbell hm)))

theorem State.MemOk.execCplDoorbellWrite {s : State} (hm : s.MemOk) {n : Nat} {v : Word} : NextOk (execCplDoorbellWrite n v s) :=
  .next (.whileServing hm (.cplBell hm))

theorem State.MemOk.execIrqHoldoffExpiry {s : State} (hm : s.MemOk) {n : Nat} : NextOk (execIrqHoldoffExpiry n s) :=
  .next (.whileUp hm (.ite (.raiseIrq hm) hm))

theorem State.MemOk.release {s : State} (hm : s.MemOk) {o : OutPkt} : (s.release o).MemOk := by
  unfold State.release
  split
  · exact .endPkt hm
  · exact specOf_keeps.start hm

theorem State.MemOk.fetch {s0 : State} (hm : s0.MemOk) {n : Nat} : (s0.fetch n).MemOk :=
  .ite (.bobError (.restart hm)) (.ite (.upd (.trace (.takeIn (.setBob (.restart hm))))) (.release (.upd (.trace (.takeIn (.setBob (.restart hm)))))))

theorem State.MemOk.execPacketFetch {s : State} (hm : s.MemOk) {bobbin : Nat} : NextOk (execPacketFetch bobbin s) :=
  .next (.ite (.fetch hm) hm)

theorem State.MemOk.execPacketHoldEnd {s : State} (hm : s.MemOk) {id : Nat} : NextOk (execPacketHoldEnd id s) := by
  refine .next ?_
  split
  · split
    · exact .ite hm (.release hm)
    · exact hm
  · exact hm

theorem State.MemOk.runAgain {s : State} (hm : s.MemOk) {o : OutPkt} : (s.runAgain o).MemOk := specOf_keeps _ _ hm

theorem State.MemOk.retryRegions {s : State} (hm : s.MemOk) {os : List OutPkt} : (s.retryRegions os).MemOk := by
  induction os generalizing s with
  | nil => exact hm
  | cons o rest ih =>
    unfold State.retryRegions
    split
    · split
      · exact ih (.mapRegion hm)
      · exact ih hm
    · exact ih hm

theorem State.MemOk.endReset {s : State} (hm : s.MemOk) {id c : Nat} : (s.endReset id c).MemOk :=
  .ite hm (.finish (.setCtx (.wipeCtx hm)))

theorem State.MemOk.closeSeqs {s : State} (hm : s.MemOk) {c : Nat} : (s.closeSeqs c).MemOk := .upd hm

theorem State.MemOk.dropTimed {s : State} (hm : s.MemOk) {who : Nat → Bool} : (s.dropTimed who).MemOk := .upd hm

theorem State.MemOk.dropWindows {s : State} (hm : s.MemOk) {c : Nat} : (s.dropWindows c).MemOk :=
  .upd (.foldl (fun _ _ hx => .plySend hx) hm)

theorem State.MemOk.nextSeq {s : State} (hm : s.MemOk) {k : Nat} : (s.nextSeq k).2.MemOk := .upd hm

theorem State.MemOk.sendLoops {s : State} (hm : s.MemOk) {t : Nat} {ns : List Nat} : (s.sendLoops t ns).MemOk := by
  unfold State.sendLoops
  extract_lets ls only slots launch stations s1 ids s2
  have h1 : s1.MemOk := .foldl (fun _ _ hx => .ite (.emit (.ite (.emit (.nextSeq hx)) (.nextSeq hx))) (.ite (.emit (.nextSeq hx)) (.nextSeq hx))) hm
  have h2 : s2.MemOk := .foldl (fun _ _ hx => .emit (.nextSeq hx)) h1
  exact .foldl (fun _ _ hx => .ite hx (.setPwm hx)) h2

theorem State.MemOk.stopLoops {s : State} (hm : s.MemOk) {who : Loop → Bool} {delete : Bool} : (s.stopLoops who delete).MemOk :=
  .ite (.upd (.foldl (fun _ _ hx => .finish hx) (.sendLoops (.foldl (fun _ _ hx => .setLoop hx) hm)))) (.foldl (fun _ _ hx => .finish hx) (.sendLoops (.foldl (fun _ _ hx => .setLoop hx) hm)))

theorem State.MemOk.dropSensing {s : State} (hm : s.MemOk) {c : Nat} : (s.dropSensing c).MemOk :=
  .stopLoops (.upd (.foldl (fun _ _ hx => .endStream hx) hm))

theorem State.MemOk.destroyCtx {s : State} (hm : s.MemOk) {id c : Nat} : (s.destroyCtx id c).MemOk := by
  unfold State.destroyCtx
  extract_lets s1 s2 s3 s4 s5
  have h3 : s3.MemOk := .dropTimed (.dropWindows (.dropSensing (.unmapRegions (.closeSeqs (.wipeCtx hm)))))
  have h4 : s4.MemOk := .ite (.dropPlan h3) h3
  exact .finish (.upd h4)

theorem State.MemOk.endVerify {s : State} (hm : s.MemOk) {id : Nat} {m : List Byte} : (s.endVerify id m).MemOk := by
  unfold State.endVerify
  refine .ite (.finish (.upd hm)) ?_
  split
  · exact .finish hm
  · exact .ite (.finish (.setInactive (.drawn hm))) (.finish (.ite (.upd (.upd (.setInactive (.drawn hm)))) (.upd (.setInactive (.drawn hm)))))

theorem State.MemOk.waitOver {s : State} (hm : s.MemOk) {o : OutPkt} {k : Wait} : (s.waitOver o k).MemOk := by
  unfold State.waitOver
  split
  · exact .ite hm (.finish hm)
  · exact .runAgain hm
  · exact .retryRegions hm
  · exact .endReset hm
  · exact .destroyCtx hm
  · exact .endLane hm
  · exact .endVerify hm
  · exact hm
  · exact hm
  · exact hm
  · exact hm
  · exact hm
  · exact hm
  · exact hm
  · exact hm
  · exact hm
  · exact hm
  · exact hm
  · exact hm
  · exact hm

theorem State.MemOk.execCommitPoint {s : State} (hm : s.MemOk) {id : Nat} : NextOk (execCommitPoint id s) := by
  refine .next ?_
  split
  · exact hm
  · split
    · exact .ite (.ite hm (.upd hm)) (.commitPoint hm)
    · exact .ite hm (.waitOver hm)
    · exact hm
    · exact hm

theorem State.MemOk.execStopOrderArrival {s : State} (hm : s.MemOk) {flyer : Nat} : NextOk (execStopOrderArrival flyer s) := by
  refine .next (.whileUp hm ?_)
  split
  · exact hm
  · exact .ite (.upd (.upd hm)) (.carryOut (.upd hm))

theorem State.MemOk.execCorePlacement {s : State} (hm : s.MemOk) {id : Nat} : NextOk (execCorePlacement id s) := by
  refine .next ?_
  split
  · exact .ite (.runAgain hm) hm
  · exact hm

theorem State.MemOk.execCoreWaitLimit {s : State} (hm : s.MemOk) {id : Nat} : NextOk (execCoreWaitLimit id s) :=
  .next (.whileUp hm (.upd hm))

theorem State.MemOk.freePages {s : State} (hm : s.MemOk) {t : Nat} {ps : List DraftPage} : (s.freePages t ps).MemOk := .upd hm

theorem State.MemOk.trimDraft {s : State} (hm : s.MemOk) {d : Draft} {keep : Option Nat} : (s.trimDraft d keep).1.MemOk := by
  unfold State.trimDraft
  split
  · exact hm
  · exact .setDraft (.freePages hm)

theorem State.MemOk.commitLines {s : State} (hm : s.MemOk) {c : Nat} {ls : NMap (List Byte)} : (s.commitLines c ls).MemOk :=
  .foldl (fun _ _ hx => .upd (.store hx)) hm

theorem State.MemOk.commitShadow {s : State} (hm : s.MemOk) {c order : Nat} : (s.commitShadow c order).MemOk := by
  unfold State.commitShadow
  split
  · exact hm
  · split
    · exact hm
    · exact .ite (.recheckPlan (.commitSet (.setPlan hm))) (.commitSet (.setPlan hm))

theorem State.MemOk.doDeferred {s : State} (hm : s.MemOk) {order : Nat} {a : After} : (s.doDeferred order a).MemOk := by
  unfold State.doDeferred
  split
  · exact .commitShadow hm
  · exact .ageResult hm
  · exact .stampWrite hm
  · exact .upd hm
  · exact hm

theorem State.MemOk.applyDraft {s : State} (hm : s.MemOk) {d : Draft} : (s.applyDraft d).MemOk := by
  unfold State.applyDraft
  refine .ite (.foldl (fun _ _ hx => .doDeferred hx) (.foldl (fun _ _ hx => ?_) (.commitLines (.upd (.traceDraft (.bump (.foldl (fun _ _ hx => .plySend hx) hm))))))) ?_
  · split
    · exact .setPool hx
    · exact hx
  · split
    · exact .upd (.traceDraft (.bump (.foldl (fun _ _ hx => .plySend hx) hm)))
    · exact .upd (.setDraft (.freePages (.upd (.traceDraft (.bump (.foldl (fun _ _ hx => .plySend hx) hm))))))

theorem State.MemOk.decideTwist {s : State} (hm : s.MemOk) {id : Nat} {d : Draft} {keep : Option Nat} {parts : List Nat} : (s.decideTwist id d keep parts).MemOk :=
  .setTwist (.applyDraft (.trimDraft hm))

theorem State.MemOk.startTwist {s : State} (hm : s.MemOk) {o : OutPkt} : (s.startTwist o).MemOk := by
  unfold State.startTwist
  split
  · exact hm
  · split
    · exact .dropTwist (.finish hm)
    · exact .ite hm (.ite (.dropTwist (.finish (.unravelAll hm))) (.ite (.endTwist (.decideTwist (.setTwist hm))) (.setTwist (.foldl (fun _ _ hx => .plySend hx) (.setTwist hm)))))
    · exact hm

theorem State.MemOk.execTwistStart {s : State} (hm : s.MemOk) {id : Nat} : NextOk (execTwistStart id s) := by
  refine .next (.whileUp hm ?_)
  split
  · exact .ite hm (.startTwist hm)
  · exact hm

theorem State.MemOk.execTwistPrepare {s : State} (hm : s.MemOk) {id part : Nat} : NextOk (execTwistPrepare id part s) := by
  refine .next (.whileUp hm ?_)
  split
  · exact .ite (.upd (.setTwist hm)) hm
  · exact hm

theorem State.MemOk.takeVote {s : State} (hm : s.MemOk) {id part : Nat} {ready : Bool} : (s.takeVote id part ready).MemOk := by
  unfold State.takeVote
  split
  · exact .ite hm (.ite (.unravelAll hm) (.ite (.endTwist (.decideTwist hm)) (.setTwist hm)))
  · exact hm

theorem State.MemOk.execTwistVote {s : State} (hm : s.MemOk) {id part : Nat} {ready : Bool} : NextOk (execTwistVote id part ready s) := by
  refine .next (.whileUp hm ?_)
  split
  · exact .ite (.ite (.takeVote hm) hm) (.takeVote hm)
  · exact hm

theorem State.MemOk.execTwistCommit {s : State} (hm : s.MemOk) {id part : Nat} : NextOk (execTwistCommit id part s) :=
  .next (.whileUp hm (.partDone hm))

theorem State.MemOk.execTwistVoteTimeout {s : State} (hm : s.MemOk) {id node : Nat} : NextOk (execTwistVoteTimeout id node s) := by
  refine .next (.whileUp hm ?_)
  split
  · exact .ite (.twistLosesPeer hm) hm
  · exact hm

theorem State.MemOk.commitRecord {s : State} (hm : s.MemOk) {d : Draft} {parent : Nat} : (s.commitRecord d parent).MemOk := by
  unfold State.commitRecord
  refine .ite (.commitLines (.upd hm)) ?_
  split
  · exact .setDraft (.upd hm)
  · exact .upd (.upd hm)

theorem State.MemOk.execTwistOwnerLostTimeout {s : State} (hm : s.MemOk) {record : Nat} {commit : Bool} {parent : Nat} : NextOk (execTwistOwnerLostTimeout record commit parent s) := by
  refine .next (.whileUp hm ?_)
  split
  · exact .ite (.ite (.commitRecord hm) (.discard hm)) hm
  · exact hm

theorem State.MemOk.execWritebackComplete {s : State} (hm : s.MemOk) {ctx line : Nat} : NextOk (execWritebackComplete ctx line s) :=
  .next (.whileUp hm (.upd hm))

theorem State.MemOk.execTdescLd {s : State} (hm : s.MemOk) {core sc td addr : Nat} : NextOk (execTdescLd core sc td addr s) :=
  .next (.whileUp hm (.setCore hm))

theorem State.MemOk.execTdescSet {s : State} (hm : s.MemOk) {core sc td field value : Nat} : NextOk (execTdescSet core sc td field value s) :=
  .next (.whileUp hm (.setCore hm))

theorem State.MemOk.opDone {s : State} (hm : s.MemOk) {k : Nat} {o : CoreOp} : (s.opDone k o).MemOk :=
  .drawn (.setCore hm)

theorem State.MemOk.execTIssue {s : State} (hm : s.MemOk) {core sc q : Nat} : NextOk (execTIssue core sc q s) := by
  refine .next (.whileUp hm (.ite hm (.setCore (.ite ?_ hm))))
  split
  · exact .opDone hm
  · exact hm

theorem State.MemOk.execTWait {s : State} (hm : s.MemOk) {core token : Nat} : NextOk (execTWait core token s) := by
  refine .next (.whileUp hm ?_)
  split
  · exact hm
  · exact .foldl (fun _ _ hx => .opDone hx) hm

theorem State.MemOk.execTWaitq {s : State} (hm : s.MemOk) {core q : Nat} : NextOk (execTWaitq core q s) :=
  .next (.whileUp hm (.foldl (fun _ _ hx => .opDone hx) hm))

theorem State.MemOk.execTStat {s : State} (hm : s.MemOk) {core sc q : Nat} : NextOk (execTStat core sc q s) :=
  .next (.whileUp hm (.setCore hm))

theorem State.MemOk.fenceCore {s : State} (hm : s.MemOk) {k cause : Nat} : (s.fenceCore k cause).MemOk :=
  .ite (.raise (.fence (.upd hm))) (.fence (.upd hm))

theorem State.MemOk.spareSpent {s : State} (hm : s.MemOk) {cls unit logical trigger : Nat} : (s.spareSpent cls unit logical trigger).MemOk :=
  .raise (.spliceRec hm)

theorem State.MemOk.selectSplice {s : State} (hm : s.MemOk) {k trigger : Nat} {immediate retire : Bool} : (s.selectSplice k trigger immediate retire).MemOk :=
  .ite (.upd hm) (.ite (.upd hm) (.spareSpent hm))

theorem State.MemOk.failCore {s : State} (hm : s.MemOk) {k cause trigger : Nat} : (s.failCore k cause trigger).MemOk := by
  unfold State.failCore
  refine .selectSplice ?_
  split
  · split
    · exact .endPkt (.dropEsc (.ite hm (.fenceCore hm)))
    · exact .ite hm (.fenceCore hm)
  · exact .ite hm (.fenceCore hm)

theorem State.MemOk.execScalarTrap {s : State} (hm : s.MemOk) {core sc : Nat} : NextOk (execScalarTrap core sc s) := by
  refine .next (.whileUp hm (.ite ?_ (.failCore hm)))
  split
  · exact .tearDown hm
  · exact hm

theorem State.MemOk.execTensionerStep {s : State} (hm : s.MemOk) {core engine : Nat} : NextOk (execTensionerStep core engine s) :=
  .next (.ite hm (.ite hm (.ite hm (.upd hm))))

theorem State.MemOk.execBankConflictWindowEnd {s : State} (hm : s.MemOk) {c a port : Nat} : NextOk (execBankConflictWindowEnd c a port s) := by
  refine .next (.whileUp hm (.ite hm ?_))
  split
  · exact .ite hm (.tearDown (.bump hm))
  · exact .tearDown hm
  · exact hm

theorem State.MemOk.execBankHandover {s : State} (hm : s.MemOk) {pkt memory bank port : Nat} : NextOk (execBankHandover pkt memory bank port s) := by
  refine .next (.whileUp hm ?_)
  split
  · exact hm
  · exact .ite hm (.upd hm)

theorem State.MemOk.withdrawStack {s : State} (hm : s.MemOk) {k : Nat} : (s.withdrawStack k).MemOk :=
  .raise (.fence (.foldl (fun _ _ hx => .ite (.foldl (fun _ _ hx => .fence hx) (.upd hx)) (.ite hx (.upd (.dropGroups hx)))) (.foldl (fun _ _ hx => .fence hx) (.upd hm))))

theorem State.MemOk.execPseudoChannelFlagged {s : State} (hm : s.MemOk) {stack pc : Nat} : NextOk (execPseudoChannelFlagged stack pc s) := by
  refine .next (.whileUp hm (.ite hm ?_))
  split
  · exact .fence (.spliceRec (.upd hm))
  · exact .withdrawStack (.spareSpent hm)

theorem State.MemOk.execRemapCopyEnd {s : State} (hm : s.MemOk) {stack : Nat} : NextOk (execRemapCopyEnd stack s) :=
  .next (.whileUp hm (.ite (.logIt (.upd hm)) hm))

theorem State.MemOk.execFlitCrcFail {s : State} (hm : s.MemOk) {module : Nat} : NextOk (execFlitCrcFail module s) :=
  .next (.whileUp hm (.ite hm (.upd hm)))

theorem State.MemOk.execDieLinkRetryThreshold {s : State} (hm : s.MemOk) {module : Nat} {laneLeft : Bool} : NextOk (execDieLinkRetryThreshold module laneLeft s) :=
  .next (.whileUp hm (.ite hm (.ite (.logIt (.upd hm)) (.fence (.upd hm)))))

theorem State.MemOk.fenceFlyer {s : State} (hm : s.MemOk) {f cause : Nat} : (s.fenceFlyer f cause).MemOk := by
  unfold State.fenceFlyer
  refine .ite hm (.fence (.ite (.upd (.foldl (fun _ _ hx => .finish (.dropEsc (.collAborted hx))) hm)) ?_))
  split
  · exact .spliceRec (.upd (.upd (.foldl (fun _ _ hx => .finish (.dropEsc (.collAborted hx))) hm)))
  · exact .spareSpent (.foldl (fun _ _ hx => .setBob hx) (.upd (.foldl (fun _ _ hx => .finish (.dropEsc (.collAborted hx))) hm)))

theorem State.MemOk.repairRow {s : State} (hm : s.MemOk) {a : Addr} : (s.repairRow a).MemOk := by
  unfold State.repairRow
  refine .ite (.spliceRec (.bump (.upd hm))) (.ite (.spliceRec (.upd hm)) ?_)
  dsimp only
  split
  · exact .failCore (.spareSpent hm)
  · split
    · exact .fence (.upd (.spareSpent hm))
    · exact .spareSpent hm
  · exact .spareSpent hm

theorem State.MemOk.execPatrolScrub {s : State} (hm : s.MemOk) {addr : Nat} {bad trig : Bool} {slot flyer : Option Nat} : NextOk (execPatrolScrub addr bad trig slot flyer s) := by
  refine .next (.ite hm ?_)
  split
  · exact .ite (.fenceFlyer hm) hm
  · refine .ite hm (.ite (.repairRow ?_) ?_)
    · split
      · exact .ite (.upd (.ite (.logIt (.upd (.bump hm))) (.bump hm))) (.ite (.logIt (.upd (.bump hm))) (.bump hm))
      · exact .ite (.logIt (.upd (.bump hm))) (.bump hm)
    · split
      · exact .ite (.upd (.ite (.logIt (.upd (.bump hm))) (.bump hm))) (.ite (.logIt (.upd (.bump hm))) (.bump hm))
      · exact .ite (.logIt (.upd (.bump hm))) (.bump hm)

theorem State.MemOk.execHbmClearDone {s : State} (hm : s.MemOk) : NextOk (execHbmClearDone s) := by
  refine .next (.whileUp hm ?_)
  split
  · exact hm
  · exact .retryRegions (.upd (.clear hm))

theorem State.MemOk.execMboxSend {s : State} (hm : s.MemOk) : NextOk (execMboxSend s) :=
  .next (.mboxHand hm)

theorem State.MemOk.execMboxRelease {s : State} (hm : s.MemOk) : NextOk (execMboxRelease s) :=
  .next (.mboxFree hm)

theorem State.MemOk.execOobFrame {s : State} (hm : s.MemOk) {c : Carrier} {port id : Nat} {bytes : List Byte} : NextOk (execOobFrame c port id bytes s) :=
  .next (.ite (.frameIn hm) hm)

theorem State.MemOk.execFlyerReportTimeout {s : State} (hm : s.MemOk) {flyer : Nat} : NextOk (execFlyerReportTimeout flyer s) :=
  .next (.whileUp hm (.ite hm (.fenceFlyer hm)))

theorem State.MemOk.execServiceLinkUp {s : State} (hm : s.MemOk) : NextOk (execServiceLinkUp s) :=
  .next (.ite hm (.drawn (.foldl (fun _ _ hx => .setBob hx) (.upd hm))))

theorem State.MemOk.execServiceLinkDown {s : State} (hm : s.MemOk) : NextOk (execServiceLinkDown s) :=
  .next (.ite hm (.dropService (.upd (.foldl (fun _ _ hx => .ite (.foldl (fun _ _ hx => .logIt hx) (.stopBobbin hx)) (.setBob (.foldl (fun _ _ hx => .logIt hx) (.stopBobbin hx)))) hm))))

theorem State.MemOk.unmatched {s : State} (hm : s.MemOk) {port : Nat} : (s.unmatched port).MemOk := .upd hm

theorem State.MemOk.bumpStream {s : State} (hm : s.MemOk) {n field by_ : Nat} : (s.bumpStream n field by_).MemOk := by
  unfold State.bumpStream
  split
  · exact .bump hm
  · exact hm

theorem State.MemOk.writeWindow {s : State} (hm : s.MemOk) {g : Group} {w : Window} {slot : Nat} {atDeadline : Bool} {pts : NMap (List (List Nat))} {stamp : Option Nat} : (s.writeWindow g w slot atDeadline pts stamp).MemOk := by
  unfold State.writeWindow
  refine .stampWrite (.store ?_)
  split
  · refine .ite (.store (.ite hm (.foldl (fun _ _ hx => .ite hx ?_) hm))) (.ite hm (.foldl (fun _ _ hx => .ite hx ?_) hm))
    · split
      · split
        · exact .store hx
        · exact hx
      · exact hx
    · split
      · split
        · exact .store hx
        · exact hx
      · exact hx
  · refine .drawn (.ite (.store (.ite hm (.foldl (fun _ _ hx => .ite hx ?_) hm))) (.ite hm (.foldl (fun _ _ hx => .ite hx ?_) hm)))
    · split
      · split
        · exact .store hx
        · exact hx
      · exact hx
    · split
      · split
        · exact .store hx
        · exact hx
      · exact hx

theorem State.MemOk.postTemplate {s : State} (hm : s.MemOk) {bob : Nat} {a : Addr} {k : Nat} : (s.postTemplate bob a k).1.MemOk :=
  .ite_fst hm (.doorbell (.store hm))

theorem State.MemOk.releaseWindow {s : State} (hm : s.MemOk) {n : Nat} {atDeadline : Bool} : (s.releaseWindow n atDeadline).MemOk := by
  unfold State.releaseWindow
  split
  · exact hm
  · refine .ite hm (.ite (.fenceGroup hm) (.ite (.bump (.setGroup hm)) ?_))
    extract_lets s1
    have h1 : s1.MemOk := .writeWindow hm
    split
    rename_i posted
    have h2 := State.MemOk.of_fst (.postTemplate h1) posted
    split
    · exact .setGroup h2
    · exact .bump (.setGroup h2)

theorem State.MemOk.releaseTo {s : State} (hm : s.MemOk) {n i k : Nat} : (s.releaseTo n i k).MemOk := by
  induction k generalizing s with
  | zero => exact hm
  | succ k ih =>
    unfold State.releaseTo
    split
    · exact .ite (ih (.releaseWindow hm)) hm
    · exact hm

theorem State.MemOk.openWindow {s : State} (hm : s.MemOk) {n k : Nat} : (s.openWindow n k).MemOk := by
  unfold State.openWindow
  split
  · exact hm
  · refine .ite hm (.setGroup ?_)
    split
    · exact hm
    · exact .releaseTo hm

theorem State.MemOk.releaseReady {s : State} (hm : s.MemOk) {n k : Nat} : (s.releaseReady n k).MemOk := by
  induction k generalizing s with
  | zero => exact hm
  | succ k ih =>
    unfold State.releaseReady
    split
    · exact hm
    · exact .ite (ih (.releaseWindow hm)) hm

theorem State.MemOk.cardMember {s : State} (hm : s.MemOk) {f : FrameRef} {n i : Nat} : (s.cardMember f n i).MemOk := by
  unfold State.cardMember
  split
  · exact hm
  · extract_lets s0 s3
    have h0 : s0.MemOk := .ite (.setGroup hm) hm
    have h3 : s3.MemOk := by
      unfold s3
      split
      · exact .bumpStream h0
      · split
        · exact .bumpStream h0
        · split
          · exact .bumpStream h0
          · dsimp only
            split
            · exact .ite (.setGroup (.openWindow h0)) (.bumpStream (.setGroup (.openWindow h0)))
            · exact .setGroup (.openWindow h0)
    exact .releaseReady h3

theorem State.MemOk.cardFrame {s : State} (hm : s.MemOk) {f : FrameRef} : (s.cardFrame f).MemOk :=
  .foldl (fun _ _ hx => .foldl (fun _ _ hx => .cardMember hx) hx) hm

theorem State.MemOk.closeFrame {s : State} (hm : s.MemOk) {n : Nat} {noEnd : Bool} : (s.closeFrame n noEnd).MemOk := by
  unfold State.closeFrame
  split
  · exact hm
  · split
    · exact hm
    · extract_lets missing damaged bytes base desc s1 s2 s3 s4 s5 s6 s7 ref s8
      have h2 : s2.MemOk := .ite (.store hm) (.store (.store hm))
      have h5 : s5.MemOk := .bumpStream (.setStreamOpt (.stampWrite h2))
      have h8 : s8.MemOk := .cardFrame (.bumpStream (.ite h5 (.bumpStream h5)))
      exact .ite (.endStream h8) h8

theorem State.MemOk.openFrame {s : State} (hm : s.MemOk) {n : Nat} : (s.openFrame n).MemOk := by
  unfold State.openFrame
  split
  · exact hm
  · split
    · exact .bumpStream hm
    · exact .ite (.ite (.bumpStream hm) (.tearDown (.bumpStream hm))) (.setStreamOpt hm)

theorem State.MemOk.landLine {s : State} (hm : s.MemOk) {n : Nat} {bytes : List Byte} {damaged recovered embedded : Bool} : (s.landLine n bytes damaged recovered embedded).MemOk := by
  unfold State.landLine
  split
  · exact hm
  · split
    · exact hm
    · exact .ite (.setStreamOpt hm) (.ite (.bumpStream (.setStreamOpt (.store hm))) (.setStreamOpt (.store hm)))

theorem State.MemOk.execCsi2Packet {s : State} (hm : s.MemOk) {port vc : Nat} {pkt : CsiPacket} : NextOk (execCsi2Packet port vc pkt s) := by
  refine .next (.ite hm ?_)
  split
  · exact .unmatched hm
  · split
    · exact .openFrame (.closeFrame hm)
    · exact .closeFrame hm
    · exact hm
    · exact hm
    · exact .ite (.landLine hm) (.unmatched hm)

theorem State.MemOk.execFrameCloseTimeout {s : State} (hm : s.MemOk) {stream : Nat} : NextOk (execFrameCloseTimeout stream s) := by
  refine .next (.whileUp hm ?_)
  split
  · exact .ite (.closeFrame hm) hm
  · exact hm

theorem State.MemOk.execRetransmissionTimeout {s : State} (hm : s.MemOk) {port vc : Nat} : NextOk (execRetransmissionTimeout port vc s) := by
  refine .next (.whileUp hm ?_)
  split
  · exact hm
  · split
    · exact .ite hm (.setStreamOpt (.store hm))
    · exact hm

theorem State.MemOk.execAphyLinkUp {s : State} (hm : s.MemOk) {port gear : Nat} : NextOk (execAphyLinkUp port gear s) :=
  .next (.ite hm (.upd hm))

theorem State.MemOk.dropAphy {s : State} (hm : s.MemOk) {port : Nat} : (s.dropAphy port).MemOk :=
  .foldl (fun _ _ hx => .closeFrame hx) (.upd hm)

theorem State.MemOk.execAphyLinkDrop {s : State} (hm : s.MemOk) {port : Nat} : NextOk (execAphyLinkDrop port s) :=
  .next (.whileUp hm (.ite hm (.dropAphy hm)))

theorem State.MemOk.landBatch {s : State} (hm : s.MemOk) {n : Nat} {t : Stream} {payload : List Byte} : (s.landBatch n t payload).MemOk := by
  unfold State.landBatch
  dsimp only
  split
  · exact .ite (.closeFrame (.landLine (.ite hm (.openFrame hm)))) (.landLine (.ite hm (.openFrame hm)))
  · exact .landLine (.ite hm (.openFrame hm))

theorem State.MemOk.hostReceive {s : State} (hm : s.MemOk) {port : Nat} {f : List Byte} : (s.hostReceive port f).MemOk := by
  unfold State.hostReceive
  dsimp only
  split
  · exact .logIt hm
  · exact .ite (.logIt hm) (.ite (.tearDown (.setQueue hm)) (.store (.store (.setQueue hm))))

theorem State.MemOk.execT1Frame {s : State} (hm : s.MemOk) {port : Nat} {frame : List Byte} : NextOk (execT1Frame port frame s) := by
  refine .next (.ite hm ?_)
  dsimp only
  split
  · exact .landBatch hm
  · exact .hostReceive hm

theorem State.MemOk.execBatchClose {s : State} (hm : s.MemOk) {stream : Nat} : NextOk (execBatchClose stream s) := by
  refine .next (.whileUp hm ?_)
  split
  · exact .ite (.closeFrame hm) hm
  · exact hm

theorem State.MemOk.landSample {s : State} (hm : s.MemOk) {port : Nat} {sample : List Byte} {byRate : Bool} : (s.landSample port sample byRate).MemOk := by
  unfold State.landSample
  split
  · exact hm
  · exact .ite hm (.closeFrame (.landLine (.openFrame (.emit hm))))

theorem State.MemOk.execSpiDataReady {s : State} (hm : s.MemOk) {port : Nat} {sample : List Byte} : NextOk (execSpiDataReady port sample s) :=
  .next (.ite hm (.landSample hm))

theorem State.MemOk.execSpiRateTick {s : State} (hm : s.MemOk) {port : Nat} {sample : List Byte} : NextOk (execSpiRateTick port sample s) :=
  .next (.ite hm (.landSample hm))

theorem State.MemOk.execSpiDrdyMiss {s : State} (hm : s.MemOk) {port : Nat} : NextOk (execSpiDrdyMiss port s) := by
  refine .next (.whileUp hm ?_)
  split
  · exact .setStreamOpt hm
  · exact hm

theorem State.MemOk.execInrushComplete {s : State} (hm : s.MemOk) {channel : Nat} : NextOk (execInrushComplete channel s) := by
  refine .next (.whileUp hm ?_)
  dsimp only
  split
  · exact hm
  · exact .ite hm (.foldl (fun _ _ hx => .finish hx) (.setChan hm))

theorem State.MemOk.fenceLog {s : State} (hm : s.MemOk) {cls unit cause : Nat} : (s.fenceLog cls unit cause).MemOk :=
  .trace (.logIt hm)

theorem State.MemOk.fenceChannel {s : State} (hm : s.MemOk) {c cause : Nat} : (s.fenceChannel c cause).MemOk := by
  unfold State.fenceChannel
  extract_lets no lamp status d _ s1 who s2 s3
  have h2 : s2.MemOk := .ite (.event (.setChan hm)) (.foldl (fun _ _ hx => .finish hx) (.setChan hm))
  exact .ite (.fenceLog h2) (.dropAphy (.fenceLog h2))

theorem State.MemOk.execInrushWindowEnd {s : State} (hm : s.MemOk) {channel : Nat} {droop : Bool} : NextOk (execInrushWindowEnd channel droop s) := by
  refine .next (.whileUp hm ?_)
  dsimp only
  split
  · exact hm
  · exact .ite hm (.ite (.setChan hm) (.fenceChannel hm))

theorem State.MemOk.execInrushRetry {s : State} (hm : s.MemOk) {channel : Nat} : NextOk (execInrushRetry channel s) := by
  refine .next (.whileUp hm ?_)
  dsimp only
  split
  · exact .ite (.setChan hm) hm
  · exact hm

theorem State.MemOk.execShortTrip {s : State} (hm : s.MemOk) {channel : Nat} : NextOk (execShortTrip channel s) :=
  .next (.whileUp hm (.ite hm (.fenceChannel hm)))

theorem State.MemOk.execImuSupplyLimit {s : State} (hm : s.MemOk) {port : Nat} {folded : Bool} : NextOk (execImuSupplyLimit port folded s) :=
  .next (.whileUp hm (.ite hm (.upd hm)))

theorem State.MemOk.paged {s : State} (hm : s.MemOk) {who : Accessor} {f : State → State} (hf : ∀ x : State, x.MemOk → (f x).MemOk) : (s.paged who f).MemOk :=
  .ite hm (.ite (hf s hm) (.logIt hm))

theorem State.MemOk.execPwNextArm {s : State} (hm : s.MemOk) {who : Accessor} {n : Nat} {lo : Option Word} {hi : Word} : NextOk (execPwNextArm who n lo hi s) :=
  .next (.paged hm (fun _ hy => .writeNext hy))

theorem State.MemOk.execPwmReload {s : State} (hm : s.MemOk) {n : Nat} : NextOk (execPwmReload n s) :=
  .next (.whileUp hm (.ite (.setPwm hm) hm))

theorem State.MemOk.execPwCfgWrite {s : State} (hm : s.MemOk) {who : Accessor} {n : Nat} {v : Word} : NextOk (execPwCfgWrite who n v s) :=
  .next (.paged hm (fun _ hy => .writeCfg hy))

theorem State.MemOk.execTimeNRead {s : State} (hm : s.MemOk) {who : Accessor} : NextOk (execTimeNRead who s) :=
  .next (.paged hm (fun _ hy => .upd hy))

theorem State.MemOk.execHostQueueDoorbell {s : State} (hm : s.MemOk) {who : Accessor} {port dir queue : Nat} {v : Word} : NextOk (execHostQueueDoorbell who port dir queue v s) :=
  .next (.paged hm (fun _ hy => .queueBell hy))

theorem State.MemOk.execLaunchTime {s : State} (hm : s.MemOk) {port queue : Nat} : NextOk (execLaunchTime port queue s) := by
  refine .next (.whileUp hm ?_)
  split
  · exact .servePort hm
  · exact hm

theorem State.MemOk.execHostFrameReceive {s : State} (hm : s.MemOk) {port : Nat} {frame : List Byte} : NextOk (execHostFrameReceive port frame s) :=
  .next (.ite hm (.hostReceive hm))

theorem State.MemOk.execTsqPop {s : State} (hm : s.MemOk) {who : Accessor} {port : Nat} : NextOk (execTsqPop who port s) :=
  .next (.paged hm (fun _ hy => .upd hy))

theorem State.MemOk.occur {s : State} (hm : s.MemOk) {n : Nat} : (s.occur n).MemOk := by
  unfold State.occur
  split
  · exact hm
  · exact .ite (.upd hm) (.foldl (fun _ _ hx => .ite (.setPwm hx) hx) (.upd hm))

theorem State.MemOk.execTriggerOccurrence {s : State} (hm : s.MemOk) {output : Nat} : NextOk (execTriggerOccurrence output s) :=
  .next (.whileUp hm (.occur hm))

theorem State.MemOk.execEdgeCapture {s : State} (hm : s.MemOk) {input : Nat} {rising : Bool} : NextOk (execEdgeCapture input rising s) :=
  .next (.whileUp hm (.ite hm (.upd hm)))

theorem State.MemOk.execCapPop {s : State} (hm : s.MemOk) {who : Accessor} {input : Nat} : NextOk (execCapPop who input s) :=
  .next (.paged hm (fun _ hy => .upd hy))

theorem State.MemOk.execWindowDeadline {s : State} (hm : s.MemOk) {group : Nat} : NextOk (execWindowDeadline group s) :=
  .next (.ite hm (.releaseReady (.releaseWindow hm)))

theorem State.MemOk.writeTracks {s : State} (hm : s.MemOk) {n k : Nat} {stamp : Option Nat} : (s.writeTracks n k stamp).MemOk := by
  unfold State.writeTracks
  split
  · exact hm
  · refine .ite (.bump (.setGroup hm)) ?_
    extract_lets base
    split
    rename_i t s0 drawn
    have h0 : s0.MemOk := by
      cases stamp <;> cases drawn
      · exact .drawn hm
      · exact hm
    have h1 {bob : Nat} {a : Addr} {size : Nat} {bs : List Byte} : (((s0.store base bs).stampWrite base size stamp).postTemplate bob a k).1.MemOk := .postTemplate (.stampWrite (.store h0))
    extract_lets s1
    split
    rename_i posted
    have h2 := State.MemOk.of_fst h1 posted
    split
    · exact .setGroup h2
    · exact .bump (.setGroup h2)

theorem State.MemOk.decide_ {s : State} (hm : s.MemOk) {n : Nat} {g : Group} {p : Past} {grids : NMap (List Nat)} : (s.decide_ n g p grids).MemOk :=
  .foldl (fun _ _ hx => .event hx) (.foldl (fun _ _ hx => .logIt hx) (.setGroup hm))

theorem State.MemOk.execSupplyDeadline {s : State} (hm : s.MemOk) {group : Nat} : NextOk (execSupplyDeadline group s) := by
  refine .next (.ite hm ?_)
  split
  · exact hm
  · split
    · exact hm
    · exact .decide_ (.ite (.writeTracks (.setGroup hm)) (.setGroup hm))

theorem State.MemOk.execHealthRecordDue {s : State} (hm : s.MemOk) {group : Nat} : NextOk (execHealthRecordDue group s) := by
  refine .next (.whileUp hm ?_)
  split
  · exact hm
  · refine .ite hm ?_
    split
    · exact hm
    · exact .setGroup (.foldl (fun _ _ hx => .plySend hx) hm)

theorem State.MemOk.execPlannerSliceFault {s : State} (hm : s.MemOk) {slice : Nat} {pkt : Option Nat} : NextOk (execPlannerSliceFault slice pkt s) := by
  refine .next (.whileUp hm (.ite hm (.ite ?_ (.raise (.fence ?_)))))
  · split
    · exact .finish (.fence (.upd hm))
    · exact .fence (.upd hm)
  · split
    · exact .finish (.fence (.upd hm))
    · exact .fence (.upd hm)

theorem State.MemOk.execSolvePipeFault {s : State} (hm : s.MemOk) {pipe cause : Nat} : NextOk (execSolvePipeFault pipe cause s) := by
  refine .next (.whileUp hm (.ite hm ?_))
  extract_lets _ s1
  have h1 : s1.MemOk := .upd hm
  split
  · exact .fence h1
  · extract_lets s2 s3
    have h3 : s3.MemOk := by
      unfold s3
      split
      · exact .finish (.fence h1)
      · exact .fence h1
    split
    · exact .setSystem h3
    · exact .ite (.raise (.setSystem h3)) (.setSystem h3)

theorem State.MemOk.fenceLoop {s : State} (hm : s.MemOk) {n cause k : Nat} : (s.fenceLoop n cause k).MemOk := by
  induction k generalizing s n cause with
  | zero => exact hm
  | succ k ih =>
    unfold State.fenceLoop
    split
    · exact hm
    · refine .ite hm ?_
      extract_lets s1 s2 s3
      have h2 : s2.MemOk := .bump (.fence (.setLoop hm))
      have h3 : s3.MemOk := by
        unfold s3
        split
        · exact ih h2
        · exact h2
      refine .foldl (fun x i hx => ?_) h3
      split
      · exact .ite (ih hx) hx
      · exact hx

theorem State.MemOk.stepLoop {s : State} (hm : s.MemOk) {n t : Nat} : (s.stepLoop n t).MemOk := by
  unfold State.stepLoop
  split
  · exact hm
  · refine .ite hm (.ite (.setLoop hm) (.ite (.setLoop hm) ?_))
    dsimp only
    split
    · exact .fenceLoop (.setLoop hm)
    · refine .ite (.setLoop hm) ?_
      split
      · exact .setLoop hm
      · exact .ite (.setLoop hm) (.setLoop hm)

theorem State.MemOk.endLoop {s : State} (hm : s.MemOk) {n t : Nat} : (s.endLoop n t).1.MemOk := by
  unfold State.endLoop
  split
  · exact hm
  · split
    · exact hm
    · exact .foldl (fun _ _ hx => .finish hx) (.foldl (fun _ _ hx => .setLoop hx) hm)

theorem State.MemOk.loopTick {s : State} (hm : s.MemOk) : s.loopTick.MemOk := by
  unfold State.loopTick
  extract_lets on time dueAll
  split
  · exact hm
  · extract_lets due s1 s2
    have h2 : s2.MemOk := .foldl (fun _ _ hx => .setLoop hx) (.foldl (fun _ _ hx => .stepLoop hx) hm)
    split
    rename_i s3 sent ended
    have h3 : s3.MemOk := by
      refine .of_fst (.foldl_fst ?_ h2) ended
      exact fun _ _ hx => .endLoop hx
    exact .sendLoops h3

theorem State.MemOk.execLoopTick {s : State} (hm : s.MemOk) : NextOk (execLoopTick s) := by
  refine .next ?_
  split
  · exact .loopTick hm
  · exact hm

theorem State.MemOk.execLoopFeedbackFrame {s : State} (hm : s.MemOk) {can : Bool} {port id : Nat} {payload : List Byte} : NextOk (execLoopFeedbackFrame can port id payload s) :=
  .next (.ite hm (.ite (.upd hm) (.upd hm)))

theorem State.MemOk.sendHello {s : State} (hm : s.MemOk) {n : Nat} : (s.sendHello n).MemOk :=
  .plyOut hm

theorem State.MemOk.execPlyLinkTrained {s : State} (hm : s.MemOk) {port : Nat} : NextOk (execPlyLinkTrained port s) := by
  refine .next (.ite hm ?_)
  split
  · exact .ite hm (.sendHello (.setPlyPort hm))
  · exact .sendHello (.setPlyPort hm)
  · exact hm

theorem State.MemOk.portDown {s : State} (hm : s.MemOk) {n : Nat} {mode : PlyPortMode} : (s.portDown n mode).MemOk := by
  unfold State.portDown
  refine .floodOwn (.foldl (fun _ _ hx => ?_) (.setPlyPort hm))
  split
  · exact .plyOut hx
  · exact .bump (.setPlyPort hx)

theorem State.MemOk.execPlyLaneError {s : State} (hm : s.MemOk) {port : Nat} : NextOk (execPlyLaneError port s) :=
  .next (.whileUp hm (.ite hm (.ite (.logIt (.setPlyPort hm)) (.fence (.portDown hm)))))

theorem State.MemOk.execPlyCrcFail {s : State} (hm : s.MemOk) {port seq : Nat} : NextOk (execPlyCrcFail port seq s) := by
  refine .next (.whileUp hm ?_)
  split
  · exact .emit (.bump (.setPlyPort hm))
  · exact hm

theorem State.MemOk.execPlyLinkTimeout {s : State} (hm : s.MemOk) {port : Nat} : NextOk (execPlyLinkTimeout port s) :=
  .next (.whileUp hm (.ite (.logIt (.portDown hm)) hm))

theorem State.MemOk.execPlyIdleEmit {s : State} (hm : s.MemOk) {port : Nat} : NextOk (execPlyIdleEmit port s) :=
  .next (.whileUp hm (.ite (.plyOut hm) hm))

theorem State.MemOk.plyDiscard {s : State} (hm : s.MemOk) {port : Nat} : (s.plyDiscard port).MemOk :=
  .logIt (.bump (.setPlyPort (.upd hm)))

theorem State.MemOk.plyReceive {s : State} (hm : s.MemOk) {port : Nat} {h : PlyHead} {m : PlyMsg} {take : State → State} (htake : ∀ x : State, x.MemOk → (take x).MemOk) : (s.plyReceive port h m take).MemOk := by
  unfold State.plyReceive
  extract_lets q s1
  have h1 : s1.MemOk := .setPlyPort hm
  refine .ite hm (.ite (.plyDiscard hm) (.ite (htake _ h1) (.ite (.plyDiscard h1) (.ite (htake _ h1) (.ite (.plyDiscard h1) ?_)))))
  split
  · exact .emit h1
  · exact .plyDiscard h1

theorem State.MemOk.execIdle {s : State} (hm : s.MemOk) {port : Nat} {h : PlyHead} : NextOk (execIdle port h s) :=
  .next (.whileUp hm (.plyReceive hm (fun _ hy => hy)))

theorem State.MemOk.takeHello {s : State} (hm : s.MemOk) {port node serial peer epoch : Nat} : (s.takeHello port node serial peer epoch).MemOk :=
  .ite (.ite (.sendHello (.floodOwn (.setPlyPort hm))) (.setPlyPort hm)) (.ite (.floodOwn (.setPlyPort hm)) (.sendHello (.setPlyPort hm)))

theorem State.MemOk.execHello {s : State} (hm : s.MemOk) {port : Nat} {h : PlyHead} {node serial peer epoch : Nat} : NextOk (execHello port h node serial peer epoch s) :=
  .next (.whileUp hm (.plyReceive hm (fun _ hy => .takeHello hy)))

theorem State.MemOk.takeLsr {s : State} (hm : s.MemOk) {port : Nat} {r : Lsr} : (s.takeLsr port r).MemOk :=
  .ite hm (.ite hm (.ite (.fence (.logIt (.leaveFabric (.foldl (fun _ _ hx => .plyOut hx) (.upd hm))))) (.foldl (fun _ _ hx => .plyOut hx) (.upd hm))))

theorem State.MemOk.execLsr {s : State} (hm : s.MemOk) {port : Nat} {h : PlyHead} {r : Lsr} : NextOk (execLsr port h r s) :=
  .next (.whileUp hm (.plyReceive hm (fun _ hy => .takeLsr hy)))

theorem State.MemOk.execLsrRefresh {s : State} (hm : s.MemOk) : NextOk (execLsrRefresh s) :=
  .next (.ite hm (.floodOwn hm))

theorem State.MemOk.execLsrExpiry {s : State} (hm : s.MemOk) {node : Nat} : NextOk (execLsrExpiry node s) :=
  .next (.whileUp hm (.upd hm))

theorem State.MemOk.makePeerBobbin {s : State} (hm : s.MemOk) {node : Nat} : (s.makePeerBobbin node).MemOk := by
  unfold State.makePeerBobbin
  split
  · exact hm
  · exact .setBob (.drawn hm)

theorem State.MemOk.confirmRevokes {s : State} (hm : s.MemOk) : s.confirmRevokes.MemOk :=
  .foldl (fun _ _ hx => .plySend hx) (.upd hm)

theorem State.MemOk.swapTable {s : State} (hm : s.MemOk) {t : NMap Route} : (s.swapTable t).MemOk := by
  unfold State.swapTable
  extract_lets gone came _ s1 s2 role fresh _ _ s3 s4
  have h2 : s2.MemOk := .foldl (fun _ _ hx => .makePeerBobbin hx) (.foldl (fun _ _ hx => .logIt (.loseNode hx)) (.upd hm))
  have h3 : s3.MemOk := .upd h2
  have h4 : s4.MemOk := .ite (.ite h3 (.raise h3)) (.endCause h3)
  exact .confirmRevokes (.ite h4 (.recompute h4))

theorem State.MemOk.execRoutingTableSwap {s : State} (hm : s.MemOk) : NextOk (execRoutingTableSwap s) :=
  .next (.ite (.swapTable hm) hm)

theorem State.MemOk.openRecord {s : State} (hm : s.MemOk) {node ctx ownerCtx tag level : Nat} : (s.openRecord node ctx ownerCtx tag level).1.MemOk := by
  unfold State.openRecord
  split
  · exact hm
  · exact .bump (.upd hm)

theorem State.MemOk.takeWrite {s : State} (hm : s.MemOk) {port src off tag tenant ctx dtag dlevel : Nat} {data : List Byte} : (s.takeWrite port src off tag tenant ctx dtag dlevel data).MemOk := by
  unfold State.takeWrite
  split
  · exact .plyDiscard hm
  · refine .ite hm (.ite (.plySend (.store hm)) (.ite (.plySend hm) ?_))
    split
    rename_i opened
    have h1 := State.MemOk.of_fst (.openRecord hm) opened
    split <;> rename_i made
    · exact .plySend (.draftStore ((State.MemOk.allocLines h1).of_ok made))
    · exact .plySend ((State.MemOk.allocLines h1).of_self made)
    · exact hm

theorem State.MemOk.execWrite {s : State} (hm : s.MemOk) {port : Nat} {h : PlyHead} {offset tag tenant ctx dtag dlevel : Nat} {data : List Byte} : NextOk (execWrite port h offset tag tenant ctx dtag dlevel data s) :=
  .next (.whileUp hm (.plyReceive hm (fun _ hy => .takeWrite hy)))

theorem State.MemOk.execReadReq {s : State} (hm : s.MemOk) {port : Nat} {h : PlyHead} {offset tag tenant ctx bytes : Nat} : NextOk (execReadReq port h offset tag tenant ctx bytes s) := by
  refine .next (.whileUp hm (.plyReceive hm (fun _ hy => .ite ?_ ?_)))
  · split
    · exact .plySend hy
    · exact .plyDiscard hy
  · split
    · exact .ite hy (.plySend hy)
    · exact .plyDiscard hy

theorem State.MemOk.takeRead {s : State} (hm : s.MemOk) {src tag : Nat} {data : List Byte} : (s.takeRead src tag data).MemOk := by
  unfold State.takeRead
  split
  · exact hm
  · refine .confirmRevokes ?_
    split <;> exact .upd (.upd hm)

theorem State.MemOk.execReadRsp {s : State} (hm : s.MemOk) {port : Nat} {h : PlyHead} {tag : Nat} {data : List Byte} : NextOk (execReadRsp port h tag data s) :=
  .next (.whileUp hm (.plyReceive hm (fun _ hy => .takeRead hy)))

theorem State.MemOk.takeAck {s : State} (hm : s.MemOk) {src tag : Nat} : (s.takeAck src tag).MemOk :=
  .confirmRevokes (.upd hm)

theorem State.MemOk.execWriteAck {s : State} (hm : s.MemOk) {port : Nat} {h : PlyHead} {tag : Nat} : NextOk (execWriteAck port h tag s) :=
  .next (.whileUp hm (.plyReceive hm (fun _ hy => .takeAck hy)))

theorem State.MemOk.controlStore {s : State} (hm : s.MemOk) {node off : Nat} {data : List Byte} : (s.controlStore node off data).MemOk := by
  unfold State.controlStore
  split
  · exact hm
  · exact .ite (.store hm) (.ite (.doorbell hm) (.ite (.cplBell hm) hm))

theorem State.MemOk.peerPrepare {s : State} (hm : s.MemOk) {k : DraftKey} : (s.peerPrepare k).MemOk := by
  unfold State.peerPrepare
  split
  · exact .plySend (.setDraft hm)
  · exact .plySend hm

theorem State.MemOk.peerCommit {s : State} (hm : s.MemOk) {k : DraftKey} {parent : Nat} : (s.peerCommit k parent).MemOk := by
  unfold State.peerCommit
  split
  · exact .ite (.commitRecord hm) hm
  · exact hm

theorem State.MemOk.peerUnravel {s : State} (hm : s.MemOk) {k : DraftKey} : (s.peerUnravel k).MemOk := by
  unfold State.peerUnravel
  split
  · exact .logIt (.discard hm)
  · exact hm

theorem State.MemOk.peerRelease {s : State} (hm : s.MemOk) {k : DraftKey} : (s.peerRelease k).MemOk := by
  unfold State.peerRelease
  split
  · exact .setDraft hm
  · exact hm

theorem State.MemOk.takeRefusal {s : State} (hm : s.MemOk) {src tag : Nat} : (s.takeRefusal src tag).MemOk := by
  unfold State.takeRefusal
  split
  · exact hm
  · split
    · exact .finish hm
    · exact hm

theorem State.MemOk.takeWindow {s : State} (hm : s.MemOk) {node seg : Nat} {granted : Bool} {tenant offset granules : Nat} {read write : Bool} : (s.takeWindow node seg granted tenant offset granules read write).MemOk :=
  .ite (.plySend (.upd hm)) (.confirmRevokes (.upd hm))

theorem State.MemOk.windowDone {s : State} (hm : s.MemOk) {node seg : Nat} {granted : Bool} : (s.windowDone node seg granted).MemOk :=
  .foldl (fun _ _ hx => .finish hx) (.upd hm)

theorem State.MemOk.collStopped {s : State} (hm : s.MemOk) {tenant id node : Nat} : (s.collStopped tenant id node).MemOk := by
  unfold State.collStopped
  split
  · exact .finish hm
  · exact hm

theorem State.MemOk.takeControl {s d : State} (hm : s.MemOk) (hd : d.MemOk) {src : Nat} {m : PlyMsg} : ((s.takeControl src m).getD d).MemOk := by
  unfold State.takeControl
  split
  · exact .controlStore hm
  · exact .peerPrepare hm
  · rw [Option.getD_some]
    split
    · exact .takeVote hm
    · exact hm
  · exact .peerCommit hm
  · exact .peerUnravel hm
  · exact .peerRelease hm
  · exact .takeRefusal hm
  · exact .takeWindow hm
  · exact .windowDone hm
  · exact .collStopped hm
  · exact hd

theorem State.MemOk.execControl {s : State} (hm : s.MemOk) {port : Nat} {h : PlyHead} {m : PlyMsg} : NextOk (execControl port h m s) :=
  .next (.whileUp hm (.plyReceive hm fun _ hy => .ite (.plyDiscard hy) (.takeControl hy (.plyDiscard hy))))

theorem State.MemOk.takeHealth {s : State} (hm : s.MemOk) {h : Health} : (s.takeHealth h).MemOk := by
  unfold State.takeHealth
  split
  · exact .logIt hm
  · exact .ite (.logIt (.setGroup hm)) (.setGroup hm)

theorem State.MemOk.peerConfig {s : State} (hm : s.MemOk) {node stream crc : Nat} : (s.peerConfig node stream crc).MemOk := by
  unfold State.peerConfig
  dsimp only
  split
  · exact .ite (.upd hm) (.ite (.logIt (.setCompare (.upd hm))) (.setCompare (.upd hm)))
  · exact .upd hm

theorem State.MemOk.peerRecord {s : State} (hm : s.MemOk) {node stream stamp : Nat} {values : List Nat} : (s.peerRecord node stream stamp values).MemOk := by
  unfold State.peerRecord
  split
  · exact .ite (.compareRecord hm) hm
  · exact hm

theorem State.MemOk.takeReport {s : State} (hm : s.MemOk) {node : Nat} {r : TensReport} : (s.takeReport node r).MemOk := by
  unfold State.takeReport
  refine .ite (.recompute (.upd hm)) (.ite (.ite (.sendRaised (.upd hm)) (.upd hm)) ?_)
  split
  · exact .ite (.ite (.sendRaised (.upd hm)) (.upd hm)) (.sendGrant (.ite (.sendRaised (.upd hm)) (.upd hm)))
  · exact .ite (.sendRaised (.upd hm)) (.upd hm)

theorem State.MemOk.learnBudget {s : State} (hm : s.MemOk) {mw : Nat} : (s.learnBudget mw).MemOk :=
  .foldl (fun _ _ hx => .finish hx) (.upd hm)

theorem State.MemOk.budgetRefused {s : State} (hm : s.MemOk) {floors : Nat} : (s.budgetRefused floors).MemOk :=
  .foldl (fun _ _ hx => .finish hx) hm

theorem State.MemOk.takeSafety {s d : State} (hm : s.MemOk) (hd : d.MemOk) {src : Nat} {m : PlyMsg} : ((s.takeSafety src m).getD d).MemOk := by
  unfold State.takeSafety
  split
  · exact .takeHealth hm
  · exact .peerConfig hm
  · exact .peerRecord hm
  · exact .ite (.takeReport hm) hm
  · exact .applyGrant hm
  · exact .learnBudget hm
  · rw [Option.getD_some]
    split
    · exact .plySend (.of_snd hm.setBudget ‹_›)
    · exact .of_snd hm.setBudget ‹_›
  · exact .budgetRefused hm
  · exact .setOver hm
  · exact hd

theorem State.MemOk.execSafety {s : State} (hm : s.MemOk) {port : Nat} {h : PlyHead} {m : PlyMsg} : NextOk (execSafety port h m s) :=
  .next (.whileUp hm (.plyReceive hm fun _ hy => .ite (.plyDiscard hy) (.takeSafety hy (.plyDiscard hy))))

theorem State.MemOk.takeColl {s : State} (hm : s.MemOk) {src : Nat} {k : CollKey} {data : List Byte} : (s.takeColl src k data).MemOk := by
  unfold State.takeColl
  split <;> exact .upd hm

theorem State.MemOk.execCollectiveFrame {s : State} (hm : s.MemOk) {port : Nat} {h : PlyHead} {k : CollKey} {data : List Byte} : NextOk (execCollectiveFrame port h k data s) :=
  .next (.whileUp hm (.plyReceive hm (fun _ hy => .takeColl hy)))

theorem State.MemOk.execEthernet {s : State} (hm : s.MemOk) {port : Nat} {h : PlyHead} {data : List Byte} : NextOk (execEthernet port h data s) :=
  .next (.whileUp hm (.plyReceive hm (fun _ hy => .ite (.hostReceive hy) hy)))

theorem State.MemOk.failJoin {s : State} (hm : s.MemOk) {id n : Nat} : (s.failJoin id n).MemOk :=
  .finish (.upd (.foldl (fun _ _ hx => .setPlyPort hx) hm))

theorem State.MemOk.execJoinTrainingTimeout {s : State} (hm : s.MemOk) : NextOk (execJoinTrainingTimeout s) := by
  refine .next (.whileUp hm ?_)
  split
  · exact .ite hm (.failJoin hm)
  · exact hm

theorem State.MemOk.execJoinDatabaseSettled {s : State} (hm : s.MemOk) : NextOk (execJoinDatabaseSettled s) := by
  refine .next (.whileUp hm ?_)
  split
  · exact hm
  · refine .ite hm ?_
    dsimp only
    split
    · exact .ite (.failJoin (.logIt hm)) (.ite (.failJoin hm) (.finish (.swapTable (.upd hm))))
    · exact .ite (.failJoin hm) (.finish (.swapTable (.upd hm)))

theorem State.MemOk.execLeaveDrainEnd {s : State} (hm : s.MemOk) : NextOk (execLeaveDrainEnd s) :=
  .next (.whileUp hm (.ite (.leaveFabric hm) hm))

theorem State.MemOk.execCollectiveMatch {s : State} (hm : s.MemOk) {id : Nat} : NextOk (execCollectiveMatch id s) := by
  refine .next (.whileUp hm ?_)
  split
  · split
    · exact .ite hm (.ite (.finish hm) (.ite hm (.startWork hm)))
    · exact hm
  · exact hm

theorem State.MemOk.execRemoteAccess {s : State} (hm : s.MemOk) {who : Accessor} {addr : Nat} {data : Option (List Byte)} {bytes : Nat} : NextOk (execRemoteAccess who addr data bytes s) := by
  refine .next ?_
  extract_lets n
  split
  · refine .ite (.logIt hm) ?_
    split
    · exact .ite (.plySend hm) (.upd (.plySend hm))
    · exact .upd (.plySend hm)
  · exact hm

theorem State.MemOk.hintStage {s : State} (hm : s.MemOk) {c : Nat} {a b : HintStage} : (s.hintStage c a b).MemOk := .upd hm

theorem State.MemOk.execHintWindowOpen {s : State} (hm : s.MemOk) {ctx : Nat} : NextOk (execHintWindowOpen ctx s) :=
  .next (.whileUp hm (.hintStage hm))

theorem State.MemOk.execHintWindowClose {s : State} (hm : s.MemOk) {ctx : Nat} : NextOk (execHintWindowClose ctx s) :=
  .next (.whileUp hm (.hintStage hm))

theorem State.MemOk.execHintRailsDisarm {s : State} (hm : s.MemOk) {ctx : Nat} : NextOk (execHintRailsDisarm ctx s) :=
  .next (.whileUp hm (.upd hm))

theorem State.MemOk.govDown {s : State} (hm : s.MemOk) {est : List Nat} : (s.govDown est).MemOk := by
  unfold State.govDown
  refine .ite (.trace (.upd hm)) ?_
  split
  · exact .trace (.upd hm)
  · exact .ite (.trace (.upd hm)) (.ite (.trace (.upd hm)) hm)

theorem State.MemOk.govUp {s : State} (hm : s.MemOk) : s.govUp.MemOk := by
  unfold State.govUp
  refine .ite (.trace (.upd hm)) (.ite (.trace (.upd hm)) ?_)
  split <;> exact .trace (.upd hm)

theorem State.MemOk.execGovernorDecision {s : State} (hm : s.MemOk) {est : Nat} {cores : List Nat} : NextOk (execGovernorDecision est cores s) := by
  refine .next (.ite hm (.ite (.govDown hm) ?_))
  split
  · exact .ite (.govUp hm) hm
  · exact hm

theorem State.MemOk.execPowerCalibration {s : State} (hm : s.MemOk) {draw : Nat} {energy : List (Nat × Nat)} {bad : List Nat} : NextOk (execPowerCalibration draw energy bad s) :=
  .next (.ite hm (.foldl (fun _ _ hx => .logIt hx) (.upd hm)))

theorem State.MemOk.execDroopDetect {s : State} (hm : s.MemOk) {rail : Nat} {recovered : Bool} : NextOk (execDroopDetect rail recovered s) :=
  .next (.ite hm (.ite (.upd hm) (.ite hm (.logIt (.bump (.upd (.upd hm)))))))

theorem State.MemOk.execRegulatorPhaseFault {s : State} (hm : s.MemOk) {rail : Nat} {carries : Bool} : NextOk (execRegulatorPhaseFault rail carries s) := by
  refine .next (.ite hm ?_)
  extract_lets r put s0 s1
  have h0 : s0.MemOk := .bump (.upd hm)
  refine .ite (.fence (.spliceRec (.upd h0))) ?_
  have h1 : s1.MemOk := .raise (.fence (.spliceRec (.upd h0)))
  split
  · exact h1
  · exact .ite (.upd h1) (.ite h1 (.fenceCore h1))

theorem State.MemOk.execTensionReportDue {s : State} (hm : s.MemOk) : NextOk (execTensionReportDue s) := by
  refine .next (.ite hm (.ite (.takeReport hm) ?_))
  split
  · exact .plySend hm
  · exact hm

theorem State.MemOk.execTensionReport {s : State} (hm : s.MemOk) {node floor want power : Nat} : NextOk (execTensionReport node floor want power s) :=
  .next (.ite (.takeReport hm) hm)

theorem State.MemOk.execGrantReceived {s : State} (hm : s.MemOk) {mw : Nat} : NextOk (execGrantReceived mw s) :=
  .next (.ite (.applyGrant hm) hm)

theorem State.MemOk.execRaisedGrantTimeout {s : State} (hm : s.MemOk) : NextOk (execRaisedGrantTimeout s) :=
  .next (.whileUp hm (.ite (.sendRaised hm) hm))

theorem State.MemOk.execCoordinatorCollectEnd {s : State} (hm : s.MemOk) : NextOk (execCoordinatorCollectEnd s) :=
  .next (.whileUp hm (.ite (.recompute (.upd hm)) hm))

theorem State.MemOk.thermalSample {s : State} (hm : s.MemOk) {temps : List Int} : (s.thermalSample temps).MemOk :=
  .ite hm (.ite (.upd hm) (.raise (.logIt (.upd (.upd hm)))))

theorem State.MemOk.execThermalSample {s : State} (hm : s.MemOk) {temps : List Int} : NextOk (execThermalSample temps s) :=
  .next (.whileUp hm (.drainAcks (.thermalSample hm)))

theorem State.MemOk.execThermalTrip {s : State} (hm : s.MemOk) : NextOk (execThermalTrip s) :=
  .next (.ite (.upd hm) hm)

theorem State.MemOk.execAgeCheck {s : State} (hm : s.MemOk) : NextOk (execAgeCheck s) := by
  refine .next (.ite hm (.foldl (fun _ _ hx => ?_) hm))
  split
  · exact .ite (.expire hx) hx
  · exact hx

theorem State.MemOk.execDeadlineOverrun {s : State} (hm : s.MemOk) {id : Nat} : NextOk (execDeadlineOverrun id s) := by
  refine .next ?_
  split
  · exact .ite (.raise (.logIt (.upd hm))) hm
  · exact hm

theorem State.MemOk.execOverrunClear {s : State} (hm : s.MemOk) : NextOk (execOverrunClear s) :=
  .next (.whileUp hm (.endCause (.upd hm)))

theorem State.MemOk.execDistaffFault {s : State} (hm : s.MemOk) {pair : Nat} : NextOk (execDistaffFault pair s) :=
  .next (.whileUp hm (.ite hm (.raiseHold (.logIt (.upd hm)))))

theorem State.MemOk.sendStatus {s : State} (hm : s.MemOk) {c : Carrier} : (s.sendStatus c).MemOk :=
  .upd (.emit (.oobNext hm))

theorem State.MemOk.execStatusFramePeriodic {s : State} (hm : s.MemOk) {c : Carrier} : NextOk (execStatusFramePeriodic c s) :=
  .next (.ite hm (.upd (.sendStatus hm)))

theorem State.MemOk.execStatusFrameChange {s : State} (hm : s.MemOk) {c : Carrier} : NextOk (execStatusFrameChange c s) :=
  .next (.ite hm (.sendStatus hm))

theorem State.MemOk.execStatusCfgWrite {s : State} (hm : s.MemOk) {who : Accessor} {v : Word} : NextOk (execStatusCfgWrite who v s) :=
  .next (.paged hm (fun _ hy => .writeStatusCfg hy))

theorem State.MemOk.execHostWdEnable {s : State} (hm : s.MemOk) {who : Accessor} {v : Word} : NextOk (execHostWdEnable who v s) :=
  .next (.paged hm (fun _ hy => .writeHostWd hy))

theorem State.MemOk.execHostWdKick {s : State} (hm : s.MemOk) {who : Accessor} {v : Word} : NextOk (execHostWdKick who v s) :=
  .next (.paged hm (fun _ hy => .writeHostWd hy))

theorem State.MemOk.execHostWdExpiry {s : State} (hm : s.MemOk) : NextOk (execHostWdExpiry s) := by
  refine .next ?_
  split
  · exact .ite hm (.raise (.logIt (.upd hm)))
  · exact hm

theorem State.MemOk.execAtRestTimeout {s : State} (hm : s.MemOk) : NextOk (execAtRestTimeout s) :=
  .next (.whileUp hm (.ite (.logLapse (.upd hm)) hm))

theorem State.MemOk.execPairCompareRecord {s : State} (hm : s.MemOk) {node stream stamp : Nat} {values : List Nat} : NextOk (execPairCompareRecord node stream stamp values s) :=
  .next (.whileUp hm (.peerRecord hm))

theorem State.MemOk.execPairMatchTimeout {s : State} (hm : s.MemOk) {stream : Nat} : NextOk (execPairMatchTimeout stream s) := by
  refine .next (.whileUp hm ?_)
  split
  · split
    · exact .setCompare hm
    · exact hm
  · exact hm

theorem State.MemOk.execEnterSleep {s : State} (hm : s.MemOk) {who : Accessor} {v : Word} : NextOk (execEnterSleep who v s) :=
  .next (.paged hm (fun _ hy => .enterSleep (.writePwrCtl hy)))

theorem State.MemOk.evictForSleep {s : State} (hm : s.MemOk) {k : Nat} : (s.evictForSleep k).MemOk := by
  induction k generalizing s with
  | zero => exact hm
  | succ k ih =>
    unfold State.evictForSleep
    split
    · exact ih (.evict hm)
    · exact hm

theorem State.MemOk.channelsOff {s : State} (hm : s.MemOk) : s.channelsOff.MemOk :=
  .foldl (fun _ _ hx => .finish hx) (.upd hm)

theorem State.MemOk.endWork {s : State} (hm : s.MemOk) : s.endWork.MemOk :=
  .upd (.dropTimed (.channelsOff (.stopLoops (.evictForSleep hm))))

theorem State.MemOk.reset : State.reset.MemOk := State.reset_canon

theorem State.MemOk.toSleep {s : State} (hm : s.MemOk) : s.toSleep.MemOk := State.toSleep_canon hm

theorem State.MemOk.startWake {s : State} (hm : s.MemOk) {sources : Nat} : (s.startWake sources).MemOk := .upd hm

theorem State.MemOk.reachSleep {s : State} (hm : s.MemOk) : s.reachSleep.MemOk :=
  .ite (.toSleep hm) (.startWake (.toSleep hm))

theorem State.MemOk.execSleepEntryStage {s : State} (hm : s.MemOk) : NextOk (execSleepEntryStage s) := by
  refine .next ?_
  split
  · dsimp only
    split
    · exact .upd hm
    · exact .upd (.foldl (fun _ _ hx => .sendStatus hx) hm)
    · exact .ite (.upd (.leaveFabric hm)) (.upd (.leaveFabric (.floodOwn (.upd hm))))
    · exact .ite hm (.upd (.endWork hm))
    · exact .upd (.logIt hm)
    · exact .reachSleep (.stopMany hm)
  · exact hm

theorem State.MemOk.execDozeEnWrite {s : State} (hm : s.MemOk) {who : Accessor} {v : Word} : NextOk (execDozeEnWrite who v s) :=
  .next (.paged hm (fun _ hy => .writePwrCtl hy))

theorem State.MemOk.execDozeIdleExpiry {s : State} (hm : s.MemOk) {domain : Nat} : NextOk (execDozeIdleExpiry domain s) :=
  .next (.ite (.upd hm) hm)

theorem State.MemOk.qualify {s : State} (hm : s.MemOk) {source : Nat} : (s.qualify source).MemOk := by
  unfold State.qualify
  split
  · exact .upd hm
  · exact .startWake hm
  · exact .ite (.upd hm) hm
  · exact hm

theorem State.MemOk.execWakeIn {s : State} (hm : s.MemOk) : NextOk (execWakeIn s) :=
  .next (.ite (.qualify hm) hm)

theorem State.MemOk.execWakeFrame {s : State} (hm : s.MemOk) {port id : Nat} : NextOk (execWakeFrame port id s) :=
  .next (.ite (.qualify hm) hm)

theorem State.MemOk.execWakeTimer {s : State} (hm : s.MemOk) : NextOk (execWakeTimer s) :=
  .next (.ite (.qualify hm) hm)

theorem State.MemOk.takeSpare {s : State} (hm : s.MemOk) {row unit : Nat} : (s.takeSpare row unit).MemOk :=
  .spliceRec (.upd hm)

theorem State.MemOk.restartTime {s : State} (hm : s.MemOk) {reset : Bool} : (s.restartTime reset).MemOk := .upd hm

theorem State.MemOk.bootImages {s : State} (hm : s.MemOk) : s.bootImages.MemOk := by
  unfold State.bootImages
  split
  · exact .upd (.ite (.ite hm (.logIt hm)) (.logIt (.ite hm (.logIt hm))))
  · exact .logIt (.upd hm)

theorem State.MemOk.applyEntry {s : State} (hm : s.MemOk) {e : Nat × Nat × Nat} : (s.applyEntry e).MemOk := by
  obtain ⟨a, m, v⟩ := e
  unfold State.applyEntry
  dsimp only
  split
  · rename_i w found
    have hw : w ∈ s.rwWord (a - 0x020000000000) := by
      split at found
      · exact found
      · cases found
    exact .ite (.logIt hm) (hm.rwWord w hw _)
  · exact .logIt hm

theorem State.MemOk.applyRecord {s : State} (hm : s.MemOk) {r : List Byte} : (s.applyRecord r).MemOk :=
  .foldl (fun _ _ hx => .applyEntry hx) hm

theorem State.MemOk.runFactory {s : State} (hm : s.MemOk) {d : Nat} : (s.runFactory d).MemOk :=
  .logIt (.raise (.upd hm))

theorem State.MemOk.bootConfig {s : State} (hm : s.MemOk) : s.bootConfig.MemOk := by
  unfold State.bootConfig
  dsimp only
  split
  · exact .applyRecord (.runFactory hm)
  · exact .ite (.applyRecord (.runFactory hm)) (.applyRecord (.foldl (fun _ _ hx => .logIt hx) (.upd hm)))

theorem State.MemOk.bootUpdate {s : State} (hm : s.MemOk) : s.bootUpdate.MemOk := by
  unfold State.bootUpdate
  split
  · exact hm
  · exact .ite (.upd hm) (.upd (.raiseCounter hm))

theorem State.MemOk.boot {s : State} (hm : s.MemOk) : s.boot.MemOk :=
  .ite (.bootImages hm) (.bootConfig (.bootUpdate (.bootImages hm)))

theorem State.MemOk.wakeCauses {s : State} (hm : s.MemOk) : s.wakeCauses.MemOk :=
  .setCauses hm

theorem State.MemOk.wakeUp {s : State} (hm : s.MemOk) : s.wakeUp.MemOk :=
  .logIt (.boot (.recompute (.wakeCauses (.upd (.foldl (fun _ _ hx => .setCtx (.wipeCtx hx)) hm)))))

theorem State.MemOk.execWakeReady {s : State} (hm : s.MemOk) : NextOk (execWakeReady s) := by
  refine .next ?_
  split
  · refine .ite hm ?_
    extract_lets s1 _ s2
    have h2 : s2.MemOk := .upd (.ite (.takeSpare hm) hm)
    exact .ite h2 (.ite (.restartTime h2) (.ite h2 (.ite (.logIt (.boot (.upd h2))) (.wakeUp h2))))
  · exact hm

theorem State.MemOk.wakeFailFrame {s : State} (hm : s.MemOk) : s.wakeFailFrame.MemOk :=
  .emit hm

theorem State.MemOk.wakeFail {s : State} (hm : s.MemOk) {w : Waking} {island : Bool} : (s.wakeFail w island).MemOk :=
  .ite (.logIt (.upd hm)) (.wakeFailFrame (.logIt (.upd hm)))

theorem State.MemOk.execWakeReadyTimeout {s : State} (hm : s.MemOk) {unit : Nat} {island : Bool} : NextOk (execWakeReadyTimeout unit island s) := by
  refine .next ?_
  split
  · exact .ite hm (.ite (.upd hm) (.wakeFail hm))
  · exact hm

theorem State.MemOk.execWakeRetryPauseEnd {s : State} (hm : s.MemOk) : NextOk (execWakeRetryPauseEnd s) := by
  refine .next ?_
  split
  · exact .ite hm (.upd hm)
  · exact hm

theorem State.MemOk.execWakeFailRepeat {s : State} (hm : s.MemOk) : NextOk (execWakeFailRepeat s) :=
  .next (.ite hm (.wakeFailFrame (.upd hm)))

theorem State.MemOk.flagColumn {s : State} (hm : s.MemOk) {pc col : Nat} : (s.flagColumn pc col).1.MemOk :=
  .ite_fst (.spliceRec (.upd hm)) (.spareSpent hm)

theorem State.MemOk.immediateSplice {s : State} (hm : s.MemOk) {cls unit trigger : Nat} : (s.immediateSplice cls unit trigger).MemOk := by
  unfold State.immediateSplice
  refine .ite ?_ (.ite (.fenceFlyer hm) (.ite (.upd (.raise hm)) (.raise hm)))
  split
  · exact .failCore hm
  · exact .ite (.fence (.upd hm)) hm

theorem State.MemOk.plannedSplice {s : State} (hm : s.MemOk) {cls unit trigger : Nat} : (s.plannedSplice cls unit trigger).MemOk := by
  unfold State.plannedSplice
  refine .ite ?_ (.ite (.ite hm (.fenceFlyer hm)) (.logIt hm))
  split
  · exact .selectSplice hm
  · exact .ite (.addTest (.upd hm)) hm

theorem State.MemOk.execPathDelayCheck {s : State} (hm : s.MemOk) {cls unit slack : Nat} : NextOk (execPathDelayCheck cls unit slack s) := by
  refine .next (.ite hm (.ite (.ite (.flagColumn hm) ?_) (.ite (.immediateSplice hm) (.ite (.plannedSplice hm) hm))))
  split
  · exact .failCore (.flagColumn hm)
  · exact .flagColumn hm

theorem State.MemOk.execRingOscCheck {s : State} (hm : s.MemOk) {cls unit drop : Nat} : NextOk (execRingOscCheck cls unit drop s) :=
  .next (.ite hm (.plannedSplice hm))

theorem State.MemOk.spliceCore {s : State} (hm : s.MemOk) {x : CoreSplice} {spare : Nat} : (s.spliceCore x spare).MemOk := by
  unfold State.spliceCore
  extract_lets k die old pause lost wasFenced s1 _ s2 s3 s4 s5 s6
  have h4 : s4.MemOk := .foldl (fun _ _ hx => .tearDown hx) (.setCore (.upd (.spliceRec hm)))
  have h5 : s5.MemOk := .ite (.setCore (.clear h4)) h4
  exact .endFixed (.ite (.addTest h5) h5)

theorem State.MemOk.execCoreSplice {s : State} (hm : s.MemOk) {k : Nat} : NextOk (execCoreSplice k s) := by
  refine .next (.whileUp hm ?_)
  split
  · exact .ite (.spliceCore hm) hm
  · exact hm

theorem State.MemOk.clockFails {s : State} (hm : s.MemOk) {what : Nat} : (s.clockFails what).MemOk :=
  .ite (.ite (.raise (.spareSpent hm)) (.spliceRec (.upd hm))) (.ite hm (.ite (.spliceRec (.upd hm)) (.ite (.raise (.spareSpent hm)) (.foldl (fun _ _ hx => .fenceFlyer hx) (.foldl (fun _ _ hx => .ite hx (.failCore hx)) (.spareSpent hm))))))

theorem State.MemOk.execClockFailure {s : State} (hm : s.MemOk) {what : Nat} : NextOk (execClockFailure what s) :=
  .next (.whileUp hm (.drainAcks (.clockFails hm)))

theorem State.MemOk.execRotationSelect {s : State} (hm : s.MemOk) {die : Nat} : NextOk (execRotationSelect die s) := by
  refine .next (.whileUp hm (.ite hm ?_))
  dsimp only
  split
  · exact hm
  · exact .selectSplice (.upd hm)

theorem State.MemOk.unitRetired {s : State} (hm : s.MemOk) {t : Test} : (s.unitRetired t).MemOk :=
  .ite hm (.upd hm)

theorem State.MemOk.unitPasses {s : State} (hm : s.MemOk) {t : Test} : (s.unitPasses t).MemOk := by
  unfold State.unitPasses
  refine .ite hm ?_
  extract_lets _ s1
  have h1 : s1.MemOk := .upd hm
  split
  · split
    · exact .endFixed (.setCore h1)
    · exact .ite (.upd h1) h1
  · exact .upd h1
  · exact h1
  · exact h1
  · exact .endFixed h1

theorem State.MemOk.execSelfTestDone {s : State} (hm : s.MemOk) {engine us : Nat} {pass : Bool} {sig failAddr : Nat} {cols : List Nat} : NextOk (execSelfTestDone engine us pass sig failAddr cols s) := by
  refine .next ?_
  split
  · exact hm
  · refine .ite hm ?_
    extract_lets rest s0
    split
    rename_i s1 colsOk flagged
    have h1 : s1.MemOk := by
      refine .of_fst (.foldl_fst ?_ (.upd hm)) flagged
      exact fun _ _ hx => .flagColumn hx
    extract_lets ok zero s2 s3 s4
    have h2 : s2.MemOk := by
      refine .spliceRec ?_
      unfold zero
      split
      · exact .ite h1 (.clear h1)
      · exact h1
    have h3 : s3.MemOk := .ite (.spliceRec (.unitRetired h2)) (.ite (.unitPasses h2) (.ite (.fence (.unitRetired h2)) (.unitRetired h2)))
    have h4 : s4.MemOk := .ite (.foldl (fun _ _ hx => .spareSpent (.upd hx)) h3) h3
    split
    · exact .finish h4
    · exact h4

theorem State.MemOk.execBreakpointHit {s : State} (hm : s.MemOk) {core slot : Nat} : NextOk (execBreakpointHit core slot s) := by
  refine .next ?_
  split
  · exact .ite hm (.halt hm)
  · exact hm

theorem State.MemOk.execDebugTransportAccess {s : State} (hm : s.MemOk) {core op addr : Nat} {data : List Byte} : NextOk (execDebugTransportAccess core op addr data s) := by
  refine .next (.ite hm ?_)
  split
  · exact .halt (.ite hm (.upd hm))
  · exact .ite (.resume (.ite hm (.upd hm))) (.resume (.ite hm (.upd hm)))
  · exact .ite (.store (.ite hm (.upd hm))) (.ite hm (.upd hm))
  · exact .ite hm (.upd hm)

theorem State.MemOk.selectTap {s : State} (hm : s.MemOk) {t : TapInstr} : (s.selectTap t).MemOk := .upd hm

theorem State.MemOk.execIdcode {s : State} (hm : s.MemOk) : NextOk (execIdcode s) :=
  .next (.selectTap hm)

theorem State.MemOk.execBypass {s : State} (hm : s.MemOk) : NextOk (execBypass s) :=
  .next (.selectTap hm)

theorem State.MemOk.execSamplePreload {s : State} (hm : s.MemOk) : NextOk (execSamplePreload s) :=
  .next (.selectTap hm)

theorem State.MemOk.testTap {s : State} (hm : s.MemOk) {t : TapInstr} : (s.testTap t).MemOk :=
  .selectTap hm

theorem State.MemOk.execExtest {s : State} (hm : s.MemOk) : NextOk (execExtest s) :=
  .next (.testTap hm)

theorem State.MemOk.execIntest {s : State} (hm : s.MemOk) : NextOk (execIntest s) :=
  .next (.testTap hm)

theorem State.MemOk.freshNonce {s : State} (hm : s.MemOk) : s.freshNonce.MemOk :=
  .upd (.drawn hm)

theorem State.MemOk.execDbgNonce {s : State} (hm : s.MemOk) : NextOk (execDbgNonce s) :=
  .next (.whileServing hm (.upd (.freshNonce hm)))

theorem State.MemOk.execDbgToken {s : State} (hm : s.MemOk) {token : List Byte} : NextOk (execDbgToken token s) :=
  .next (.whileServing hm (.ite (.upd (.logIt (.upd hm))) (.ite (.upd (.logIt (.upd hm))) (.ite (.upd (.useToken (.upd hm))) (.upd (.drawn (.useToken (.upd hm))))))))

theorem State.MemOk.execDebugNonceRead {s : State} (hm : s.MemOk) {who : Accessor} : NextOk (execDebugNonceRead who s) := by
  refine .next (.whileServing hm ?_)
  split
  · exact .freshNonce hm
  · exact .freshNonce hm
  · exact .logIt hm

theorem State.MemOk.execKeyCellFail {s : State} (hm : s.MemOk) {slot : Nat} {both : Bool} : NextOk (execKeyCellFail slot both s) :=
  .next (.whileUp hm (.ite hm (.ite (.fence (.setSlot (.emptySlot hm))) (.ite (.raise (.setSlot hm)) (.ite (.raise (.spliceRec (.upd hm))) (.spliceRec (.upd hm)))))))

theorem State.MemOk.execActivationDue {s : State} (hm : s.MemOk) : NextOk (execActivationDue s) :=
  .next (.ite hm (.ite (.logIt (.upd (.upd hm))) (.ite (.logIt (.upd (.discardImage (.upd hm)))) (.beginActivation (.upd hm)))))

theorem State.MemOk.execActivationDrainTimeout {s : State} (hm : s.MemOk) : NextOk (execActivationDrainTimeout s) := by
  refine .next (.whileUp hm ?_)
  split
  · exact .stopMany hm
  · exact hm

theorem State.MemOk.sendAllStatus {s : State} (hm : s.MemOk) : s.sendAllStatus.MemOk :=
  .foldl (fun _ _ hx => .sendStatus hx) hm

theorem State.MemOk.setStage {s : State} (hm : s.MemOk) {a : Activation} {k : ActStage} : (s.setStage a k).MemOk := .upd hm

theorem State.MemOk.applyHalts {s : State} (hm : s.MemOk) : s.applyHalts.MemOk :=
  .foldl (fun _ _ hx => .haltNow hx) (.upd hm)

theorem State.MemOk.execActivationPauseBegin {s : State} (hm : s.MemOk) : NextOk (execActivationPauseBegin s) := by
  refine .next (.whileUp hm ?_)
  split
  · exact hm
  · exact .ite hm (.ite (.putInForce (.upd (.sendAllStatus (.setStage hm)))) (.applyHalts (.logIt (.sendAllStatus (.upd (.putInForce (.upd (.sendAllStatus (.setStage hm)))))))))

theorem State.MemOk.execActivationHoldStage {s : State} (hm : s.MemOk) : NextOk (execActivationHoldStage s) := by
  refine .next (.whileUp hm ?_)
  split
  · exact .setStage hm
  · exact hm

theorem State.MemOk.execDistaffImageRunning {s : State} (hm : s.MemOk) : NextOk (execDistaffImageRunning s) := by
  refine .next (.whileUp hm ?_)
  split
  · exact hm
  · exact .foldl (fun _ _ hx => .takeFrame hx) (.upd (.setStage hm))

theorem State.MemOk.resumeLoops {s : State} (hm : s.MemOk) : s.resumeLoops.MemOk := .upd hm

theorem State.MemOk.execActivationPauseEnd {s : State} (hm : s.MemOk) : NextOk (execActivationPauseEnd s) := by
  refine .next (.whileUp hm ?_)
  split
  · exact hm
  · refine .applyHalts ?_
    split
    · exact .finish (.sendAllStatus (.endActivation (.ite (.restartCores (.resumeLoops (.upd hm))) (.resumeLoops (.upd hm)))))
    · exact .sendAllStatus (.endActivation (.ite (.restartCores (.resumeLoops (.upd hm))) (.resumeLoops (.upd hm))))

theorem State.MemOk.moduleReset {s : State} (_hm : s.MemOk) {powerLoss endpoint : Bool} : (s.moduleReset powerLoss endpoint).MemOk :=
  .upd (.reset )

theorem State.MemOk.setBand {s : State} (hm : s.MemOk) {low : Bool} : (s.setBand low).MemOk := .upd hm

theorem State.MemOk.execPowerUp {s : State} (hm : s.MemOk) {endpoint : Bool} : NextOk (execPowerUp endpoint s) :=
  .next (.ite (.moduleReset (.setBand hm)) hm)

theorem State.MemOk.execHoldupCharged {s : State} (hm : s.MemOk) : NextOk (execHoldupCharged s) :=
  .next (.ite (.upd hm) hm)

theorem State.MemOk.execHoldupTimeout {s : State} (hm : s.MemOk) : NextOk (execHoldupTimeout s) :=
  .next (.ite (.logIt (.upd hm)) hm)

theorem State.MemOk.execInputLoss {s : State} (hm : s.MemOk) : NextOk (execInputLoss s) := by
  refine .next ?_
  dsimp only
  split
  · exact .logIt (.upd (.channelsOff (.raiseHold (.setBand hm))))
  · exact .logIt (.upd (.channelsOff (.raiseHold (.setBand hm))))
  · exact .logIt (.upd (.channelsOff (.raiseHold (.setBand hm))))
  · exact .logIt (.upd (.channelsOff (.raiseHold (.setBand hm))))
  · exact .upd (.setBand hm)
  · exact .upd (.setBand hm)
  · exact hm
  · exact hm

theorem State.MemOk.execInputReturn {s : State} (hm : s.MemOk) {endpoint : Bool} : NextOk (execInputReturn endpoint s) := by
  refine .next ?_
  split
  · exact .moduleReset (.setBand hm)
  · exact .moduleReset (.setBand hm)
  · exact hm

theorem State.MemOk.execHoldupDisconnect {s : State} (hm : s.MemOk) : NextOk (execHoldupDisconnect s) :=
  .next (.ite (.upd hm) hm)

theorem State.MemOk.execInputLowBand {s : State} (hm : s.MemOk) : NextOk (execInputLowBand s) :=
  .next (.ite (.logIt (.setBand hm)) hm)

theorem State.MemOk.execActiveDischarge {s : State} (hm : s.MemOk) {on : Bool} : NextOk (execActiveDischarge on s) :=
  .next (.upd hm)

theorem State.MemOk.execCoolantSample {s : State} (hm : s.MemOk) {inlet : Option Int} : NextOk (execCoolantSample inlet s) :=
  .next (.ite hm (.upd (.ite (.logIt hm) hm)))

theorem State.MemOk.execT1LinkLoss {s : State} (hm : s.MemOk) {port : Nat} : NextOk (execT1LinkLoss port s) :=
  .next (.whileUp hm (.ite hm (.ite (.logIt (.upd hm)) (.upd hm))))

theorem State.MemOk.execT1LinkReturn {s : State} (hm : s.MemOk) {port : Nat} : NextOk (execT1LinkReturn port s) :=
  .next (.ite hm (.servePort (.upd hm)))

theorem State.MemOk.execInputFullFunctionReturn {s : State} (hm : s.MemOk) : NextOk (execInputFullFunctionReturn s) :=
  .next (.ite (.setBand hm) hm)

theorem State.MemOk.tick {s : State} (hm : s.MemOk) : s.tick.MemOk := .upd hm

end Sys2Proof.Machine
end

section
/-! PROOFS of MemInvariant (O19), last part: every command and every step. -/

namespace Sys2Proof.Machine

theorem State.MemOk.exec {s : State} (hm : s.MemOk) {c : Instr} : NextOk (Machine.exec c s) := by
  cases c with
  | registerWrite => exact State.MemOk.execRegisterWrite hm
  | adminCfgEnable => exact State.MemOk.execAdminCfgEnable hm
  | adminCfgDisable => exact State.MemOk.execAdminCfgDisable hm
  | doorbellWrite => exact State.MemOk.execDoorbellWrite hm
  | cplDoorbellWrite => exact State.MemOk.execCplDoorbellWrite hm
  | irqHoldoffExpiry => exact State.MemOk.execIrqHoldoffExpiry hm
  | packetFetch => exact State.MemOk.execPacketFetch hm
  | packetHoldEnd => exact State.MemOk.execPacketHoldEnd hm
  | commitPoint => exact State.MemOk.execCommitPoint hm
  | stopOrderArrival => exact State.MemOk.execStopOrderArrival hm
  | nop => exact .next (specNop_keeps.exec hm)
  | bobbinCreate => exact .next (specBobbinCreate_keeps.exec hm)
  | bobbinDestroy => exact .next (specBobbinDestroy_keeps.exec hm)
  | bobbinStop => exact .next (specBobbinStop_keeps.exec hm)
  | bobbinResume => exact .next (specBobbinResume_keeps.exec hm)
  | abort => exact .next (specAbort_keeps.exec hm)
  | quiesce => exact .next (specQuiesce_keeps.exec hm)
  | tenantCreate => exact .next (specTenantCreate_keeps.exec hm)
  | tenantDestroy => exact .next (specTenantDestroy_keeps.exec hm)
  | query => exact .next (specQuery_keeps.exec hm)
  | dmaCopy => exact .next (specDmaCopy_keeps.exec hm)
  | dmaFill => exact .next (specDmaFill_keeps.exec hm)
  | bankAssign => exact .next (specBankAssign_keeps.exec hm)
  | regionMap => exact .next (specRegionMap_keeps.exec hm)
  | regionUnmap => exact .next (specRegionUnmap_keeps.exec hm)
  | kvScatterBind => exact .next (specKvScatterBind_keeps.exec hm)
  | kvScatterOpen => exact .next (specKvScatterOpen_keeps.exec hm)
  | kvScatterClose => exact .next (specKvScatterClose_keeps.exec hm)
  | kvScatterAppend => exact .next (specKvScatterAppend_keeps.exec hm)
  | pagePin => exact .next (specPagePin_keeps.exec hm)
  | matmul => exact .next (specMatmul_keeps.exec hm)
  | conv => exact .next (specConv_keeps.exec hm)
  | attention => exact .next (specAttention_keeps.exec hm)
  | recur => exact .next (specRecur_keeps.exec hm)
  | vectorOp => exact .next (specVectorOp_keeps.exec hm)
  | sort => exact .next (specSort_keeps.exec hm)
  | scheduleRun => exact .next (specScheduleRun_keeps.exec hm)
  | corePlacement => exact State.MemOk.execCorePlacement hm
  | coreWaitLimit => exact State.MemOk.execCoreWaitLimit hm
  | draftOpen => exact .next (specDraftOpen_keeps.exec hm)
  | twist => exact .next (specTwist_keeps.exec hm)
  | twistStart => exact State.MemOk.execTwistStart hm
  | twistPrepare => exact State.MemOk.execTwistPrepare hm
  | twistVote => exact State.MemOk.execTwistVote hm
  | twistCommit => exact State.MemOk.execTwistCommit hm
  | twistVoteTimeout => exact State.MemOk.execTwistVoteTimeout hm
  | twistOwnerLostTimeout => exact State.MemOk.execTwistOwnerLostTimeout hm
  | unravel => exact .next (specUnravel_keeps.exec hm)
  | draftQuery => exact .next (specDraftQuery_keeps.exec hm)
  | writebackComplete => exact State.MemOk.execWritebackComplete hm
  | contextCreate => exact .next (specContextCreate_keeps.exec hm)
  | contextDestroy => exact .next (specContextDestroy_keeps.exec hm)
  | contextReset => exact .next (specContextReset_keeps.exec hm)
  | modelLoad => exact .next (specModelLoad_keeps.exec hm)
  | modelPin => exact .next (specModelPin_keeps.exec hm)
  | modelEvict => exact .next (specModelEvict_keeps.exec hm)
  | modelStoreOpen => exact .next (specStoreOpen_keeps.exec hm)
  | modelStoreWrite => exact .next (specStoreWrite_keeps.exec hm)
  | modelStoreSeal => exact .next (specStoreSeal_keeps.exec hm)
  | modelStoreDelete => exact .next (specStoreDelete_keeps.exec hm)
  | laneReserve => exact .next (specLaneReserve_keeps.exec hm)
  | laneRelease => exact .next (specLaneRelease_keeps.exec hm)
  | tdescLd => exact State.MemOk.execTdescLd hm
  | tdescSet => exact State.MemOk.execTdescSet hm
  | tIssue => exact State.MemOk.execTIssue hm
  | tWait => exact State.MemOk.execTWait hm
  | tWaitq => exact State.MemOk.execTWaitq hm
  | tStat => exact State.MemOk.execTStat hm
  | scalarTrap => exact State.MemOk.execScalarTrap hm
  | tensionerStep => exact State.MemOk.execTensionerStep hm
  | bankConflictWindowEnd => exact State.MemOk.execBankConflictWindowEnd hm
  | bankHandover => exact State.MemOk.execBankHandover hm
  | pseudoChannelFlagged => exact State.MemOk.execPseudoChannelFlagged hm
  | remapCopyEnd => exact State.MemOk.execRemapCopyEnd hm
  | flitCrcFail => exact State.MemOk.execFlitCrcFail hm
  | dieLinkRetryThreshold => exact State.MemOk.execDieLinkRetryThreshold hm
  | patrolScrub => exact State.MemOk.execPatrolScrub hm
  | hbmClearDone => exact State.MemOk.execHbmClearDone hm
  | mboxSend => exact State.MemOk.execMboxSend hm
  | mboxRelease => exact State.MemOk.execMboxRelease hm
  | oobFrame => exact State.MemOk.execOobFrame hm
  | flyerReportTimeout => exact State.MemOk.execFlyerReportTimeout hm
  | serviceLinkUp => exact State.MemOk.execServiceLinkUp hm
  | serviceLinkDown => exact State.MemOk.execServiceLinkDown hm
  | streamConfigConfigure => exact .next (specStreamConfigure_keeps.exec hm)
  | streamConfigRelease => exact .next (specStreamRelease_keeps.exec hm)
  | csi2Packet => exact State.MemOk.execCsi2Packet hm
  | frameCloseTimeout => exact State.MemOk.execFrameCloseTimeout hm
  | retransmissionTimeout => exact State.MemOk.execRetransmissionTimeout hm
  | aphyLinkUp => exact State.MemOk.execAphyLinkUp hm
  | aphyLinkDrop => exact State.MemOk.execAphyLinkDrop hm
  | t1Frame => exact State.MemOk.execT1Frame hm
  | batchClose => exact State.MemOk.execBatchClose hm
  | spiDataReady => exact State.MemOk.execSpiDataReady hm
  | spiRateTick => exact State.MemOk.execSpiRateTick hm
  | spiDrdyMiss => exact State.MemOk.execSpiDrdyMiss hm
  | channelEnableOn => exact .next (specChannelEnable_keeps.exec hm)
  | channelEnableOff => exact .next (specChannelEnable_keeps.exec hm)
  | inrushComplete => exact State.MemOk.execInrushComplete hm
  | inrushWindowEnd => exact State.MemOk.execInrushWindowEnd hm
  | inrushRetry => exact State.MemOk.execInrushRetry hm
  | shortTrip => exact State.MemOk.execShortTrip hm
  | imuSupplyLimit => exact State.MemOk.execImuSupplyLimit hm
  | pwNextArm => exact State.MemOk.execPwNextArm hm
  | pwmReload => exact State.MemOk.execPwmReload hm
  | pwCfgWrite => exact State.MemOk.execPwCfgWrite hm
  | timeStepSet => exact .next (specTimeStep_keeps.exec hm)
  | timeStepAdd => exact .next (specTimeStep_keeps.exec hm)
  | timeRate => exact .next (specTimeRate_keeps.exec hm)
  | timeNRead => exact State.MemOk.execTimeNRead hm
  | launchConfigConfigure => exact .next (specLaunchConfig_keeps.exec hm)
  | launchConfigRelease => exact .next (specLaunchConfig_keeps.exec hm)
  | hostQueueDoorbell => exact State.MemOk.execHostQueueDoorbell hm
  | launchTime => exact State.MemOk.execLaunchTime hm
  | hostFrameReceive => exact State.MemOk.execHostFrameReceive hm
  | tsqPop => exact State.MemOk.execTsqPop hm
  | triggerSet => exact .next (specTriggerSet_keeps.exec hm)
  | triggerCancel => exact .next (specTriggerSet_keeps.exec hm)
  | triggerOccurrence => exact State.MemOk.execTriggerOccurrence hm
  | captureArm => exact .next (specCaptureArm_keeps.exec hm)
  | captureDisarm => exact .next (specCaptureArm_keeps.exec hm)
  | edgeCapture => exact State.MemOk.execEdgeCapture hm
  | capPop => exact State.MemOk.execCapPop hm
  | groupConfigCreate => exact .next (specGroupCreate_keeps.exec hm)
  | groupConfigReconfigure => exact .next (specGroupReconfigure_keeps.exec hm)
  | groupConfigDelete => exact .next (specGroupDelete_keeps.exec hm)
  | groupStart => exact .next (specGroupStart_keeps.exec hm)
  | groupStop => exact .next (specGroupStop_keeps.exec hm)
  | voteConfig => exact .next (specVoteConfig_keeps.exec hm)
  | windowDeadline => exact State.MemOk.execWindowDeadline hm
  | supplyDeadline => exact State.MemOk.execSupplyDeadline hm
  | healthRecordDue => exact State.MemOk.execHealthRecordDue hm
  | planConfigCreate => exact .next (specPlanCreate_keeps.exec hm)
  | planConfigReconfigure => exact .next (specPlanReconfigure_keeps.exec hm)
  | planConfigDelete => exact .next (specPlanDelete_keeps.exec hm)
  | planCyclePlan => exact .next (specPlanCycle_keeps.exec hm)
  | planCycleCheck => exact .next (specPlanCheck_keeps.exec hm)
  | mapUpdateReplace => exact .next (specMapReplace_keeps.exec hm)
  | mapUpdatePatch => exact .next (specMapPatch_keeps.exec hm)
  | plannerSliceFault => exact State.MemOk.execPlannerSliceFault hm
  | solveConfigCreate => exact .next (specSolveCreate_keeps.exec hm)
  | solveConfigReconfigure => exact .next (specSolveReconfigure_keeps.exec hm)
  | solveConfigDelete => exact .next (specSolveDelete_keeps.exec hm)
  | solve => exact .next (specSolve_keeps.exec hm)
  | solvePipeFault => exact State.MemOk.execSolvePipeFault hm
  | loopConfigCreate => exact .next (specLoopCreate_keeps.exec hm)
  | loopConfigReconfigure => exact .next (specLoopReconfigure_keeps.exec hm)
  | loopConfigDelete => exact .next (specLoopDelete_keeps.exec hm)
  | loopConfigRing => exact .next (specLoopRing_keeps.exec hm)
  | loopStart => exact .next (specLoopStart_keeps.exec hm)
  | loopStopStop => exact .next (specLoopStop_keeps.exec hm)
  | loopStopHold => exact .next (specLoopStop_keeps.exec hm)
  | loopTick => exact State.MemOk.execLoopTick hm
  | loopFeedbackFrame => exact State.MemOk.execLoopFeedbackFrame hm
  | plyLinkTrained => exact State.MemOk.execPlyLinkTrained hm
  | plyLaneError => exact State.MemOk.execPlyLaneError hm
  | plyCrcFail => exact State.MemOk.execPlyCrcFail hm
  | plyLinkTimeout => exact State.MemOk.execPlyLinkTimeout hm
  | plyIdleEmit => exact State.MemOk.execPlyIdleEmit hm
  | idle => exact State.MemOk.execIdle hm
  | hello => exact State.MemOk.execHello hm
  | lsr => exact State.MemOk.execLsr hm
  | lsrRefresh => exact State.MemOk.execLsrRefresh hm
  | lsrExpiry => exact State.MemOk.execLsrExpiry hm
  | routingTableSwap => exact State.MemOk.execRoutingTableSwap hm
  | write => exact State.MemOk.execWrite hm
  | readReq => exact State.MemOk.execReadReq hm
  | readRsp => exact State.MemOk.execReadRsp hm
  | writeAck => exact State.MemOk.execWriteAck hm
  | control => exact State.MemOk.execControl hm
  | safety => exact State.MemOk.execSafety hm
  | collectiveFrame => exact State.MemOk.execCollectiveFrame hm
  | ethernet => exact State.MemOk.execEthernet hm
  | plyJoin => exact .next (specPlyJoin_keeps.exec hm)
  | joinTrainingTimeout => exact State.MemOk.execJoinTrainingTimeout hm
  | joinDatabaseSettled => exact State.MemOk.execJoinDatabaseSettled hm
  | plyLeaveGraceful => exact .next (specPlyLeaveGraceful_keeps.exec hm)
  | plyLeaveNow => exact .next (specPlyLeaveNow_keeps.exec hm)
  | leaveDrainEnd => exact State.MemOk.execLeaveDrainEnd hm
  | collective => exact .next (specCollective_keeps.exec hm)
  | collectiveMatch => exact State.MemOk.execCollectiveMatch hm
  | remoteWindowGrant => exact .next (specWindowGrant_keeps.exec hm)
  | remoteWindowRevoke => exact .next (specWindowRevoke_keeps.exec hm)
  | remoteAccess => exact State.MemOk.execRemoteAccess hm
  | phaseHint => exact .next (specPhaseHint_keeps.exec hm)
  | phaseHintClear => exact .next (specPhaseHintClear_keeps.exec hm)
  | hintWindowOpen => exact State.MemOk.execHintWindowOpen hm
  | hintWindowClose => exact State.MemOk.execHintWindowClose hm
  | hintRailsDisarm => exact State.MemOk.execHintRailsDisarm hm
  | budgetRequestWant => exact .next (specBudgetWant_keeps.exec hm)
  | budgetRequestBudget => exact .next (specBudgetMachine_keeps.exec hm)
  | powerQuery => exact .next (specPowerQuery_keeps.exec hm)
  | governorDecision => exact State.MemOk.execGovernorDecision hm
  | powerCalibration => exact State.MemOk.execPowerCalibration hm
  | droopDetect => exact State.MemOk.execDroopDetect hm
  | regulatorPhaseFault => exact State.MemOk.execRegulatorPhaseFault hm
  | tensionReportDue => exact State.MemOk.execTensionReportDue hm
  | tensionReport => exact State.MemOk.execTensionReport hm
  | grantReceived => exact State.MemOk.execGrantReceived hm
  | raisedGrantTimeout => exact State.MemOk.execRaisedGrantTimeout hm
  | coordinatorCollectEnd => exact State.MemOk.execCoordinatorCollectEnd hm
  | thermalSample => exact State.MemOk.execThermalSample hm
  | thermalTrip => exact State.MemOk.execThermalTrip hm
  | ageRegister => exact .next (specAgeRegister_keeps.exec hm)
  | ageDeregister => exact .next (specAgeDeregister_keeps.exec hm)
  | ageCheck => exact State.MemOk.execAgeCheck hm
  | deadlineOverrun => exact State.MemOk.execDeadlineOverrun hm
  | overrunClear => exact State.MemOk.execOverrunClear hm
  | distaffFault => exact State.MemOk.execDistaffFault hm
  | statusFramePeriodic => exact State.MemOk.execStatusFramePeriodic hm
  | statusFrameChange => exact State.MemOk.execStatusFrameChange hm
  | statusCfgWrite => exact State.MemOk.execStatusCfgWrite hm
  | hostWdEnable => exact State.MemOk.execHostWdEnable hm
  | hostWdKick => exact State.MemOk.execHostWdKick hm
  | hostWdExpiry => exact State.MemOk.execHostWdExpiry hm
  | safeStateRequestEnter => exact .next (specSafeEnter_keeps.exec hm)
  | safeStateRequestRelease => exact .next (specSafeRelease_keeps.exec hm)
  | atRestAssert => exact .next (specAtRest_keeps.exec hm)
  | atRestWithdraw => exact .next (specAtRest_keeps.exec hm)
  | atRestTimeout => exact State.MemOk.execAtRestTimeout hm
  | pairCompareConfigure => exact .next (specPairConfigure_keeps.exec hm)
  | pairCompareRemove => exact .next (specPairRemove_keeps.exec hm)
  | pairCompareRecord => exact State.MemOk.execPairCompareRecord hm
  | pairMatchTimeout => exact State.MemOk.execPairMatchTimeout hm
  | enterSleep => exact State.MemOk.execEnterSleep hm
  | sleepEntryStage => exact State.MemOk.execSleepEntryStage hm
  | dozeEnWrite => exact State.MemOk.execDozeEnWrite hm
  | dozeIdleExpiry => exact State.MemOk.execDozeIdleExpiry hm
  | wakeIn => exact State.MemOk.execWakeIn hm
  | wakeFrame => exact State.MemOk.execWakeFrame hm
  | wakeTimer => exact State.MemOk.execWakeTimer hm
  | wakeReady => exact State.MemOk.execWakeReady hm
  | wakeReadyTimeout => exact State.MemOk.execWakeReadyTimeout hm
  | wakeRetryPauseEnd => exact State.MemOk.execWakeRetryPauseEnd hm
  | wakeFailRepeat => exact State.MemOk.execWakeFailRepeat hm
  | pathDelayCheck => exact State.MemOk.execPathDelayCheck hm
  | ringOscCheck => exact State.MemOk.execRingOscCheck hm
  | coreSplice => exact State.MemOk.execCoreSplice hm
  | clockFailure => exact State.MemOk.execClockFailure hm
  | rotationSelect => exact State.MemOk.execRotationSelect hm
  | bistRun => exact .next (specBistRun_keeps.exec hm)
  | selfTestDone => exact State.MemOk.execSelfTestDone hm
  | traceConfig => exact .next (specTraceConfig_keeps.exec hm)
  | counterRead => exact .next (specCounterRead_keeps.exec hm)
  | breakSetSet => exact .next (specBreakSet_keeps.exec hm)
  | breakSetClear => exact .next (specBreakClear_keeps.exec hm)
  | breakSetResume => exact .next (specBreakResume_keeps.exec hm)
  | breakSetHaltNow => exact .next (specBreakHalt_keeps.exec hm)
  | breakpointHit => exact State.MemOk.execBreakpointHit hm
  | debugTransportAccess => exact State.MemOk.execDebugTransportAccess hm
  | idcode => exact State.MemOk.execIdcode hm
  | bypass => exact State.MemOk.execBypass hm
  | samplePreload => exact State.MemOk.execSamplePreload hm
  | extest => exact State.MemOk.execExtest hm
  | intest => exact State.MemOk.execIntest hm
  | dbgNonce => exact State.MemOk.execDbgNonce hm
  | dbgToken => exact State.MemOk.execDbgToken hm
  | debugNonceRead => exact State.MemOk.execDebugNonceRead hm
  | debugUnlock => exact .next (specDebugUnlock_keeps.exec hm)
  | keyWrite => exact .next (specKeyWrite_keeps.exec hm)
  | keyErase => exact .next (specKeyErase_keeps.exec hm)
  | keyCellFail => exact State.MemOk.execKeyCellFail hm
  | attest => exact .next (specAttest_keeps.exec hm)
  | imageBlock => exact .next (specImageBlock_keeps.exec hm)
  | imageVerify => exact .next (specImageVerify_keeps.exec hm)
  | activate => exact .next (specActivate_keeps.exec hm)
  | activateAtSchedule => exact .next (specActivateSchedule_keeps.exec hm)
  | activateAtCancel => exact .next (specActivateCancel_keeps.exec hm)
  | activateAtDiscard => exact .next (specActivateDiscard_keeps.exec hm)
  | activationDue => exact State.MemOk.execActivationDue hm
  | activationDrainTimeout => exact State.MemOk.execActivationDrainTimeout hm
  | activationPauseBegin => exact State.MemOk.execActivationPauseBegin hm
  | activationHoldStage => exact State.MemOk.execActivationHoldStage hm
  | distaffImageRunning => exact State.MemOk.execDistaffImageRunning hm
  | activationPauseEnd => exact State.MemOk.execActivationPauseEnd hm
  | powerUp => exact State.MemOk.execPowerUp hm
  | holdupCharged => exact State.MemOk.execHoldupCharged hm
  | holdupTimeout => exact State.MemOk.execHoldupTimeout hm
  | inputLoss => exact State.MemOk.execInputLoss hm
  | inputReturn => exact State.MemOk.execInputReturn hm
  | holdupDisconnect => exact State.MemOk.execHoldupDisconnect hm
  | inputLowBand => exact State.MemOk.execInputLowBand hm
  | activeDischarge => exact State.MemOk.execActiveDischarge hm
  | coolantSample => exact State.MemOk.execCoolantSample hm
  | t1LinkLoss => exact State.MemOk.execT1LinkLoss hm
  | t1LinkReturn => exact State.MemOk.execT1LinkReturn hm
  | inputFullFunctionReturn => exact State.MemOk.execInputFullFunctionReturn hm

theorem NextOk.of_eq {r : Res} {t : State} (h : NextOk r) (e : r = .next t) : t.MemOk := by
  subst e
  exact h

/-- Settles O19: each operation and each event keeps memory canonical (`State.MemOk.exec`), and a tick leaves memory as it is. -/
theorem memInvariant : Obligations.MemInvariant := by
  unfold Obligations.MemInvariant
  intro s t hm next
  unfold step at next
  split at next
  · exact (State.MemOk.exec (.upd hm)).of_eq next
  · exact NextOk.of_eq (.next (.tick hm)) next

end Sys2Proof.Machine
end

section
/-! PROOFS of SolveCommands (O47): SOLVE_CONFIG (R353, R355, R358), SOLVE (R365, R366) with the restart of the solve engine's domain (R461), which the statement leaves out,
and a failed pipe (Table 15.11). -/

namespace Sys2Proof.Machine

/-! ### SOLVE_CONFIG -/

/-- The state with a system of the record that a SOLVE_CONFIG packet names on pipe `k`, before its reply; the draw is the MEAS_COUNT that the reported bound takes. -/
def State.configured (s : State) (e : Env) (k : Nat) : State :=
  ({ s with eng := { s.eng with solves := NMap.put s.eng.solves (e.p.f 3 2 0) { s.readSystem e with pipe := k } } } : State).drawn 1

/-- DETAIL2 of its reply: the bound of a SOLVE's time, none without a reservation (Table 15.10). -/
def State.solveBound (s : State) (e : Env) : Nat :=
  if (s.resOf e.p.ctx).isSome then (s.readSystem e).bound (Config.freeNat s.free % ((s.readSystem e).nParam + 1)) else 0xFFFFFFFF

theorem State.putSystem_full {s : State} {e : Env} (hfull : 8 ≤ s.eng.solves.length) : s.putSystem e true = s.finish e.id 0x0200 [0x23] := by
  simp only [State.putSystem, hfull, decide_true, Bool.and_self, if_true]
  rfl

/-- With room, and its pipe healthy, a system is configured on it, and the reply gives its store, its assembly time and its bound. -/
theorem State.putSystem_room {s : State} {e : Env} {create : Bool} {k : Nat} (hroom : create = false ∨ s.eng.solves.length < 8)
    (hpipe : s.freePipe (e.p.f 3 2 0) = some k) :
    s.putSystem e create = (s.configured e k).finish e.id 0 [(s.readSystem e).storeBytes, (s.readSystem e).tAsm, s.solveBound e, 0] := by
  have hno : (create && decide (8 ≤ s.eng.solves.length)) = false := by
    rcases hroom with rfl | h
    · rfl
    · simp [h]
  simp only [State.putSystem, hno, Bool.false_eq_true, if_false, hpipe]
  rfl

/-! ### SOLVE (R365, R366) -/

/-- The working parameters of a SOLVE: the system's own, the measured ones in their place. -/
def State.workingParams (s : State) (y : SolveSys) (p : Packet) : List Nat :=
  (List.range y.nParam).map (fun i =>
    if p.f 6 15 0 ≤ i && i < p.f 6 15 0 + p.f 5 31 16 then (s.words (measAddr p + 64) (p.f 5 31 16)).getD (i - p.f 6 15 0) 0 else y.params.getD i 0)

/-- The solution that a SOLVE finds, as old as the older of its measurements and its plan. -/
def State.solution (s : State) (y : SolveSys) (p : Packet) : Solution :=
  { y.solve (s.workingParams y p) (p.b 3 31) with
    stamp := older (if p.f 5 31 16 = 0 then none else ageOf (s.load (measAddr p) 16)) (if y.usePlan then y.planStamp else none) }

/-- The state in which the solution found stands with its packet. -/
def State.solutionFound (s : State) (y : SolveSys) (e : Env) : State :=
  s.setSystem (e.p.f 3 2 0) (fun z => { z with found := NMap.put (z.found.filter (fun x => (s.pkt? x.1).isSome)) e.id (s.solution y e.p) })

/-- The work of a SOLVE: it reads its measurements, and its commit point takes the solution. -/
def solveWork (e : Env) : Work :=
  { reads := if e.p.f 5 31 16 = 0 then [] else [(measAddr e.p, 64 + 4 * e.p.f 5 31 16)], after := [.solve (e.p.f 3 2 0) e.id] }

section
variable {e : Env} {s : State} {y : SolveSys} (hy : NMap.get? s.eng.solves (e.p.f 3 2 0) = some y)
include hy

/-- The system of a packet whose solution has been found: its parameters and its warm start are as they were. -/
theorem State.solutionFound_spec :
    ∃ z : SolveSys, NMap.get? (s.solutionFound y e).eng.solves (e.p.f 3 2 0) = some z ∧ NMap.get? z.found e.id = some (s.solution y e.p) ∧ z.params = y.params ∧ z.warm = y.warm :=
  ⟨_, NMap.get?_upd_same _ hy, NMap.get?_put_same _ _ _, rfl, rfl⟩

/-- A SOLVE behind an earlier one of its system waits (R366). -/
theorem specSolve_run_behind (hbehind : (s.solvesOf (e.p.f 3 2 0)).any (fun o => decide (o.id < e.id)) = true) : specSolve.run e s = s.setJob e.id (.waits .retry) := by
  simp only [specSolve, hy, hbehind, if_true]

variable (hfirst : (s.solvesOf (e.p.f 3 2 0)).any (fun o => decide (o.id < e.id)) = false)
include hfirst

theorem specSolve_run_fenced {c : Nat} (hfenced : y.fenced = some c) : specSolve.run e s = s.finish e.id 0x0303 [0xD, y.pipe, c, 0] := by
  simp only [specSolve, hy, hfirst, hfenced, Bool.false_eq_true, if_false]
  rfl

variable (hfenced : y.fenced = none)
include hfenced

/-- A SOLVE of a system whose store is poisoned loses it (R365). -/
theorem specSolve_run_poisoned (hpoison : s.storePoison y = true) :
    specSolve.run e s = (s.setSystem (e.p.f 3 2 0) (fun z => { z with valid := false })).finish e.id 0x0303 (dataLossDetails e.p.ctx) := by
  simp only [specSolve, hy, hfirst, hfenced, hpoison, Bool.false_eq_true, if_false, if_true]
  rfl

theorem specSolve_run_found (hclean : s.storePoison y = false) : specSolve.run e s = (s.solutionFound y e).startWork e (solveWork e) := by
  simp only [specSolve, hy, hfirst, hfenced, hclean, Bool.false_eq_true, if_false]
  rfl

end

/-! ### The packets -/

/-- A create with eight systems (R355, Table 2.27). -/
theorem exec_solveConfigCreate_full {src : Src} {p0 : Packet} {s : State} (haccepts : specSolveCreate.accepts src (p0.withField 3 31 30 0) s = true)
    (hfull : 8 ≤ s.eng.solves.length) :
    exec (.solveConfigCreate src p0) s = .next ((specSolveCreate.taken src (p0.withField 3 31 30 0) s).finish s.q.nextId 0x0200 [0x23]) :=
  OpSpec.next_exec_restarted haccepts (State.putSystem_full (s := specSolveCreate.taken src _ s) (by rwa [OpSpec.taken_eng]))

/-- A create with room configures the system on a healthy pipe. -/
theorem exec_solveConfigCreate_room {src : Src} {p0 : Packet} {s : State} {k : Nat} (haccepts : specSolveCreate.accepts src (p0.withField 3 31 30 0) s = true)
    (hroom : s.eng.solves.length < 8) :
    let e := specSolveCreate.env src (p0.withField 3 31 30 0) s
    let u := specSolveCreate.taken src (p0.withField 3 31 30 0) s
    u.freePipe (e.p.f 3 2 0) = some k →
    exec (.solveConfigCreate src p0) s = .next ((u.configured e k).finish s.q.nextId 0 [(u.readSystem e).storeBytes, (u.readSystem e).tAsm, u.solveBound e, 0]) :=
  fun hpipe => OpSpec.next_exec_restarted haccepts (State.putSystem_room (s := specSolveCreate.taken src _ s) (.inr (by rwa [OpSpec.taken_eng])) hpipe)

/-- A reconfigure does the same, however many systems there are. -/
theorem exec_solveConfigReconfigure {src : Src} {p0 : Packet} {s : State} {k : Nat} (haccepts : specSolveReconfigure.accepts src (p0.withField 3 31 30 1) s = true) :
    let e := specSolveReconfigure.env src (p0.withField 3 31 30 1) s
    let u := specSolveReconfigure.taken src (p0.withField 3 31 30 1) s
    u.freePipe (e.p.f 3 2 0) = some k →
    exec (.solveConfigReconfigure src p0) s = .next ((u.configured e k).finish s.q.nextId 0 [(u.readSystem e).storeBytes, (u.readSystem e).tAsm, u.solveBound e, 0]) :=
  fun hpipe => OpSpec.next_exec_restarted haccepts (State.putSystem_room (.inl rfl) hpipe)

/-- What a configured system leaves: it is that of the record, on its pipe; memory is as it was. -/
theorem State.configured_spec (s : State) (e : Env) (k : Nat) :
    (s.configured e k).eng.solves = NMap.put s.eng.solves (e.p.f 3 2 0) { s.readSystem e with pipe := k } ∧ (s.configured e k).mem = s.mem := ⟨rfl, rfl⟩

/-- A delete removes the system. -/
theorem exec_solveConfigDelete {src : Src} {p0 : Packet} {s : State} (haccepts : specSolveDelete.accepts src (p0.withField 3 31 30 2) s = true) :
    let u := specSolveDelete.taken src (p0.withField 3 31 30 2) s
    exec (.solveConfigDelete src p0) s =
      .next (({ u with eng := { u.eng with solves := NMap.del u.eng.solves ((specSolveDelete.pkt (p0.withField 3 31 30 2)).f 3 2 0) } } : State).finish s.q.nextId 0) :=
  OpSpec.next_exec_restarted haccepts rfl

section
variable {src : Src} {p : Packet} {s : State} {y : SolveSys} (haccepts : specSolve.accepts src p s = true)
include haccepts

/-- A SOLVE runs its effect with the solve engine's domain, 37, restarted (R461). -/
theorem exec_solve : exec (.solve src p) s = .next (specSolve.run (specSolve.env src p s) ((specSolve.taken src p s).restart 37)) :=
  OpSpec.next_exec_restarted haccepts rfl

variable (hy : NMap.get? s.eng.solves ((specSolve.pkt p).f 3 2 0) = some y)
include hy

omit haccepts in
theorem get?_solves_restarted : NMap.get? ((specSolve.taken src p s).restart 37).eng.solves ((specSolve.env src p s).p.f 3 2 0) = some y := by
  rw [State.restart_eng, OpSpec.taken_eng]
  exact hy

theorem exec_solve_behind (hbehind : ((specSolve.taken src p s).solvesOf ((specSolve.pkt p).f 3 2 0)).any (fun o => decide (o.id < s.q.nextId)) = true) :
    exec (.solve src p) s = .next (((specSolve.taken src p s).restart 37).setJob s.q.nextId (.waits .retry)) :=
  OpSpec.next_exec_restarted haccepts (specSolve_run_behind (get?_solves_restarted hy) hbehind)

variable (hfirst : ((specSolve.taken src p s).solvesOf ((specSolve.pkt p).f 3 2 0)).any (fun o => decide (o.id < s.q.nextId)) = false)
include hfirst

theorem exec_solve_fenced {c : Nat} (hfenced : y.fenced = some c) :
    exec (.solve src p) s = .next (((specSolve.taken src p s).restart 37).finish s.q.nextId 0x0303 [0xD, y.pipe, c, 0]) :=
  OpSpec.next_exec_restarted haccepts (specSolve_run_fenced (get?_solves_restarted hy) hfirst hfenced)

variable (hfenced : y.fenced = none)
include hfenced

theorem exec_solve_poisoned (hpoison : (specSolve.taken src p s).storePoison y = true) :
    ∃ (v : State) (d : List Nat), exec (.solve src p) s = .next (v.finish s.q.nextId 0x0303 d)
      ∧ NMap.get? v.eng.solves ((specSolve.pkt p).f 3 2 0) = some { y with valid := false } ∧ v.mem = s.mem :=
  ⟨_, _, OpSpec.next_exec_restarted haccepts (specSolve_run_poisoned (get?_solves_restarted hy) hfirst hfenced hpoison),
    NMap.get?_upd_same _ (get?_solves_restarted hy), OpSpec.taken_mem ..⟩

/-- Any other SOLVE is in flight with the solution it found. -/
theorem exec_solve_found (hclean : (specSolve.taken src p s).storePoison y = false) :
    let u := specSolve.taken src p s
    ∃ (v : State) (z : SolveSys), exec (.solve src p) s = .next (v.startWork (specSolve.env src p s) (solveWork (specSolve.env src p s)))
      ∧ NMap.get? v.eng.solves ((specSolve.pkt p).f 3 2 0) = some z ∧ NMap.get? z.found s.q.nextId = some (u.solution y (specSolve.pkt p))
      ∧ z.params = y.params ∧ z.warm = y.warm ∧ v.mem = s.mem := by
  intro u
  obtain ⟨z, hz, hfound, hparams, hwarm⟩ := State.solutionFound_spec (s := u.restart 37) (e := specSolve.env src p s) (get?_solves_restarted hy)
  exact ⟨_, z, OpSpec.next_exec_restarted haccepts (specSolve_run_found (get?_solves_restarted hy) hfirst hfenced hclean), hz, hfound, hparams, hwarm, OpSpec.taken_mem ..⟩

end

/-! ### A failed pipe (Table 15.11) -/

/-- A pipe that no system uses is fenced. -/
theorem exec_solvePipeFault_unused {s : State} {pipe cause : Nat} (hup : s.clocked = true) (hpipe : pipe < 8) (hcause : cause = 1 ∨ cause = 2)
    (hin : s.unitOut 0xD pipe = false) (hfree : ∀ x ∈ s.eng.solves, x.2.pipe ≠ pipe) :
    exec (.solvePipeFault pipe cause) s = .next (({ s with spl := { s.spl with out := s.spl.out ++ [unitKey 0xD pipe] } } : State).fence 0 0 0 0xD pipe cause) := by
  have hfails : (decide (8 ≤ pipe) || decide (cause = 0) || decide (2 < cause) || s.unitOut 0xD pipe) = false := by
    rcases hcause with rfl | rfl <;> simp [hin, hpipe]
  have hnone : s.eng.solves.find? (fun x => x.2.pipe = pipe && x.2.fenced.isNone) = none := List.find?_eq_none.2 fun x hx => by simp [hfree x hx]
  show execSolvePipeFault pipe cause s = _
  simp only [execSolvePipeFault, State.whileUp_of hup, hfails, hnone, Bool.false_eq_true, if_false]

/-! ### The refutation -/

/-- A system of context 5 whose pipe has failed with no other free. -/
def fencedSystem : SolveSys :=
  { ctx := 5, opener := 1, record := [], banks := 1, hbm := none, pPtr := [], pIdx := [], aPtr := [], aIdx := [], terms := [], params := [], pipe := 0, fenced := some 1 }

/-- Bobbin 1, context 5 with a region at 0x8000_0000 and the system `fencedSystem`; Doze is permitted. -/
def solverIdle : State := { dozePermitted with eng := { dozePermitted.eng with solves := [(0, fencedSystem)] } }

/-- The solve engine's domain, 37, has stopped in Doze. -/
def solverDozing : State := { solverIdle with pwr := { solverIdle.pwr with stopped := [37] } }

/-- The solve engine of `solverIdle` holds no packet: its domain stops once DOZE_IDLE_US has passed (R461). -/
theorem exec_dozeIdleExpiry_solverIdle : exec (.dozeIdleExpiry 37) solverIdle = .next solverDozing :=
  exec_dozeIdleExpiry (by decide) (by decide) (by decide)

/-- A SOLVE of system 0 without measurements. -/
def plainSolve : Packet := ⟨[0x10000, 5, 7, 0, 0, 0, 0, 0, 0, 0, 0, 0, 0, 0, 0, 0]⟩

/-- Refutes O47: a SOLVE restarts its domain (R461), and the statement's state of a SOLVE that waits or that ends FENCED has it as it was. In `solverDozing` the packet `plainSolve`
ends FENCED with domain 37 restarted, where the statement's state has it stopped still. `exec_solve_behind` and `exec_solve_fenced` say with the restart the two cases that leave
it out; the theorems beside them say the others. -/
theorem not_solveCommands : ¬ Obligations.SolveCommands := by
  unfold Obligations.SolveCommands
  intro ⟨_, _, _, hsolve, _⟩
  have haccepts : specSolve.accepts (.bobbin 1) plainSolve solverDozing = true := by decide
  have hfirst : ((specSolve.taken (.bobbin 1) plainSolve solverDozing).solvesOf ((specSolve.pkt plainSolve).f 3 2 0)).any (fun o => decide (o.id < solverDozing.q.nextId)) = false := by
    decide
  obtain ⟨_, hstated, _, _⟩ := hsolve (.bobbin 1) plainSolve solverDozing fencedSystem haccepts rfl
  have hends := hstated (by rw [hfirst]; rfl) 1 rfl
  rw [exec_solve_fenced haccepts rfl hfirst (c := 1) rfl] at hends
  injection hends with hstates
  exact absurd (congrArg (fun x => x.pwr.stopped) hstates) (by decide)

end Sys2Proof.Machine
end

section
/-! PROOFS of LoopCommands (O48): LOOP_CONFIG (R371), LOOP_START (R373, R384) and LOOP_STOP (R385). That a delete answers the loop, and START's lead of 20 µs, are the model's
choices (log entries 106 and 80). -/

namespace Sys2Proof.Machine

/-! ### LOOP_START -/

theorem NMap.get?_upd_ne {α : Type} {m : NMap α} {k j : Nat} {f : α → α} (hj : j ≠ k) : NMap.get? (NMap.upd m k f) j = NMap.get? m j := by
  unfold NMap.upd
  cases NMap.get? m k with
  | none => rfl
  | some v => exact NMap.get?_put_ne hj

/-- The first tick of the grid from `start` that is at least 20 µs ahead. -/
def State.firstTick (s : State) (l : Loop) (start : Nat) : Nat :=
  if s.now + 20000 ≤ start then 0 else (s.now + 20000 - start + l.period - 1) / l.period

/-- The output that a loop starts from. -/
def Loop.force (l : Loop) : Nat := if l.mode = .held then l.holdVal else l.safeVal

/-- A loop as LOOP_START makes it run; the last feedback and an unset set-point are free values. -/
def State.loopStarted (s : State) (l : Loop) (start : Nat) : Loop :=
  { l with
    mode := .running, fenced := false, stuck := false, start := start, tick := s.firstTick l start, e := [0, 0, 0]
    v := List.replicate 17 (Num.enc64 (Num.dec32 l.force)), out := l.force, outSafe := true, f := (Config.freeWord s.free).toNat, model := none, implausible := 0, missing := 0
    ending := [], spValid := some (l.spValid.getD (Config.freeWord (s.free + 1)).toNat) }

theorem State.startLoop_loop?_same {s : State} {n : Nat} {l : Loop} (start : Nat) (hl : s.loop? n = some l) :
    (s.startLoop n start).loop? n = some (s.loopStarted l start) := NMap.get?_upd_same _ hl

theorem State.startLoop_loop?_ne {s : State} {n j : Nat} (start : Nat) (hj : j ≠ n) : (s.startLoop n start).loop? j = s.loop? j := NMap.get?_upd_ne hj

/-- A start without its outer loops starts the loop alone (R384). -/
theorem specLoopStart_run_alone {e : Env} {s : State} {l : Loop} (halone : e.p.b 3 31 = false) (hl : s.loop? (e.p.f 3 6 0) = some l) :
    let k := s.firstTick l (startTime e.p)
    specLoopStart.run e s = (s.startLoop (e.p.f 3 6 0) (startTime e.p)).finish e.id 0 [k, ts32 (startTime e.p + k * l.period)] := by
  have hgroup : s.startGroup (e.p.f 3 6 0) (e.p.b 3 31) = [e.p.f 3 6 0] := by simp [State.startGroup, hl, halone]
  simp only [specLoopStart, hgroup, List.foldl_cons, List.foldl_nil, State.startLoop_loop?_same _ hl]
  rfl

/-! ### LOOP_STOP -/

theorem specLoopStop_run {e : Env} {s : State} {l : Loop} (hl : s.loop? (e.p.f 3 6 0) = some l) :
    specLoopStop.run e s = if l.mode = .stopped then s.finish e.id 0
      else (s.setJob e.id (.waits (.loopStop (e.p.f 3 6 0)))).setLoop (e.p.f 3 6 0)
        (fun x => { x with ending := x.ending ++ [⟨some e.id, decide (e.p.f 3 31 30 = 1), s.now + 2000⟩] }) := by
  simp only [specLoopStop, hl]
  rfl

/-- A stop or a hold runs its effect on the state in which its packet stands outstanding, at the device time of before. -/
theorem exec_loopStop {hold : Bool} {src : Src} {p0 : Packet} {s : State} {l : Loop} (haccepts : specLoopStop.accepts src (p0.withField 3 31 30 hold.toNat) s = true) :
    let q := specLoopStop.pkt (p0.withField 3 31 30 hold.toNat)
    let u := specLoopStop.taken src (p0.withField 3 31 30 hold.toNat) s
    u.loop? (q.f 3 6 0) = some l →
    exec (if hold then .loopStopHold src p0 else .loopStopStop src p0) s = .next (if l.mode = .stopped then u.finish s.q.nextId 0
      else (u.setJob s.q.nextId (.waits (.loopStop (q.f 3 6 0)))).setLoop (q.f 3 6 0)
        (fun x => { x with ending := x.ending ++ [⟨some s.q.nextId, decide (q.f 3 31 30 = 1), s.now + 2000⟩] })) := by
  intro q u hl
  rw [← OpSpec.taken_now specLoopStop src (p0.withField 3 31 30 hold.toNat) s]
  cases hold <;> exact OpSpec.next_exec_restarted haccepts (specLoopStop_run hl)

/-! ### LoopCommands -/

/-- Settles O48: each command runs its effect on the state in which its packet stands outstanding; a start and a stop count from the device time of before. -/
theorem loopCommands : Obligations.LoopCommands := by
  unfold Obligations.LoopCommands
  refine ⟨fun op src p0 s hop => ?put, fun src p0 s haccepts => OpSpec.next_exec_restarted haccepts rfl, fun src p0 s haccepts => OpSpec.next_exec_restarted haccepts rfl,
    fun src p s l haccepts => ?start, fun hold src p0 s l => ?stop⟩
  case put =>
    obtain rfl | rfl : op = 0 ∨ op = 1 := by omega
    · exact fun haccepts => OpSpec.next_exec_restarted haccepts rfl
    · exact fun haccepts => OpSpec.next_exec_restarted haccepts rfl
  case start =>
    intro q u n start k halone hl
    have hk : u.firstTick l start = k := by rw [State.firstTick, OpSpec.taken_now]
    have hexec : exec (.loopStart src p) s = .next ((u.startLoop n start).finish s.q.nextId 0 [k, ts32 (start + k * l.period)]) := by
      rw [← hk]
      exact OpSpec.next_exec_restarted haccepts (specLoopStart_run_alone (e := specLoopStart.env src p s) halone hl)
    exact ⟨_, _, hexec, State.startLoop_loop?_same start hl, rfl, rfl, rfl, hk, rfl, rfl, rfl, rfl, rfl, rfl, OpSpec.taken_mem ..,
      fun j hj => (State.startLoop_loop?_ne start hj).trans (by rw [State.loop?, OpSpec.taken_eng, State.loop?])⟩
  case stop =>
    intro i p haccepts q u n hl
    have hexec := exec_loopStop haccepts hl
    exact ⟨fun hstopped => by rw [hexec, if_pos hstopped], fun hon => by rw [hexec, if_neg hon]⟩

end Sys2Proof.Machine
end

section
/-! PROOFS of LoopTicks (O49): the tick of the one loop configured (R370, R372, R377, R378, R379) and its feedback (R377, R380). -/

namespace Sys2Proof.Machine

/-! ### What sending the outputs leaves -/

/-- The loops, the memory, the outstanding packets and the bobbins. -/
def State.besideOutputs (s : State) : NMap Loop × List Host.Cell × List OutPkt × Queues := (s.eng.loops, s.mem, s.pkts, s.q)

theorem State.sendLoops_besideOutputs (s : State) (t : Nat) (ns : List Nat) : (s.sendLoops t ns).besideOutputs = s.besideOutputs := by
  unfold State.sendLoops
  rw [foldl_keeps State.besideOutputs fun y x => ?_, foldl_keeps State.besideOutputs fun y k => ?_, foldl_keeps State.besideOutputs fun y st => ?_]
  · dsimp only
    split <;> split <;> rfl
  · rfl
  · dsimp only
    split <;> rfl

theorem State.sendLoops_frame (s : State) (t : Nat) (ns : List Nat) :
    (s.sendLoops t ns).eng.loops = s.eng.loops ∧ (s.sendLoops t ns).mem = s.mem ∧ (s.sendLoops t ns).pkts = s.pkts ∧ (s.sendLoops t ns).q = s.q := by
  simpa only [State.besideOutputs, Prod.mk.injEq] using s.sendLoops_besideOutputs t ns

/-! ### The tick of the one loop configured -/

/-- The loop's next tick (R370). -/
def Loop.due (l : Loop) : Nat := l.start + l.tick * l.period

section
variable {s : State} {n : Nat} {l : Loop} (hloops : s.eng.loops = [(n, l)])
include hloops

theorem State.loop?_of_one : s.loop? n = some l := by simp [State.loop?, hloops, NMap.get?]

theorem State.setLoop_loops_of_one (f : Loop → Loop) : (s.setLoop n f).eng.loops = [(n, f l)] := by
  simp [State.setLoop, hloops, NMap.upd, NMap.get?, NMap.put]

/-- At its due tick the one loop is stepped, its tick counted, its end looked for, and its output sent. -/
theorem State.loopTick_of_one (hon : l.mode ≠ .stopped) (hdue : l.due ≤ s.now) :
    s.loopTick = (let r := ((s.stepLoop n l.due).setLoop n (fun x => { x with tick := x.tick + 1 })).endLoop n l.due
      r.1.sendLoops l.due (n :: r.2.filter (fun i => !decide (i = n))).eraseDups) := by
  unfold Loop.due at hdue
  simp [State.loopTick, hloops, hon, hdue, insRank, Loop.due]

end

/-- A loop that has no LOOP_STOP waiting does not end. -/
theorem State.endLoop_none {s : State} {n : Nat} {l : Loop} (t : Nat) (hl : s.loop? n = some l) (hending : l.ending = []) : s.endLoop n t = (s, []) := by
  simp [State.endLoop, hl, hending]

/-- What a step makes of the one loop, its tick counts and sends; with no LOOP_STOP waiting the rest is as the step left it. -/
theorem exec_loopTick_of_one {s v : State} {n : Nat} {l m : Loop} (hup : s.pwr.phase = .up) (hloops : s.eng.loops = [(n, l)]) (hon : l.mode ≠ .stopped)
    (hdue : l.due ≤ s.now) (hstep : s.stepLoop n l.due = v) (hm : v.eng.loops = [(n, m)]) (hending : m.ending = []) :
    ∃ u : State, exec .loopTick s = .next u ∧ u.loop? n = some { m with tick := m.tick + 1 } ∧ u.mem = v.mem ∧ u.pkts = v.pkts ∧ u.q = v.q := by
  have hcounted := State.setLoop_loops_of_one hm (fun x => { x with tick := x.tick + 1 })
  have hexec : exec .loopTick s = .next ((v.setLoop n (fun x => { x with tick := x.tick + 1 })).sendLoops l.due [n]) := by
    show Host.Outcome.next (match s.pwr.phase with | .up => s.loopTick | _ => s) = _
    rw [hup, State.loopTick_of_one hloops hon hdue, hstep, State.endLoop_none _ (State.loop?_of_one hcounted) hending]
    rfl
  obtain ⟨hl, hmem, hpkts, hq⟩ := State.sendLoops_frame (v.setLoop n (fun x => { x with tick := x.tick + 1 })) l.due [n]
  exact ⟨_, hexec, State.loop?_of_one (hl.trans hcounted), hmem, hpkts, hq⟩

/-- Before the next tick of every loop that is not stopped nothing happens. -/
theorem exec_loopTick_idle {s : State} (hup : s.pwr.phase = .up) (hidle : ∀ x ∈ s.eng.loops, x.2.mode = .stopped ∨ s.now < x.2.due) : exec .loopTick s = .next s := by
  have hnone : (s.eng.loops.filter (fun x => x.2.mode ≠ .stopped)).filter (fun x => decide (x.2.start + x.2.tick * x.2.period ≤ s.now)) = [] := by
    simp only [List.filter_eq_nil_iff, List.mem_filter, decide_eq_true_eq]
    intro x ⟨hx, hon⟩ hle
    rcases hidle x hx with hstopped | hlater
    · exact hon hstopped
    · exact absurd hle (Nat.not_le.2 hlater)
  show Host.Outcome.next (match s.pwr.phase with | .up => s.loopTick | _ => s) = _
  simp only [hup, State.loopTick, hnone, List.foldl_nil]

/-! ### The step of a loop outside a pause (Table 16.5) -/

section
variable {s : State} {n : Nat} {l : Loop} (hl : s.loop? n = some l) (hpause : s.pauseStage = 0) (hrun : l.mode = .running)
include hl hpause hrun

/-- A fenced loop outputs SAFE_VAL (R379). -/
theorem State.stepLoop_fenced (t : Nat) (hfenced : l.fenced = true) : s.stepLoop n t = s.setLoop n (fun _ => { l with out := l.safeVal, outSafe := true }) := by
  simp [State.stepLoop, hl, hpause, hrun, hfenced]

variable {t : Nat} (hfree : l.fenced = false)
include hfree

/-- A finite, plausible sample and a valid set-point step the compensator (R372, R377, R378). -/
theorem State.stepLoop_compensates {f w : Nat} {m : Loop} (hsample : s.sample l t = some f) (hfinite : finite32 f = true)
    (hplausible : ({ l with missing := 0, f := f } : Loop).plausible f = (m, false)) (hstuck : m.stuck = false) (hset : s.setPoint m = some w) :
    s.stepLoop n t = s.setLoop n (fun _ => m.compensate w) := by
  simp only [hrun, hfree] at hplausible
  simp [State.stepLoop, hl, hpause, hrun, hfree, hsample, hfinite, hplausible, hstuck, hset]

/-- The last sample that may be missing fences the loop (R377, R379). -/
theorem State.stepLoop_missing (hsample : s.sample l t = none) (hlast : l.hd 400 397 ≤ l.missing + 1) :
    s.stepLoop n t = (s.setLoop n (fun _ => { l with missing := l.missing + 1 })).fenceLoop n 2 8 := by
  simp [State.stepLoop, hl, hpause, hrun, hfree, hsample, hlast]

end

/-- A plausibility check keeps all but the model and the count. -/
theorem Loop.plausible_frame (l : Loop) (f : Nat) :
    (l.plausible f).1.tick = l.tick ∧ (l.plausible f).1.ending = l.ending ∧ (l.plausible f).1.stuck = l.stuck := by
  unfold Loop.plausible
  dsimp only
  split
  · exact ⟨rfl, rfl, rfl⟩
  · split <;> exact ⟨rfl, rfl, rfl⟩

/-! ### The fence of the one loop configured (R379) -/

/-- A fence reports and logs; packets and engines are as they were. -/
theorem State.fence_frame (s : State) (creator opcode ctx cls unit cause : Nat) :
    (s.fence creator opcode ctx cls unit cause).pkts = s.pkts ∧ (s.fence creator opcode ctx cls unit cause).eng = s.eng := by
  obtain ⟨hpkts, _, _, _, _, _, _, _, _, _, _, _, _, heng, _⟩ := s.event_frame creator opcode fenced ctx [cls, unit, cause, 0]
  simp [State.fence, hpkts, heng]

/-- The one loop, no other's outer and with no outer of its own, is fenced alone, with SAFE_VAL as its output. -/
theorem State.fenceLoop_of_one {s : State} {n : Nat} {l : Loop} (cause fuel : Nat) (hloops : s.eng.loops = [(n, l)]) (hfree : l.fenced = false) (hon : l.mode ≠ .stopped)
    (houter : l.outer? = none) :
    (s.fenceLoop n cause (fuel + 1)).eng.loops = [(n, { l with fenced := true, out := l.safeVal, outSafe := true })] ∧ (s.fenceLoop n cause (fuel + 1)).pkts = s.pkts := by
  have hset := State.setLoop_loops_of_one hloops (fun l => { l with fenced := true, out := l.safeVal, outSafe := true })
  obtain ⟨hpkts, heng⟩ := State.fence_frame (s.setLoop n (fun l => { l with fenced := true, out := l.safeVal, outSafe := true })) l.opener 0x0720 l.ctx 0xE n cause
  replace hpkts := hpkts.trans (show _ = s.pkts from rfl)
  have houter' : ({ l with fenced := true, out := l.safeVal, outSafe := true } : Loop).outer? = none := houter
  simp [State.fenceLoop, State.loop?_of_one hloops, hfree, hon, houter, houter', heng, hset, hpkts, feeds]

/-! ### Feedback frames (R377, R380) -/

/-- The form and the CRC of a feedback frame's payload (Table 16.4). -/
def feedbackOk (can : Bool) (x : List Byte) : Bool :=
  let b (i : Nat) : Nat := (x.getD i 0).toNat
  b 0 = 1 && b 1 = 2 && decide (1 ≤ b 3) && decide (b 3 ≤ 16) && decide (16 + 8 * b 3 ≤ x.length)
    && leNat ((x.drop (12 + 8 * b 3)).take 4) = crc32c (x.take (12 + 8 * b 3)) && (can || (decide (1 ≤ b 2) && decide (b 2 ≤ 31)))

/-- The key of a frame's source. -/
def feedbackKey (can : Bool) (port id : Nat) (x : List Byte) : Nat := if can then 512 + (port * 2048 + id) * 16 else (x.getD 2 0).toNat * 16

/-- The SEQ of a frame. -/
def feedbackSeq (x : List Byte) : Nat := (x.getD 4 0).toNat + (x.getD 5 0).toNat * 256

/-- The value in slot `i` of a frame that arrives now. -/
def State.feedbackIn (s : State) (x : List Byte) (i : Nat) : Feedback :=
  { arrival := s.now, ts := leNat ((x.drop 6).take 4), valid := bit ((x.getD (12 + 8 * i + 1) 0).toNat) 0, value := leNat ((x.drop (12 + 8 * i + 4)).take 4) }

/-- The feedback with the values of the first `n` slots behind what is kept of the older ones. -/
def State.feedbackWith (s : State) (key : Nat) (x : List Byte) (n : Nat) : NMap (List Feedback) :=
  (List.range n).foldl (fun m i => NMap.put m (key + i) ((NMap.getD m (key + i) []).filter (fun y => decide (s.now ≤ y.arrival + 200002000)) ++ [s.feedbackIn x i])) s.eng.feedback

/-- The latest value of each slot that a frame fills is the frame's. -/
theorem State.feedbackWith_last (s : State) (key : Nat) (x : List Byte) {n i : Nat} (hi : i < n) :
    (NMap.getD (s.feedbackWith key x n) (key + i) []).getLast? = some (s.feedbackIn x i) := by
  induction n with
  | zero => exact absurd hi (Nat.not_lt_zero i)
  | succ n ih =>
    simp only [State.feedbackWith, List.range_succ, List.foldl_append, List.foldl_cons, List.foldl_nil, NMap.getD]
    rcases Nat.lt_succ_iff_lt_or_eq.1 hi with hlt | rfl
    · rw [NMap.get?_put_ne (by omega)]
      exact ih hlt
    · simp

/-- A frame that is heard while the module is up. -/
theorem exec_loopFeedbackFrame {s : State} {can : Bool} {port id : Nat} {x : List Byte} (hup : s.pwr.phase = .up)
    (hheard : can = true ∨ (port < 2 ∧ s.portUp (10 + port) = true)) :
    exec (.loopFeedbackFrame can port id x) s = .next (
      if feedbackOk can x = false then s
      else if NMap.get? s.eng.ringRx (feedbackKey can port id x) = some (feedbackSeq x) then { s with eng := { s.eng with copies := s.eng.copies + 1 } }
      else { s with eng := { s.eng with
        feedback := s.feedbackWith (feedbackKey can port id x) x (x.getD 3 0).toNat, ringRx := NMap.put s.eng.ringRx (feedbackKey can port id x) (feedbackSeq x) } }) := by
  have hin : (!can && (decide (2 ≤ port) || !s.portUp (10 + port))) = false := by
    rcases hheard with rfl | ⟨hport, hlink⟩
    · rfl
    · simp [hlink, hport]
  show execLoopFeedbackFrame can port id x s = _
  simp only [execLoopFeedbackFrame, hup, hin, ne_eq, not_true_eq_false, decide_false, Bool.or_false, Bool.not_eq_true']
  rfl

theorem feedbackOk_iff {can : Bool} {x : List Byte} : feedbackOk can x = true ↔
    let b (i : Nat) : Nat := (x.getD i 0).toNat
    b 0 = 1 ∧ b 1 = 2 ∧ 1 ≤ b 3 ∧ b 3 ≤ 16 ∧ 16 + 8 * b 3 ≤ x.length
      ∧ leNat ((x.drop (12 + 8 * b 3)).take 4) = crc32c (x.take (12 + 8 * b 3)) ∧ (can = true ∨ (1 ≤ b 2 ∧ b 2 ≤ 31)) := by
  simp only [feedbackOk, Bool.and_eq_true, Bool.or_eq_true, decide_eq_true_eq, and_assoc]

/-! ### LoopTicks -/

/-- Settles O49: the step of the one loop is counted and sent (`exec_loopTick_of_one`), and a frame that is heard does what `exec_loopFeedbackFrame` says. -/
theorem loopTicks : Obligations.LoopTicks := by
  unfold Obligations.LoopTicks
  refine ⟨fun s hup hidle => exec_loopTick_idle hup hidle, fun s n f w l m hup hloops hrun hfree hstuck hending hpause _ _ hdue hsample hfinite hplausible hset => ?runs,
    fun s n l hup hloops hrun hfenced hending hpause hdue => ?fenced,
    fun s n l hup hloops hrun hfree hending hpause houter hdue hsample hlast => ?missing, fun s can port id x => ?feedback⟩
  case runs =>
    obtain ⟨htick, hend, hstuck'⟩ := ({ l with missing := 0, f := f } : Loop).plausible_frame f
    rw [hplausible] at htick hend hstuck'
    obtain ⟨u, hexec, hu, hmem, hpkts, hq⟩ := exec_loopTick_of_one hup hloops (by simp [hrun]) hdue
      (State.stepLoop_compensates (State.loop?_of_one hloops) hpause hrun hfree hsample hfinite hplausible (hstuck'.trans hstuck) hset)
      (State.setLoop_loops_of_one hloops _) (hend.trans hending)
    refine ⟨u, hexec, hu.trans ?_, hmem, hpkts, hq⟩
    rw [← show m.tick = l.tick from htick]
    rfl
  case fenced =>
    obtain ⟨u, hexec, hu, hmem, hpkts, _⟩ := exec_loopTick_of_one hup hloops (by simp [hrun]) hdue
      (State.stepLoop_fenced (State.loop?_of_one hloops) hpause hrun _ hfenced) (State.setLoop_loops_of_one hloops _) hending
    exact ⟨u, hexec, hu, hmem, hpkts⟩
  case missing =>
    obtain ⟨hfence, hfencePkts⟩ := State.fenceLoop_of_one 2 7 (State.setLoop_loops_of_one hloops (fun _ => { l with missing := l.missing + 1 })) hfree
      (by simp [hrun]) houter
    obtain ⟨u, hexec, hu, _, hpkts, _⟩ := exec_loopTick_of_one hup hloops (by simp [hrun]) hdue
      (State.stepLoop_missing (State.loop?_of_one hloops) hpause hrun hfree hsample hlast) hfence hending
    exact ⟨u, _, hexec, hu, rfl, rfl, rfl, hpkts.trans hfencePkts⟩
  case feedback =>
    intro b n seq key good hup hheard
    have hexec := exec_loopFeedbackFrame (id := id) (x := x) hup hheard
    have hok : feedbackOk can x = true ↔ good := feedbackOk_iff
    refine ⟨fun hbad => ?_, fun hgood hcopy => ?_, fun hgood hnew => ?_⟩
    · exact hexec.trans (congrArg _ (if_pos (Bool.eq_false_iff.2 fun h => hbad (hok.1 h))))
    · exact hexec.trans (congrArg _ ((if_neg (by simp [hok.2 hgood])).trans (if_pos hcopy)))
    · exact ⟨_, hexec.trans (congrArg _ ((if_neg (by simp [hok.2 hgood])).trans (if_neg hnew))), NMap.get?_put_same _ _ _, rfl, rfl,
        fun i hi => s.feedbackWith_last _ x hi⟩

end Sys2Proof.Machine
end

section
/-! PROOFS of PowerSharing (O54): PHASE_HINT (R422, R423), BUDGET_REQUEST and grants (R430, R431, R433), POWER_QUERY, calibration (R424), the governor (R426),
droops and phases (R418, R421), temperatures (R434, R435). -/

namespace Sys2Proof.Machine

theorem State.whileUp_up {s t : State} (hup : s.pwr.phase = .up) : s.whileUp t = t := State.whileUp_of (by simp [State.clocked, hup])

/-! ### Phase hints -/

theorem hintsInForce_of_others (s : State) (c : Nat) :
    s.hintsInForce.filter (fun h => h.ctx ≠ c) = (s.tens.hints.filter (fun h => h.ctx ≠ c)).filter (fun h => h.stage ≠ .closed) := by
  simp only [State.hintsInForce, List.filter_filter, Bool.and_comm]

/-- The headroom that a hint is checked against (R422). -/
def State.hintRoom (s : State) (p : Packet) : Nat :=
  (if p.word 5 ≤ 10000 then min 600000 (s.shareNow + 120000) else s.shareNow) - s.tens.draw
    - (((s.tens.hints.filter (fun h => h.ctx ≠ p.ctx)).filter (fun h => h.stage ≠ .closed)).map (fun h => h.powerMw)).sum

/-- What a PHASE_HINT that passes its checks ends with (R422). -/
theorem specPhaseHint_run (e : Env) (s : State) :
    specPhaseHint.run e s = (
      let others := s.tens.hints.filter (fun h => h.ctx ≠ e.p.ctx)
      let start := (hintStart e.p).getD 0
      let open_ := max (s.now + 12000) start
      let h : Hint := { ctx := e.p.ctx, cores := hintCores s e.p, powerMw := e.p.word 4, durUs := e.p.word 5, start := start, openAt := open_ }
      if (hintStart e.p).isSome && decide (start + e.p.word 5 * 1000 ≤ s.now) then s.finish e.id 0x0401 [start % 2 ^ 32]
      else if 16 ≤ others.length then s.finish e.id 0x0200 [0x26]
      else if s.hintRoom e.p < e.p.word 4 then s.finish e.id 0x0204 [s.hintRoom e.p]
      else ({ s with tens := { s.tens with hints := others ++ [h] } } : State).finish e.id 0
        [open_ % 2 ^ 32, (open_ + e.p.word 5 * 1000) % 2 ^ 32, s.hintRoom e.p - e.p.word 4, 0]) := by
  simp only [specPhaseHint, hintsInForce_of_others]
  cases hintStart e.p <;> rfl

/-! ### Budgets and grants -/

theorem State.applyGrant_one {s : State} {i : Nat} (mw : Nat) (hi : s.budgetWaits 0 = [i]) :
    s.applyGrant mw = ({ s with tens := { s.tens with share := mw } } : State).finish i (if mw < s.tens.want then 0x0204 else 0) [mw, s.budgetNow] := by
  simp only [State.applyGrant, hi, List.foldl_cons, List.foldl_nil]
  rfl

theorem specBudgetMachine_run_manager {e : Env} {s : State} (hmanager : s.isManager = true) :
    specBudgetMachine.run e s = (
      let mw := e.p.word 4
      let v : State := { s with tens := { s.tens with budget := mw, learned := true } }
      let w := ((s.fabricNodes.filter (· ≠ s.dev.node)).foldl (fun (x : State) n => x.plySend n (.machineBudget mw)) v).recompute
      if mw < s.floorSum then s.finish e.id 0x0204 [s.floorSum, s.budgetNow] else w.finish e.id 0 [w.tens.share, w.budgetNow]) := by
  by_cases hlow : e.p.word 4 < s.floorSum
  · simp only [specBudgetMachine, hmanager, State.setBudget, hlow, if_true]
    rfl
  · simp only [specBudgetMachine, hmanager, State.setBudget, hlow, if_true, if_false]
    rfl

theorem specBudgetMachine_run_member {e : Env} {s : State} {c : Nat} (hmember : s.isManager = false) (hc : s.fabricNodes.head? = some c) :
    specBudgetMachine.run e s = (s.setJob e.id (.waits .budget)).plySend c (.budgetRequest (e.p.word 4)) := by
  have hhead : (s.setJob e.id (.waits .budget)).fabricNodes.head? = some c := hc
  rw [specBudgetMachine]
  simp only [hmember, hc, Bool.false_eq_true, if_false]

/-! ### The division of a budget (R430) -/

/-- A claim on a budget that the division has not given more than is wanted. -/
def Claim.Bounded (c : Claim) : Prop := c.given ≤ c.want

/-- What a division has given in all. -/
def givenSum (cs : List Claim) : Nat := (cs.map (fun c => c.given)).sum

/-- A round of `q` each gives away at most `q` for each claim that is unmet. -/
theorem givenSum_round (q : Nat) {cs : List Claim} (h : ∀ c ∈ cs, c.Bounded) :
    givenSum (cs.map (fun c => { c with given := min c.want (c.given + q) })) ≤ givenSum cs + q * (cs.filter (fun c => decide (c.given < c.want))).length := by
  induction cs with
  | nil => simp [givenSum]
  | cons c cs ih =>
    have hc : c.given ≤ c.want := h c (by simp)
    have hcs := ih (fun x hx => h x (List.mem_cons_of_mem _ hx))
    simp only [givenSum, List.map_cons, List.sum_cons, List.filter_cons, List.map_map] at hcs ⊢
    by_cases hunmet : c.given < c.want
    · simp only [hunmet, decide_true, if_true, List.length_cons, Nat.mul_add]
      omega
    · simp only [hunmet, decide_false, Bool.false_eq_true, if_false]
      omega

/-- One milliwatt each to the nodes of a list gives away at most as many as it has, where the claims' nodes differ. -/
theorem givenSum_lucky (ns : List Nat) {cs : List Claim} (hnodes : (cs.map (fun c => c.node)).Nodup) :
    givenSum (cs.map (fun c => if ns.contains c.node then { c with given := c.given + 1 } else c)) ≤ givenSum cs + ns.length := by
  have hcount : givenSum (cs.map (fun c => if ns.contains c.node then { c with given := c.given + 1 } else c))
      = givenSum cs + ((cs.map (fun c => c.node)).filter (ns.contains ·)).length := by
    clear hnodes
    induction cs with
    | nil => rfl
    | cons c cs ih =>
      simp only [givenSum, List.map_cons, List.sum_cons, List.filter_cons] at ih ⊢
      by_cases hc : ns.contains c.node = true
      · simp only [hc, if_true, List.length_cons]
        omega
      · simp only [hc, Bool.false_eq_true, if_false]
        omega
  have hle : ((cs.map (fun c => c.node)).filter (ns.contains ·)).length ≤ ns.length :=
    ((hnodes.filter _).subperm (fun n hn => by simpa using (List.mem_filter.1 hn).2)).length_le
  omega

/-- What a division keeps of its claims: node, floor and want; it gives no more than is wanted and than there is. -/
theorem divide_spec (fuel left : Nat) {cs : List Claim} (hbounded : ∀ c ∈ cs, c.Bounded) (hnodes : (cs.map (fun c => c.node)).Nodup) :
    givenSum (divide fuel left cs) ≤ givenSum cs + left ∧ (divide fuel left cs).map (fun c => (c.node, c.floor)) = cs.map (fun c => (c.node, c.floor)) := by
  induction fuel generalizing left cs with
  | zero => simp [divide]
  | succ fuel ih =>
    unfold divide
    extract_lets unmet q lucky cs1 used
    split
    · simp
    · split
      · have hlucky : lucky.length ≤ left := by simp [lucky]
        refine ⟨(givenSum_lucky lucky hnodes).trans (by omega), ?_⟩
        rw [List.map_map]
        refine List.map_congr_left (fun c _ => ?_)
        simp only [Function.comp]
        split <;> rfl
      · have hround : givenSum cs1 ≤ givenSum cs + q * unmet.length := givenSum_round q hbounded
        have hq : q * unmet.length ≤ left := Nat.div_mul_le_self left unmet.length
        have hbounded1 : ∀ c ∈ cs1, c.Bounded := by
          simp only [cs1, List.mem_map, Claim.Bounded]
          rintro _ ⟨c, -, rfl⟩
          exact Nat.min_le_left ..
        have hmap : cs1.map (fun c => (c.node, c.floor)) = cs.map (fun c => (c.node, c.floor)) := by simp [cs1, Function.comp_def]
        have hnodes1 : (cs1.map (fun c => c.node)).Nodup := by simpa [cs1, Function.comp_def] using hnodes
        obtain ⟨hsum, hkeeps⟩ := ih (left - used) hbounded1 hnodes1
        have hused : used = givenSum cs1 - givenSum cs := rfl
        have hgrows : givenSum cs ≤ givenSum cs1 := by
          simp only [givenSum, cs1, List.map_map]
          refine List.sum_le_sum (fun c hc => ?_)
          have hc' : c.given ≤ c.want := hbounded c hc
          exact le_min hc' (Nat.le_add_right ..)
        exact ⟨by omega, hkeeps.trans hmap⟩

/-- A division of a budget that covers the floors (R430). -/
theorem grantsOf_spec {budget : Nat} {rs : NMap TensReport} (hnodes : (rs.map (fun r => r.1)).Nodup) (hfloor : ∀ r ∈ rs, r.2.floor ≤ 480000)
    (hcovers : (rs.map (fun r => r.2.floor)).sum ≤ budget) :
    ((grantsOf budget rs).map (fun g => g.2)).sum ≤ budget ∧ ∀ r ∈ rs, ∃ g, (r.1, g) ∈ grantsOf budget rs ∧ r.2.floor ≤ g ∧ g ≤ 480000 := by
  unfold grantsOf
  extract_lets cs floors
  have hfloors : floors = (rs.map (fun r => r.2.floor)).sum := by simp [floors, cs, Function.comp_def]
  have hgiven : givenSum cs = 0 := by simp [givenSum, cs, Function.comp_def]
  have hbounded : ∀ c ∈ cs, c.Bounded := by
    simp only [cs, List.mem_map, Claim.Bounded]
    rintro _ ⟨c, -, rfl⟩
    exact Nat.zero_le _
  have hcsNodes : (cs.map (fun c => c.node)).Nodup := by simpa [cs, Function.comp_def] using hnodes
  obtain ⟨hsum, hkeeps⟩ := divide_spec (2 * cs.length + 2) (budget - floors) hbounded hcsNodes
  generalize hds : divide (2 * cs.length + 2) (budget - floors) cs = ds at *
  constructor
  · have hdsFloors : (ds.map (fun c => c.floor)).sum = floors := by
      have hmap := congrArg (List.map Prod.snd) hkeeps
      simp only [List.map_map, Function.comp_def] at hmap
      rw [hmap]
    have hle : ((ds.map (fun c => (c.node, min 480000 (c.floor + c.given)))).map (fun g => g.2)).sum ≤ (ds.map (fun c => c.floor)).sum + givenSum ds := by
      rw [List.map_map, givenSum, ← List.sum_map_add]
      exact List.sum_le_sum (fun c _ => Nat.min_le_right ..)
    omega
  · intro r hr
    have hmem : (r.1, r.2.floor) ∈ ds.map (fun c => (c.node, c.floor)) := by
      rw [hkeeps]
      simp only [cs, List.map_map, List.mem_map]
      exact ⟨r, hr, rfl⟩
    obtain ⟨c, hc, hce⟩ := List.mem_map.1 hmem
    obtain ⟨hnode, hcfloor⟩ := Prod.mk.inj hce
    have hr' := hfloor r hr
    exact ⟨min 480000 (c.floor + c.given), List.mem_map.2 ⟨c, hc, by rw [hnode]⟩, by omega, Nat.min_le_left ..⟩

/-! ### Grants that wait, and reports -/

theorem State.recompute_collecting {s : State} (hcollecting : s.tens.collecting = true) : s.recompute = s := by simp [State.recompute, hcollecting]

theorem State.sendRaised_one {s : State} {node mw : Nat} (hraised : s.tens.raised = [(node, mw)]) :
    s.sendRaised = ({ s with tens := { s.tens with raised := [], lowered := [] } } : State).sendGrant node mw := by
  simp [State.sendRaised, hraised]

/-- The manager's state with a report stored: a lowered node that has come down to its grant is no longer waited for (R431). -/
def State.reported (s : State) (node : Nat) (r : TensReport) : State :=
  { s with tens := { s.tens with
      reports := NMap.put s.tens.reports node r
      lowered := s.tens.lowered.filter (fun n => !(n = node && decide (r.power ≤ NMap.getD s.tens.grants n 0))) } }

/-- A first report of a node, while a new Coordinator collects them, is kept (Table 18.7). -/
theorem State.takeReport_collecting {s : State} {node : Nat} (r : TensReport) (hcollecting : s.tens.collecting = true) (hfirst : NMap.get? s.tens.reports node = none) :
    s.takeReport node r = s.reported node r := by
  unfold State.takeReport
  extract_lets old changed s1
  have hchanged : changed = true := by simp [changed, old, hfirst]
  exact (if_pos hchanged).trans (State.recompute_collecting hcollecting)

/-! ### Calibration (R424, R425) and the governor (R426) -/

theorem logIt_fold_frame (k : LogKind) (ns : List Nat) (s : State) :
    (ns.foldl (fun x n => x.logIt k n) s).tens = s.tens ∧ (ns.foldl (fun x n => x.logIt k n) s).mem = s.mem ∧ (ns.foldl (fun x n => x.logIt k n) s).pkts = s.pkts :=
  ⟨foldl_keeps State.tens (fun x n => x.logIt_tens k n 0 0) ns s, foldl_keeps State.mem (fun x n => x.logIt_mem k n 0 0) ns s, foldl_keeps State.pkts (fun x n => x.logIt_pkts k n 0 0) ns s⟩

/-- What a calibration makes of a rail whose sensors were not implausible before. -/
def Rail.calibrated (r : Rail) (i : Nat) (energy : List (Nat × Nat)) (bad : List Nat) : Rail :=
  if r.faulty then r else if bad.contains i then { r with faulty := true, factor := 0x3FA00000 } else
    match energy[i]? with
    | some (e, m) => { r with factor := calFactor e m }
    | none => r

/-- The state that a calibration leaves, before it logs the rails whose sensors failed. -/
def State.calibrated (s : State) (draw : Nat) (energy : List (Nat × Nat)) (bad : List Nat) : State :=
  let rails := s.tens.rails.zipIdx.map (fun (r : Rail × Nat) => r.1.calibrated r.2 energy bad)
  { s with tens := { s.tens with
      draw := draw, rails := rails
      reserve := if s.shareNow < draw then s.tens.reserve - (draw - s.shareNow) else min 1200000 (s.tens.reserve + 24000)
      sensorFault := s.tens.sensorFault || rails.any (fun r => r.faulty)
      calmSince := if decide (draw * 100 ≤ s.limitNow * 95) then some (s.tens.calmSince.getD s.now) else none } }

theorem State.calibrated_rail (s : State) (draw : Nat) (energy : List (Nat × Nat)) (bad : List Nat) (i : Nat) :
    (s.calibrated draw energy bad).tens.rails[i]? = s.tens.rails[i]?.map (fun r => r.calibrated i energy bad) := by
  simp [State.calibrated, List.getElem?_zipIdx, Function.comp_def]

/-- A calibration logs the rails whose sensors failed, which changes the log alone. -/
theorem exec_powerCalibration {s : State} (draw : Nat) (energy : List (Nat × Nat)) (bad : List Nat) (hup : s.pwr.phase = .up) :
    ∃ t : State, exec (.powerCalibration draw energy bad) s = .next t ∧ t.tens = (s.calibrated draw energy bad).tens ∧ t.mem = s.mem ∧ t.pkts = s.pkts := by
  have hexec : exec (.powerCalibration draw energy bad) s = .next
      ((bad.filter (fun n => n < 64 && !(s.tens.rails.getD n {}).faulty)).foldl (fun x n => x.logIt .sensorFault n) (s.calibrated draw energy bad)) :=
    congrArg Host.Outcome.next (if_neg (not_not_intro hup))
  obtain ⟨htens, hmem, hpkts⟩ := logIt_fold_frame .sensorFault (bad.filter (fun n => n < 64 && !(s.tens.rails.getD n {}).faulty)) (s.calibrated draw energy bad)
  exact ⟨_, hexec, htens, hmem, hpkts⟩

/-! ### Temperatures (R434, R435) -/

theorem throttleStep_has_same (now n : Nat) {x : Int} (m : NMap (Option Nat)) (hx : (thermLimits n).1 ≤ x) : NMap.has (throttleStep now n x m) n = true := by
  have hlo : (thermLimits n).2.1 ≤ x := by
    refine le_trans ?_ hx
    unfold thermLimits
    split
    · decide
    · split <;> decide
  unfold throttleStep NMap.has
  rcases hm : NMap.get? m n with _ | since <;> simp [hx, hlo]

theorem throttleStep_get?_ne (now : Nat) {n j : Nat} (x : Int) (m : NMap (Option Nat)) (hj : j ≠ n) : NMap.get? (throttleStep now n x m) j = NMap.get? m j := by
  unfold throttleStep
  dsimp only
  split
  · split
    · exact NMap.get?_put_ne hj
    · rfl
  · split
    · exact NMap.get?_put_ne hj
    · split
      · exact NMap.get?_put_ne hj
      · split
        · exact NMap.get?_del_ne hj
        · rfl

/-- The throttles after the readings of the sensors from `k` on. -/
def throttleAll (now k : Nat) (ts : List Int) (m : NMap (Option Nat)) : NMap (Option Nat) :=
  (ts.zipIdx k).foldl (fun m (r : Int × Nat) => throttleStep now r.2 r.1 m) m

theorem throttleAll_get?_lt (now : Nat) {k j : Nat} (ts : List Int) (m : NMap (Option Nat)) (hj : j < k) : NMap.get? (throttleAll now k ts m) j = NMap.get? m j := by
  induction ts generalizing k m with
  | nil => rfl
  | cons x ts ih => exact (ih (throttleStep now k x m) (Nat.lt_succ_of_lt hj)).trans (throttleStep_get?_ne now x m (Nat.ne_of_lt hj))

theorem throttleAll_has (now k : Nat) {ts : List Int} (m : NMap (Option Nat)) {i : Nat} {x : Int} (hi : ts[i]? = some x) (hx : (thermLimits (k + i)).1 ≤ x) :
    NMap.has (throttleAll now k ts m) (k + i) = true := by
  induction ts generalizing k m i with
  | nil => simp at hi
  | cons y ts ih =>
    cases i with
    | zero =>
      obtain rfl : y = x := by simpa using hi
      have hkept : NMap.get? (throttleAll now k (y :: ts) m) k = NMap.get? (throttleStep now k y m) k := throttleAll_get?_lt now ts _ (Nat.lt_succ_self k)
      rw [Nat.add_zero, NMap.has, hkept]
      exact throttleStep_has_same now k m hx
    | succ i =>
      have hsum : k + (i + 1) = k + 1 + i := by omega
      rw [hsum] at hx ⊢
      exact ih (k + 1) (throttleStep now k y m) (by simpa using hi) hx

@[simp] theorem State.raise_tens (s : State) (n : Nat) : (s.raise n).tens = s.tens := by
  rcases s.raise_cases n with e | e <;> simp [e]

theorem State.thermalSample_throttled {s : State} (temps : List Int) (hup : s.pwr.phase = .up) :
    (s.thermalSample temps).tens.throttled = throttleAll s.now 0 (temps.take 22) s.tens.throttled := by
  unfold State.thermalSample
  rw [if_neg (not_not_intro hup)]
  extract_lets
  split
  · rfl
  · simp only [State.raise_tens, State.logIt_tens]
    rfl

theorem State.thermalSample_queuedAcks (s : State) (temps : List Int) : (s.thermalSample temps).dbg.queuedAcks = s.dbg.queuedAcks := by
  unfold State.thermalSample
  split
  · rfl
  · extract_lets
    split
    · rfl
    · simp only [State.raise_queuedAcks, State.logIt_dbg]
      rfl

/-- At a Safe-hold threshold every governor step is taken and cause 5 raised, unless it is in force (R435). -/
theorem State.thermalSample_beyond {s : State} {temps : List Int} {n : Nat} {x : Int} (hup : s.pwr.phase = .up) (hn : n < 22) (hread : temps[n]? = some x)
    (hx : (thermLimits n).2.2 ≤ x) (hfree : bit s.saf.causes 5 = false) :
    (s.thermalSample temps).saf.causes = (s.saf.causes ||| 32) ∧ (s.thermalSample temps).tens.gov = 4 ∧ (s.thermalSample temps).tens.acMhz = [1200, 1200] := by
  unfold State.thermalSample
  rw [if_neg (not_not_intro hup)]
  extract_lets t rs thr beyond cool capped cap low maxOf s1 flex s2
  have hmem : (x, n) ∈ rs := by
    rw [List.mem_zipIdx_iff_getElem?, List.getElem?_take_of_lt hn]
    exact hread
  have hbeyond : n ∈ beyond := List.mem_map.2 ⟨(x, n), List.mem_filter.2 ⟨hmem, by simpa using hx⟩, rfl⟩
  have hacts : (beyond.isEmpty || bit s.saf.causes 5) = false := by
    rw [hfree, Bool.or_false, List.isEmpty_eq_false_iff]
    exact List.ne_nil_of_mem hbeyond
  rw [hacts, if_neg (by decide)]
  simp only [State.raise_causes, State.raise_tens, State.logIt_tens, State.logIt_saf]
  exact ⟨rfl, rfl, rfl⟩

/-- Settles O54, clause by clause; the division of a budget by induction on its rounds. -/
theorem powerSharing : Obligations.PowerSharing := by
  unfold Obligations.PowerSharing
  refine ⟨fun src p0 s => ?hint, fun src p0 s haccepts => OpSpec.next_exec_accepted haccepts (by decide) rfl, fun s c hclocked => ?stages,
    fun src p0 s haccepts => OpSpec.next_exec_accepted haccepts (by decide) rfl, fun s mw i hup hmw hone => ?grant, fun src p0 s => ?budget,
    fun budget rs => grantsOf_spec, fun src p s haccepts => OpSpec.next_exec_accepted haccepts (by decide) rfl, fun s est cores hup => ?governor,
    fun s cores hoff => ?steps, fun s draw energy bad hup => ?calibration, fun s rail hup hrail => ?droop, fun s rail carries hrail => ?phaseFault, fun s hup => ?report,
    fun s node r => State.takeReport_collecting r, fun s node mw hclocked hmanager hraised hage => ?raised, fun s hclocked hcollecting => ?collected,
    fun s temps hup hacks => ?thermal, fun s hup => congrArg Host.Outcome.next (if_pos hup)⟩
  case hint =>
    intro p haccepts
    exact OpSpec.next_exec_accepted haccepts (by decide) (specPhaseHint_run ..)
  case stages =>
    exact ⟨congrArg Host.Outcome.next (State.whileUp_of hclocked), congrArg Host.Outcome.next (State.whileUp_of hclocked), congrArg Host.Outcome.next (State.whileUp_of hclocked)⟩
  case grant =>
    have hexec : exec (.grantReceived mw) s = .next (s.applyGrant (min mw 480000)) := congrArg Host.Outcome.next (if_pos hup)
    rw [hexec, Nat.min_eq_left hmw, State.applyGrant_one mw hone]
  case budget =>
    intro p haccepts
    exact ⟨fun hmanager => OpSpec.next_exec_accepted haccepts (by decide) (specBudgetMachine_run_manager (e := specBudgetMachine.env src p s) hmanager),
      fun c hmember hc => OpSpec.next_exec_accepted haccepts (by decide) (specBudgetMachine_run_member (e := specBudgetMachine.env src p s) hmember hc)⟩
  case governor =>
    have hexec : exec (.governorDecision est cores) s = .next (if s.limitNow < est then s.govDown cores else match s.tens.calmSince with
        | some t => if 0 < s.tens.gov && t + 5000000 ≤ s.now then s.govUp else s
        | none => s) := congrArg Host.Outcome.next (if_neg (not_not_intro hup))
    refine ⟨fun hover => ?_, fun hle t ht hgov hcalm => ?_, fun hle ht => ?_⟩
    · rw [hexec, if_pos hover]
    · rw [hexec, if_neg (Nat.not_lt.2 hle)]
      simp [ht, hgov, hcalm]
    · rw [hexec, if_neg (Nat.not_lt.2 hle)]
      simp [ht]
  case steps =>
    refine ⟨fun hfast => ?_, fun k hslow hk => ?_, fun hgov => ?_⟩
    · exact (if_pos hfast).trans (State.trace_off _ hoff)
    · unfold State.govDown
      simp only [hslow, hk, Bool.false_eq_true, if_false]
      exact State.trace_off _ hoff
    · exact (if_pos hgov).trans (State.trace_off _ hoff)
  case calibration =>
    obtain ⟨t, hexec, htens, hmem, hpkts⟩ := exec_powerCalibration draw energy bad hup
    refine ⟨t, hexec, by rw [htens]; rfl, by rw [htens]; rfl, hmem, hpkts, by rw [htens]; rfl, by rw [htens]; simp [State.calibrated], fun i r hr hok => ?_⟩
    rw [htens, State.calibrated_rail, hr]
    exact ⟨fun hbad => by simp [Rail.calibrated, hok, hbad], fun e m hgood he => by simp [Rail.calibrated, hok, hgood, he]⟩
  case droop =>
    intro rails
    have hon : ¬ (decide (44 ≤ rail) || decide (s.pwr.phase ≠ .up)) = true := by simp [hrail, hup]
    exact ⟨congrArg Host.Outcome.next (if_neg hon), fun h => congrArg Host.Outcome.next ((if_neg hon).trans (if_pos h)),
      fun h => congrArg Host.Outcome.next ((if_neg hon).trans (if_neg (Bool.eq_false_iff.1 h)))⟩
  case phaseFault =>
    intro set u v
    refine congrArg Host.Outcome.next ((if_neg (Nat.not_le.2 hrail)).trans ?_)
    by_cases hspare : (s.tens.rails.getD rail {}).spareUsed = true
    · exact (if_neg (by rw [hspare]; decide)).trans (if_pos hspare).symm
    · exact (if_pos (by rw [Bool.eq_false_iff.2 hspare]; decide)).trans (if_neg hspare).symm
  case report =>
    refine ⟨fun hmanager => ⟨congrArg Host.Outcome.next ((if_neg (not_not_intro hup)).trans (if_pos hmanager)), fun node floor want power hnode => ?_⟩, fun c hmember hc => ?_⟩
    · exact congrArg Host.Outcome.next (if_pos (by simp [hmanager, hnode, hup]))
    · refine congrArg Host.Outcome.next ((if_neg (not_not_intro hup)).trans ((if_neg (by simp [hmember])).trans ?_))
      rw [hc]
  case raised =>
    refine congrArg Host.Outcome.next ((State.whileUp_of hclocked).trans ((if_pos ?_).trans (State.sendRaised_one hraised)))
    simp [hmanager, hraised, hage]
  case collected => exact congrArg Host.Outcome.next ((State.whileUp_of hclocked).trans (if_pos hcollecting))
  case thermal =>
    have hexec : exec (.thermalSample temps) s = .next (s.thermalSample temps) :=
      congrArg Host.Outcome.next ((State.whileUp_up hup).trans (State.drainAcks_of_none ((s.thermalSample_queuedAcks temps).trans hacks)))
    refine ⟨hexec, fun n x hn hread hx => ?_, fun n x hn hread hx => State.thermalSample_beyond hup hn hread hx⟩
    rw [State.thermalSample_throttled temps hup]
    simpa using throttleAll_has s.now 0 s.tens.throttled (ts := temps.take 22) (i := n) (by rw [List.getElem?_take_of_lt hn, hread]) (by simpa using hx)

end Sys2Proof.Machine
end

section
/-! PROOFS of SafetyChannel (O55): causes (R441), the age watch (R445, R446), deadlines (R447), the status frame (R444), STATUS_CFG and HOST_WD,
SAFE_STATE_REQUEST and AT_REST_ASSERT (R449 to R451), and pair comparison (R454, R455). -/

namespace Sys2Proof.Machine

/-! ### Causes (Table 19.2) -/

/-- A set of causes with one of 4, 5, 6, 11 and 13 gives Safe-hold. -/
theorem modeOf_safeHold {causes n : Nat} (hn : safeHoldCauses.testBit n = true) (hin : causes.testBit n = true) : modeOf causes = .safeHold := by
  refine if_pos (fun hzero => ?_)
  have hbit : (causes &&& safeHoldCauses).testBit n = true := by simp [hin, hn]
  simp [hzero] at hbit

theorem State.raise_safety {s : State} {n : Nat} (hn : safeHoldCauses.testBit n = true) : (s.raise n).safety = .safeHold := by
  refine modeOf_safeHold hn ?_
  simp [State.raise_causes, Nat.testBit_or, Nat.testBit_shiftLeft]

theorem safeHoldCauses_testBit {n : Nat} (hn : n ∈ [4, 5, 6, 11, 13]) : safeHoldCauses.testBit n = true := by
  fin_cases hn <;> decide

/-- Raising a Safe-hold cause resumes the halted cores (R494). -/
theorem State.raise_resumes {s : State} {n : Nat} (hn : safeHoldCauses.testBit n = true) : (s.raise n).dbg.haltedAc = 0 ∧ (s.raise n).dbg.haltedFl = 0 := by
  have hraise : s.raise n = (let s1 := s.setCauses (s.saf.causes ||| 1 <<< n)
      { s1 with dbg := { s1.dbg with haltedAc := 0, haltedFl := 0 } }) := if_pos hn
  rw [hraise]
  exact ⟨rfl, rfl⟩

/-- What `Distaff` holds beside the causes. -/
theorem State.setCauses_saf (s : State) (c : Nat) : (s.setCauses c).saf = { s.saf with causes := c } := by
  have hhold : ∀ (x : State) (a b : SafetyMode), (x.holdChange a b).saf = x.saf := by
    intro x a b
    unfold State.holdChange
    split
    · rfl
    · split <;> rfl
  rcases s.setCauses_cases c with ⟨-, e⟩ | ⟨-, e⟩ <;> simp [e, hhold]

theorem State.raise_saf (s : State) (n : Nat) : (s.raise n).saf = { s.saf with causes := s.saf.causes ||| 1 <<< n } := by
  rcases s.raise_cases n with e | e <;> rw [e] <;> exact s.setCauses_saf _

theorem State.endCause_compares (s : State) (n : Nat) : (s.endCause n).saf.compares = s.saf.compares := by
  unfold State.endCause
  split
  · rw [State.setCauses_saf]
  · rfl

/-! ### The age watch (R445, R446) -/

theorem specAgeRegister_run (e : Env) (s : State) :
    specAgeRegister.run e s = (match (if e.p.b 3 29 then (List.range 256).find? (fun n => !NMap.has s.saf.ages n) else some (e.p.f 3 7 0)) with
      | none => s.finish e.id 0x0200 [0x25]
      | some n => ({ s with saf := { s.saf with ages := NMap.put s.saf.ages n { NMap.getD s.saf.ages n { maxAgeUs := 0 } with maxAgeUs := e.p.word 4 } } } : State).finish e.id 0 [n]) := by
  simp only [specAgeRegister]
  rcases (if e.p.b 3 29 then (List.range 256).find? (fun n => !NMap.has s.saf.ages n) else some (e.p.f 3 7 0)) with _ | n
  · rfl
  · simp only [State.setAge, NMap.getD]
    cases NMap.get? s.saf.ages n <;> rfl

/-- Clearing a validity bit: the bit and the count of the status frame. -/
theorem State.expire_saf (s : State) (n : Nat) (a : AgeStream) (age : Nat) :
    (s.expire n a age).saf = { s.saf with ages := NMap.put s.saf.ages n { a with valid := false }, expired := satAdd 0xFFFF s.saf.expired 1 } := by
  obtain ⟨-, -, -, -, -, hsaf, -⟩ := (s.setAge n { a with valid := false }).event_frame 0 0x0B00 0x0403 0 [n, age]
  simp only [State.expire, State.trace_saf, hsaf]
  rfl

theorem exec_ageCheck_one {s : State} {n t : Nat} {a : AgeStream} (hruns : s.distaffRuns = true) (hone : s.saf.ages = [(n, a)]) (hvalid : a.valid = true)
    (hlatest : a.latest = some t) : exec .ageCheck s = .next (if a.maxAgeUs * 1000 < s.now - t then s.expire n a ((s.now - t) / 1000) else s) := by
  refine congrArg Host.Outcome.next ((if_neg (by simp [hruns])).trans ?_)
  rw [hone, List.foldl_cons, List.foldl_nil, hvalid, hlatest]

/-! ### The status frame (R444) -/

theorem State.sendStatus_ve_unkeyed {s : State} (hkey : s.oobKey = none) :
    (s.sendStatus .ve).out = s.out ++ [.status .ve (s.statusBlock ++ leBytes 8 s.oob.ve.next ++ List.replicate 16 0)] ∧ (s.sendStatus .ve).oob.ve.next = s.oob.ve.next + 1
      ∧ (s.sendStatus .ve).saf.veShown = s.shown ∧ (s.sendStatus .ve).saf.expired = 0 := by
  unfold State.sendStatus
  rw [hkey]
  exact ⟨rfl, rfl, rfl, rfl⟩

/-! ### HOST_WD (Table 19.5) -/

/-- The state with ENABLE and TIMEOUT_MS of a value written to HOST_WD, the watchdog running as told. -/
def State.withWd (s : State) (w : Nat) (run : Option Nat) : State :=
  { s with saf := { s.saf with wdEnable := w.testBit 31, wdTimeout := min 10000 (max 1 (bits w 15 0)), wdRunning := run } }

/-- Neither the mask of ENABLE and TIMEOUT_MS nor that of KICK changes TIMEOUT_MS. -/
theorem bits_timeout_and (w : Nat) : bits (w &&& 0x8000FFFF) 15 0 = bits w 15 0 := by
  refine Nat.eq_of_testBit_eq (fun i => ?_)
  simp only [bits, Nat.testBit_mod_two_pow, Nat.testBit_shiftRight, Nat.testBit_and, Nat.zero_add]
  by_cases hi : i < 16
  · have hmask : Nat.testBit 0x8000FFFF i = true := by interval_cases i <;> decide
    rw [hmask, Bool.and_true]
  · simp [hi]

theorem bits_timeout_or (w : Nat) : bits (w ||| 0x40000000) 15 0 = bits w 15 0 := by
  refine Nat.eq_of_testBit_eq (fun i => ?_)
  simp only [bits, Nat.testBit_mod_two_pow, Nat.testBit_shiftRight, Nat.testBit_or, Nat.zero_add]
  by_cases hi : i < 16
  · have hmask : Nat.testBit 0x40000000 i = false := by interval_cases i <;> decide
    rw [hmask, Bool.or_false]
  · simp [hi]

theorem State.writeHostWd_enable (s : State) (w : Nat) :
    s.writeHostWd (w &&& 0x8000FFFF)
      = s.withWd w (if w.testBit 31 then (if s.saf.wdEnable then s.saf.wdRunning else some (min 10000 (max 1 (bits w 15 0)))) else none) := by
  have hen : bit (w &&& 0x8000FFFF) 31 = w.testBit 31 := (Nat.testBit_and ..).trans (Bool.and_true _)
  have hkick : bit (w &&& 0x8000FFFF) 30 = false := (Nat.testBit_and ..).trans (Bool.and_false _)
  simp only [State.writeHostWd, bits_timeout_and, hen, hkick, State.withWd]
  cases w.testBit 31 <;> cases s.saf.wdEnable <;> rfl

theorem State.writeHostWd_kick (s : State) (w : Nat) :
    s.writeHostWd (w ||| 0x40000000) = (s.withWd w (if w.testBit 31 then some (min 10000 (max 1 (bits w 15 0))) else none)).endCause 12 := by
  have hen : bit (w ||| 0x40000000) 31 = w.testBit 31 := (Nat.testBit_or ..).trans (Bool.or_false _)
  have hkick : bit (w ||| 0x40000000) 30 = true := (Nat.testBit_or ..).trans (Bool.or_true _)
  simp only [State.writeHostWd, bits_timeout_or, hen, hkick, State.withWd, Bool.true_or, if_true]
  cases w.testBit 31
  · simp only [Bool.not_false, if_true, Bool.false_eq_true, if_false]
  · simp only [Bool.not_true, if_true, Bool.false_eq_true, if_false]

/-! ### Machine at rest (R450) -/

theorem specAtRest_run_assert {e : Env} {s : State} (hassert : e.p.b 3 31 = true) :
    specAtRest.run e s = (({ s with saf := { s.saf with atRest := some (s.now + e.p.word 4 * 1000000) } } : State).finish e.id 0 [(s.now + e.p.word 4 * 1000000) % 2 ^ 32]) := by
  simp only [specAtRest, hassert, if_true, State.logLapse, State.isAtRest, Option.isSome_some, Bool.not_true, Bool.and_false, Bool.false_eq_true, if_false]
  rfl

/-- The end of an assertion is logged while an activation runs (Table 24.10). -/
theorem State.logLapse_unasserted {s : State} (hrest : s.saf.atRest = none) : s.logLapse = if s.upd.act.isSome then s.logIt .update 1 else s := by
  simp [State.logLapse, State.isAtRest, hrest]

theorem specAtRest_run_withdraw {e : Env} {s : State} (hwithdraw : e.p.b 3 31 = false) :
    specAtRest.run e s = (let v : State := { s with saf := { s.saf with atRest := none } }
      (if s.upd.act.isSome then v.logIt .update 1 else v).finish e.id 0 [(s.now + e.p.word 4 * 1000000) % 2 ^ 32]) := by
  rw [specAtRest]
  simp only [hwithdraw, Bool.false_eq_true, if_false]
  rw [State.logLapse_unasserted rfl]
  rfl

/-! ### Pair comparison (R454, R455) -/

section
variable {s : State} {n : Nat} {c : PairCompare} (hc : NMap.get? s.saf.compares n = some c)
include hc

theorem State.verdictOf_within (hfew : c.disagree + 1 < c.divN) : s.verdictOf n false = s.setCompare n { c with disagree := c.disagree + 1, agreeRun := 0 } := by
  unfold State.verdictOf
  rw [hc]
  exact if_pos hfew

/-- DIV_N disagreements in a row raise cause 7 for the stream. -/
theorem State.verdictOf_diverged (hmany : c.divN ≤ c.disagree + 1) :
    (s.verdictOf n false).saf.causes = (s.saf.causes ||| 128) ∧ (s.verdictOf n false).saf.divStream = n := by
  obtain ⟨-, -, -, -, -, hsaf, -⟩ := (s.setCompare n { c with disagree := 0, agreeRun := 0, diverged := true }).event_frame 0 0x0B02 0x0308 0 [n]
  have hverdict : s.verdictOf n false = (let s2 := (s.setCompare n { c with disagree := 0, agreeRun := 0, diverged := true }).event 0 0x0B02 0x0308 0 [n]
      ({ s2 with saf := { s2.saf with divStream := n } } : State).raise 7) := by
    unfold State.verdictOf
    rw [hc]
    exact if_neg (Nat.not_lt.2 hmany)
  rw [hverdict, State.raise_saf]
  exact ⟨congrArg (fun x => x.causes ||| 1 <<< 7) hsaf, rfl⟩

theorem State.verdictOf_agrees :
    NMap.get? (s.verdictOf n true).saf.compares n = some { c with disagree := 0, agreeRun := c.agreeRun + 1, diverged := c.diverged && decide (c.agreeRun + 1 < 100) } := by
  have hverdict : s.verdictOf n true = (s.setCompare n { c with disagree := 0, agreeRun := c.agreeRun + 1, diverged := c.diverged && decide (c.agreeRun + 1 < 100) }).settlePairs := by
    unfold State.verdictOf
    rw [hc]
    rfl
  have hsettle : ∀ x : State, x.settlePairs.saf.compares = x.saf.compares := by
    intro x
    unfold State.settlePairs
    split
    · rfl
    · exact x.endCause_compares 7
  rw [hverdict, hsettle]
  exact NMap.get?_put_same ..

theorem State.peerRecord_of_partner {node stamp : Nat} (vals : List Nat) (hreach : s.reachable node = true) (hpartner : c.partner = node) (hsame : c.mismatch = false) :
    s.peerRecord node n stamp vals = (match c.own.find? (fun x => c.matches_ ⟨stamp, vals⟩ x) with
      | some x => (s.setCompare n { c with own := c.own.filter (fun y => y ≠ x) }).verdictOf n (c.agree ⟨stamp, vals⟩ x)
      | none => s.setCompare n { c with peer := c.peer ++ [⟨stamp, vals⟩] }) := by
  have hboth : c.partner = node ∧ s.reachable node = true := ⟨hpartner, hreach⟩
  simp only [State.peerRecord, hc, hboth, State.compareRecord, hsame, Bool.false_eq_true, if_false]
  rcases c.own.find? (fun x => c.matches_ ⟨stamp, vals⟩ x) with _ | x <;> rfl

end

/-- Settles O55, clause by clause from the rules of the causes, the age watch, the status frame and the comparisons. -/
theorem safetyChannel : Obligations.SafetyChannel := by
  unfold Obligations.SafetyChannel
  refine ⟨fun s n => ⟨s.raise_causes n, fun hn => State.raise_safety (safeHoldCauses_testBit hn), ?cause⟩,
    fun src p0 s haccepts => OpSpec.next_exec_accepted haccepts (by decide) (specAgeRegister_run ..),
    fun src p0 s haccepts => OpSpec.next_exec_accepted haccepts (by decide) rfl, fun s n t a hruns hone hvalid hlatest => ?age, fun s id o ho hop hfixed hjob hruns => ?overrun,
    fun s hup hpkts => ?cleared, fun s pair hup hpair hacks => ?fault, fun s c hon hruns hpause => ?frames, fun s => ⟨leBytes_length .., State.sendStatus_ve_unkeyed⟩,
    fun s who v hup => ⟨fun hsup hdis => ?refused, fun hwho => ?writes⟩, fun s ms hwd hruns => ?expiry,
    fun src p0 s haccepts => OpSpec.next_exec_accepted haccepts (by decide) rfl, fun src p0 s haccepts => OpSpec.next_exec_accepted haccepts (by decide) rfl,
    fun src p0 s => ?asserts, fun src p0 s => ?withdraws, fun s t hup hrest => ?lapses,
    fun src p0 s haccepts => OpSpec.next_exec_accepted haccepts (by decide) rfl, fun src p0 s haccepts => OpSpec.next_exec_accepted haccepts (by decide) rfl,
    fun s node n stamp vals c hup hreach hc hpartner hsame => ?record,
    fun s n c hc => ⟨State.verdictOf_within hc, State.verdictOf_diverged hc, State.verdictOf_agrees hc⟩, fun s n c r rest hup hc hown => ?missed⟩
  case cause =>
    rw [State.endCause_causes, Nat.one_shiftLeft]
    rfl
  case age =>
    refine ⟨_, exec_ageCheck_one hruns hone hvalid hlatest, fun hold => ?_, fun hyoung => if_neg (Nat.not_lt.2 hyoung)⟩
    rw [if_pos hold, State.expire_saf]
    exact ⟨NMap.get?_put_same .., rfl⟩
  case overrun =>
    have hexec : exec (.deadlineOverrun id) s = .next (if [0x0310, 0x0701, 0x0711].contains o.pkt.opcode && s.isFixed o.pkt.ctx && o.job ≠ .held && !s.saf.overruns.contains id
        && s.distaffRuns then (({ s with saf := { s.saf with overruns := s.saf.overruns ++ [id] } } : State).logIt .overrun o.pkt.reqTag).raise 8 else s) := by
      show Host.Outcome.next (match s.pkt? id with | some o => _ | none => s) = _
      rw [ho]
    have hop' : [0x0310, 0x0701, 0x0711].contains o.pkt.opcode = true := List.contains_iff_mem.2 hop
    exact ⟨fun hnew => hexec.trans (congrArg _ (if_pos (by rw [hop', hfixed, hruns]; simp [hjob, hnew]))), fun hold => hexec.trans (congrArg _ (if_neg (by simp [hold])))⟩
  case cleared =>
    have hnone : s.saf.overruns.filter (fun i => (s.pkt? i).isSome) = [] := by simp [State.pkt?, hpkts]
    refine congrArg Host.Outcome.next ((State.whileUp_of hup).trans ?_)
    rw [hnone]
  case fault =>
    have hsafe : safeHoldCauses.testBit 4 = true := safeHoldCauses_testBit (by simp)
    let s1 : State := ({ s with saf := { s.saf with daFailed := s.saf.daFailed || decide (pair = 0), dbFailed := s.saf.dbFailed || decide (pair = 1) } } : State).logIt .fence 0x20 pair
    have hexec : exec (.distaffFault pair) s = .next (s1.raise 4) :=
      congrArg Host.Outcome.next ((State.whileUp_of hup).trans ((if_neg (Nat.not_lt.2 hpair)).trans (State.raiseHold_of_none (s := s1) 4 hacks)))
    obtain ⟨hac, hfl⟩ := State.raise_resumes (s := s1) hsafe
    refine ⟨_, hexec, by rw [State.raise_saf]; rfl, by rw [State.raise_saf]; rfl, by rw [State.raise_saf]; rfl, ?_, hac, hfl⟩
    simp [State.safeLow, State.raise_safety hsafe]
  case frames =>
    refine ⟨congrArg Host.Outcome.next (if_neg (by simp [hon, hruns, hpause])), congrArg Host.Outcome.next ?_⟩
    simp [hon, hruns, hpause]
  case refused =>
    have hclosed : pageOpen who = false := by cases who <;> simp_all [pageOpen]
    intro c hc
    fin_cases hc <;> exact congrArg Host.Outcome.next (State.paged_refused _ hup hclosed)
  case writes =>
    have hopen := pageOpen_of_supervisor_or_distaff hwho
    exact ⟨congrArg Host.Outcome.next (State.paged_open _ hup hopen), congrArg Host.Outcome.next ((State.paged_open _ hup hopen).trans (s.writeHostWd_enable _)),
      congrArg Host.Outcome.next ((State.paged_open _ hup hopen).trans (s.writeHostWd_kick _))⟩
  case expiry =>
    show Host.Outcome.next (match s.saf.wdRunning with | some _ => _ | none => s) = _
    rw [hwd]
    exact congrArg Host.Outcome.next (if_neg (by simp [hruns]))
  case asserts =>
    intro p haccepts q u t hassert
    exact OpSpec.next_exec_accepted haccepts (by decide) (specAtRest_run_assert (e := specAtRest.env src p s) hassert)
  case withdraws =>
    intro p haccepts q u v hwithdraw
    exact OpSpec.next_exec_accepted haccepts (by decide) (specAtRest_run_withdraw (e := specAtRest.env src p s) hwithdraw)
  case lapses =>
    intro v
    exact congrArg Host.Outcome.next ((State.whileUp_of hup).trans ((if_pos (by simp [State.isAtRest, hrest])).trans (State.logLapse_unasserted (s := v) rfl)))
  case record => exact congrArg Host.Outcome.next ((State.whileUp_of hup).trans (State.peerRecord_of_partner hc vals hreach hpartner hsame))
  case missed =>
    refine congrArg Host.Outcome.next ((State.whileUp_of hup).trans ?_)
    rw [hc]
    dsimp only
    rw [hown]

end Sys2Proof.Machine
end

section
/-! PROOFS of DebugAndTrace (O58): the debug port (R488 to R490), nonce and token (R489, R506, R507), breakpoints (R492, R493), the debug transport (R489), trace (R495)
and counters (R497). -/

namespace Sys2Proof.Machine

/-! ### Nonce and token (R506, R507) -/

theorem leNat_lt (bs : List Byte) : leNat bs < 256 ^ bs.length := by
  induction bs with
  | nil => simp [leNat]
  | cons b bs ih =>
    have hb : b.toNat < 256 := b.isLt
    simp only [leNat, List.length_cons, Nat.pow_succ]
    omega

theorem DebugLevel.code_levelOf {n : Nat} (hn : n = 1 ∨ n = 2) : (levelOf n).code = n := by rcases hn with rfl | rfl <;> rfl

/-- A token that names this unit is for level 1 or 2. -/
theorem State.tokenNamesUs_level {s : State} {t : List Byte} (h : s.tokenNamesUs t = true) : (t.getD 5 0).toNat = 1 ∨ (t.getD 5 0).toNat = 2 := by
  simp only [State.tokenNamesUs, Bool.and_eq_true, Bool.or_eq_true, decide_eq_true_eq] at h
  exact h.1.1.2

/-- The state with the nonce spent and the level that a token for level `want` gives. -/
def State.unlocked (s : State) (want : Nat) : State :=
  { s with vault := { s.vault with nonce := none }, dbg := { s.dbg with level := if s.dbg.level.code < want then levelOf want else s.dbg.level } }

theorem State.useToken_eq (s : State) (t : List Byte) :
    s.useToken t = (s.unlocked (t.getD 5 0).toNat).logIt .debugLevel (max s.dbg.level.code (t.getD 5 0).toNat) := by
  unfold State.useToken State.unlocked
  by_cases hlow : s.dbg.level.code < (t.getD 5 0).toNat
  · simp only [hlow, if_true, Nat.max_eq_right (Nat.le_of_lt hlow)]
  · simp only [hlow, if_false, Nat.max_eq_left (Nat.not_lt.1 hlow)]

/-- The level after a token is the higher of the two. -/
theorem State.unlocked_level {s : State} {want : Nat} (hwant : want = 1 ∨ want = 2) : (s.unlocked want).dbg.level.code = max s.dbg.level.code want := by
  have hlevel : (s.unlocked want).dbg.level = if s.dbg.level.code < want then levelOf want else s.dbg.level := rfl
  rw [hlevel]
  split
  · rw [DebugLevel.code_levelOf hwant]
    omega
  · omega

theorem specDebugUnlock_run {e : Env} {s : State} {t : List Byte} (ht : s.load (e.p.addr 3) tokenBytes = t) (hwant : (t.getD 5 0).toNat = 1 ∨ (t.getD 5 0).toNat = 2) :
    specDebugUnlock.run e s = (let n := max s.dbg.level.code (t.getD 5 0).toNat
      if s.tokenSig t ≠ 0 then (s.logIt .debugLevel s.dbg.level.code (s.tokenSig t)).finish e.id 0x0502 [s.tokenSig t]
      else ((s.unlocked (t.getD 5 0).toNat).logIt .debugLevel n).finish e.id 0 [n]) := by
  rw [specDebugUnlock]
  simp only [ht, State.useToken_eq, State.logIt_dbg, State.unlocked_level hwant]
  rfl

/-- What the TAP's token does (R507). -/
theorem exec_dbgToken {s : State} {token : List Byte} (hserves : s.serves = true) (hlen : token.length = tokenBytes) :
    exec (.dbgToken token) s = .next (
      let s0 : State := { s with dbg := { s.dbg with tap := .dbgToken } }
      let put (x : State) (r : Nat) : State := { x with vault := { x.vault with tokenResult := r } }
      if !s.tokenNamesUs token then put (s0.logIt .debugLevel s.dbg.level.code 82) 2
      else if s.tokenSig token ≠ 0 then put (s0.logIt .debugLevel s.dbg.level.code (s.tokenSig token)) 1
      else if s.dbg.level.code < (token.getD 5 0).toNat then put (s0.useToken token) 0
      else put ((s0.useToken token).drawn 1) (Config.freeNat s.free)) := by
  have hwhole : (token ++ List.replicate (tokenBytes - token.length) 0).take tokenBytes = token := by
    rw [hlen, Nat.sub_self, List.replicate_zero, List.append_nil, ← hlen, List.take_length]
  show execDbgToken token s = _
  rw [execDbgToken, hwhole]
  exact congrArg Host.Outcome.next (State.whileServing_of hserves)

/-- A token that does not name this unit and its nonce changes no level and spends nothing. -/
theorem exec_dbgToken_foreign {s : State} {token : List Byte} (hserves : s.serves = true) (hlen : token.length = tokenBytes) (hforeign : s.tokenNamesUs token = false) :
    exec (.dbgToken token) s = .next (({ s with dbg := { s.dbg with tap := .dbgToken }, vault := { s.vault with tokenResult := 2 } } : State).logIt .debugLevel s.dbg.level.code 82) :=
  (exec_dbgToken hserves hlen).trans (congrArg Host.Outcome.next (if_pos (by simp [hforeign])))

/-- A token whose signatures fail changes no level. -/
theorem exec_dbgToken_unsigned {s : State} {token : List Byte} (hserves : s.serves = true) (hlen : token.length = tokenBytes) (hours : s.tokenNamesUs token = true)
    (hsig : s.tokenSig token ≠ 0) :
    exec (.dbgToken token) s = .next (({ s with dbg := { s.dbg with tap := .dbgToken }, vault := { s.vault with tokenResult := 1 } } : State).logIt .debugLevel s.dbg.level.code
      (s.tokenSig token)) :=
  (exec_dbgToken hserves hlen).trans (congrArg Host.Outcome.next ((if_neg (by simp [hours])).trans (if_pos hsig)))

/-- A good token is used; what the capture then returns, and what it draws, is all else that changes. -/
theorem exec_dbgToken_good {s : State} {token : List Byte} (hserves : s.serves = true) (hlen : token.length = tokenBytes) (hours : s.tokenNamesUs token = true)
    (hsig : s.tokenSig token = 0) :
    ∃ r k : Nat, exec (.dbgToken token) s = .next (let x := ((s.selectTap .dbgToken).useToken token).drawn k
      { x with vault := { x.vault with tokenResult := r } }) := by
  have hexec := (exec_dbgToken hserves hlen).trans (congrArg Host.Outcome.next ((if_neg (by simp [hours])).trans (if_neg (not_not_intro hsig))))
  by_cases hlow : s.dbg.level.code < (token.getD 5 0).toNat
  · exact ⟨0, 0, hexec.trans (congrArg Host.Outcome.next (if_pos hlow))⟩
  · exact ⟨Config.freeNat s.free, 1, hexec.trans (congrArg Host.Outcome.next (if_neg hlow))⟩

/-! ### Breakpoints and the debug transport (R489, R492, R493) -/

theorem State.resume_of_none {s : State} (ac fl : Nat) (hacks : s.dbg.queuedAcks = []) :
    s.resume ac fl = { s with dbg := { s.dbg with haltedAc := s.dbg.haltedAc &&& (0xFFFF ^^^ (ac % 2 ^ 16)), haltedFl := s.dbg.haltedFl &&& (0x3FF ^^^ (fl % 2 ^ 10)) } } :=
  State.drainAcks_of_none hacks

/-- A debugger above LOCKED reaches an application core of a module that is up. -/
theorem exec_debugTransportAccess {s : State} {core : Nat} (op addr : Nat) (data : List Byte) (hup : s.pwr.phase = .up) (hlevel : s.dbg.level ≠ .locked) (hcore : core < 16) :
    exec (.debugTransportAccess core op addr data) s = .next (
      let u := s.selectTap .transport
      match op with
      | 0 => u.halt core false
      | 1 => if core < 16 then u.resume (2 ^ core) 0 else u.resume 0 (2 ^ (core - 16))
      | 5 => if u.coreHalted core && u.served addr data.length then u.store addr data else u
      | _ => u) := by
  have hoff : (if s.pwr.phase = .off then s else s.selectTap .transport) = s.selectTap .transport := if_neg (by simp [hup])
  have hok : ¬ (!(decide (s.dbg.level ≠ .locked) && decide (core < 26) && (decide (core < 16) || bit s.flexFlyers (core - 16)) && decide (s.pwr.phase = .up))) = true := by
    simp [hlevel, hup, hcore, Nat.lt_trans hcore (by decide : 16 < 26)]
  rw [← hoff]
  exact congrArg Host.Outcome.next (if_neg hok)

/-! ### Trace and counters (R495, R497) -/

theorem specTraceConfig_run_large {e : Env} {s : State} (hlarge : 1024 < e.p.f 3 10 0) : specTraceConfig.run e s = s.finish e.id 0x0200 [0x28] :=
  if_pos hlarge

/-- A ring that the trace's head lies in. -/
theorem specTraceConfig_run_inside {e : Env} {s : State} (hsize : e.p.f 3 10 0 ≤ 1024)
    (hhead : (if e.p.f 3 10 0 = s.dbg.sizeMib then s.dbg.traceHead else 0) < e.p.f 3 10 0 * 2 ^ 20 / 32) :
    specTraceConfig.run e s = (({ s with dbg := { s.dbg with
      traceOn := e.p.b 3 31, stopFull := e.p.b 3 30, sizeMib := e.p.f 3 10 0, typeMask := e.p.word 4, tenants := e.p.f 5 31 16
      ctxOnly := if e.p.b 5 12 then some (e.p.f 5 11 0) else none
      traceStop := false, traceHead := if e.p.f 3 10 0 = s.dbg.sizeMib then s.dbg.traceHead else 0 } } : State).finish e.id 0
        [s.dbg.traceBase % 2 ^ 32, s.dbg.traceBase / 2 ^ 32]) := by
  have hinside : decide (e.p.f 3 10 0 * 2 ^ 20 / 32 ≤ (if e.p.f 3 10 0 = s.dbg.sizeMib then s.dbg.traceHead else 0)) = false := decide_eq_false (Nat.not_le.2 hhead)
  rw [specTraceConfig]
  simp only [if_neg (Nat.not_lt.2 hsize), hinside, Bool.false_and, Bool.false_eq_true, if_false]
  rfl

theorem specCounterRead_run (e : Env) (s : State) :
    specCounterRead.run e s = (
      let g := e.p.f 3 18 16
      let tenants := if g < 4 then (if e.p.b 3 30 then List.range 16 else [e.p.f 3 27 24]) else [0]
      let bytes := (List.range (e.p.f 4 15 0)).flatMap (fun i => s.ctrBytes g tenants (e.p.f 3 15 0 + i))
      let v := s.store (e.p.word 5 + e.p.f 6 15 0 * 2 ^ 32) bytes
      (if e.p.b 3 31 then v.ctrClear g tenants (e.p.f 3 15 0) (e.p.f 4 15 0) else v).finish e.id 0 [bytes.length, s.now % 2 ^ 32, s.dbg.wakes, 0]) := by
  have htenants : (if !ctrByTenant (e.p.f 3 18 16) then [0] else if e.p.b 3 30 then List.range 16 else [e.p.f 3 27 24])
      = (if e.p.f 3 18 16 < 4 then (if e.p.b 3 30 then List.range 16 else [e.p.f 3 27 24]) else [0]) := by
    by_cases hg : e.p.f 3 18 16 < 4
    · simp [ctrByTenant, hg]
    · simp [ctrByTenant, hg]
  rw [specCounterRead]
  simp only [htenants]
  rfl

/-- Settles O58, clause by clause from the rules of the token, the transport, the trace ring and the counters. -/
theorem debugAndTrace : Obligations.DebugAndTrace := by
  unfold Obligations.DebugAndTrace
  refine ⟨fun s => ⟨rfl, rfl, rfl, fun hfull hrest => ?_, fun hnot => ?_⟩, fun s hserves => ?nonce, fun s token hserves hlen => ?token, fun src p s haccepts => ?unlock,
    fun src p0 s haccepts => OpSpec.next_exec_accepted haccepts (by decide) rfl, fun src p0 s haccepts => OpSpec.next_exec_accepted haccepts (by decide) rfl,
    fun src p0 s haccepts => OpSpec.next_exec_accepted haccepts (by decide) rfl, fun s ac fl hacks => State.resume_of_none ac fl hacks,
    fun src p0 s haccepts => OpSpec.next_exec_accepted haccepts (by decide) rfl, fun s n all => ⟨fun h => if_pos h, fun h => if_neg h⟩, fun s core slot hup hslot => ?hit,
    fun s core addr data hup => ⟨fun hlocked op => ?locked, fun hlevel hcore hacks => ?transport⟩, fun src p s haccepts => ?trace,
    fun src p s haccepts => OpSpec.next_exec_accepted haccepts (by decide) (specCounterRead_run ..)⟩
  · have ht : ∀ t : TapInstr, s.testTap t = s.selectTap t := fun t => by simp [State.testTap, State.isAtRest, hfull, hrest]
    exact ⟨congrArg Host.Outcome.next (ht _), congrArg Host.Outcome.next (ht _)⟩
  · have hrefused : (decide (s.dbg.level = .full) && s.isAtRest) = false := by
      rcases hnot with hlevel | hrest
      · simp [hlevel]
      · simp [State.isAtRest, hrest]
    have ht : ∀ t : TapInstr, s.testTap t = s.selectTap .bypass := fun t => by simp [State.testTap, hrefused]
    exact ⟨congrArg Host.Outcome.next (ht _), congrArg Host.Outcome.next (ht _)⟩
  case nonce =>
    have hbound : leNat (freeBytes s 8) < 2 ^ 64 := (leNat_lt _).trans_eq (by simp [freeBytes])
    refine ⟨leNat (freeBytes s 8), hbound, congrArg Host.Outcome.next (State.whileServing_of hserves), congrArg Host.Outcome.next (State.whileServing_of hserves),
      congrArg Host.Outcome.next (State.whileServing_of hserves), fun who hsup hdis => ?_⟩
    cases who with
    | supervisor => exact absurd rfl hsup
    | distaff => exact absurd rfl hdis
    | user | serviceHost | other => exact congrArg Host.Outcome.next (State.whileServing_of hserves)
  case token =>
    rcases hours : s.tokenNamesUs token with _ | _
    · exact ⟨_, exec_dbgToken_foreign hserves hlen hours, rfl, rfl, rfl, fun _ => ⟨rfl, rfl, rfl⟩, fun h => absurd h (by decide), fun h => absurd h (by decide)⟩
    · by_cases hsig : s.tokenSig token = 0
      · obtain ⟨r, k, hexec⟩ := exec_dbgToken_good hserves hlen hours hsig
        rw [State.useToken_eq] at hexec
        refine ⟨_, hexec, rfl, rfl, rfl, fun h => absurd h (by decide), fun _ h => absurd hsig h, fun _ _ => ⟨rfl, ?_⟩⟩
        exact (Nat.le_max_left ..).trans_eq (State.unlocked_level (s := s.selectTap .dbgToken) (State.tokenNamesUs_level hours)).symm
      · exact ⟨_, exec_dbgToken_unsigned hserves hlen hours hsig, rfl, rfl, rfl, fun h => absurd h (by decide), fun _ _ => ⟨rfl, rfl⟩, fun _ h => absurd h hsig⟩
  case unlock =>
    intro u token want v n hwant
    exact OpSpec.next_exec_accepted haccepts (by decide) (specDebugUnlock_run (e := specDebugUnlock.env src p s) rfl hwant)
  case hit =>
    have hexec : exec (.breakpointHit core slot) s = .next (match NMap.get? s.dbg.breaks (core * 4 + slot) with
        | some a => if s.coreHalted core || decide (3 < slot) || s.pwr.phase ≠ .up then s else s.halt core (bit a 64)
        | none => s) := rfl
    refine ⟨fun hfree => by rw [hexec, hfree], fun a ha => ?_⟩
    rw [hexec, ha]
    simp [Nat.not_lt.2 hslot, hup, bit]
  case locked => exact congrArg Host.Outcome.next (if_pos (by simp [hlocked]))
  case transport =>
    have hexec := fun op => exec_debugTransportAccess op addr data hup hlevel hcore
    refine ⟨hexec 0, (hexec 1).trans (congrArg Host.Outcome.next (if_pos hcore)), hexec 4, (hexec 5).trans ?_⟩
    have hhalted : (s.selectTap .transport).coreHalted core = s.dbg.haltedAc.testBit core := if_pos hcore
    simp only [hhalted]
    rfl
  case trace =>
    exact ⟨fun hlarge => OpSpec.next_exec_accepted haccepts (by decide) (specTraceConfig_run_large (e := specTraceConfig.env src p s) hlarge),
      fun hsize hhead => OpSpec.next_exec_accepted haccepts (by decide) (specTraceConfig_run_inside (e := specTraceConfig.env src p s) hsize hhead)⟩

end Sys2Proof.Machine
end

section
/-! PROOFS of KeysAndUpdates (O59): key slots and vault cells (R509 to R511), ATTEST (R513), staging and verification (R517, R519), activation by command and at a
time, and its pause (R520 to R526). -/

namespace Sys2Proof.Machine

/-! ### Key slots (R508 to R510) -/

/-- KEY_WRITE's packet ends with the slot's new generation. -/
def State.storeKey (s : State) (id n type use : Nat) (key : List Byte) (d : Nat) : State :=
  (s.putKey n type use key).finish id 0 [((s.putKey n type use key).slot n).gen, d]

section
variable {e : Env} {s : State}

/-- The bytes that a KEY_WRITE reads (R509). -/
def State.keySource (s : State) (p : Packet) : List Byte := s.load (p.addr 4) (keyWriteLen (p.f 3 31 30) (p.f 3 27 24))

theorem specKeyWrite_run_random (hsrc : e.p.f 3 31 30 = 0) :
    specKeyWrite.run e s = State.storeKey { s with free := s.free + keyBytes (e.p.f 3 27 24) } e.id (e.p.f 3 4 0) (e.p.f 3 27 24) (e.p.f 3 23 20)
      (freeBytes s (keyBytes (e.p.f 3 27 24))) 0 := by
  simp only [specKeyWrite, hsrc, if_true]
  rfl

theorem specKeyWrite_run_envelope (hsrc : e.p.f 3 31 30 = 1) :
    specKeyWrite.run e s = (match Config.hpkeOpen (envelopeInfo s.dev.serial (e.p.f 3 4 0)) (s.keySource e.p) with
      | some key => s.storeKey e.id (e.p.f 3 4 0) (e.p.f 3 27 24) (e.p.f 3 23 20) key 0
      | none => s.finish e.id 0x0502 [0]) := by
  simp only [specKeyWrite, State.keySource, hsrc, Nat.one_ne_zero, if_true, if_false]
  cases Config.hpkeOpen (envelopeInfo s.dev.serial (e.p.f 3 4 0)) (s.load (e.p.addr 4) (keyWriteLen 1 (e.p.f 3 27 24))) <;> rfl

theorem specKeyWrite_run_derived (hsrc : e.p.f 3 31 30 = 2) :
    specKeyWrite.run e s = s.storeKey e.id (e.p.f 3 4 0) (e.p.f 3 27 24) (e.p.f 3 23 20)
      ((List.range (keyBytes (e.p.f 3 27 24))).map (Config.hkdf (s.slot (e.p.f 3 12 8)).key (s.keySource e.p))) 0 := by
  rw [State.keySource, hsrc, specKeyWrite]
  simp only [hsrc]
  rfl

theorem specKeyWrite_run_public (hsrc : e.p.f 3 31 30 = 3) :
    specKeyWrite.run e s = s.storeKey e.id (e.p.f 3 4 0) (e.p.f 3 27 24) (e.p.f 3 23 20) (s.keySource e.p) (Config.sha384 (s.keySource e.p) % 2 ^ 32) := by
  rw [State.keySource, hsrc, specKeyWrite]
  simp only [hsrc]
  rfl

end

theorem State.slot_setSlot (s : State) (n m : Nat) (f : KeySlot → KeySlot) :
    (s.setSlot n f).slot m = if m = n ∧ n < s.vault.slots.length then f (s.slot m) else s.slot m := updAt_getD ..

/-- A key's USE without OOB. -/
def KeySlot.withoutOob (k : KeySlot) : KeySlot := { k with use := k.use - k.use % 16 / 8 * 8 }

theorem KeySlot.withoutOob_use (k : KeySlot) : k.withoutOob.use.testBit 3 = false := by
  rw [KeySlot.withoutOob, Nat.testBit_eq_decide_div_mod_eq, decide_eq_false_iff_not]
  show ¬ (k.use - k.use % 16 / 8 * 8) / 8 % 2 = 1
  omega

/-- The slots from which USE OOB has gone, where the key that is stored takes it (R508). -/
def State.yieldOob (s : State) (use : Nat) : State :=
  if bit use 3 then { s with vault := { s.vault with slots := s.vault.slots.map KeySlot.withoutOob } } else s

theorem State.yieldOob_length (s : State) (use : Nat) : (s.yieldOob use).vault.slots.length = s.vault.slots.length := by
  unfold State.yieldOob
  split
  · simp
  · rfl

theorem State.yieldOob_slot (s : State) (use m : Nat) : (s.yieldOob use).slot m = if use.testBit 3 then (s.slot m).withoutOob else s.slot m := by
  by_cases huse : use.testBit 3 = true
  · have hyield : s.yieldOob use = { s with vault := { s.vault with slots := s.vault.slots.map KeySlot.withoutOob } } := if_pos huse
    rw [hyield, if_pos huse]
    simp only [State.slot, List.getD_eq_getElem?_getD, List.getElem?_map]
    cases s.vault.slots[m]? <;> rfl
  · have hyield : s.yieldOob use = s := if_neg huse
    rw [hyield, if_neg huse]

theorem State.putKey_slot_same {s : State} {n : Nat} (type use : Nat) (key : List Byte) (hn : n < s.vault.slots.length) :
    (s.putKey n type use key).slot n = { (s.yieldOob use).slot n with gen := ((s.slot n).gen + 1) % 2 ^ 32, type := type, use := use, key := key } := by
  have hput : (s.putKey n type use key).slot n = (if n = n ∧ n < (s.yieldOob use).vault.slots.length
      then { (s.yieldOob use).slot n with gen := nextGen ((s.yieldOob use).slot n).gen, type := type, use := use, key := key } else (s.yieldOob use).slot n) :=
    State.slot_setSlot ..
  have hgen : ((s.yieldOob use).slot n).gen = (s.slot n).gen := by
    rw [State.yieldOob_slot]
    split <;> rfl
  rw [hput, if_pos ⟨rfl, (s.yieldOob_length use).symm ▸ hn⟩, hgen]
  rfl

theorem State.putKey_slot_ne {n m : Nat} (s : State) (type use : Nat) (key : List Byte) (hm : m ≠ n) : (s.putKey n type use key).slot m = (s.yieldOob use).slot m :=
  (State.slot_setSlot ..).trans (if_neg (fun h => hm h.1))

/-! ### Staging and verification (R517, R519) -/

/-- Where a row passes every check before the state conditions, they decide. -/
theorem OpSpec.check_of_pre {sp : OpSpec} {f : Env → State → Option Rej} {e : Env} {s : State} (h : ({ sp with pre := f } : OpSpec).check e s = none) :
    f e s = none ∧ sp.check e s = sp.pre e s := by
  unfold OpSpec.check at h ⊢
  rcases hrow : opRow e.p.opcode with _ | r
  · simp [hrow] at h
  simp only [hrow] at h ⊢
  rcases hbits : reservedBits e.p r.flags (sp.masks e.p) with _ | x
  · simp only [hbits] at h ⊢
    rcases hparams : sp.params e s with _ | x
    · simp only [hparams] at h ⊢
      split_ifs at h with hkind hcontrol hctx hdraft hhold hshadow
      have hshadow' : ¬ (!sp.draftPre e s) = true := hshadow
      rw [if_neg hkind, if_neg hcontrol, if_neg hctx, if_neg hdraft, if_neg hhold, if_neg hshadow']
      exact ⟨h, rfl⟩
    · simp only [hparams] at h
      split_ifs at h
  · simp [hbits] at h

/-- IMAGE_VERIFY without its signature check. -/
def specImageVerifyUnsigned : OpSpec :=
  { specImageVerify with pre := fun e x => firstFail [(x.dev.update ≠ .staging || x.received ≠ x.upd.blocks, badState 74), (x.manifestDiffers (x.manifestOf e.p), badParam 3)] }

/-- After two checks that pass the third decides. -/
theorem firstFail_third {a b : Bool} (c : Bool) (x y z : Rej) (ha : a = false) (hb : b = false) : firstFail [(a, x), (b, y), (c, z)] = if c then some z else none := by
  cases c <;> simp [firstFail, ha, hb]

/-- IMAGE_VERIFY of an image that is received, with a manifest that is made for it, turns on the manifest's signatures (R519). -/
theorem exec_imageVerify {src : Src} {p : Packet} {s : State} (haccepts : specImageVerifyUnsigned.accepts src p s = true) :
    let u := specImageVerify.taken src p s
    let m := u.manifestOf (specImageVerify.pkt p)
    exec (.imageVerify src p) s = .next (if u.manifestSig m ≠ 0 then u.finish s.q.nextId 0x0502 [u.manifestSig m]
      else u.setJob s.q.nextId (.waits (.verify m (if manifestF m 471 468 = 1 then [] else [30, 31])))) := by
  intro u m
  have haccepts' := haccepts
  simp only [OpSpec.accepts, Bool.and_eq_true, Option.isNone_iff_eq_none] at haccepts'
  obtain ⟨⟨hstarts, hcheck⟩, hctx⟩ := haccepts'
  obtain ⟨hready, hpre⟩ := OpSpec.check_of_pre (sp := specImageVerify) hcheck
  have hready' := firstFail_none.1 hready
  have hstaged := hready' _ (List.mem_cons_self ..)
  have hmade := hready' _ (List.mem_cons_of_mem _ (List.mem_cons_self ..))
  have hsigned : specImageVerify.check (specImageVerify.env src p s) u = if u.manifestSig m ≠ 0 then some ⟨0x0502, [u.manifestSig m]⟩ else none := by
    refine hpre.trans ((firstFail_third _ _ _ _ hstaged hmade).trans ?_)
    simp only [decide_eq_true_eq]
    rfl
  by_cases hsig : u.manifestSig m ≠ 0
  · rw [if_pos hsig] at hsigned ⊢
    refine congrArg Host.Outcome.next (OpSpec.exec_rejects (r := ⟨0x0502, [u.manifestSig m]⟩) ?_)
    exact (if_pos hstarts).trans hsigned
  · rw [if_neg hsig] at hsigned ⊢
    refine OpSpec.next_exec_accepted (sp := specImageVerify) ?_ (by decide) rfl
    simp only [OpSpec.accepts, Bool.and_eq_true, Option.isNone_iff_eq_none]
    exact ⟨⟨hstarts, hsigned⟩, hctx⟩

/-! ### The anti-rollback counter (R512) -/

theorem sum_setAt_le {α : Type} (f : α → Nat) (v d : α) {l : List α} {i : Nat} (h : f (l.getD i d) ≤ f v) : (l.map f).sum ≤ ((setAt l i v).map f).sum := by
  induction l generalizing i with
  | nil => exact Nat.le_refl _
  | cons x r ih =>
    cases i with
    | zero => simpa [setAt] using h
    | succ i => simpa [setAt] using ih (i := i) (by simpa using h)

@[simp] theorem State.spliceRec_vault (s : State) (r : SpliceRec) : (s.spliceRec r).vault = s.vault := by simp [State.spliceRec]

theorem State.blowStep_value (s : State) : s.vault.value ≤ s.blowStep.vault.value := by
  unfold State.blowStep
  extract_lets v i b b1 s1
  have hblown : b.blown ≤ b1.blown := by
    simp only [b1]
    split
    · exact Nat.le_refl _
    · exact Nat.le_succ _
  have hs1 : s.vault.value ≤ s1.vault.value := sum_setAt_le (fun x : FuseBank => x.blown) b1 {} hblown
  split
  · exact Nat.le_refl _
  · split
    · rw [State.spliceRec_vault]
      exact hs1
    · exact hs1

theorem State.raiseCounter_value (s : State) (sv n : Nat) : s.vault.value ≤ (s.raiseCounter sv n).vault.value := by
  induction n generalizing s with
  | zero => exact Nat.le_refl _
  | succ n ih =>
    unfold State.raiseCounter
    split
    · exact s.blowStep_value.trans (ih s.blowStep)
    · exact Nat.le_refl _

/-! ### Activation (R520 to R526) -/

theorem specActivate_run (e : Env) (s : State) :
    specActivate.run e s = (
      let a : Activation := { pkt := some e.id, kind := s.upd.kind, sv := s.upd.sv }
      let r := ({ s with upd := { s.upd with sched := none } } : State).putInForce
      let v := (if s.upd.kind = 2 then r.1.restartCores else r.1).endActivation r.1.upd.sv
      if s.vault.value + s.vault.capacity < s.upd.sv then s.discardImage.finish e.id 0x0501
      else if s.upd.kind = 1 then ({ s with dev := { s.dev with update := .activating }, upd := { s.upd with sched := none, act := some a } } : State).setJob e.id (.waits .activate)
      else if r.2 then v.finish e.id 0 [0, v.vault.value, s.upd.kind]
      else (({ r.1 with upd := { r.1.upd with last := 0x0503 } } : State).logIt .update 0 0x0503).finish e.id 0x0503 [0xFFFFFFFE]) := by
  rw [specActivate]
  simp only [State.svTooHigh, decide_eq_true_eq]
  rfl

theorem specActivateSchedule_run (e : Env) (s : State) :
    specActivateSchedule.run e s = (
      let t := dueTime e.p
      let set (due : Nat) : State := ({ s with upd := { s.upd with sched := some (due, e.p.b 0 24) } } : State).finish e.id 0 [due % 2 ^ 32]
      if s.now < t then set t else if e.p.b 0 24 then set s.now else s.finish e.id 0x0401 [t % 2 ^ 32]) := by
  rw [specActivateSchedule]
  by_cases hlate : dueTime e.p ≤ s.now
  · rcases hcatch : e.p.b 0 24 with _ | _
    · simp only [hcatch, hlate, Nat.not_lt.2 hlate, decide_true, Bool.not_false, Bool.and_self, if_true, if_false, Bool.false_eq_true]
      rfl
    · simp only [hcatch, hlate, Nat.not_lt.2 hlate, decide_true, Bool.not_true, Bool.and_false, Bool.false_eq_true, if_true, if_false]
      rfl
  · simp only [hlate, Nat.lt_of_not_le hlate, decide_false, Bool.false_and, Bool.false_eq_true, if_true, if_false]
    rfl

theorem State.actIn_of {s : State} {a : Activation} {k : ActStage} (hact : s.upd.act = some a) (hk : a.stage = k) : s.actIn k = some a := by
  simp [State.actIn, hact, hk]

/-- The due time comes for a Pending image of a module that is up (R526). -/
theorem exec_activationDue {s : State} {due : Nat × Bool} (hsched : s.upd.sched = some due) (hpending : s.dev.update = .pending) (hup : s.pwr.phase = .up) :
    exec .activationDue s = .next (
      let u : State := { s with upd := { s.upd with sched := none } }
      let fails (x : State) (status : Nat) : State := ({ x with upd := { x.upd with last := status } } : State).logIt .update 0 status
      if !s.isAtRest || s.anyHalted then fails u 0x0108 else if u.svTooHigh then fails u.discardImage counterExhausted else u.beginActivation none) :=
  congrArg Host.Outcome.next (if_neg (by simp [hsched, hpending, hup]))

section
variable {s : State} {a : Activation} (hup : s.clocked = true)
include hup

theorem exec_activationDrainTimeout (hin : s.actIn .drain = some a) : exec .activationDrainTimeout s = .next (s.stopMany .abort (s.othersOut a)).1 := by
  refine congrArg Host.Outcome.next ((State.whileUp_of hup).trans ?_)
  rw [hin]

/-- The state in which a pause begins, before the image is put in force (R521, R522). -/
def State.paused (s : State) (a : Activation) : State :=
  let w := (s.setStage { a with pauseStart := s.now } .paused).sendAllStatus
  { w with dom := { w.dom with cores := w.dom.cores.map (fun c => { c with g := 0, v0 := 0, v1 := 0 }) } }

theorem exec_activationPauseBegin (hin : s.actIn .drain = some a) :
    exec .activationPauseBegin s = .next (
      let r := (s.paused a).putInForce
      if !(s.othersOut a).isEmpty then s
      else if r.2 then r.1
      else ((({ r.1 with dev := { r.1.dev with update := .pending }, upd := { r.1.upd with act := none, last := 0x0503 } } : State).sendAllStatus).logIt .update 0 0x0503).applyHalts) := by
  refine congrArg Host.Outcome.next ((State.whileUp_of hup).trans ?_)
  rw [hin]
  rfl

theorem exec_activationHoldStage (hin : s.actIn .paused = some a) : exec .activationHoldStage s = .next (s.setStage a .held) := by
  refine congrArg Host.Outcome.next ((State.whileUp_of hup).trans ?_)
  rw [hin]

/-- The state in which the pause has ended, its loops resumed, the counter raised and the status frames sent (R523, R526). -/
def State.resumed (s : State) (a : Activation) : State :=
  let x := ({ s with upd := { s.upd with act := none } } : State).resumeLoops
  ((if a.pkt.isNone || a.kind = 2 then x.restartCores else x).endActivation a.sv).sendAllStatus

omit hup in
theorem State.resumed_eq (s : State) (a : Activation) :
    s.resumed a = (let x := ({ s with upd := { s.upd with act := none } } : State).resumeLoops
      ((if a.pkt = none ∨ a.kind = 2 then x.restartCores else x).endActivation a.sv).sendAllStatus) :=
  congrArg (fun x : State => (x.endActivation a.sv).sendAllStatus) (if_congr (by simp) rfl rfl)

theorem exec_activationPauseEnd (hin : s.actIn .imageRunning = some a) :
    exec .activationPauseEnd s = .next
      (match a.pkt with | some id => (s.resumed a).finish id 0 [(s.now - a.pauseStart) / 1000, (s.resumed a).vault.value, a.kind, 0] | none => s.resumed a).applyHalts := by
  refine congrArg Host.Outcome.next ((State.whileUp_of hup).trans ?_)
  rw [hin]
  rfl

end

/-- Settles O59, clause by clause; IMAGE_VERIFY turns on its one check left, and the counter never falls by induction on its attempts. -/
theorem keysAndUpdates : Obligations.KeysAndUpdates := by
  unfold Obligations.KeysAndUpdates
  refine ⟨fun src p s haccepts => ?keyWrite, fun s n type use key hn => ?putKey, fun src p s haccepts => OpSpec.next_exec_accepted haccepts (by decide) rfl,
    fun s n hup hn => ?cells, fun src p s haccepts => OpSpec.next_exec_accepted haccepts (by decide) rfl,
    fun src p s haccepts => OpSpec.next_exec_accepted haccepts (by decide) rfl, fun src p s => exec_imageVerify,
    fun src p s haccepts => OpSpec.next_exec_accepted haccepts (by decide) (specActivate_run ..),
    fun src p0 s haccepts => OpSpec.next_exec_accepted haccepts (by decide) (specActivateSchedule_run ..),
    fun src p0 s haccepts => OpSpec.next_exec_accepted haccepts (by decide) rfl,
    fun src p0 s haccepts => ⟨OpSpec.next_exec_accepted haccepts (by decide) rfl, rfl, rfl, rfl⟩, fun s due hsched hpending hup => ?due, fun s a hup hact hstage => ?pause,
    fun s a hup hact => ?stages, fun s sv => ⟨rfl, rfl, rfl, rfl, s.raiseCounter_value sv 2048⟩⟩
  case keyWrite =>
    exact ⟨fun hsrc => ⟨_, (List.length_map _).trans List.length_range, OpSpec.next_exec_accepted haccepts (by decide) (specKeyWrite_run_random (e := specKeyWrite.env src p s) hsrc)⟩,
      fun hsrc => OpSpec.next_exec_accepted haccepts (by decide) (specKeyWrite_run_envelope (e := specKeyWrite.env src p s) hsrc),
      fun hsrc => OpSpec.next_exec_accepted haccepts (by decide) (specKeyWrite_run_derived (e := specKeyWrite.env src p s) hsrc),
      fun hsrc => OpSpec.next_exec_accepted haccepts (by decide) (specKeyWrite_run_public (e := specKeyWrite.env src p s) hsrc)⟩
  case putKey =>
    intro x
    have hx : x = _ := State.putKey_slot_same type use key hn
    refine ⟨by rw [hx], by rw [hx], by rw [hx], by rw [hx], fun huse m hm => ?_, fun huse m hm => ?_, ?_⟩
    · rw [State.putKey_slot_ne s type use key hm, State.yieldOob_slot, if_pos huse]
      exact KeySlot.withoutOob_use _
    · rw [State.putKey_slot_ne s type use key hm, State.yieldOob_slot, if_neg (by simp [huse])]
    · exact (State.slot_setSlot ..).trans (if_pos ⟨rfl, hn⟩)
  case cells =>
    have hexec := fun both => (congrArg Host.Outcome.next ((State.whileUp_of hup).trans (if_neg (Nat.not_le.2 hn))) : exec (.keyCellFail n both) s = _)
    refine ⟨(hexec true).trans (congrArg Host.Outcome.next (if_pos rfl)), fun hcell hspare => ?_, fun c hcell hspare => ?_⟩
    · exact (hexec false).trans (congrArg Host.Outcome.next ((if_neg (by simp [hcell])).trans (if_pos hspare)))
    · refine (hexec false).trans (congrArg Host.Outcome.next ((if_neg (by simp [hcell])).trans ((if_neg (by simp [hspare])).trans ?_)))
      simp only [hspare, Nat.add_sub_cancel]
  case due =>
    intro u a
    have hexec := exec_activationDue hsched hpending hup
    refine ⟨fun hblocked => hexec.trans (congrArg Host.Outcome.next (if_pos ?_)), fun hrest hac hfl hroom => hexec.trans (congrArg Host.Outcome.next ((if_neg ?_).trans (if_neg ?_)))⟩
    · rcases hblocked with h | h | h <;> simp [State.isAtRest, State.anyHalted, h]
    · simp [State.isAtRest, State.anyHalted, hrest, hac, hfl]
    · simpa [State.svTooHigh] using hroom
  case pause =>
    intro others w r
    have hin := State.actIn_of hact hstage
    have hbegin := exec_activationPauseBegin hup hin
    refine ⟨exec_activationDrainTimeout hup hin, fun hothers => hbegin.trans (congrArg Host.Outcome.next (if_pos ?_)), fun hnone => hbegin.trans (congrArg Host.Outcome.next (if_neg ?_))⟩
    · have hsome : s.othersOut a ≠ [] := hothers
      simp [hsome]
    · have hempty : s.othersOut a = [] := hnone
      simp [hempty]
  case stages =>
    refine ⟨fun hpaused => exec_activationHoldStage hup (State.actIn_of hact hpaused), fun hrunning => ?_⟩
    intro x t
    have ht : s.resumed a = t := s.resumed_eq a
    rw [← ht]
    exact exec_activationPauseEnd hup (State.actIn_of hact hrunning)

end Sys2Proof.Machine
end

section
/-! PROOFS of ReplyPhase (O13) and ReplyLayout (O14): the eight words of a reply (Table 2.13, R50) and the bytes that spell them (R10). -/

namespace Sys2Proof.Machine

/-! ### Words, their fields and their bytes -/

/-- The four bytes at word place `i` of a list of 32-bit words spell word `i` (R10). -/
theorem leNat_wordBytes_at {ws : List Nat} (hws : ∀ w ∈ ws, w < 2 ^ 32) (i : Nat) : leNat (((wordBytes ws).drop (4 * i)).take 4) = ws.getD i 0 := by
  induction ws generalizing i with
  | nil => simp [wordBytes, leNat]
  | cons w ws ih =>
    cases i with
    | zero =>
      have hw : leNat (leBytes 4 w) = w := leNat_leBytes (hws w (List.mem_cons_self ..))
      simpa [List.take_append_of_le_length] using hw
    | succ i =>
      have hskip : (wordBytes (w :: ws)).drop (4 * (i + 1)) = (wordBytes ws).drop (4 * i) := by
        rw [wordBytes_cons, Nat.mul_succ, Nat.add_comm, ← List.drop_drop, List.drop_left' (leBytes_length 4 w)]
      rw [hskip, ih (fun x hx => hws x (List.mem_cons_of_mem _ hx)) i, List.getD_cons_succ]

theorem bit_eq_div (x n : Nat) : bit x n = decide (x / 2 ^ n % 2 = 1) := Nat.testBit_eq_decide_div_mod_eq

theorem bits_eq_div (x hi lo : Nat) : bits x hi lo = x / 2 ^ lo % 2 ^ (hi + 1 - lo) := by rw [bits, Nat.shiftRight_eq_div_pow]

/-- What is packed at the places of a reply's second word is read back from them (Table 2.13). -/
theorem secondWord_fields {c t l w : Nat} {event phase : Bool} (hc : c < 2 ^ 12) (ht : t < 2 ^ 6) (hl : l < 2 ^ 3)
    (hw : w = c + t * 2 ^ 12 + l * 2 ^ 18 + event.toNat * 2 ^ 30 + phase.toNat * 2 ^ 31) :
    w < 2 ^ 32 ∧ bits w 11 0 = c ∧ bits w 17 12 = t ∧ bits w 20 18 = l ∧ bits w 29 21 = 0 ∧ bit w 30 = event ∧ bit w 31 = phase := by
  have he : event.toNat = 0 ∨ event.toNat = 1 := by cases event <;> simp
  have hp : phase.toNat = 0 ∨ phase.toNat = 1 := by cases phase <;> simp
  have hbit30 : bit w 30 = decide (event.toNat = 1) := by
    rw [bit_eq_div, decide_eq_decide]
    omega
  have hbit31 : bit w 31 = decide (phase.toNat = 1) := by
    rw [bit_eq_div, decide_eq_decide]
    omega
  simp only [bits_eq_div]
  refine ⟨?_, ?_, ?_, ?_, ?_, hbit30.trans (by cases event <;> rfl), hbit31.trans (by cases phase <;> rfl)⟩ <;> omega

theorem replyWords_second (r : Reply) (ix : Index) (k : Nat) :
    (replyWords r ix k).getD 1 0 = r.ctx + r.tag * 2 ^ 12 + r.level * 2 ^ 18 + r.event.toNat * 2 ^ 30 + (!(ix.toNat.testBit k)).toNat * 2 ^ 31 := by
  simp only [replyWords, List.getD_cons_succ, List.getD_cons_zero]

/-! ### PHASE -/

/-- PHASE is the inverse of bit SIZE_LOG2 of the completion index (R50). -/
theorem replyWords_phase {r : Reply} (ix : Index) (k : Nat) (hctx : r.ctx < 2 ^ 12) (htag : r.tag < 2 ^ 6) (hlevel : r.level < 2 ^ 3) :
    bit ((replyWords r ix k).getD 1 0) 31 = !(ix.toNat.testBit k) := by
  obtain ⟨-, -, -, -, -, -, hphase⟩ := secondWord_fields hctx htag hlevel (replyWords_second r ix k)
  exact hphase

/-- The index of slot `j` on pass `pass` through a ring of 2^k entries has bit `k` as the pass has bit 0. -/
theorem testBit_index_of_pass {k pass j : Nat} (hj : j < 2 ^ k) (hindex : pass * 2 ^ k + j < 65536) :
    (BitVec.ofNat 16 (pass * 2 ^ k + j)).toNat.testBit k = decide (pass % 2 = 1) := by
  rw [BitVec.toNat_ofNat, Nat.mod_eq_of_lt hindex, Nat.mul_comm, Nat.testBit_two_pow_mul_add _ hj, if_neg (Nat.lt_irrefl k), Nat.sub_self, Nat.testBit_zero]

/-- One pass on, bit SIZE_LOG2 of a slot's index is inverted. -/
theorem testBit_index_next_pass (ix : Index) {k : Nat} (hk : k < 16) : (ix + BitVec.ofNat 16 (2 ^ k)).toNat.testBit k = !(ix.toNat.testBit k) := by
  rw [BitVec.toNat_add, BitVec.toNat_ofNat, Nat.add_mod_mod, Nat.testBit_mod_two_pow, decide_eq_true hk, Bool.true_and, Nat.add_comm, Nat.testBit_two_pow_add_eq]

/-- Settles O13 from the place of PHASE in the second word and bit SIZE_LOG2 of a slot's indices. -/
theorem replyPhase : Obligations.ReplyPhase := by
  unfold Obligations.ReplyPhase
  refine ⟨fun r ix k => replyWords_phase ix k, fun r k pass j hctx htag hlevel hj hindex => ?_, fun r ix k hctx htag hlevel hk => ?_⟩
  · rw [replyWords_phase _ _ hctx htag hlevel, testBit_index_of_pass hj hindex]
    rcases Nat.mod_two_eq_zero_or_one pass with h | h <;> simp [h]
  · rw [replyWords_phase _ _ hctx htag hlevel, replyWords_phase _ _ hctx htag hlevel, testBit_index_next_pass ix hk]

/-! ### The 32 bytes -/

/-- The words of a reply whose fields are in range. -/
theorem replyWords_lt {r : Reply} (ix : Index) (k : Nat) (hstatus : r.status < 2 ^ 16) (hopcode : r.opcode < 2 ^ 16) (hctx : r.ctx < 2 ^ 12) (htag : r.tag < 2 ^ 6)
    (hlevel : r.level < 2 ^ 3) (hreq : r.reqTag < 2 ^ 32) : ∀ w ∈ replyWords r ix k, w < 2 ^ 32 := by
  obtain ⟨hsecond, -⟩ := secondWord_fields hctx htag hlevel (replyWords_second r ix k)
  rw [replyWords_second] at hsecond
  have hmod (x : Nat) : x % 2 ^ 32 < 2 ^ 32 := Nat.mod_lt x (Nat.two_pow_pos 32)
  simp only [replyWords, List.forall_mem_cons, List.not_mem_nil, false_implies, implies_true, and_true]
  exact ⟨by omega, hsecond, hreq, hmod _, hmod _, hmod _, hmod _, hmod _⟩

/-- Settles O14: each four bytes spell their word, and each word its fields. -/
theorem replyLayout : Obligations.ReplyLayout := by
  unfold Obligations.ReplyLayout
  intro r ix k hstatus hopcode hctx htag hlevel hreq h0 h1 h2 h3 bs w
  obtain ⟨-, hfields⟩ := secondWord_fields hctx htag hlevel (replyWords_second r ix k)
  have hword (i : Nat) : w i = (replyWords r ix k).getD i 0 := leNat_wordBytes_at (replyWords_lt ix k hstatus hopcode hctx htag hlevel hreq) i
  have hfirst : w 0 = r.status + r.opcode * 2 ^ 16 := by rw [hword, replyWords, List.getD_cons_zero]
  rw [← hword] at hfields
  obtain ⟨hwctx, hwtag, hwlevel, hwzero, hwevent, hwphase⟩ := hfields
  refine ⟨wordBytes_length _, ?status, ?opcode, hwctx, hwtag, hwlevel, hwzero, hwevent, hwphase, ?rest⟩
  case status => rw [bits_eq_div, hfirst]; omega
  case opcode => rw [bits_eq_div, hfirst]; omega
  case rest =>
    simp only [hword, replyWords, List.getD_cons_succ, List.getD_cons_zero, Nat.mod_eq_of_lt h0, Nat.mod_eq_of_lt h1, Nat.mod_eq_of_lt h2, Nat.mod_eq_of_lt h3, ts32,
      and_self]

end Sys2Proof.Machine
end

section
/-! SUPPORT. What replies to one bobbin can change (R41, R49 to R53), and what the end of a packet notes before its reply (R47, R62). -/

namespace Sys2Proof.Machine

/-! ### Bobbins and memory behind other updates -/

/-- A bobbin's registers follow from the map of bobbins. -/
theorem State.bob_of_bobbins {s t : State} (h : t.q.bobbins = s.q.bobbins) (n : Nat) : t.bob n = s.bob n := by rw [State.bob, State.bob, h]

@[simp] theorem State.bob_store (s : State) (a : Addr) (bs : List Byte) (n : Nat) : (s.store a bs).bob n = s.bob n := rfl
@[simp] theorem State.bob_emit (s : State) (o : Out) (n : Nat) : (s.emit o).bob n = s.bob n := rfl
@[simp] theorem State.bob_logIt (s : State) (k : LogKind) (a b c n : Nat) : (s.logIt k a b c).bob n = s.bob n := rfl
@[simp] theorem State.bob_trace (s : State) (t : TraceEv) (n : Nat) : (s.trace t).bob n = s.bob n := State.bob_of_bobbins (by rw [State.trace_q]) n

/-- Whether a range is served follows from the stacks (R163, R176). -/
theorem State.served_of_stacks {s t : State} (h : t.ms.hbmStacks = s.ms.hbmStacks) (a n : Nat) : t.served a n = s.served a n := by
  rw [State.served, State.served, h]

@[simp] theorem State.trace_hbmStacks (s : State) (t : TraceEv) : (s.trace t).ms.hbmStacks = s.ms.hbmStacks := by
  rcases s.trace_cases t with ⟨_, e⟩ | ⟨_, _, _, e⟩
  · rw [e]
  · rw [e]; rfl

@[simp] theorem State.trace_regions (s : State) (t : TraceEv) : (s.trace t).ms.regions = s.ms.regions := by
  rcases s.trace_cases t with ⟨_, e⟩ | ⟨_, _, _, e⟩
  · rw [e]
  · rw [e]; rfl

@[simp] theorem State.trace_twists (s : State) (t : TraceEv) : (s.trace t).dr.twists = s.dr.twists := by
  rcases s.trace_cases t with ⟨_, e⟩ | ⟨_, _, _, e⟩
  · rw [e]
  · rw [e]; rfl

/-! ### Replies to one bobbin -/

/-- What no reply changes. -/
def State.besideReplies (s : State) :
    (List OutPkt × Domains × List Region × NMap KvPool) × (TimeState × SafetyState × Vault × Engines × Sensors × Device) × List StopOrder × List Twist :=
  ((s.pkts, s.dom, s.ms.regions, s.kv), (s.time, s.saf, s.vault, s.eng, s.sen, s.dev), s.q.stops, s.dr.twists)

/-- `t` follows from `s` by replies delivered to bobbin `n`: other bobbins stay, this one keeps its home flyer, its vector and, unless its ring cannot be
written, its state, and nothing is sent but its interrupt (R41, R49, R52). -/
structure State.AnswersOn (n : Nat) (s t : State) : Prop where
  kept : t.besideReplies = s.besideReplies
  others : ∀ m, m ≠ n → t.bob m = s.bob m
  flyer : (t.bob n).flyer = (s.bob n).flyer
  vector : (t.bob n).irqVector = (s.bob n).irqVector
  mode : (t.bob n).mode = (s.bob n).mode ∨ (t.bob n).mode = .error
  log : n < 224 → t.log = s.log
  out : ∃ k, t.out = s.out ++ List.replicate k (.irq (s.bob n).irqVector)

section
variable {n : Nat} {s t u : State}

theorem State.AnswersOn.refl (n : Nat) (s : State) : State.AnswersOn n s s :=
  ⟨rfl, fun _ _ => rfl, rfl, rfl, .inl rfl, fun _ => rfl, 0, by simp⟩

theorem State.AnswersOn.trans (hst : State.AnswersOn n s t) (htu : State.AnswersOn n t u) : State.AnswersOn n s u where
  kept := htu.kept.trans hst.kept
  others m hm := (htu.others m hm).trans (hst.others m hm)
  flyer := htu.flyer.trans hst.flyer
  vector := htu.vector.trans hst.vector
  mode := htu.mode.elim (fun h => hst.mode.imp h.trans h.trans) .inr
  log hn := (htu.log hn).trans (hst.log hn)
  out := by
    obtain ⟨j, hj⟩ := hst.out
    obtain ⟨k, hk⟩ := htu.out
    exact ⟨j + k, by rw [hk, hj, hst.vector, List.append_assoc, List.replicate_append_replicate]⟩

theorem State.AnswersOn.of_setBob {b : Bobbin} (hflyer : b.flyer = (s.bob n).flyer) (hvector : b.irqVector = (s.bob n).irqVector)
    (hmode : b.mode = (s.bob n).mode ∨ b.mode = .error) : State.AnswersOn n s (s.setBob n b) where
  kept := rfl
  others m hm := by rw [State.bob_setBob, if_neg hm]
  flyer := by rw [State.bob_setBob, if_pos rfl, hflyer]
  vector := by rw [State.bob_setBob, if_pos rfl, hvector]
  mode := by rwa [State.bob_setBob, if_pos rfl]
  log _ := rfl
  out := ⟨0, by simp⟩

theorem State.AnswersOn.of_store (n : Nat) (s : State) (a : Addr) (bs : List Byte) : State.AnswersOn n s (s.store a bs) :=
  ⟨rfl, fun _ _ => rfl, rfl, rfl, .inl rfl, fun _ => rfl, 0, by simp⟩

theorem State.AnswersOn.of_checkIrq (n : Nat) (s : State) : State.AnswersOn n s (s.checkIrq n) := by
  rcases s.checkIrq_cases n with e | e <;> rw [e]
  · exact .refl n s
  · have hraised := State.AnswersOn.of_setBob (n := n) (s := s) (b := { s.bob n with irqPending := [] }) rfl rfl (.inl rfl)
    exact { hraised with out := ⟨1, rfl⟩ }

theorem State.AnswersOn.of_writeReply (n : Nat) (s : State) (r : Reply) : State.AnswersOn n s (s.writeReply n r) := by
  rcases s.writeReply_cases n r with ⟨-, e⟩ | ⟨-, e⟩ <;> rw [e]
  · exact .of_setBob rfl rfl (.inr rfl)
  · refine .trans ?_ (.of_checkIrq n _)
    exact (State.AnswersOn.of_store n s _ _).trans (.of_setBob rfl rfl (.inl rfl))

theorem State.AnswersOn.of_drainHeld (n fuel : Nat) (s : State) : State.AnswersOn n s (s.drainHeld n fuel) := by
  induction fuel generalizing s with
  | zero => exact .refl n s
  | succ fuel ih =>
    rcases s.drainHeld_cases n fuel with e | ⟨r, rest, -, e⟩ <;> rw [e]
    · exact .refl n s
    · refine .trans (.trans ?_ (.of_writeReply n _ r)) (ih _)
      exact .of_setBob rfl rfl (.inl rfl)

/-- A reply delivered to a bobbin (R52). -/
theorem State.AnswersOn.of_deliver (n : Nat) (s : State) (r : Reply) : State.AnswersOn n s (s.deliver n r) := by
  unfold State.deliver
  dsimp only
  split
  · exact .refl n s
  split
  · next hservice =>
    simp only [Bool.and_eq_true, decide_eq_true_eq] at hservice
    exact { State.AnswersOn.refl n s with log := fun hn => absurd hn (Nat.not_lt.2 hservice.1), out := ⟨0, by simp⟩ }
  split
  · exact .of_writeReply n s r
  split
  · exact .of_setBob rfl rfl (.inl rfl)
  split
  · refine .trans ?_ (.of_drainHeld ..)
    exact .of_setBob rfl rfl (.inl rfl)
  · exact .of_setBob rfl rfl (.inl rfl)

end

/-! ### The end of a packet -/

/-- A bobbin notes that a packet of its has ended: REJECTED for a request error (Table 2.9b), and the status for a successor's CHAIN (R57). -/
def Bobbin.noteEnd (b : Bobbin) (id st : Nat) : Bobbin := { b with rejected := b.rejected || st / 256 = 1, last := b.last.map (fun l => l.ended id st) }

/-- The outstanding packets once packet `o` has ended: it is gone, and a successor that waits on it knows the status (R57, R66). -/
def State.pktsAfter (s : State) (o : OutPkt) (st : Nat) : List OutPkt :=
  (s.pkts.filter (fun x => x.id ≠ o.id)).map (fun x => { x with pred := x.pred.map (fun l => l.ended o.id st) })

/-- `u` is `s` with the end of packet `o` noted, before its source hears of it. -/
structure State.EndNoted (s : State) (o : OutPkt) (st : Nat) (u : State) : Prop where
  pkts : u.pkts = s.pktsAfter o st
  bobbins : u.q.bobbins = s.q.bobbins
  stops : u.q.stops = s.q.stops
  tenants : u.dom.tenants = s.dom.tenants
  contexts : u.dom.contexts = s.dom.contexts
  regions : u.ms.regions = s.ms.regions
  hbmStacks : u.ms.hbmStacks = s.ms.hbmStacks
  twists : u.dr.twists = s.dr.twists
  units : u.kv = s.kv ∧ u.time = s.time ∧ u.saf = s.saf ∧ u.vault = s.vault ∧ u.eng = s.eng ∧ u.sen = s.sen
  log : u.log = s.log
  out : u.out = s.out
  mem : s.dbg.traceOn = false → u.mem = s.mem

/-- What a bobbin hears of the end of its packet: the end itself and, unless the status is of class 0x00 and REPLY is clear, the reply (Table 2.11). -/
def State.answer (u : State) (n : Nat) (o : OutPkt) (st t : Nat) (d : List Nat) : State :=
  let v := u.setBob n ((u.bob n).noteEnd o.id st)
  if st / 256 = 0 && !o.pkt.reply then v else v.deliver n (replyOf o st t d)

/-- The end of a packet is noted, and then its source hears of it (R47, R62, R66). -/
theorem State.endPkt_noted (s : State) (o : OutPkt) (st : Nat) (d : List Nat) (t : Nat) : ∃ u : State, s.EndNoted o st u ∧ s.endPkt o st d t =
    match o.src with
    | .bobbin n => if 224 ≤ n then (u.answer n o st t d).dropService else u.answer n o st t d
    | .oob c port => u.oobSend c port (replyOf o st t d) := by
  unfold State.endPkt
  extract_lets live en _ _ _ _ _ out tainted counted traced
  refine ⟨traced, ?_, ?_⟩
  · have hcounted : s.EndNoted o st counted := by
      unfold counted
      split <;> exact ⟨rfl, rfl, rfl, rfl, rfl, rfl, rfl, rfl, ⟨rfl, rfl, rfl, rfl, rfl, rfl⟩, rfl, rfl, fun _ => rfl⟩
    have htraced (hoff : s.dbg.traceOn = false) : traced = counted.bump 1 (s.pktTenant o) ((o.pkt.opcode / 256 - 1) * 8 + st / 256) 0 1 := by
      have hcountedOff : counted.dbg.traceOn = false := by
        unfold counted
        split <;> exact hoff
      exact State.trace_off _ hcountedOff
    exact
      { pkts := by rw [State.trace_pkts, State.bump_pkts, hcounted.pkts]
        bobbins := by rw [State.trace_q, State.bump_q, hcounted.bobbins]
        stops := by rw [State.trace_q, State.bump_q, hcounted.stops]
        tenants := by rw [State.trace_dom, State.bump_dom, hcounted.tenants]
        contexts := by rw [State.trace_dom, State.bump_dom, hcounted.contexts]
        regions := by rw [State.trace_regions, State.bump_ms, hcounted.regions]
        hbmStacks := by rw [State.trace_hbmStacks, State.bump_ms, hcounted.hbmStacks]
        twists := by rw [State.trace_twists, State.bump_dr, hcounted.twists]
        units := by simpa [traced] using hcounted.units
        log := by rw [State.trace_log, State.bump_log, hcounted.log]
        out := by rw [State.trace_out, State.bump_out, hcounted.out]
        mem := fun hoff => by rw [htraced hoff, State.bump_mem, hcounted.mem hoff] }
  · cases o.src <;> rfl

end Sys2Proof.Machine
end

section
/-! PROOFS of PacketEnds (O16): what the end of a packet of a tenant bobbin changes, in its four cases: reply written, held, its slot not readable, none due. -/

namespace Sys2Proof.Machine

/-! ### A reply that is due -/

section
variable {s : State} {n : Nat} {r : Reply} (hused : (s.bob n).mode ≠ .unused) (hn : n < 224)
include hused hn

/-- With room in the ring and nothing held, a reply is written at once (R52). -/
theorem State.deliver_room (hroom : (s.bob n).room = true) (hheld : (s.bob n).held = []) : s.deliver n r = s.writeReply n r := by
  simp [State.deliver, hused, hroom, hheld, hn]

/-- With the ring full, a reply that is no event is held behind the others (R52). -/
theorem State.deliver_full (hfull : (s.bob n).room = false) (hreply : r.event = false) :
    s.deliver n r = s.setBob n { s.bob n with held := (s.bob n).held ++ [r] } := by
  simp [State.deliver, hused, hfull, hreply, hn]

end

@[simp] theorem State.checkIrq_mem (s : State) (n : Nat) : (s.checkIrq n).mem = s.mem := by
  rcases s.checkIrq_cases n with e | e <;> rw [e]
  rfl

theorem State.checkIrq_bob (s : State) (n : Nat) : ∃ ps, (s.checkIrq n).bob n = { s.bob n with irqPending := ps } := by
  rcases s.checkIrq_cases n with e | e <;> rw [e]
  · exact ⟨_, rfl⟩
  · exact ⟨[], by simp⟩

/-- A reply whose slot is readable lands there, and CPL_TAIL advances by one (R49, R50). -/
theorem State.writeReply_readable {s : State} {n : Nat} {r : Reply} (h : s.served (s.bob n).nextSlot 32 = true) :
    (s.writeReply n r).mem = memPuts s.mem (s.bob n).nextSlot (wordBytes (replyWords r (s.bob n).cplTail (s.bob n).sizeLog2))
      ∧ ((s.writeReply n r).bob n).cplTail = (s.bob n).cplTail + 1 ∧ ((s.writeReply n r).bob n).mode = (s.bob n).mode := by
  rcases s.writeReply_cases n r with ⟨hnot, -⟩ | ⟨-, e⟩
  · exact absurd (h.symm.trans hnot) (by decide)
  · rw [e, State.checkIrq_mem]
    generalize hy : State.setBob _ n _ = y
    obtain ⟨ps, hbob⟩ := y.checkIrq_bob n
    rw [hbob, ← hy]
    refine ⟨?_, by simp, by simp⟩
    rw [State.setBob_mem, State.store_mem, Bobbin.nextSlot]

/-- A reply whose slot cannot be read is held, and the bobbin is in Error (Table 2.9b). -/
theorem State.writeReply_unreadable {s : State} {n : Nat} {r : Reply} (h : s.served (s.bob n).nextSlot 32 = false) :
    s.writeReply n r = s.setBob n { s.bob n with cplFault := true, held := (s.bob n).held ++ [r], mode := .error } := by
  rcases s.writeReply_cases n r with ⟨-, e⟩ | ⟨hnot, -⟩
  · exact e
  · exact absurd (hnot.symm.trans h) (by decide)

/-! ### The end of a tenant bobbin's packet -/

/-- The end of a tenant bobbin's packet is noted, and then the bobbin hears of it. -/
theorem State.endPkt_tenant (s : State) {o : OutPkt} {n : Nat} (st : Nat) (d : List Nat) (hsrc : o.src = .bobbin n) (hn : n < 192) :
    ∃ u : State, s.EndNoted o st u ∧ s.endPkt o st d = u.answer n o st s.now d := by
  obtain ⟨u, hnoted, hend⟩ := s.endPkt_noted o st d s.now
  rw [hsrc] at hend
  exact ⟨u, hnoted, hend.trans (if_neg (by omega))⟩

section
variable {u : State} {n : Nat} {o : OutPkt} {st t : Nat} {d : List Nat}

/-- A reply is due where REPLY is set or the status lies outside class 0x00 (Table 2.11). -/
theorem State.answer_due (hdue : o.pkt.reply = true ∨ st / 256 ≠ 0) :
    u.answer n o st t d = (u.setBob n ((u.bob n).noteEnd o.id st)).deliver n (replyOf o st t d) := by
  unfold State.answer
  dsimp only
  rw [if_neg (by rcases hdue with h | h <;> simp [h])]

theorem State.answer_none (hreply : o.pkt.reply = false) (hst : st / 256 = 0) : u.answer n o st t d = u.setBob n ((u.bob n).noteEnd o.id st) := by
  unfold State.answer
  dsimp only
  rw [if_pos (by simp [hreply, hst])]

theorem State.AnswersOn.of_answer (u : State) (n : Nat) (o : OutPkt) (st t : Nat) (d : List Nat) : State.AnswersOn n u (u.answer n o st t d) := by
  unfold State.answer
  have hnote : State.AnswersOn n u (u.setBob n ((u.bob n).noteEnd o.id st)) := .of_setBob rfl rfl (.inl rfl)
  dsimp only
  split
  · exact hnote
  · exact hnote.trans (.of_deliver ..)

end

/-- Where a reply is due it is delivered to a bobbin that has noted the end; memory and the ring stand as before (R62). -/
theorem State.endPkt_due {s : State} {o : OutPkt} {n st : Nat} (d : List Nat) (hsrc : o.src = .bobbin n) (hn : n < 192) (hoff : s.dbg.traceOn = false)
    (hdue : o.pkt.reply = true ∨ st / 256 ≠ 0) :
    ∃ v : State, s.endPkt o st d = v.deliver n (replyOf o st s.now d) ∧ v.mem = s.mem ∧ v.bob n = (s.bob n).noteEnd o.id st
      ∧ v.served (s.bob n).nextSlot 32 = s.served (s.bob n).nextSlot 32 := by
  obtain ⟨u, hnoted, hend⟩ := s.endPkt_tenant st d hsrc hn
  refine ⟨_, hend.trans (State.answer_due hdue), hnoted.mem hoff, ?_, State.served_of_stacks hnoted.hbmStacks ..⟩
  rw [State.bob_setBob, if_pos rfl, State.bob_of_bobbins hnoted.bobbins]

/-- Settles O16: the end is noted, which touches no other bobbin, and the bobbin hears of it by a reply that is written, held, or not due. -/
theorem packetEnds : Obligations.PacketEnds := by
  unfold Obligations.PacketEnds
  refine ⟨fun s o n st d hsrc hn hoff => ?frame, fun s o n st d hsrc hn hoff hused hroom hheld hdue => ?written,
    fun s o n st d hsrc hn hoff hused hdue => ?held, fun s o n st d hsrc hn hoff hreply hst => ?none⟩
  case frame =>
    intro t
    obtain ⟨u, hnoted, hend⟩ := s.endPkt_tenant st d hsrc hn
    obtain ⟨hkept, hothers, -, -, -, hlog, k, hout⟩ := State.AnswersOn.of_answer u n o st s.now d
    rw [← hend] at hkept hothers hlog hout
    simp only [State.besideReplies, Prod.mk.injEq] at hkept
    obtain ⟨⟨hpkts, hdom, hregions, hkv⟩, ⟨htime, hsaf, hvault, heng, hsen, -⟩, -⟩ := hkept
    obtain ⟨hukv, hutime, husaf, huvault, hueng, husen⟩ := hnoted.units
    have hbob (m : Nat) : u.bob m = s.bob m := State.bob_of_bobbins hnoted.bobbins m
    exact ⟨hpkts.trans hnoted.pkts, fun m hm => (hothers m hm).trans (hbob m), (congrArg Domains.tenants hdom).trans hnoted.tenants,
      (congrArg Domains.contexts hdom).trans hnoted.contexts, hregions.trans hnoted.regions, hkv.trans hukv, htime.trans hutime, hsaf.trans husaf,
      hvault.trans huvault, heng.trans hueng, hsen.trans husen, (hlog (by omega)).trans hnoted.log, k, by rw [hout, hnoted.out, hbob]⟩
  case written =>
    intro a hserved t
    obtain ⟨v, hend, hmem, hbob, hslot⟩ := State.endPkt_due d hsrc hn hoff hdue
    have hwrite : t = v.writeReply n (replyOf o st s.now d) :=
      hend.trans (State.deliver_room (by rwa [hbob]) (by omega) (by rwa [hbob]) (by rwa [hbob]))
    have hreadable : v.served (v.bob n).nextSlot 32 = true := by
      rw [hbob]
      exact hslot.trans hserved
    have hlands := State.writeReply_readable (r := replyOf o st s.now d) hreadable
    rw [← hwrite, hmem, hbob] at hlands
    exact hlands
  case held =>
    intro a t
    obtain ⟨v, hend, hmem, hbob, hslot⟩ := State.endPkt_due d hsrc hn hoff hdue
    have hexists : (v.bob n).mode ≠ .unused := by rwa [hbob]
    refine ⟨fun hroom hheld hserved => ?unreadable, fun hfull => ?full⟩
    case unreadable =>
      have hwrite : t = v.writeReply n (replyOf o st s.now d) := hend.trans (State.deliver_room hexists (by omega) (by rwa [hbob]) (by rwa [hbob]))
      have hunreadable : v.served (v.bob n).nextSlot 32 = false := by
        rw [hbob]
        exact hslot.trans hserved
      rw [hwrite, State.writeReply_unreadable hunreadable, hbob]
      simp [hmem, Bobbin.noteEnd, hheld]
    case full =>
      have hhold := State.deliver_full (r := replyOf o st s.now d) hexists (by omega) (by rwa [hbob]) rfl
      rw [show t = _ from hend.trans hhold, hbob]
      simp [hmem, Bobbin.noteEnd]
  case none =>
    obtain ⟨u, hnoted, hend⟩ := s.endPkt_tenant st d hsrc hn
    rw [hend, State.answer_none hreply hst, State.bob_of_bobbins hnoted.bobbins]
    exact ⟨hnoted.mem hoff, by simp [Bobbin.noteEnd]⟩

end Sys2Proof.Machine
end

section
/-! PROOFS of DoorbellWrites (O5) and CompletionDoorbell (O6): the doorbells of a bobbin (Table 2.10, R52) and its interrupt (R41). -/

namespace Sys2Proof.Machine

/-! ### DOORBELL -/

theorem exec_doorbellWrite {s : State} {n : Nat} (v : Word) (hserves : s.serves = true) (hcard : s.cardBobbin n = false) :
    exec (.doorbellWrite n v) s = .next (s.doorbell n (BitVec.ofNat 16 v.toNat)) := by
  show execDoorbellWrite n v s = _
  rw [execDoorbellWrite, State.whileServing_of hserves, if_neg (Bool.eq_false_iff.1 hcard)]

section
variable {s : State} {n : Nat} {x : Index}

theorem State.doorbell_unused (hunused : (s.bob n).mode = .unused) : s.doorbell n x = s.logIt .doorbellUnused n := if_pos hunused

theorem State.doorbell_beyond (hused : (s.bob n).mode ≠ .unused) (hbeyond : 2 ^ (s.bob n).sizeLog2 < (x - (s.bob n).cmdHead).toNat) :
    s.doorbell n x = s.bobError n (fun b => { b with overrun := true }) := (if_neg hused).trans (if_pos hbeyond)

theorem State.doorbell_same (hused : (s.bob n).mode ≠ .unused) (hwithin : ¬ 2 ^ (s.bob n).sizeLog2 < (x - (s.bob n).cmdHead).toNat) (hsame : x = (s.bob n).tail) :
    s.doorbell n x = s := (if_neg hused).trans ((if_neg hwithin).trans (if_pos hsame))

/-- A new tail within the ring is recorded, with what an ABORT needs to know of it; nothing else of a bobbin or a packet changes (R44, R56). -/
theorem State.doorbell_new (hused : (s.bob n).mode ≠ .unused) (hwithin : ¬ 2 ^ (s.bob n).sizeLog2 < (x - (s.bob n).cmdHead).toNat) (hnew : x ≠ (s.bob n).tail) (m : Nat) :
    (s.doorbell n x).bob m = (if m = n then { s.bob n with tail := x, bells := (s.bob n).bells ++ [(x, s.q.nextId, s.q.endSeq)] } else s.bob m)
      ∧ (s.doorbell n x).pkts = s.pkts := by
  unfold State.doorbell
  dsimp only
  rw [if_neg hused, if_neg hwithin, if_neg hnew, State.bob_trace, State.bob_setBob, State.trace_pkts]
  exact ⟨rfl, rfl⟩

end

theorem State.bob_bobError (s : State) (n m : Nat) (f : Bobbin → Bobbin) : (s.bobError n f).bob m = if m = n then { f (s.bob n) with mode := .error } else s.bob m :=
  State.bob_setBob ..

/-- Settles O5, row by row of Table 2.10. -/
theorem doorbellWrites : Obligations.DoorbellWrites := by
  unfold Obligations.DoorbellWrites
  intro s n v hserves hcard
  refine ⟨_, exec_doorbellWrite v hserves hcard, ?_⟩
  intro x
  split
  next hunused => exact State.doorbell_unused hunused
  next hused =>
  split
  next hbeyond =>
    rw [State.doorbell_beyond hused hbeyond]
    simp only [State.bob_bobError, if_true]
    exact ⟨trivial, trivial, trivial, trivial, fun m hm => if_neg hm⟩
  next hwithin =>
  split
  next hsame => exact State.doorbell_same hused hwithin hsame
  next hnew =>
    have hbob (m : Nat) := (State.doorbell_new hused hwithin hnew m).1
    refine ⟨?_, ?_, ?_, fun m hm => (hbob m).trans (if_neg hm), (State.doorbell_new hused hwithin hnew n).2⟩ <;> rw [hbob, if_pos rfl]

/-! ### CPL_DOORBELL and HOLDOFF -/

/-- A bobbin after a CPL_DOORBELL write: the index is recorded, and the pending replies whose slots it passes are no longer counted (R41). -/
def Bobbin.passedTo (b : Bobbin) (x : Index) : Bobbin :=
  { b with cplDoorbell := x, irqPending := b.irqPending.filter (fun i => !decide ((i - b.cplDoorbell).toNat < (x - b.cplDoorbell).toNat)) }

theorem exec_cplDoorbellWrite {s : State} {n : Nat} (v : Word) (hserves : s.serves = true) (hused : (s.bob n).mode ≠ .unused) :
    exec (.cplDoorbellWrite n v) s = .next ((s.setBob n ((s.bob n).passedTo (BitVec.ofNat 16 v.toNat))).drainHeld n (s.bob n).held.length) := by
  show execCplDoorbellWrite n v s = _
  rw [execCplDoorbellWrite, State.whileServing_of hserves]
  exact congrArg Host.Outcome.next (if_neg hused)

/-- The one held reply is written where the ring has room (R52). -/
theorem State.drainHeld_one {s : State} {n : Nat} {r : Reply} (hheld : (s.bob n).held = [r]) (hroom : (s.bob n).room = true) (hused : (s.bob n).mode ≠ .unused) :
    ∃ u : State, s.drainHeld n 1 = u.writeReply n r ∧ u.bob n = { s.bob n with held := [] } ∧ u.mem = s.mem :=
  ⟨s.setBob n { s.bob n with held := [] }, by simp [State.drainHeld, hheld, hroom, hused], by simp, rfl⟩

theorem exec_irqHoldoffExpiry {s : State} {n : Nat} (hup : s.clocked = true) (henabled : (s.bob n).irqEnable = true) (hpending : (s.bob n).irqPending ≠ []) :
    exec (.irqHoldoffExpiry n) s = .next (s.raiseIrq n) := by
  show execIrqHoldoffExpiry n s = _
  rw [execIrqHoldoffExpiry, State.whileUp_of hup]
  simp [henabled, hpending]

/-- Settles O6 from the rules of the doorbell, of the held replies and of the interrupt. -/
theorem completionDoorbell : Obligations.CompletionDoorbell := by
  unfold Obligations.CompletionDoorbell
  refine ⟨fun s n v hserves hused hheld => ?free, fun s n v r hserves hused hheld hpending hroom => ?held, fun s n hup henabled hpending => ?holdoff⟩
  case free => rw [exec_cplDoorbellWrite v hserves hused, hheld]; rfl
  case held =>
    generalize hx : (BitVec.ofNat 16 v.toNat : Index) = x at *
    have hbob : (s.setBob n ((s.bob n).passedTo x)).bob n = (s.bob n).passedTo x := by rw [State.bob_setBob, if_pos rfl]
    obtain ⟨u, hdrain, hu, hmem⟩ := State.drainHeld_one (s := s.setBob n ((s.bob n).passedTo x)) (n := n) (r := r) (by rw [hbob]; exact hheld)
      (by rw [hbob]; exact decide_eq_true hroom) (by rw [hbob]; exact hused)
    refine ⟨u, ?_, by rw [hu], by rw [hu, hbob]; rfl, hmem⟩
    rw [exec_cplDoorbellWrite v hserves hused, hheld, hx]
    exact congrArg Host.Outcome.next hdrain
  case holdoff => exact ⟨_, exec_irqHoldoffExpiry hup henabled hpending, by simp [State.raiseIrq], rfl, rfl⟩

end Sys2Proof.Machine
end

section
/-! PROOFS of FetchesInRingOrder (O8) and HeldPackets (O9): what holds a fetched packet back (R52, R57), its start, and the fetch of a slot (R43, R47). -/

namespace Sys2Proof.Machine

/-! ### What holds a packet back -/

/-- Nothing holds a packet back where every packet before it has started without BARRIER on it, its predecessor's CHAIN has heard of an end, and the hold
of replies has room (R52, R57). -/
theorem State.heldBack_eq_false {s : State} {n : Nat} {o : OutPkt} (hbefore : ∀ x ∈ s.outstanding n, x.id < o.id → o.pkt.barrier = false ∧ x.job.unstarted = false)
    (hchain : ∀ l, o.pred = some l → l.chain = true → l.status ≠ none) (hhold : (s.bob n).held.length < 32) : s.heldBack n o = false := by
  have hbefore : (s.outstanding n).any (fun x => decide (x.id < o.id) && (o.pkt.barrier || x.job.unstarted)) = false := by
    simp only [List.any_eq_false, Bool.and_eq_true, decide_eq_true_eq, not_and, Bool.or_eq_true, not_or, Bool.not_eq_true]
    exact hbefore
  have hhold : decide (32 ≤ (s.bob n).held.length) = false := decide_eq_false (Nat.not_le.2 hhold)
  rw [State.heldBack, hbefore, hhold]
  cases hp : o.pred with
  | none => rfl
  | some l => cases hc : l.chain <;> cases hst : l.status <;> simp_all

/-- The predecessor's CHAIN skips a packet with the status it ended with, outside class 0x00 (R57). -/
theorem chainSkips_eq_some {pred : Option ChainLink} {st : Nat} :
    chainSkips pred = some st ↔ ∃ l, pred = some l ∧ l.chain = true ∧ l.status = some st ∧ st / 256 ≠ 0 := by
  cases pred with
  | none => simp [chainSkips]
  | some l =>
    cases hst : l.status with
    | none => simp [chainSkips, hst]
    | some k =>
      simp only [chainSkips, hst, Option.some.injEq, exists_eq_left', Bool.and_eq_true, decide_eq_true_eq, Option.ite_none_right_eq_some]
      constructor
      · rintro ⟨⟨hset, hclass⟩, rfl⟩
        exact ⟨hset, rfl, hclass⟩
      · rintro ⟨hset, rfl, hclass⟩
        exact ⟨⟨hset, hclass⟩, rfl⟩

theorem State.release_skipped {s : State} {o : OutPkt} {st : Nat} (h : chainSkips o.pred = some st) : s.release o = s.endPkt o 0x0301 [st] := by
  rw [State.release, h]

theorem State.release_started {s : State} {o : OutPkt} (h : chainSkips o.pred = none) : s.release o = (specOf o.pkt).start o.env s := by
  rw [State.release, h]

theorem exec_packetHoldEnd {s : State} {o : OutPkt} {n : Nat} (hfound : s.pkt? o.id = some o) (hsrc : o.src = .bobbin n) (hheld : o.job = .held) (hserves : s.serves = true)
    (hflyer : bit s.dbg.haltedFl o.flyer = false) (hfree : s.heldBack n o = false) : exec (.packetHoldEnd o.id) s = .next (s.release o) := by
  have hruns : s.flyerHalted o.flyer = false := hflyer
  show execPacketHoldEnd o.id s = _
  simp [execPacketHoldEnd, hfound, hsrc, hheld, hserves, hruns, hfree]

/-- Settles O9: what holds the packet back has ended, and its predecessor's CHAIN decides. -/
theorem heldPackets : Obligations.HeldPackets := by
  unfold Obligations.HeldPackets
  intro s o n hfound hsrc hheld hserves hflyer hbefore hhold hchain
  have hrelease := exec_packetHoldEnd hfound hsrc hheld hserves hflyer (State.heldBack_eq_false hbefore hchain hhold)
  refine ⟨fun l st hl hset hst hclass => ?skipped, fun hnot => ?started⟩
  case skipped => rw [hrelease, State.release_skipped (chainSkips_eq_some.2 ⟨l, hl, hset, hst, hclass⟩)]
  case started =>
    have hnone : chainSkips o.pred = none := Option.eq_none_iff_forall_ne_some.2 fun st h => by
      obtain ⟨l, hl⟩ := chainSkips_eq_some.1 h
      exact hnot ⟨l, st, hl⟩
    rw [hrelease, State.release_started hnone]

/-! ### The fetch of a slot -/

/-- The command slot that CMD_HEAD names (R43). -/
def Bobbin.headSlot (b : Bobbin) : Addr := b.cmdBase + 64 * (b.cmdHead.toNat % 2 ^ b.sizeLog2)

theorem exec_packetFetch {s : State} {n : Nat} (h : s.mayFetch n = true) : exec (.packetFetch n) s = .next (s.fetch n) :=
  congrArg Host.Outcome.next (if_pos h)

/-- A slot that cannot be read puts the bobbin in Error (Table 2.9b). -/
theorem State.fetch_unreadable {s : State} {n : Nat} (h : s.served (s.bob n).headSlot 64 = false) :
    s.fetch n = (s.restart (24 + (s.bob n).flyer / 5)).bobError n (fun b => { b with fetchFault := true }) := by
  refine if_pos ?_
  show (!s.served (s.bob n).headSlot 64) = true
  rw [h]
  rfl

/-- A bobbin's packet that becomes outstanding is the bobbin's last one (R57). -/
theorem State.bob_takeIn (s : State) (n m : Nat) (p : Packet) (bell : Nat × Nat) :
    (s.takeIn (.bobbin n) p bell).bob m = if m = n then { s.bob n with last := some ⟨s.q.nextId, p.chain, none⟩ } else s.bob m := State.bob_setBob ..

/-- A readable slot's packet becomes outstanding under the next id and CMD_HEAD advances; then it is held back or released (R43, R47). -/
theorem State.fetch_readable {s : State} {n : Nat} {p : Packet} (h : s.served (s.bob n).headSlot 64 = true) (hoff : s.dbg.traceOn = false)
    (hp : (⟨bytesWords 16 (s.load (s.bob n).headSlot 64)⟩ : Packet) = p) :
    ∃ (u : State) (o : OutPkt), s.fetch n = (if u.heldBack n o then u else u.release o)
      ∧ (o.env = ⟨s.q.nextId, .bobbin n, p, n, (s.bob n).flyer⟩ ∧ o.pred = (s.bob n).last ∧ o.src = .bobbin n)
      ∧ u.pkts = s.pkts ++ [o] ∧ (u.bob n).cmdHead = (s.bob n).cmdHead + 1 ∧ (u.bob n).held = (s.bob n).held ∧ (∀ m, m ≠ n → u.bob m = s.bob m)
      ∧ u.q.nextId = s.q.nextId + 1 ∧ u.mem = s.mem := by
  subst hp
  unfold State.fetch
  extract_lets r b a p bell head s1 s2 _ o u
  have hread : (!r.served a 64) = false := by
    show (!s.served (s.bob n).headSlot 64) = false
    rw [h]
    rfl
  rw [if_neg (Bool.eq_false_iff.1 hread)]
  have htraced : s2 = s1.takeIn (.bobbin n) p bell := State.trace_off _ hoff
  have hs1 : s1.bob n = { b with cmdHead := head, bells := b.bells.filter (fun x => x.1 ≠ head) } := by rw [State.bob_setBob, if_pos rfl]
  have hbob (m : Nat) : u.bob m = if m = n then { s1.bob n with last := some ⟨s.q.nextId, p.chain, none⟩ } else s1.bob m :=
    (congrArg (fun y : State => y.bob m) htraced).trans (State.bob_takeIn s1 n m p bell)
  have hflyer : (s1.bob n).flyer = (s.bob n).flyer := by rw [hs1]; rfl
  refine ⟨u, o, rfl, ⟨?_, rfl, rfl⟩, rfl, ?_, ?_, fun m hm => ?_, ?_, ?_⟩
  · rw [← hflyer]
    rfl
  · rw [hbob, if_pos rfl, hs1]
    rfl
  · rw [hbob, if_pos rfl, hs1]
    rfl
  · rw [hbob, if_neg hm, State.bob_setBob, if_neg hm]
    rfl
  · show s2.q.nextId = _
    rw [htraced]
    rfl
  · show s2.mem = _
    rw [htraced]
    rfl

/-- Settles O8: the slot is read, and where nothing holds its packet back and no CHAIN skips it, the packet starts. -/
theorem fetchesInRingOrder : Obligations.FetchesInRingOrder := by
  unfold Obligations.FetchesInRingOrder
  refine ⟨fun s n hmay => ?starts, fun s n hmay hnot => ?error⟩
  case starts =>
    intro b a p hserved hoff hbefore hhold hlast
    obtain ⟨u, o, hfetch, ⟨henv, hpred, hsrc⟩, hpkts, hhead, hheld, hothers, hnext, hmem⟩ := State.fetch_readable (p := p) hserved hoff rfl
    obtain ⟨hid, hpkt⟩ : o.id = s.q.nextId ∧ o.pkt = p := ⟨congrArg Env.id henv, congrArg Env.p henv⟩
    have hfree : u.heldBack n o = false := by
      refine State.heldBack_eq_false (fun x hx hlt => ?_) (fun l hl hset => ?_) (by rwa [hheld])
      · have hx : x ∈ s.outstanding n := by
          simp only [State.outstanding, hpkts, List.filter_append, List.mem_append] at hx ⊢
          refine hx.resolve_right fun hself => ?_
          rw [List.mem_singleton.1 (List.mem_filter.1 hself).1] at hlt
          exact Nat.lt_irrefl _ hlt
        rw [hpkt]
        exact hbefore x hx
      · obtain ⟨st, hst, -⟩ := hlast l (hpred.symm.trans hl) hset
        rw [hst]
        exact Option.some_ne_none st
    have hnotSkipped : chainSkips o.pred = none := Option.eq_none_iff_forall_ne_some.2 fun st hskip => by
      obtain ⟨l, hl, hset, hst, hclass⟩ := chainSkips_eq_some.1 hskip
      obtain ⟨st', hst', hclass'⟩ := hlast l (hpred.symm.trans hl) hset
      rw [hst] at hst'
      exact hclass (Option.some.inj hst' ▸ hclass')
    refine ⟨u, ?_, hhead, hothers, hnext, hmem, by rw [hpkts, List.map_append, ← hid]; rfl, fun x hx => ?_⟩
    · rw [exec_packetFetch hmay, hfetch, if_neg (Bool.eq_false_iff.1 hfree), State.release_started hnotSkipped, henv, hpkt]
    · rw [hpkts] at hx
      exact (List.mem_append.1 hx).imp_right fun h => (congrArg OutPkt.pkt (List.mem_singleton.1 h)).trans hpkt
  case error =>
    refine ⟨_, exec_packetFetch hmay, ?_⟩
    rw [State.fetch_unreadable hnot, State.bob_bobError, if_pos rfl]
    exact ⟨rfl, rfl, rfl, rfl⟩

end Sys2Proof.Machine
end

section
/-! PROOFS of BobbinCommands (O10): NOP and the commands of the bobbins (R45, R55, R61, R563). -/

namespace Sys2Proof.Machine

@[simp] theorem OpSpec.taken_stops (sp : OpSpec) (src : Src) (p : Packet) (s : State) : (sp.taken src p s).q.stops = s.q.stops := by cases src <;> rfl

theorem State.stopBobbin_running {s : State} {n : Nat} (h : (s.bob n).mode = .running) : s.stopBobbin n = s.setBob n { s.bob n with mode := .stopped } := if_pos h

theorem State.stopBobbin_other {s : State} {n : Nat} (h : (s.bob n).mode ≠ .running) : s.stopBobbin n = s := if_neg h

section
variable {e : Env} {s : State} {n : Nat} (hn : e.p.f 3 7 0 = n)
include hn

/-- A BOBBIN_CREATE of a bobbin that exists answers BUSY (R563). -/
theorem specBobbinCreate_run_busy (hused : (s.bob n).mode ≠ .unused) : specBobbinCreate.run e s = s.finish e.id 0x0201 := by
  subst hn
  exact if_pos hused

/-- A BOBBIN_CREATE of an Unused bobbin makes it as the packet says (Table 2.17). -/
theorem specBobbinCreate_run_new (hunused : (s.bob n).mode = .unused) : specBobbinCreate.run e s = (s.setBob n {
    mode := .running, control := e.p.b 3 8, tenant := e.p.f 3 15 12, fixed := e.p.b 3 20, sizeLog2 := e.p.f 3 19 16, flyer := s.homeFlyer n (e.p.b 3 20)
    cmdBase := e.p.addr 4, cplBase := e.p.addr 6, irqVector := e.p.f 8 10 0 }).finish e.id 0 := by
  subst hn
  exact if_neg (not_not_intro hunused)

/-- At the bobbin's own home flyer a BOBBIN_STOP stops a Running bobbin at once (R45, R61). -/
theorem specBobbinStop_run_running (hflyer : (s.bob n).flyer = e.flyer) (hrunning : (s.bob n).mode = .running) :
    specBobbinStop.run e s = (s.setBob n { s.bob n with mode := .stopped }).finish e.id 0 := by
  subst hn
  rw [← State.stopBobbin_running hrunning]
  exact if_pos hflyer

/-- At the bobbin's own home flyer a BOBBIN_STOP leaves a bobbin that does not run as it is (R45, R61). -/
theorem specBobbinStop_run_other (hflyer : (s.bob n).flyer = e.flyer) (hother : (s.bob n).mode ≠ .running) : specBobbinStop.run e s = s.finish e.id 0 := by
  subst hn
  conv_rhs => rw [← State.stopBobbin_other hother]
  exact if_pos hflyer

/-- A BOBBIN_STOP of another flyer's bobbin waits for an order there (R61). -/
theorem specBobbinStop_run_away (hflyer : (s.bob n).flyer ≠ e.flyer) :
    ∃ t : State, specBobbinStop.run e s = t ∧ t.q.stops = s.q.stops ++ [⟨e.id, (s.bob n).flyer, .abort, [], some n⟩] ∧ t.bob n = s.bob n ∧ t.mem = s.mem := by
  subst hn
  exact ⟨_, if_neg hflyer, rfl, rfl, rfl⟩

end

/-- Settles O10: each command runs its effect on the state in which its packet stands outstanding. -/
theorem bobbinCommands : Obligations.BobbinCommands := by
  unfold Obligations.BobbinCommands
  refine ⟨fun src p s h => OpSpec.next_exec_accepted h (by decide) rfl, fun src p s h => ?create, fun src p s h => OpSpec.next_exec_accepted h (by decide) rfl,
    fun src p s h => ?stop, fun src p s h => OpSpec.next_exec_accepted h (by decide) rfl⟩
  case create =>
    exact ⟨fun hused => OpSpec.next_exec_accepted h (by decide) (specBobbinCreate_run_busy rfl hused),
      fun hunused => OpSpec.next_exec_accepted h (by decide) (specBobbinCreate_run_new rfl hunused)⟩
  case stop =>
    refine ⟨fun hhere hrunning => OpSpec.next_exec_accepted h (by decide) (specBobbinStop_run_running rfl hhere hrunning),
      fun hhere hother => OpSpec.next_exec_accepted h (by decide) (specBobbinStop_run_other rfl hhere hother), fun haway => ?_⟩
    obtain ⟨t, hrun, hstops, hbob, hmem⟩ := specBobbinStop_run_away (e := specBobbinStop.env src p s) (s := specBobbinStop.taken src p s) rfl haway
    exact ⟨t, OpSpec.next_exec_accepted h (by decide) hrun, hstops.trans (by rw [OpSpec.taken_stops]; rfl), hbob, hmem.trans (OpSpec.taken_mem ..)⟩

end Sys2Proof.Machine
end

section
/-! PROOFS of CommitPoint (O18): commit points of local work and of a QUIESCE (R55, R62, R63), at a halted flyer too (R493), and the wait for cores (R93, R95). -/

namespace Sys2Proof.Machine

section
variable {s : State} {id : Nat} {o : OutPkt} (hfound : s.pkt? id = some o)
include hfound

/-- At a halted flyer the acknowledgement queues (R493). -/
theorem exec_commitPoint_halted {w : Work} (hserves : s.serves = true) (hhalted : s.flyerHalted o.flyer = true) (hjob : o.job = .work w)
    (hfirst : s.dbg.queuedAcks.contains (id, none) = false) :
    exec (.commitPoint id) s = .next { s with dbg := { s.dbg with queuedAcks := s.dbg.queuedAcks ++ [(id, none)] } } := by
  show execCommitPoint id s = _
  rw [execCommitPoint, if_pos hserves, hfound]
  dsimp only
  rw [hjob]
  dsimp only
  rw [if_pos hhalted, if_neg (Bool.eq_false_iff.1 hfirst)]

/-- A packet that waits for cores is tried again where its flyer runs and the module places work (R93, Table 25.3). -/
theorem exec_corePlacement (hjob : o.job = .cores) (hruns : s.flyerHalted o.flyer = false) (hup : s.pwr.phase = .up) (hupdate : s.dev.update ≠ .activating)
    (hsafe : s.safety ≠ .safeHold) : exec (.corePlacement id) s = .next ((specOf o.pkt).run o.env s) := by
  show execCorePlacement id s = _
  simp [execCorePlacement, hfound, hjob, hruns, hup, hupdate, hsafe, State.runAgain]

end

/-- A waiting packet after 5 ms: its waits are marked, and stay as they were otherwise (R95). -/
def CoreWait.markedFor (id : Nat) (w : CoreWait) : CoreWait := if w.pkt = id then { w with limit := true } else w

theorem exec_coreWaitLimit {s : State} (id : Nat) (hup : s.clocked = true) :
    exec (.coreWaitLimit id) s = .next { s with dom := { s.dom with waits := s.dom.waits.map (CoreWait.markedFor id) } } :=
  congrArg Host.Outcome.next (State.whileUp_of hup)

/-- Settles O18, clause by clause from the rules of commit points, of placement and of the wait for cores. -/
theorem commitPoint : Obligations.CommitPoint := by
  unfold Obligations.CommitPoint
  refine ⟨fun s id o w hfound hserves hruns hoff hjob hdma hafter hlevel hlocal hacks hfrozen hesc => ?work,
    fun s id o w hfound hserves hhalted hjob hfirst => exec_commitPoint_halted hfound hserves hhalted hjob hfirst, fun s id o hfound hserves hruns hjob => ?quiesce,
    fun s id o hfound hjob hruns hup hupdate hsafe => exec_corePlacement hfound hjob hruns hup hupdate hsafe, fun s id hup => ?limit⟩
  case work =>
    obtain ⟨v, hcommit, hview, hmem⟩ := State.commitWork_local hlevel hafter hlocal hesc hoff
    simp only [State.landView, Prod.mk.injEq] at hview
    obtain ⟨hq, hpkts, hdom, htime, -⟩ := hview
    exact ⟨v, by rw [exec_commitPoint_work hfound hserves hruns hjob hacks hfrozen hdma hlocal, hcommit], hmem, hpkts, hq, hdom, htime⟩
  case quiesce =>
    have hwait := exec_commitPoint_waits hfound hserves hruns hjob
    exact ⟨fun hidle => hwait.trans (congrArg Host.Outcome.next (if_neg (Bool.eq_false_iff.1 hidle))), fun hbusy => hwait.trans (congrArg Host.Outcome.next (if_pos hbusy))⟩
  case limit =>
    refine ⟨_, exec_coreWaitLimit id hup, fun w hw hid => ?_, ?_, rfl, rfl, rfl⟩
    · obtain ⟨x, -, rfl⟩ := List.mem_map.1 hw
      unfold CoreWait.markedFor at hid ⊢
      split at hid
      next h => rw [if_pos h]
      next h => exact absurd hid h
    · rw [List.map_map]
      refine List.map_congr_left fun w _ => ?_
      unfold Function.comp CoreWait.markedFor
      split <;> rfl

end Sys2Proof.Machine
end

section
/-! SUPPORT. Looking up a key in a map that is filtered by key or changed entry by entry. -/

namespace Sys2Proof

theorem NMap.get?_filter_key {α : Type} (m : NMap α) (p : Nat → Bool) (k : Nat) :
    NMap.get? (m.filter (fun x => p x.1)) k = if p k then NMap.get? m k else none := by
  induction m with
  | nil => simp [NMap.get?]
  | cons x m ih =>
    obtain ⟨a, v⟩ := x
    by_cases hak : a = k
    · subst hak
      cases hp : p a <;> simp [hp, NMap.get?, ih]
    · cases hp : p a <;> simp [hp, NMap.get?, ih, hak]

theorem NMap.get?_map_value {α β : Type} (m : NMap α) (f : α → β) (k : Nat) :
    NMap.get? (m.map (fun x => (x.1, f x.2))) k = (NMap.get? m k).map f := by
  induction m with
  | nil => rfl
  | cons x m ih =>
    obtain ⟨a, v⟩ := x
    by_cases hak : a = k <;> simp [NMap.get?, hak, ih]

theorem NMap.mem_of_get? {α : Type} {m : NMap α} {k : Nat} {v : α} (h : NMap.get? m k = some v) : (k, v) ∈ m := by
  induction m with
  | nil => simp [NMap.get?] at h
  | cons x m ih =>
    obtain ⟨a, w⟩ := x
    by_cases hak : a = k
    · simp only [NMap.get?, hak, if_true, Option.some.injEq] at h
      simp [hak, h]
    · simp only [NMap.get?, hak, if_false] at h
      exact List.mem_cons_of_mem _ (ih h)

end Sys2Proof
end

section
/-! PROOFS of ServicePort (O35): the service bobbins with their link (R74), and a flyer that is fenced (R71). -/

namespace Sys2Proof.Machine

/-- A bobbin that runs is listed. -/
theorem State.mem_bobbins_of_running {s : State} {n : Nat} (h : (s.bob n).mode = .running) : (n, s.bob n) ∈ s.q.bobbins := by
  unfold State.bob NMap.getD at h ⊢
  cases hget : NMap.get? s.q.bobbins n with
  | none =>
    rw [hget] at h
    cases h
  | some b => exact NMap.mem_of_get? hget

/-- Where each step of a fold stops its own bobbin and starts none, none of the fold's bobbins runs at its end, and none that did not run before. -/
theorem State.foldl_stops {op : State → Nat → State} (hop : ∀ x k m, m = k ∨ (x.bob m).mode ≠ .running → ((op x k).bob m).mode ≠ .running) (ks : List Nat) (s : State) {m : Nat}
    (h : m ∈ ks ∨ (s.bob m).mode ≠ .running) : ((ks.foldl op s).bob m).mode ≠ .running := by
  induction ks generalizing s with
  | nil => exact h.resolve_left (List.not_mem_nil)
  | cons k ks ih =>
    refine ih (op s k) ?_
    rcases h with h | h
    · exact (List.mem_cons.1 h).elim (fun hk => .inr (hop s k m (.inl hk))) .inl
    · exact .inr (hop s k m (.inr h))

/-! ### The service link -/

theorem State.bob_foldl_setBob (f : Nat → Bobbin) (ks : List Nat) (s : State) (m : Nat) :
    (ks.foldl (fun (x : State) k => x.setBob k (f k)) s).bob m = if m ∈ ks then f m else s.bob m := by
  induction ks generalizing s with
  | nil => rfl
  | cons k ks ih =>
    rw [List.foldl_cons, ih, State.bob_setBob]
    by_cases hk : m = k <;> by_cases hks : m ∈ ks <;> simp [hk, hks]

/-- The numbers of the service bobbins (Table 2.1). -/
def serviceNumbers : List Nat := (List.range 8).map (224 + ·)

theorem mem_serviceNumbers {n : Nat} : n ∈ serviceNumbers ↔ 224 ≤ n ∧ n < 232 := by
  simp only [serviceNumbers, List.mem_map, List.mem_range]
  constructor
  · rintro ⟨k, hk, rfl⟩
    omega
  · rintro ⟨hlo, hhi⟩
    exact ⟨n - 224, by omega, by omega⟩

/-- A service bobbin as it is created (R74). -/
theorem State.serviceBobbin_spec (s : State) {k : Nat} (hk : k < 8) :
    let b := s.serviceBobbin (224 + k)
    b.mode = .running ∧ b.tenant = 0 ∧ b.flyer = s.flyerFor 2 ∧ b.control = decide (k % 2 = 1) ∧ b.sizeLog2 = (if k % 2 = 0 then 8 else 4)
      ∧ b.tail = 0 ∧ b.cmdHead = 0 ∧ b.cplTail = 0 ∧ b.cplDoorbell = 0 ∧ b.cmdBase + 64 * 2 ^ b.sizeLog2 ≤ b.cplBase := by
  intro b
  have hodd : (224 + k) % 2 = k % 2 := by omega
  have hflyer : b.flyer = s.flyerFor 2 := congrArg s.flyerFor ((if_neg (by omega)).trans (if_pos (by simp only [Bool.and_eq_true, decide_eq_true_eq]; omega)))
  have hsize : b.sizeLog2 = if k % 2 = 0 then 8 else 4 := by rw [← hodd]; rfl
  have hcontrol : b.control = decide (k % 2 = 1) := by rw [← hodd]; rfl
  have hbase : b.cplBase = b.cmdBase + 0xC000 := rfl
  refine ⟨rfl, rfl, hflyer, hcontrol, hsize, rfl, rfl, rfl, rfl, ?_⟩
  rw [hbase, hsize]
  exact Nat.add_le_add_left (by split <;> decide) b.cmdBase

/-- The state in which the service link is up with its bobbins, `s` but for them. -/
def State.withService (s : State) : State :=
  (serviceNumbers.foldl (fun (x : State) n => x.setBob n (s.serviceBobbin n)) { s with q := { s.q with serviceUp := true } }).drawn 1

theorem exec_serviceLinkUp {s : State} (hendpoint : s.q.endpoint = true) (hdown : s.q.serviceUp = false) (hup : s.pwr.phase = .up) (hnone : ∀ b ∈ s.q.bobbins, b.1 < 224) :
    exec .serviceLinkUp s = .next s.withService := by
  have hnone : s.q.bobbins.any (fun b => decide (224 ≤ b.1)) = false := by simpa using hnone
  show execServiceLinkUp s = _
  rw [execServiceLinkUp, State.withService, serviceNumbers, List.foldl_map]
  exact congrArg Host.Outcome.next (if_neg (by simp [hendpoint, hdown, hup, hnone]))

theorem State.withService_spec (s : State) :
    s.withService.q.serviceUp = true ∧ s.withService.pkts = s.pkts ∧ s.withService.mem = s.mem
      ∧ ∀ n, s.withService.bob n = if n ∈ serviceNumbers then s.serviceBobbin n else s.bob n := by
  have hkept : (s.withService.q.serviceUp, s.withService.pkts, s.withService.mem) = (true, s.pkts, s.mem) :=
    foldl_keeps (fun x : State => (x.q.serviceUp, x.pkts, x.mem)) (op := fun (x : State) n => x.setBob n (s.serviceBobbin n)) (fun _ _ => rfl) serviceNumbers _
  simp only [Prod.mk.injEq] at hkept
  obtain ⟨hup, hpkts, hmem⟩ := hkept
  exact ⟨hup, hpkts, hmem, State.bob_foldl_setBob s.serviceBobbin serviceNumbers _⟩

/-- A service bobbin stopped and its held replies logged (R74). -/
def State.heldLogged (s : State) (n : Nat) : State :=
  (s.bob n).held.foldl (fun (z : State) r => z.logIt .serviceReply n r.status r.reqTag) (s.stopBobbin n)

/-- One service bobbin when the link goes down: it stops, its held replies are logged and it holds none (R74). -/
def State.closeService (s : State) (n : Nat) : State :=
  if ((s.heldLogged n).bob n).held.isEmpty then s.heldLogged n else (s.heldLogged n).setBob n { (s.heldLogged n).bob n with held := [] }

/-- What closing a service bobbin keeps. -/
def State.besideService (s : State) : List OutPkt × List Host.Cell := (s.pkts, s.mem)

theorem State.stopBobbin_spec (s : State) (n : Nat) :
    (s.stopBobbin n).besideService = s.besideService ∧ (∀ m, m ≠ n → (s.stopBobbin n).bob m = s.bob m) ∧ ((s.stopBobbin n).bob n).mode ≠ .running := by
  by_cases h : (s.bob n).mode = .running
  · rw [State.stopBobbin_running h]
    exact ⟨rfl, fun m hm => by simp [hm], by simp⟩
  · rw [State.stopBobbin_other h]
    exact ⟨rfl, fun _ _ => rfl, h⟩

theorem State.closeService_spec (s : State) (n : Nat) :
    (s.closeService n).besideService = s.besideService ∧ (∀ m, m ≠ n → (s.closeService n).bob m = s.bob m) ∧ ((s.closeService n).bob n).mode ≠ .running := by
  obtain ⟨hkept, hothers, hstopped⟩ := s.stopBobbin_spec n
  have hlogged : ((s.heldLogged n).besideService, (s.heldLogged n).q) = ((s.stopBobbin n).besideService, (s.stopBobbin n).q) :=
    foldl_keeps (fun x : State => (x.besideService, x.q)) (op := fun (z : State) (r : Reply) => z.logIt .serviceReply n r.status r.reqTag) (fun _ _ => rfl) _ _
  obtain ⟨hbeside, hq⟩ := Prod.mk.inj hlogged
  have hbob (m : Nat) : (s.heldLogged n).bob m = (s.stopBobbin n).bob m := State.bob_of_bobbins (congrArg Queues.bobbins hq) m
  have hbeside := hbeside.trans hkept
  unfold State.closeService
  split
  · exact ⟨hbeside, fun m hm => (hbob m).trans (hothers m hm), by rwa [hbob]⟩
  · refine ⟨hbeside, fun m hm => ?_, ?_⟩
    · rw [State.bob_setBob, if_neg hm, hbob, hothers m hm]
    · rw [State.bob_setBob, if_pos rfl]
      rwa [← hbob] at hstopped

/-- All service bobbins closed. -/
def State.closeServices (s : State) : State := serviceNumbers.foldl State.closeService s

theorem State.closeServices_spec (s : State) :
    s.closeServices.besideService = s.besideService ∧ (∀ m, m ∉ serviceNumbers → s.closeServices.bob m = s.bob m)
      ∧ ∀ m ∈ serviceNumbers, (s.closeServices.bob m).mode ≠ .running := by
  refine ⟨foldl_keeps State.besideService (fun y n => (y.closeService_spec n).1) .., fun m hm => ?_, fun m hm => State.foldl_stops (fun x k j h => ?_) _ _ (.inl hm)⟩
  · refine List.foldlRecOn serviceNumbers State.closeService (motive := fun z => z.bob m = s.bob m) rfl fun z hz n hn => ?_
    exact ((z.closeService_spec n).2.1 m (fun e => hm (e ▸ hn))).trans hz
  · obtain ⟨-, hothers, hstopped⟩ := x.closeService_spec k
    by_cases hjk : j = k
    · rwa [hjk]
    · rw [hothers j hjk]
      exact h.resolve_left hjk

/-- The service link is down. -/
def State.serviceOff (s : State) : State := { s with q := { s.q with serviceUp := false } }

theorem exec_serviceLinkDown {s : State} (hup : s.q.serviceUp = true) :
    exec .serviceLinkDown s = .next s.closeServices.serviceOff.dropService := by
  show execServiceLinkDown s = _
  unfold execServiceLinkDown
  extract_lets drop closed
  have hclosed : closed = s.closeServices := by
    unfold State.closeServices serviceNumbers
    rw [List.foldl_map]
    rfl
  exact congrArg Host.Outcome.next ((if_neg (by simp [hup])).trans (congrArg (fun x : State => x.serviceOff.dropService) hclosed))

/-- With the service link down, a service bobbin is left only where it has a packet outstanding (R74). -/
theorem State.bob_dropService {s : State} (hdown : s.q.serviceUp = false) (n : Nat) :
    s.dropService.bob n = if n < 224 ∨ s.outstanding n ≠ [] then s.bob n else {} := by
  have hget : NMap.get? s.dropService.q.bobbins n = if (decide (n < 224) || !(s.outstanding n).isEmpty) then NMap.get? s.q.bobbins n else none := by
    rw [State.dropService, if_neg (Bool.eq_false_iff.1 hdown)]
    exact NMap.get?_filter_key s.q.bobbins (fun k => decide (k < 224) || !(s.outstanding k).isEmpty) n
  unfold State.bob NMap.getD
  rw [hget]
  by_cases h : n < 224 ∨ s.outstanding n ≠ [] <;> simp [h]

theorem State.besideService_inj {s t : State} (h : t.besideService = s.besideService) : t.pkts = s.pkts ∧ t.mem = s.mem := Prod.mk.inj h

theorem State.bob_serviceOff (s : State) (n : Nat) : s.serviceOff.bob n = s.bob n := rfl

theorem State.serviceOff_serviceUp (s : State) : s.serviceOff.q.serviceUp = false := rfl

theorem State.serviceOff_besideService (s : State) : s.serviceOff.besideService = s.besideService := rfl

theorem State.dropService_besideService (s : State) : s.dropService.besideService = s.besideService := by
  unfold State.dropService
  split <;> rfl

theorem State.dropService_serviceUp (s : State) : s.dropService.q.serviceUp = s.q.serviceUp := by
  unfold State.dropService
  split <;> rfl

/-! ### A fenced flyer -/

/-- `t` follows from `s` with no bobbin started and none moved to another flyer. -/
def State.BobbinsStay (s t : State) : Prop := ∀ n, (t.bob n).flyer = (s.bob n).flyer ∧ ((t.bob n).mode = (s.bob n).mode ∨ (t.bob n).mode = .error)

theorem State.AnswersOn.bobbinsStay {n : Nat} {s t : State} (h : State.AnswersOn n s t) : s.BobbinsStay t := fun m => by
  by_cases hm : m = n
  · rw [hm]
    exact ⟨h.flyer, h.mode⟩
  · rw [h.others m hm]
    exact ⟨rfl, .inl rfl⟩

/-- The report of a fence starts no bobbin and moves none. -/
theorem State.fence_bobbinsStay (s : State) (creator opcode ctx cls unit cause : Nat) : s.BobbinsStay (s.fence creator opcode ctx cls unit cause) := fun n => by
  have hevent := (State.AnswersOn.of_deliver ((s.logIt .event fenced cls unit).eventBobbin creator) (s.logIt .event fenced cls unit)
    { opcode := opcode, status := fenced, event := true, ctx := ctx, time := s.now, d0 := cls, d1 := unit, d2 := cause, d3 := 0 }).bobbinsStay n
  rw [State.fence, State.bob_trace, State.bob_logIt]
  exact hevent

theorem State.fence_dev (s : State) (creator opcode ctx cls unit cause : Nat) : (s.fence creator opcode ctx cls unit cause).dev = s.dev := by
  obtain ⟨-, -, -, -, -, -, -, -, -, -, -, -, -, -, hdev, -⟩ := s.event_frame creator opcode fenced ctx [cls, unit, cause, 0]
  rw [State.fence, State.trace_dev, State.logIt_dev, hdev]

@[simp] theorem State.spliceRec_dev (s : State) (r : SpliceRec) : (s.spliceRec r).dev = s.dev := by simp [State.spliceRec]
@[simp] theorem State.spliceRec_q (s : State) (r : SpliceRec) : (s.spliceRec r).q = s.q := by simp [State.spliceRec]
@[simp] theorem State.raise_dev (s : State) (n : Nat) : (s.raise n).dev = s.dev := by rcases s.raise_cases n with e | e <;> simp [e]
@[simp] theorem State.raise_q (s : State) (n : Nat) : (s.raise n).q = s.q := by rcases s.raise_cases n with e | e <;> simp [e]
@[simp] theorem State.spareSpent_dev (s : State) (cls unit logical trigger : Nat) : (s.spareSpent cls unit logical trigger).dev = s.dev := by simp [State.spareSpent]
@[simp] theorem State.spareSpent_q (s : State) (cls unit logical trigger : Nat) : (s.spareSpent cls unit logical trigger).q = s.q := by simp [State.spareSpent]

/-- Flyer `f` is noted as fenced. -/
def State.noteFenced (s : State) (f : Nat) : State := { s with dev := { s.dev with flyersFenced := f :: s.dev.flyersFenced } }

/-- The spare `sp` takes the roles, the bobbins and the orders of flyer `f` (R71, Table 21.1). -/
def State.spareTakes (s : State) (f sp : Nat) : State := { s with
  dev := { s.dev with flyerRole := ((List.range 10).filter (fun r => s.flyerFor r = f)).foldl (fun m r => NMap.put m r sp) s.dev.flyerRole }
  q := { s.q with
    bobbins := s.q.bobbins.map (fun (b : Nat × Bobbin) => (b.1, if b.2.flyer = f then { b.2 with flyer := sp } else b.2))
    stops := s.q.stops.map (fun (o : StopOrder) => if o.flyer = f then { o with flyer := sp } else o) }
  dbg := { s.dbg with haltedFl := s.dbg.haltedFl - (if bit s.dbg.haltedFl f then 2 ^ f else 0) } }

/-- The running bobbins of flyer `f`. -/
def State.runningOn (s : State) (f : Nat) : List Nat :=
  (s.q.bobbins.filter (fun (b : Nat × Bobbin) => b.2.flyer = f && b.2.mode = .running)).map (fun (b : Nat × Bobbin) => b.1)

/-- The bobbins that ran on flyer `f` stop (R71). -/
def State.flyerStops (s : State) (f : Nat) : State := (s.runningOn f).foldl (fun y n => y.setBob n { (y.bob n) with mode := .stopped }) s

/-- What becomes of a serving flyer's roles and bobbins once it is fenced: its die's spare takes them, or they stop and a spare is reported spent. -/
def State.replaceFlyer (s : State) (f : Nat) : Option Nat → State
  | some sp => (s.spareTakes f sp).spliceRec
      { event := 2, cls := 3, from_ := f, to_ := sp, logical := ((List.range 10).filter (fun r => s.flyerFor r = f)).headD f, trigger := 5, host := 0x100 + f / 5 }
  | none => (s.flyerStops f).spareSpent 3 f f 5

/-- A serving flyer, with no packet outstanding, is noted as fenced and replaced, and the fence is reported. -/
theorem State.fenceFlyer_serving {s : State} {f : Nat} (cause : Nat) (hfirst : s.dev.flyersFenced.contains f = false) (hpkts : s.pkts = []) (hserves : s.flyerServes f = true) :
    s.fenceFlyer f cause = ((s.noteFenced f).replaceFlyer f ((s.noteFenced f).spareFlyer (f / 5))).fence 0 0 0 3 f cause := by
  unfold State.fenceFlyer
  extract_lets die ids s1 _ s2 _ _ _ _ _ s3
  have hs1 : s1 = s := by
    unfold s1 ids
    rw [hpkts]
    rfl
  have hs2 : s2 = s.noteFenced f := congrArg (fun x : State => x.noteFenced f) hs1
  have hs3 : s3 = s2.replaceFlyer f (s2.spareFlyer die) := by
    unfold s3
    rw [if_neg (by rw [hs2]; simp [show (s.noteFenced f).flyerServes f = true from hserves])]
    cases s2.spareFlyer die <;> rfl
  rw [if_neg (Bool.eq_false_iff.1 hfirst), hs3, hs2]

/-- That a flyer is noted as fenced does not change its die's spare, which serves nothing. -/
theorem State.spareFlyer_noteFenced {s : State} {f : Nat} (die : Nat) (hserves : s.flyerServes f = true) : (s.noteFenced f).spareFlyer die = s.spareFlyer die := by
  refine congrArg (fun p => List.find? p _) (funext fun g => ?_)
  have hg : (s.noteFenced f).flyerServes g = s.flyerServes g := rfl
  have hlisted : (s.noteFenced f).dev.flyersFenced.contains g = (g == f || s.dev.flyersFenced.contains g) := rfl
  rw [hg, hlisted]
  by_cases h : g = f
  · rw [h, hserves, Bool.not_true, Bool.and_false, Bool.and_false]
  · rw [beq_false_of_ne h, Bool.false_or]
    rfl

theorem State.replaceFlyer_flyersFenced (s : State) (f : Nat) (spare : Option Nat) : (s.replaceFlyer f spare).dev.flyersFenced = s.dev.flyersFenced := by
  cases spare with
  | some sp =>
    rw [State.replaceFlyer, State.spliceRec_dev]
    rfl
  | none =>
    have hdev : (s.flyerStops f).dev = s.dev := foldl_keeps State.dev (op := fun (y : State) n => y.setBob n { (y.bob n) with mode := .stopped }) (fun _ _ => rfl) _ _
    exact congrArg Device.flyersFenced ((State.spareSpent_dev ..).trans hdev)

/-- Without a spare no bobbin of the flyer runs on. -/
theorem State.replaceFlyer_none_mode {s : State} {f n : Nat} (hn : (s.bob n).flyer = f) : ((s.replaceFlyer f none).bob n).mode ≠ .running := by
  rw [State.replaceFlyer, State.bob_of_bobbins (s := s.flyerStops f) (by rw [State.spareSpent_q])]
  refine State.foldl_stops (fun x k m h => ?_) _ _ ?_
  · dsimp only
    rw [State.bob_setBob]
    by_cases hm : m = k
    · simp [hm]
    · rw [if_neg hm]
      exact h.resolve_left hm
  · by_cases hrunning : (s.bob n).mode = .running
    · exact .inl (List.mem_map.2 ⟨_, List.mem_filter.2 ⟨State.mem_bobbins_of_running hrunning, by simp [hn, hrunning]⟩, rfl⟩)
    · exact .inr hrunning

/-- A spare takes every bobbin of the flyer. -/
theorem State.replaceFlyer_some_flyer {s : State} {f n : Nat} (sp : Nat) (hlisted : NMap.has s.q.bobbins n = true) (hn : (s.bob n).flyer = f) :
    ((s.replaceFlyer f (some sp)).bob n).flyer = sp := by
  obtain ⟨b, hb⟩ := Option.isSome_iff_exists.1 hlisted
  have hbob : s.bob n = b := by rw [State.bob, NMap.getD, hb, Option.getD_some]
  rw [State.replaceFlyer, State.bob_of_bobbins (s := s.spareTakes f sp) (by rw [State.spliceRec_q])]
  have hget : NMap.get? (s.spareTakes f sp).q.bobbins n = some { b with flyer := sp } := by
    refine (NMap.get?_map_value s.q.bobbins (fun b => if b.flyer = f then { b with flyer := sp } else b) n).trans ?_
    rw [hb, Option.map_some, if_pos (hbob ▸ hn)]
  rw [State.bob, NMap.getD, hget, Option.getD_some]

/-- Settles O35, clause by clause: the link's bobbins, the report of a flyer, and its replacement. -/
theorem servicePort : Obligations.ServicePort := by
  unfold Obligations.ServicePort
  refine ⟨fun s hendpoint hdown hup hnone => ?up, fun s hup => ?down, fun s f hup => congrArg Host.Outcome.next (State.whileUp_of hup),
    fun s f cause hfirst hf hpkts hserves => ?fence⟩
  case up =>
    obtain ⟨hserviceUp, hpkts, hmem, hbob⟩ := s.withService_spec
    refine ⟨_, exec_serviceLinkUp hendpoint hdown hup hnone, hserviceUp, hpkts, hmem, fun k hk => ?_, fun n hn => ?_⟩
    · have hnumber : 224 + k ∈ serviceNumbers := mem_serviceNumbers.2 ⟨by omega, by omega⟩
      rw [hbob, if_pos hnumber]
      exact s.serviceBobbin_spec hk
    · rw [hbob, if_neg (by rw [mem_serviceNumbers]; omega)]
  case down =>
    obtain ⟨hkept, hothers, hstopped⟩ := s.closeServices_spec
    have hoff : s.closeServices.serviceOff.q.serviceUp = false := State.serviceOff_serviceUp _
    have hdropped := State.dropService_besideService s.closeServices.serviceOff
    obtain ⟨hpkts, hmem⟩ := State.besideService_inj (hdropped.trans ((State.serviceOff_besideService _).trans hkept))
    refine ⟨_, exec_serviceLinkDown hup, (State.dropService_serviceUp _).trans hoff, hpkts, hmem, fun n hn => ?_, fun k hk => ?_⟩
    · rw [State.bob_dropService hoff, if_pos (.inl hn), State.bob_serviceOff]
      exact hothers n (by rw [mem_serviceNumbers]; omega)
    · have hnumber : 224 + k ∈ serviceNumbers := mem_serviceNumbers.2 ⟨by omega, by omega⟩
      have hout : s.closeServices.serviceOff.dropService.outstanding (224 + k) = s.closeServices.serviceOff.outstanding (224 + k) := by
        rw [State.outstanding, State.outstanding, (State.besideService_inj hdropped).1]
      rw [State.bob_dropService hoff, hout, State.bob_serviceOff]
      refine ⟨fun hidle => ?_, ?_⟩
      · rw [if_neg (by simp [hidle])]
      · split
        · exact hstopped _ hnumber
        · exact fun h => nomatch h
  case fence =>
    refine ⟨_, rfl, ?_, fun hnone n hn => ?_, fun sp hsp n hlisted hn => ?_⟩
    all_goals rw [State.fenceFlyer_serving cause hfirst hpkts hserves]
    · rw [State.fence_dev, State.replaceFlyer_flyersFenced]
      rfl
    · have hstays := ((s.noteFenced f).replaceFlyer f none).fence_bobbinsStay 0 0 0 3 f cause n
      rw [State.spareFlyer_noteFenced _ hserves, hnone]
      have hstopped : (((s.noteFenced f).replaceFlyer f none).bob n).mode ≠ .running := State.replaceFlyer_none_mode hn
      rcases hstays.2 with h | h <;> rw [h]
      · exact hstopped
      · exact fun h => nomatch h
    · rw [State.spareFlyer_noteFenced _ hserves, hsp, (State.fence_bobbinsStay ..).1]
      exact State.replaceFlyer_some_flyer sp hlisted hn

end Sys2Proof.Machine
end

section
/-! SUPPORT. What stopping a packet leaves as it was (R62, R63, R66), the orders to other flyers (R61), and their arrival. -/

namespace Sys2Proof.Machine

/-! ### The end of a packet, whatever its source -/

theorem State.dropService_besideReplies (s : State) : s.dropService.besideReplies = s.besideReplies := by
  unfold State.dropService
  split <;> rfl

theorem State.oobSend_besideReplies (s : State) (c : Carrier) (port : Nat) (r : Reply) : (s.oobSend c port r).besideReplies = s.besideReplies := by cases c <;> rfl

/-- The end of a packet takes it from the outstanding packets, and leaves the orders, the contexts and the twists as they were. -/
theorem State.endPkt_frame (s : State) (o : OutPkt) (st : Nat) (d : List Nat) (t : Nat) :
    (s.endPkt o st d t).pkts = s.pktsAfter o st ∧ (s.endPkt o st d t).q.stops = s.q.stops ∧ (s.endPkt o st d t).dom.contexts = s.dom.contexts
      ∧ (s.endPkt o st d t).dr.twists = s.dr.twists := by
  obtain ⟨u, hnoted, hend⟩ := s.endPkt_noted o st d t
  have hkept : (s.endPkt o st d t).besideReplies = u.besideReplies := by
    rw [hend]
    cases o.src with
    | bobbin n =>
      dsimp only
      split
      · exact (State.dropService_besideReplies _).trans (State.AnswersOn.of_answer u n o st t d).kept
      · exact (State.AnswersOn.of_answer u n o st t d).kept
    | oob c port => exact State.oobSend_besideReplies ..
  simp only [State.besideReplies, Prod.mk.injEq] at hkept
  obtain ⟨⟨hpkts, hdom, -, -⟩, -, hstops, htwists⟩ := hkept
  exact ⟨hpkts.trans hnoted.pkts, hstops.trans hnoted.stops, (congrArg Domains.contexts hdom).trans hnoted.contexts, htwists.trans hnoted.twists⟩

/-- The packets that are left are those of before with another number. -/
theorem State.pktsAfter_ids (s : State) (o : OutPkt) (st : Nat) : (s.pktsAfter o st).map (fun x => x.id) = (s.pkts.filter (fun x => x.id ≠ o.id)).map (fun x => x.id) := by
  rw [State.pktsAfter, List.map_map]
  rfl

/-! ### Stopping -/

/-- What the messages of a stop to other nodes, and the discard of an escalation draft, leave as it was. -/
def State.besideMessages (s : State) : List OutPkt × Queues × Domains × List Twist := (s.pkts, s.q, s.dom, s.dr.twists)

theorem State.plySend_besideMessages (s : State) (node : Nat) (m : PlyMsg) : (s.plySend node m).besideMessages = s.besideMessages := by
  unfold State.plySend
  split
  · unfold State.plyOut
    dsimp only
    split <;> rfl
  · rfl

theorem State.collAborted_besideMessages (s : State) (id : Nat) : (s.collAborted id).besideMessages = s.besideMessages := by
  unfold State.collAborted
  split
  · exact foldl_keeps State.besideMessages (fun y n => State.plySend_besideMessages ..) _ _
  · rfl

theorem State.discard_besideMessages (s : State) (d : Draft) : (s.discard d).besideMessages = s.besideMessages := by
  unfold State.discard
  dsimp only
  unfold State.besideMessages
  rw [State.trace_pkts, State.trace_q, State.trace_dom, State.trace_twists]
  exact foldl_keeps State.besideMessages (op := fun (x : State) n => x.plySend n (.unravelDraft ⟨x.dev.node, d.ctx, d.tag, d.level⟩))
    (fun y n => State.plySend_besideMessages ..) d.peers _

theorem State.dropEsc_besideMessages (s : State) (id : Nat) : (s.dropEsc id).besideMessages = s.besideMessages := by
  unfold State.dropEsc
  split
  · exact State.discard_besideMessages ..
  · rfl

/-- Releasing a twist that is stopped keeps packets, queues and domains. -/
theorem State.untwist_keeps (s : State) (id : Nat) : (s.untwist id).pkts = s.pkts ∧ (s.untwist id).q = s.q ∧ (s.untwist id).dom = s.dom := by
  unfold State.untwist
  split
  · exact ⟨rfl, rfl, rfl⟩
  · dsimp only
    generalize hr : List.foldl _ s _ = released
    have hkept : released.besideMessages = s.besideMessages := by
      rw [← hr]
      exact foldl_keeps State.besideMessages (fun y d => foldl_keeps State.besideMessages (fun x n => State.plySend_besideMessages ..) _ _) _ _
    simp only [State.besideMessages, Prod.mk.injEq] at hkept
    obtain ⟨hpkts, hq, hdom, -⟩ := hkept
    exact ⟨hpkts, hq, hdom⟩

/-- What follows the stop of packet `o` by an order: the packet is gone, and the orders, the contexts and, unless an ABORT released one, the twists stay. -/
structure State.StoppedOne (s : State) (why : StopWhy) (o : OutPkt) (t : State) : Prop where
  pkts : ∃ st, t.pkts = s.pktsAfter o st
  stops : t.q.stops = s.q.stops
  contexts : t.dom.contexts = s.dom.contexts
  twists : why ≠ .abort → t.dr.twists = s.dr.twists

theorem State.StoppedOne.of_endPkt {s u : State} {why : StopWhy} {o : OutPkt} {st t : Nat} {d : List Nat} (hpkts : u.pkts = s.pkts) (hstops : u.q.stops = s.q.stops)
    (hcontexts : u.dom.contexts = s.dom.contexts) (htwists : why ≠ .abort → u.dr.twists = s.dr.twists) : s.StoppedOne why o (u.endPkt o st d t) := by
  obtain ⟨hp, hs, hc, ht⟩ := u.endPkt_frame o st d t
  exact ⟨⟨st, hp.trans (by rw [State.pktsAfter, State.pktsAfter, hpkts])⟩, hs.trans hstops, hc.trans hcontexts, fun h => ht.trans (htwists h)⟩

/-- A packet that has not passed its commit point is stopped (R62, R66). -/
theorem State.stopOne_live {s : State} {id : Nat} {o : OutPkt} (why : StopWhy) (hfound : s.pkt? id = some o) (hlive : s.twistCommitted id = false) :
    ∃ t : State, s.stopOne why id = (t, true) ∧ s.StoppedOne why o t := by
  unfold State.stopOne
  rw [hfound]
  dsimp only
  rw [if_neg (Bool.eq_false_iff.1 hlive)]
  generalize hd : (s.collAborted id).dropEsc id = dropped
  generalize hr : (if why = .abort then dropped.untwist id else dropped) = released
  have hdropped : dropped.besideMessages = s.besideMessages := by
    rw [← hd, State.dropEsc_besideMessages, State.collAborted_besideMessages]
  simp only [State.besideMessages, Prod.mk.injEq] at hdropped
  obtain ⟨hpkts, hq, hdom, htwists⟩ := hdropped
  have hreleased : released.pkts = s.pkts ∧ released.q = s.q ∧ released.dom = s.dom ∧ (why ≠ .abort → released.dr.twists = s.dr.twists) := by
    rw [← hr]
    split
    next habort =>
      obtain ⟨hp, hqueues, hd⟩ := dropped.untwist_keeps id
      exact ⟨hp.trans hpkts, hqueues.trans hq, hd.trans hdom, fun h => absurd habort h⟩
    next => exact ⟨hpkts, hq, hdom, fun _ => htwists⟩
  obtain ⟨hpkts, hq, hdom, htwists⟩ := hreleased
  refine ⟨_, rfl, ?_⟩
  refine .of_endPkt ?_ ?_ ?_ ?_
  · split <;> exact hpkts
  · split <;> exact congrArg Queues.stops hq
  · have hcontexts : released.dom.contexts = s.dom.contexts := by rw [hdom]
    split <;> exact hcontexts
  · split <;> exact htwists

theorem State.stopMany_cons_fst (s : State) (why : StopWhy) (id : Nat) (ids : List Nat) :
    (s.stopMany why (id :: ids)).1 = ((s.stopOne why id).1.stopMany why ids).1 := by
  rw [State.stopMany]
  cases s.stopOne why id with
  | mk t hit => cases hit <;> rfl

theorem State.stopMany_one {s t : State} {why : StopWhy} {id : Nat} (h : s.stopOne why id = (t, true)) : s.stopMany why [id] = (t, 1, 0) := by
  simp [State.stopMany, h]

/-- Targets of an order other than an ABORT, none of them past its commit point, are gone once they are stopped; the others stay outstanding (R107, R108). -/
theorem State.stopMany_gone {s : State} {why : StopWhy} (hwhy : why ≠ .abort) {ids : List Nat} (hlive : ∀ i ∈ ids, s.twistCommitted i = false) :
    let t := (s.stopMany why ids).1
    t.q.stops = s.q.stops ∧ t.dom.contexts = s.dom.contexts ∧ ∀ i ∈ t.pkts.map (fun x => x.id), i ∈ s.pkts.map (fun x => x.id) ∧ i ∉ ids := by
  induction ids generalizing s with
  | nil => exact ⟨rfl, rfl, fun i hi => ⟨hi, List.not_mem_nil⟩⟩
  | cons id ids ih =>
    intro t
    have hone : (s.stopOne why id).1.q.stops = s.q.stops ∧ (s.stopOne why id).1.dom.contexts = s.dom.contexts ∧ (s.stopOne why id).1.dr.twists = s.dr.twists
        ∧ ∀ i ∈ (s.stopOne why id).1.pkts.map (fun x => x.id), i ∈ s.pkts.map (fun x => x.id) ∧ i ≠ id := by
      cases hfound : s.pkt? id with
      | none =>
        rw [State.stopOne_none why hfound]
        refine ⟨rfl, rfl, rfl, fun i hi => ⟨hi, ?_⟩⟩
        obtain ⟨x, hx, rfl⟩ := List.mem_map.1 hi
        simpa using List.find?_eq_none.1 hfound x hx
      | some o =>
        obtain ⟨u, hstop, ⟨st, hpkts⟩, hstops, hcontexts, htwists⟩ := State.stopOne_live why hfound (hlive id (List.mem_cons_self ..))
        have hid : o.id = id := by simpa using List.find?_some hfound
        rw [hstop]
        refine ⟨hstops, hcontexts, htwists hwhy, fun i hi => ?_⟩
        rw [hpkts, State.pktsAfter_ids, hid] at hi
        obtain ⟨x, hx, rfl⟩ := List.mem_map.1 hi
        obtain ⟨hin, hne⟩ := List.mem_filter.1 hx
        exact ⟨List.mem_map_of_mem hin, of_decide_eq_true hne⟩
    obtain ⟨hstops, hcontexts, htwists, hpkts⟩ := hone
    have hlive' : ∀ i ∈ ids, (s.stopOne why id).1.twistCommitted i = false := fun i hi => by
      rw [State.twistCommitted, State.twist?, htwists]
      exact hlive i (List.mem_cons_of_mem _ hi)
    have hrest := ih hlive'
    rw [← State.stopMany_cons_fst] at hrest
    obtain ⟨hrstops, hrcontexts, hrpkts⟩ := hrest
    refine ⟨hrstops.trans hstops, hrcontexts.trans hcontexts, fun i hi => ?_⟩
    obtain ⟨hleft, hnot⟩ := hrpkts i hi
    obtain ⟨hin, hne⟩ := hpkts i hleft
    exact ⟨hin, fun h => (List.mem_cons.1 h).elim hne hnot⟩

/-! ### Orders to other flyers -/

theorem filterMap_range_one {α : Type} (x : α) {k n : Nat} (hk : k < n) : (List.range n).filterMap (fun f => if f = k then some x else none) = [x] := by
  induction n with
  | zero => exact absurd hk (Nat.not_lt_zero k)
  | succ n ih =>
    rw [List.range_succ, List.filterMap_append]
    by_cases h : k = n
    · subst h
      have hbelow : (List.range k).filterMap (fun f => if f = k then some x else none) = [] := by
        rw [List.filterMap_eq_nil_iff]
        exact fun f hf => if_neg (Nat.ne_of_lt (List.mem_range.1 hf))
      simp [hbelow]
    · rw [ih (by omega)]
      simp [show ¬ n = k from fun e => h e.symm]

theorem ordersFor_nil (id here : Nat) (why : StopWhy) : ordersFor id here why [] = [] := rfl

/-- A packet of the stopping flyer itself needs no order (R61). -/
theorem ordersFor_here {here : Nat} (id : Nat) (why : StopWhy) {o : OutPkt} (hhere : o.flyer = here) : ordersFor id here why [o] = [] := by
  refine List.filterMap_eq_nil_iff.2 fun f _ => ?_
  simpa [hhere] using fun e : here = f => e.symm

/-- A packet of another flyer has one order there (R61). -/
theorem ordersFor_away {here : Nat} (id : Nat) (why : StopWhy) {o : OutPkt} (hflyer : o.flyer < 10) (haway : o.flyer ≠ here) :
    ordersFor id here why [o] = [⟨id, o.flyer, why, [o.id], none⟩] := by
  rw [← filterMap_range_one (⟨id, o.flyer, why, [o.id], none⟩ : StopOrder) hflyer]
  refine List.filterMap_congr fun f _ => ?_
  by_cases h : f = o.flyer
  · simp [h, haway]
  · simpa [h] using fun e : o.flyer = f => absurd e.symm h

/-- Every packet of another flyer is named in an order there (R61). -/
theorem mem_ordersFor {id here : Nat} {why : StopWhy} {ps : List OutPkt} {o : OutPkt} (ho : o ∈ ps) (hflyer : o.flyer < 10) (haway : o.flyer ≠ here) :
    ∃ z ∈ ordersFor id here why ps, z.by_ = id ∧ z.flyer = o.flyer ∧ o.id ∈ z.targets := by
  have hin : o.id ∈ (ps.filter (fun x => x.flyer = o.flyer && o.flyer ≠ here)).map (fun x => x.id) :=
    List.mem_map_of_mem (List.mem_filter.2 ⟨ho, by simp [haway]⟩)
  refine ⟨⟨id, o.flyer, why, _, none⟩, List.mem_filterMap.2 ⟨o.flyer, List.mem_range.2 hflyer, if_neg ?_⟩, rfl, rfl, hin⟩
  rw [List.isEmpty_iff]
  exact List.ne_nil_of_mem hin

end Sys2Proof.Machine
end

section
/-! PROOFS of StopCommands (O12): ABORT (R56, R62, R66), CONTEXT_RESET (R108) and the arrival of orders (R61). -/

namespace Sys2Proof.Machine

/-! ### ABORT -/

/-- The outstanding packets that were posted before an ABORT and match it (R56). -/
def State.abortLive (s : State) (e : Env) (me : OutPkt) : List OutPkt := s.pkts.filter (fun o => o.id ≠ e.id && decide (o.id < me.bell.1) && abortMatch e.p o.src o.pkt)

/-- The packets that match an ABORT and ended since its doorbell landed (R56). -/
def State.abortGone (s : State) (e : Env) (me : OutPkt) : List Ended :=
  s.q.ended.filter (fun x => decide (me.bell.2 ≤ x.seq) && decide (x.id < me.bell.1) && !x.control && abortMatch e.p x.src x.pkt)

section
variable {e : Env} {s : State} {me : OutPkt} (hme : s.pkt? e.id = some me)
include hme

/-- An ABORT without a match ends with reason 1 (R56). -/
theorem specAbort_run_none (hlive : s.abortLive e me = []) (hgone : s.abortGone e me = []) : specAbort.run e s = s.finish e.id 1 [0, 0, 1] := by
  unfold State.abortLive at hlive
  unfold State.abortGone at hgone
  unfold specAbort
  dsimp only
  rw [hme]
  dsimp only
  rw [hlive, hgone]
  rfl

/-- An ABORT whose only match is a packet of its own flyer stops it (R56, R62). -/
theorem specAbort_run_here {o : OutPkt} {t : State} (hlive : s.abortLive e me = [o]) (hgone : s.abortGone e me = []) (hcontrol : o.control = false)
    (hhere : o.flyer = e.flyer) (hstop : s.stopOne .abort o.id = (t, true)) : specAbort.run e s = t.finish e.id 0 [1, 0, 0] := by
  unfold State.abortLive at hlive
  unfold State.abortGone at hgone
  have htargets : [o].filter (fun o => !o.control) = [o] := by simp [hcontrol]
  have hmine : [o].filter (fun o => o.flyer = e.flyer) = [o] := by simp [hhere]
  unfold specAbort
  dsimp only
  rw [hme]
  dsimp only
  rw [hlive, hgone, htargets, hmine, ordersFor_here e.id .abort hhere, List.map_singleton, State.stopMany_one hstop]
  rfl

/-- An ABORT whose only match is a packet of another flyer sends an order there and waits (R61). -/
theorem specAbort_run_away {o : OutPkt} (hlive : s.abortLive e me = [o]) (hgone : s.abortGone e me = []) (hcontrol : o.control = false) (hflyer : o.flyer < 10)
    (haway : o.flyer ≠ e.flyer) : ∃ t : State, specAbort.run e s = t ∧ t.pkts = (s.setJob e.id (.waits (.abort 0 0 0))).pkts
      ∧ t.q.stops = s.q.stops ++ [⟨e.id, o.flyer, .abort, [o.id], none⟩] := by
  unfold State.abortLive at hlive
  unfold State.abortGone at hgone
  have htargets : [o].filter (fun o => !o.control) = [o] := by simp [hcontrol]
  have hmine : [o].filter (fun o => o.flyer = e.flyer) = [] := by simp [haway]
  unfold specAbort
  dsimp only
  rw [hme]
  dsimp only
  rw [hlive, hgone, htargets, hmine, ordersFor_away e.id .abort hflyer haway]
  exact ⟨_, rfl, rfl, rfl⟩

end

/-! The packet that gives the stop, as it stands outstanding. -/

theorem OpSpec.taken_pkts (sp : OpSpec) (src : Src) (p : Packet) (s : State) : (sp.taken src p s).pkts = s.pkts ++ [s.newPkt src (sp.pkt p) (s.q.nextId, s.q.endSeq)] := by
  cases src <;> rfl

theorem OpSpec.taken_ended (sp : OpSpec) (src : Src) (p : Packet) (s : State) : (sp.taken src p s).q.ended = s.q.ended := by cases src <;> rfl

theorem OpSpec.pkt?_taken_next (sp : OpSpec) (src : Src) (p : Packet) {s : State} (hfresh : ∀ o ∈ s.pkts, o.id ≠ s.q.nextId) :
    (sp.taken src p s).pkt? s.q.nextId = some (s.newPkt src (sp.pkt p) (s.q.nextId, s.q.endSeq)) := by
  have hnone : s.pkts.find? (fun o => o.id = s.q.nextId) = none := List.find?_eq_none.2 fun o ho => by simpa using hfresh o ho
  rw [State.pkt?, OpSpec.taken_pkts, List.find?_append, hnone, Option.none_or, List.find?_singleton]
  simp [State.newPkt]

theorem OpSpec.twistCommitted_taken (sp : OpSpec) (src : Src) (p : Packet) (s : State) (id : Nat) : (sp.taken src p s).twistCommitted id = s.twistCommitted id := by
  rw [State.twistCommitted, State.twist?, OpSpec.taken_dr]
  rfl

section
variable {src : Src} {p : Packet} {s : State}

/-- Only packets that stood outstanding before it are targets of an ABORT (R56). -/
theorem State.abortLive_taken : (specAbort.taken src p s).abortLive (specAbort.env src p s) (s.newPkt src (specAbort.pkt p) (s.q.nextId, s.q.endSeq))
    = s.pkts.filter (fun o => decide (o.id < s.q.nextId) && abortMatch (specAbort.pkt p) o.src o.pkt) := by
  rw [State.abortLive, OpSpec.taken_pkts, List.filter_append]
  have hself : [s.newPkt src (specAbort.pkt p) (s.q.nextId, s.q.endSeq)].filter (fun o => o.id ≠ (specAbort.env src p s).id
      && decide (o.id < (s.newPkt src (specAbort.pkt p) (s.q.nextId, s.q.endSeq)).bell.1) && abortMatch (specAbort.env src p s).p o.src o.pkt) = [] := by
    simp [State.newPkt]
  rw [hself, List.append_nil]
  refine List.filter_congr fun o _ => ?_
  show (decide (o.id ≠ s.q.nextId) && decide (o.id < s.q.nextId) && abortMatch (specAbort.pkt p) o.src o.pkt) = _
  by_cases h : o.id < s.q.nextId
  · simp [h, Nat.ne_of_lt h]
  · simp [h]

theorem State.abortGone_taken : (specAbort.taken src p s).abortGone (specAbort.env src p s) (s.newPkt src (specAbort.pkt p) (s.q.nextId, s.q.endSeq))
    = s.q.ended.filter (fun x => decide (s.q.endSeq ≤ x.seq) && decide (x.id < s.q.nextId) && !x.control && abortMatch (specAbort.pkt p) x.src x.pkt) := by
  rw [State.abortGone, OpSpec.taken_ended]
  rfl

end

/-! ### CONTEXT_RESET -/

/-- What a CONTEXT_RESET does once its packet is accepted: the context is marked, its packets of the own flyer are stopped, and the others are ordered
stopped (R108). -/
theorem specContextReset_run (e : Env) (s : State) (hfresh : ∀ o ∈ (s.ctxPkts e.p.ctx).filter (fun o => o.id ≠ e.id), s.twistCommitted o.id = false) :
    let t := specContextReset.run e s
    let targets := (s.ctxPkts e.p.ctx).filter (fun o => o.id ≠ e.id)
    t.dom.contexts = NMap.upd s.dom.contexts e.p.ctx (fun x => { x with resetting := true }) ∧ t.q.stops = s.q.stops ++ ordersFor e.id e.flyer .reset targets
      ∧ ∀ x ∈ t.pkts, ∀ o ∈ targets, o.flyer = e.flyer → x.id ≠ o.id := by
  intro t targets
  have hlive : ∀ i ∈ (targets.filter (fun o => o.flyer = e.flyer)).map (fun o => o.id), (s.setCtx e.p.ctx (fun x => { x with resetting := true })).twistCommitted i = false := by
    intro i hi
    obtain ⟨o, ho, rfl⟩ := List.mem_map.1 hi
    exact hfresh o (List.mem_filter.1 ho).1
  obtain ⟨hstops, hcontexts, hgone⟩ := State.stopMany_gone (why := .reset) (by decide) hlive
  refine ⟨hcontexts, congrArg (· ++ ordersFor e.id e.flyer .reset targets) hstops, fun x hx o ho hflyer heq => ?_⟩
  obtain ⟨y, hy, rfl⟩ := List.mem_map.1 hx
  have hid : (if y.id = e.id then { y with job := .waits (.reset e.p.ctx) } else y).id = y.id := by split <;> rfl
  rw [hid] at heq
  refine (hgone y.id (List.mem_map_of_mem hy)).2 ?_
  rw [heq]
  exact List.mem_map_of_mem (List.mem_filter.2 ⟨ho, decide_eq_true hflyer⟩)

/-- The packets of a context that are targets of a CONTEXT_RESET are those outstanding before it (R108). -/
theorem mem_ctxPkts_taken {src : Src} {p : Packet} {s : State} {c : Nat} {o : OutPkt} (hid : o.id ≠ s.q.nextId) :
    o ∈ (specContextReset.taken src p s).ctxPkts c ↔ o ∈ s.ctxPkts c := by
  have hother : o ≠ s.newPkt src (specContextReset.pkt p) (s.q.nextId, s.q.endSeq) := fun h => hid (congrArg OutPkt.id h)
  simp only [State.ctxPkts, OpSpec.taken_pkts, List.mem_filter, List.mem_append, List.mem_singleton, hother, or_false]

/-! ### The arrival of an order -/

/-- `s` once its one order has left the queue. -/
def State.withoutOrders (s : State) : State := { s with q := { s.q with stops := [] } }

theorem exec_stopOrderArrival {s : State} {f : Nat} {o : StopOrder} (hup : s.clocked = true) (hruns : s.flyerHalted f = false) (hone : s.q.stops = [o]) (hf : o.flyer = f) :
    exec (.stopOrderArrival f) s = .next (s.withoutOrders.carryOut o) := by
  show execStopOrderArrival f s = _
  rw [execStopOrderArrival, State.whileUp_of hup]
  simp [hone, hf, hruns, firstIx, State.withoutOrders]

theorem State.carryOut_bobbin (s : State) {o : StopOrder} {n : Nat} (hn : o.bobbin = some n) : s.carryOut o = (s.stopBobbin n).finish o.by_ 0 := by
  rw [State.carryOut, hn]

/-- The last order of an ABORT, carried out, ends the ABORT with its counts (R56, R61). -/
theorem State.carryOut_last {s t : State} {o : StopOrder} {me : OutPkt} {a b x y r : Nat} (hnone : o.bobbin = none) (hstop : s.stopMany o.why o.targets = (t, a, b))
    (hme : t.pkt? o.by_ = some me) (hjob : me.job = .waits (.abort x y r)) (hlast : t.q.stops = []) : s.carryOut o = t.endAbort o.by_ (x + a) (y + b) r := by
  rw [State.carryOut, hnone]
  dsimp only
  rw [hstop]
  dsimp only
  rw [hme]
  dsimp only
  rw [hjob]
  dsimp only
  rw [hlast]
  rfl

/-- The only packet left ends, and none is outstanding. -/
theorem State.finish_alone {s : State} {id : Nat} (st : Nat) (d : List Nat) (h : s.pkts.map (fun x => x.id) = [id]) :
    (s.finish id st d).pkts = [] ∧ (s.finish id st d).q.stops = s.q.stops := by
  obtain ⟨o, hpkts, hid⟩ := List.map_eq_singleton_iff.1 h
  have hfound : s.pkt? id = some o := by simp [State.pkt?, hpkts, hid]
  obtain ⟨hleft, hstops, -⟩ := s.endPkt_frame o st d s.now
  rw [State.finish_some st d _ hfound, hleft, hstops]
  exact ⟨by simp [State.pktsAfter, hpkts], rfl⟩

theorem State.ctx?_eq_some {s : State} {c : Nat} {x : Context} : s.ctx? c = some x ↔ NMap.get? s.dom.contexts c = some x ∧ x.destroying = false := by
  unfold State.ctx?
  cases NMap.get? s.dom.contexts c with
  | none => simp
  | some y =>
    simp only [Option.some.injEq, Option.ite_none_left_eq_some, Bool.not_eq_true]
    exact ⟨fun ⟨hlives, heq⟩ => ⟨heq, heq ▸ hlives⟩, fun ⟨heq, hlives⟩ => ⟨heq ▸ hlives, heq⟩⟩

/-- Settles O12, clause by clause from the rules of ABORT, of CONTEXT_RESET and of the arrival of an order. -/
theorem stopCommands : Obligations.StopCommands := by
  unfold Obligations.StopCommands
  refine ⟨fun src p s h => ?noMatch, fun src p s o h => ?oneMatch, fun src p s h => ?reset, fun f s o n hup hruns hone hf hn => ?bobbin,
    fun f s o me x y r hup hruns hone hf hnone hwhy htargets hby hdiff hpkts hjob hlive => ?order⟩
  case noMatch =>
    intro q u hpkts hended hfresh
    have hlive := State.abortLive_taken (src := src) (p := p) (s := s)
    have hgone := State.abortGone_taken (src := src) (p := p) (s := s)
    refine OpSpec.next_exec_accepted h (by decide) (specAbort_run_none (OpSpec.pkt?_taken_next specAbort src p hfresh) (hlive.trans ?_) (hgone.trans ?_))
    · refine List.filter_eq_nil_iff.2 fun o ho => ?_
      by_cases hlt : o.id < s.q.nextId
      · simpa [hlt] using hpkts o ho hlt
      · simp [hlt]
    · refine List.filter_eq_nil_iff.2 fun x hx => ?_
      by_cases hle : s.q.endSeq ≤ x.seq
      · simpa [hle] using fun _ _ => hended x hx hle
      · simp [hle]
  case oneMatch =>
    intro q hpkts hlt hmatch hcontrol hended hcommitted hflyer hstops
    have hid : o.id ≠ s.q.nextId := Nat.ne_of_lt hlt
    have hme := OpSpec.pkt?_taken_next specAbort src p (s := s) (by rw [hpkts]; simpa using hid)
    have hlive := (State.abortLive_taken (src := src) (p := p) (s := s)).trans (show _ = [o] by rw [hpkts]; simpa [hlt] using hmatch)
    have hgone := (State.abortGone_taken (src := src) (p := p) (s := s)).trans (show _ = [] by rw [hended]; rfl)
    have htaken : (specAbort.taken src p s).pkts = [o, s.newPkt src (specAbort.pkt p) (s.q.nextId, s.q.endSeq)] := by rw [OpSpec.taken_pkts, hpkts]; rfl
    by_cases hhere : o.flyer = (specAbort.env src p s).flyer
    · have hfound : (specAbort.taken src p s).pkt? o.id = some o := by simp [State.pkt?, htaken]
      obtain ⟨u, hstop, ⟨st, hleft⟩, hkept, -⟩ := State.stopOne_live .abort hfound ((OpSpec.twistCommitted_taken ..).trans hcommitted)
      have hids : u.pkts.map (fun x => x.id) = [s.q.nextId] := by
        rw [hleft, State.pktsAfter_ids, htaken]
        simp [State.newPkt, hid.symm]
      obtain ⟨hnone, hstill⟩ := State.finish_alone 0 [1, 0, 0] hids
      refine ⟨_, OpSpec.next_exec_accepted h (by decide) (specAbort_run_here hme hlive hgone hcontrol hhere hstop), fun _ => ⟨hnone, ?_, u, rfl, fun x hx => ?_⟩,
        fun haway => absurd hhere haway⟩
      · exact hstill.trans (hkept.trans ((OpSpec.taken_stops ..).trans hstops))
      · exact List.mem_singleton.1 (hids ▸ List.mem_map_of_mem hx)
    · obtain ⟨t, hrun, hleft, hordered⟩ := specAbort_run_away hme hlive hgone hcontrol hflyer hhere
      refine ⟨t, OpSpec.next_exec_accepted h (by decide) hrun, fun h => absurd h hhere, fun _ => ⟨?_, ?_, ?_⟩⟩
      · rw [hordered, OpSpec.taken_stops, hstops]
        rfl
      all_goals rw [hleft, State.setJob_pkts, htaken]
      · exact List.mem_map.2 ⟨o, List.mem_cons_self .., if_neg hid⟩
      · exact ⟨_, List.mem_map.2 ⟨_, List.mem_cons_of_mem _ (List.mem_singleton_self _), if_pos rfl⟩, rfl, rfl⟩
  case reset =>
    intro c hsafe
    have hbefore {o : OutPkt} (ho : o ∈ s.ctxPkts c) : o ∈ ((specContextReset.taken src p s).ctxPkts c).filter (fun o => o.id ≠ s.q.nextId) :=
      List.mem_filter.2 ⟨(mem_ctxPkts_taken (hsafe o ho).2.1).2 ho, decide_eq_true (hsafe o ho).2.1⟩
    obtain ⟨hcontexts, hstops, hgone⟩ := specContextReset_run (specContextReset.env src p s) (specContextReset.taken src p s) fun o ho => by
      obtain ⟨hin, hid⟩ := List.mem_filter.1 ho
      rw [OpSpec.twistCommitted_taken]
      exact (hsafe o ((mem_ctxPkts_taken (of_decide_eq_true hid)).1 hin)).1
    refine ⟨_, OpSpec.next_exec_accepted h (by decide) rfl, fun x hx => ?_, fun o ho hhere x hx => hgone x hx o (hbefore ho) hhere, fun o ho haway => ?_⟩
    · obtain ⟨hget, hlives⟩ := State.ctx?_eq_some.1 hx
      refine ⟨{ x with resetting := true }, State.ctx?_eq_some.2 ⟨?_, hlives⟩, rfl⟩
      rw [hcontexts, OpSpec.taken_dom]
      exact NMap.get?_upd_same _ hget
    · obtain ⟨z, hz, hby, hflyer, htarget⟩ := mem_ordersFor (id := s.q.nextId) (why := .reset) (hbefore ho) (hsafe o ho).2.2 haway
      refine ⟨z, ?_, hby, hflyer, htarget⟩
      rw [hstops]
      exact List.mem_append_right _ hz
  case bobbin =>
    intro v
    rw [exec_stopOrderArrival hup hruns hone hf, State.carryOut_bobbin _ hn]
    rfl
  case order =>
    have hfound : s.withoutOrders.pkt? x.id = some x := by simp [State.withoutOrders, State.pkt?, hpkts]
    obtain ⟨u, hstop, ⟨st, hleft⟩, hstops, -⟩ := State.stopOne_live .abort hfound hlive
    have hleft : u.pkts = [{ me with pred := me.pred.map (fun l => l.ended x.id st) }] := by
      rw [hleft, State.pktsAfter, show s.withoutOrders.pkts = [x, me] from hpkts]
      simp [hdiff]
    have hlast := State.carryOut_last (s := s.withoutOrders) (me := { me with pred := me.pred.map (fun l => l.ended x.id st) }) hnone
      (by rw [hwhy, htargets]; exact State.stopMany_one hstop) (by rw [State.pkt?, hleft, hby]; simp) hjob (hstops.trans rfl)
    refine ⟨u, ?_, by rw [hleft]; rfl, hstops.trans rfl⟩
    rw [exec_stopOrderArrival hup hruns hone hf, hlast, hby]
    rfl

end Sys2Proof.Machine
end

section
/-! SUPPORT. The start of local work (R60, R62), as WorkStarts (O25) has it. O25 itself is neither proved nor refuted: it does not ask that memory is canonical,
and where memory is not, writing a byte 0 can uncover an entry listed out of order. The bytes written are `Config.freeByte`, whose values no proof can see, so
the statement is as strong as `∀ k, Config.freeByte k ≠ 0` (`workStarts_iff`). -/

namespace Sys2Proof.Machine

/-- A byte other than 0 that is written leaves every other address alone, in whatever order memory is listed. -/
theorem memGet_memPut_nonzero (m : List Host.Cell) {a j : Nat} {b : Byte} (hb : b ≠ 0) (hj : j ≠ a) : memGet (memPut m a b) j = memGet m j := by
  induction m with
  | nil =>
    rw [memPut, if_neg hb]
    simp [memGet, hj.symm]
  | cons c m ih =>
    obtain ⟨x, y⟩ := c
    rw [memPut, if_neg hb, if_neg hb]
    split
    next hlt =>
      by_cases hja : j < a
      · have hjx : j < x := Nat.lt_trans hja hlt
        simp [memGet, hj.symm, hja, hjx, (Nat.ne_of_lt hjx).symm]
      · simp [memGet, hj.symm, hja]
    next =>
    split
    next heq =>
      subst heq
      simp [memGet, hj.symm]
    next => simp [memGet, ih]

theorem memGet_memPuts_nonzero (m : List Host.Cell) {a j : Nat} {bs : List Byte} (hbs : ∀ b ∈ bs, b ≠ 0) (hj : j < a ∨ a + bs.length ≤ j) :
    memGet (memPuts m a bs) j = memGet m j := by
  induction bs generalizing m a with
  | nil => rfl
  | cons b bs ih =>
    rw [List.length_cons] at hj
    rw [memPuts, ih _ (fun x hx => hbs x (List.mem_cons_of_mem _ hx)) (by omega), memGet_memPut_nonzero m (hbs b (List.mem_cons_self ..)) (by omega)]

/-- Making a range unspecified leaves every other byte, where memory is canonical or no unspecified byte is 0 (R60). -/
theorem State.memGet_scramble_out_of {s : State} {a n j : Nat} (h : s.MemOk ∨ ∀ k, Config.freeByte k ≠ 0) (hj : j < a ∨ a + n ≤ j) :
    memGet (s.scramble a n).mem j = memGet s.mem j := by
  have hlen : (freeBytes s n).length = n := freeBytes_length s n
  rcases h with hcanon | hnonzero
  · exact memGet_memPuts_out a j _ hcanon (by rwa [hlen])
  · refine memGet_memPuts_nonzero s.mem (fun b hb => ?_) (by rwa [hlen])
    obtain ⟨i, -, rfl⟩ := List.mem_map.1 hb
    exact hnonzero _

/-- What the start of local work keeps beside memory and the packet's own job. -/
def State.besideStart (s : State) : (Queues × Domains × TimeState × SafetyState) × List Draft × NMap KvPool × List Region × List Out × List LogRec :=
  ((s.q, s.dom, s.time, s.saf), s.dr.drafts, s.kv, s.ms.regions, s.out, s.log)

/-- The start of local work at draft level 0: its packet has the work, and nothing else changes but the destinations (R60, R62). -/
theorem State.startWork_spec {s : State} {e : Env} {w : Work} (hlevel : e.p.level = 0) (hesc : w.esc = false) (hoff : s.dbg.traceOn = false)
    (hlocal : ∀ r ∈ w.writes, remoteNode r.addr = none) :
    (s.startWork e w).pkts = (s.setJob e.id (.work w)).pkts ∧ (s.startWork e w).besideStart = s.besideStart
      ∧ ((s.MemOk ∨ ∀ k, Config.freeByte k ≠ 0) → ∀ a, (∀ r ∈ w.writes, a < r.addr ∨ r.addr + r.bytes.length ≤ a) → memGet (s.startWork e w).mem a = memGet s.mem a)
      ∧ (s.MemOk → (s.startWork e w).MemOk) := by
  rw [State.startWork_local hlevel hesc hoff hlocal]
  have hkept := foldl_keeps (fun x : State => (x.pkts, x.besideStart)) (op := fun (x : State) (r : ResWrite) => x.scramble r.addr r.bytes.length) (fun _ _ => rfl)
    w.writes (s.setJob e.id (.work w))
  obtain ⟨hpkts, hbeside⟩ := Prod.mk.inj hkept
  have hcanon : s.MemOk → (w.writes.foldl (fun x r => x.scramble r.addr r.bytes.length) (s.setJob e.id (.work w))).MemOk := fun h =>
    List.foldlRecOn w.writes (fun x r => x.scramble r.addr r.bytes.length) (b := s.setJob e.id (.work w)) (motive := State.MemOk) h fun x hx r _ => State.scramble_canon _ _ hx
  refine ⟨hpkts, hbeside, fun h a ha => ?_, hcanon⟩
  refine (List.foldlRecOn w.writes (fun x r => x.scramble r.addr r.bytes.length) (b := s.setJob e.id (.work w)) (motive := fun x : State => (x.MemOk ∨ ∀ k, Config.freeByte k ≠ 0) ∧ memGet x.mem a = memGet s.mem a) ⟨h, rfl⟩
    fun x hx r hr => ⟨hx.1.imp_left (State.scramble_canon _ _), ?_⟩).2
  exact (State.memGet_scramble_out_of hx.1 (ha r hr)).trans hx.2

/-- Memory out of order: behind the entry of address 1 lies one of address 0, which a read does not see. -/
def coveredMem (k : Nat) : State := { State.reset with mem := [(1, 1), (0, 2)], free := k }

/-- O25 holds exactly where no unspecified byte is 0. -/
theorem workStarts_iff : Obligations.WorkStarts ↔ ∀ k, Config.freeByte k ≠ 0 := by
  unfold Obligations.WorkStarts
  refine ⟨fun h k hzero => ?zero, fun hnonzero s e w hlevel hesc hoff hlocal => ?holds⟩
  case zero =>
    obtain ⟨-, hbytes, -⟩ := h (coveredMem k) ⟨0, .bobbin 0, ⟨[]⟩, 0, 0⟩ { writes := [⟨1, [0]⟩] } (by decide) rfl rfl (by decide)
    have hread := hbytes 0 (by decide)
    rw [State.startWork_local (by decide) rfl rfl (by decide)] at hread
    have hbefore : memGet (coveredMem k).mem 0 = 0 := rfl
    have hdrawn : Config.freeByte (k + 0) = 0 := hzero
    have hafter : memGet (memPut (coveredMem k).mem 1 (Config.freeByte (k + 0))) 0 = 2 := by rw [hdrawn]; rfl
    exact absurd (hafter.symm.trans (hread.trans hbefore)) (by decide)
  case holds =>
    intro t
    obtain ⟨hpkts, hbeside, hmem, hcanon⟩ := State.startWork_spec hlevel hesc hoff hlocal
    simp only [State.besideStart, Prod.mk.injEq] at hbeside
    obtain ⟨⟨hq, hdom, htime, hsaf⟩, hdrafts, hkv, hregions, hout, hlog⟩ := hbeside
    exact ⟨hpkts, hmem (.inr hnonzero), hcanon, hq, hdom, htime, hsaf, hdrafts, hkv, hregions, hout, hlog⟩

end Sys2Proof.Machine
end
